-- ==== Sys2Proof/Word.lean ====
section
/-! DEFINITION. The word types of the VT12 and the type of a keyed store. -/
namespace Sys2Proof

/-- One byte of memory, little-endian in wider data (R5). -/
abbrev Byte := BitVec 8

/-- A register or scalar of 64 bits; a 32-bit register is held zero-extended (R6). -/
abbrev Word := BitVec 64

/-- A store keyed by number, as plain data: keys strictly rising, and no entry that holds what an
unlisted key reads as (Machine/Store.lean says what that is for each store). -/
abbrev SMap (α : Type) := List (Nat × α)

end Sys2Proof
end

