-- ==== Sys2Proof/Syntax.lean ====
section
/-! DEFINITION. The commands of the VT12: one constructor of `Instr` per row of spec/opcode_table.json,
with the operands that the spec's rules give the row, and the types of those operands. -/
namespace Sys2Proof

/-- Who makes an access or a request (R7, R98, R359, R396, R556). -/
inductive Requester where
  /-- A control core, CC0 to CC3. -/
  | cc (n : Fin 4)
  /-- The Sage pair. -/
  | sage
  /-- A PX core. -/
  | px (n : Fin 24)
  /-- An on-die engine: DMA, halo, decoder, Rosemary, security engine. -/
  | engine
  /-- A neighbour, through an Itard port. -/
  | itard
  /-- The optional host. -/
  | host
  /-- Maintenance equipment. -/
  | maint
  deriving DecidableEq, Repr

/-- The privilege of a control core's access (Table 14-1). -/
inductive Priv where
  | m | s | u
  deriving DecidableEq, Repr

/-- The control and status registers of a control core that a rule names (R376, R465). -/
inductive Csr where
  | satp | stimecmp | time
  deriving DecidableEq, Repr

/-- Where an access goes: an address, which is virtual at a control core outside M-mode (R376), or a register of the control core itself. -/
inductive RegPlace where
  | addr (a : BitVec 64) (priv : Priv)
  | csr (r : Csr)
  deriving DecidableEq, Repr

/-- A scalar register s0 to s63 (R207). -/
abbrev SReg := Fin 64
/-- An accumulator a0 to a3 (R207). -/
abbrev AReg := Fin 4

/-- A register of a thread, by kind and number (R207); `tcr` numbers are those of Table 6-1, so that `vl`,
`vstart`, TSTAT and the loop registers have names too (R212). -/
inductive RName where
  | s (i : Nat) | v (i : Nat) | p (i : Nat) | a (i : Nat) | tcr (n : Nat)
  deriving DecidableEq, Repr

/-- What the core meets as it takes a syllable: nothing out of the ordinary; a word of class 0b110 or 0b111 in its place (R212), or one
of its class with an OP or FN that no table lists (R215, R255); a parity error in a register that it reads (R245), or in the line it is
fetched from (R246); a memory word that reads with an error, corrected or not (R244, R380). -/
inductive Met where
  | none
  | unlistedClass
  | unlistedOp
  | registerParity (r : RName)
  | lineParity
  | corrected (addr : BitVec 48)
  | uncorrectable (addr : BitVec 48)
  deriving DecidableEq, Repr

/-- The thread that issues a syllable, the syllable's STOP bit (R211), and what the core meets as it takes it. -/
structure Px where
  core : Fin 24
  thread : Fin 4
  stop : Bool
  met : Met := .none
  deriving DecidableEq, Repr

/-- The fields [21:0] of a vector syllable (Tables 6-2 and 7-2): vd [21:17], vs1 [16:12], vs2 [11:7],
pred [6:4], the variant FN[3:2] and EW = FN[1:0]. -/
structure VOp where
  vd : Fin 32
  vs1 : Fin 32
  vs2 : Fin 32
  pred : Fin 8
  var : BitVec 2
  ew : BitVec 2
  deriving DecidableEq, Repr

/-- A door of the car: its number 1 to 16 and its side (R23, Table 2-7). -/
structure DoorId where
  door : Nat
  right : Bool
  deriving DecidableEq, Repr

/-- What the package's code decides for one object of a list (R558): the track it belongs to and the
estimate of v_o, in mm/s towards the car. -/
structure Assoc where
  track : Nat
  vo : Int
  deriving DecidableEq, Repr

/-- The sequence parameter set of an access unit (R64). -/
structure Sps where
  h265 : Bool
  codedW : Nat
  codedH : Nat
  cropW : Nat
  cropH : Nat
  profileOk : Bool
  bitDepth : Nat
  chroma420 : Bool
  field : Bool
  deriving DecidableEq, Repr

/-- An RTP packet of a slot's stream: the bytes of the access unit that it carries and, on the marker packet, what is known of
the whole unit (R49, R52). -/
structure RtpPacket where
  ssrc : BitVec 32
  pt : BitVec 7
  seq : BitVec 16
  ts : BitVec 32
  marker : Bool
  data : List Byte
  irap : Bool
  nonRef : Bool
  sps : Option Sps
  deriving DecidableEq, Repr

/-- What a received camera-side frame carries (Table 2-1). -/
inductive CamKind where
  | arp | icmpEcho | icmpUnreachable (slot : Fin 12) | igmpQuery | rtspTcp
  | rtcpSr (slot : Fin 12) (ntp : Nat) (rtp : BitVec 32)
  | rtp (slot : Fin 12) (pkt : RtpPacket)
  | fragment | ipOptions | pause | unsupported
  deriving DecidableEq, Repr

/-- A whole Ethernet frame on CAM0 or CAM1: its length with FCS and tags, its VLAN tags as TPID and VID. -/
structure CamFrame where
  len : Nat
  fcsOk : Bool
  tags : List (BitVec 16 × BitVec 12)
  kind : CamKind
  deriving DecidableEq, Repr

/-- The RTSP methods of Table 2-1. -/
inductive RtspMethod where
  | options | describe | setup | play | teardown | getParameter
  deriving DecidableEq, Repr

/-- What the SDP or the SETUP answer offers for the slot's video section (Table 2-1, R62). -/
structure Sdp where
  h265 : Bool
  payloadOk : Bool
  transportOk : Bool
  nackPli : Bool
  mcast : Bool
  src : BitVec 32
  dst : BitVec 32
  port : BitVec 16
  ssrc : BitVec 32
  pt : BitVec 7
  deriving DecidableEq, Repr

/-- An RTSP answer to a request of the slot (R48, Table 2-4); status 0 stands for no TCP connection. -/
structure RtspAnswer where
  method : RtspMethod
  status : Nat
  v2 : Bool
  timeout : Option Nat
  sdp : Option Sdp
  deriving DecidableEq, Repr

/-- What a received VEH frame outside vehicle state and PTP carries (Table 3-1). -/
inductive VehKind where
  | arp | icmpEcho | igmpQuery | pause | pdPull | pdUnsubscribed | trdpBadHeader | unsupported
  deriving DecidableEq, Repr

/-- A whole Ethernet frame on VEH. -/
structure VehFrame where
  len : Nat
  tags : List (BitVec 16 × BitVec 12)
  kind : VehKind
  deriving DecidableEq, Repr

/-- A received PD telegram (Tables 3-2 and 3-3): its ComId, its source, its header check, its sequence counter and its dataset. -/
structure Telegram where
  comId : BitVec 32
  src : BitVec 32
  fcsOk : Bool
  len : Nat
  seq : BitVec 32
  version : Byte
  flags : Byte
  runDir : Byte
  speed : BitVec 16
  doorL : BitVec 16
  doorR : BitVec 16
  deriving DecidableEq, Repr

/-- What the read-back showed in the self-test of R104: released throughout with SAFE_CUT open (step 1),
and risen and fallen with SAFE_CUT closed (step 3), for each output. -/
structure SelfTest where
  openA : Bool
  openB : Bool
  moveA : Bool
  moveB : Bool
  deriving DecidableEq, Repr

/-- The level a read-back comparator shows (R531). -/
inductive ReadBack where
  | released | asserted | neither
  deriving DecidableEq, Repr

/-- A request on MAINT (R114). -/
inductive MaintReq where
  | readLogs | readRegister (addr : BitVec 48) (size : Nat) | exportClip (id : BitVec 32)
  | icmpEcho | debug
  deriving DecidableEq, Repr

/-- The cartridge certificate of Table 4-3, less its key and signature. -/
structure CartCert where
  version : Byte
  issuer : Byte
  serial : BitVec 64
  ratedGb : Nat
  ratedYears : Nat
  mfgTime : Nat
  deriving DecidableEq, Repr

/-- A ledger record (Table 4-4). -/
structure Ledger where
  state : Nat
  gb : Nat
  lastTime : Nat
  updates : Nat
  deriving DecidableEq, Repr

/-- What Identify, SMART and the medium showed (R124, R138, R145, R146): the serial number, whether the functions marked required are
there, LBA format and size, the percentage used, the header copies as stored at LBA 0 and 1, and the blocks of the journal ring that
have been written, as stored, by their place in the ring. -/
structure CartIdent where
  sn : List Byte
  nvmeOk : Bool
  lba4096 : Bool
  nsze : Nat
  smart : Nat
  copyA : List Byte
  copyB : List Byte
  journal : List (Nat × List Byte)
  deriving DecidableEq, Repr

/-- The write classes of Table 4-5. -/
inductive BayWrite where
  | incident (id : BitVec 32) | archive | journal | header
  deriving DecidableEq, Repr

/-- Why the BAY link failed (R154, R538). -/
inductive BayLinkFault where
  | linkDown | fatalStatus | powerFault
  deriving DecidableEq, Repr

/-- How a recovery attempt ended (R129, R154). -/
inductive BayRecovery where
  | ok | linkFail | controllerFail | authFail
  deriving DecidableEq, Repr

/-- A fabric packet: the header of Table 5-2, its payload, the flits received and the CRC received; and what the router buffers did to
its flits on the way: how many they corrected, and whether one could not be corrected (R200). -/
structure Packet where
  dst : BitVec 12
  src : BitVec 12
  ptype : BitVec 4
  vc : BitVec 2
  len : BitVec 8
  flow : BitVec 8
  seq : BitVec 16
  addr : BitVec 48
  cc : BitVec 6
  ccEn : Bool
  hops : BitVec 3
  err : Bool
  payload : List Byte
  flits : Nat
  crc : BitVec 32
  corrected : Nat := 0
  uncorrectable : Bool := false
  deriving DecidableEq, Repr

/-- Credits in flits, for VC0, VC1 and VC3 (Tables 5-5 and 5-7). -/
structure Credits where
  vc0 : Nat
  vc1 : Nat
  vc3 : Nat
  deriving DecidableEq, Repr

/-- The packet that an ACK names, and the credits that come with it (R185, Table 5-7). -/
structure LinkAck where
  linkSeq : BitVec 10
  credit : Credits
  deriving DecidableEq, Repr

/-- A block on a lane of an Itard link: eight bytes of a flit under sync header 0b01, a control block of Table 5-7 under 0b10, or a block
with any other sync header (R184). -/
inductive Block where
  | data (bytes : BitVec 64)
  | idle
  | start (vc : BitVec 2) (linkSeq : BitVec 10)
  | stop (linkSeq : BitVec 10)
  | credit (c : Credits)
  | ack (linkSeq : BitVec 10)
  | nak (linkSeq : BitVec 10)
  | align (lane : Fin 2)
  | train
  | bad (header : BitVec 2)
  deriving DecidableEq, Repr

/-- Why an Itard port goes DOWN (R202). -/
inductive ItdDown where
  | lockLost | alignmentLost | retrainFailed
  deriving DecidableEq, Repr

/-- The sums a router hands the fabric manager: mean occupancy in 1/256 flit and stall cycles per output. -/
structure RouterSums where
  occ : List Nat
  stall : List Nat
  deriving DecidableEq, Repr

/-- The tasks Tymor places on PX threads (Table 14-2). -/
inductive TaskId where
  | alarm | adopted | counting | narration
  deriving DecidableEq, Repr

/-- The kinds of model package (R494). -/
inductive PkgKind where
  | warning | counting | narration
  deriving DecidableEq, Repr

/-- The THRESHOLDS section, FP32 each (R494). -/
structure Thresholds where
  tWarn : BitVec 32
  tCaution : BitVec 32
  tNotice : BitVec 32
  wNear : BitVec 32
  ceiling : BitVec 32
  deriving DecidableEq, Repr

/-- A weight tensor of a layer that carries ADAPT (R347): where its INT8 weights lie, the shipped weights, how many belong to one output
channel, and the weight scale of each channel. -/
structure HeadTensor where
  addr : Nat
  shipped : List Int
  perChannel : Nat
  scales : List (BitVec 32)
  deriving DecidableEq, Repr

/-- The parameters of adaptation that a package gives (Table 9-5): lr as FP32, dmax in codes, steps per night, tol in hundredths of a
percentage point. -/
structure AdaptParams where
  lr : BitVec 32
  dmax : Nat
  steps : Nat
  tol : Nat
  deriving DecidableEq, Repr

/-- A crossing that the counting service confirmed (R349): over how many frames its track ran from one side of the counting line to the
other, whether its slot was neither DEGRADED nor SHEDDING during the track, and the head input it gave. -/
structure Crossing where
  frames : Nat
  quiet : Bool
  data : List Byte
  deriving DecidableEq, Repr

/-- The end of a count window: its door, and the crossings confirmed in it (R23, R349). -/
structure WindowEnd where
  door : DoorId
  samples : List Crossing
  deriving DecidableEq, Repr

/-- The gradient of one step of adaptation: the tensor, and one FP32 per weight (R350). -/
structure Gradient where
  tensor : Nat
  g : List (BitVec 32)
  deriving DecidableEq, Repr

/-- Two count errors that Tymor measures at the end of a night, in hundredths of a percentage point (R351): of the adapted head, and of what
it is held against, on the validation set the shipped head and on the held-out samples the weights in use. -/
structure ErrorPair where
  adapted : Nat
  against : Nat
  deriving DecidableEq, Repr

/-- A model package's manifest (Table 14-9), the parts of its sections that R495 checks, its scale-slot tables by global address (R335),
what it gives adaptation (R347, Table 9-5), and what the loader writes to memory, by local address (R356); a narration package's weights lie
from slice 4 on (R488). -/
structure Package where
  magic : BitVec 32
  version : Byte
  kind : PkgKind
  adaptPermit : Bool
  survivorSchedule : Bool
  pkgVersion : Nat
  minFirmware : Nat
  silicon : Byte
  signer : Byte
  sections : Nat
  totalLen : Nat
  adaptStart : Nat
  adaptEnd : Nat
  thresholds : Thresholds
  taMask : Byte
  pxMask : BitVec 32
  detectUs : Nat
  rerunUs : Nat
  hash : BitVec 256
  slotTables : List Nat
  adapt : AdaptParams
  heads : List HeadTensor
  image : List (Nat × List Byte)
  deriving DecidableEq, Repr

/-- The verdict of the key, signature and body-hash checks of R513 in one firmware slot, at the first and the second reading. -/
structure ImageCheck where
  ok1 : Bool
  ok2 : Bool
  deriving DecidableEq, Repr

/-- A provisioning bundle (R510): the floors it raises, and of its secrets the clip root (R139). -/
structure Bundle where
  clipRoot : BitVec 256
  floorWarning : Nat
  floorCounting : Nat
  floorNarration : Nat
  floorFirmware : Nat
  deriving DecidableEq, Repr

/-- A setting of the commissioning record (R512): a register's address, and its value. -/
structure Setting where
  reg : Nat
  value : BitVec 64
  deriving DecidableEq, Repr

/-- What the host reaches (R115). -/
inductive HostBar where
  | bar0 | bar2 | doorbell
  deriving DecidableEq, Repr

/-- Consecutive 10 µs supply samples that are alike: the HOLD_SENSE code, SUPPLY_FAIL_N low or not, and how many (R441). -/
structure SupplySample where
  code : Nat
  failLow : Bool
  count : Nat
  deriving DecidableEq, Repr

/-- What heads an operator request: its ComId, and the version that its first byte gives (R94). -/
structure RequestHead where
  comId : BitVec 32
  version : Byte
  deriving DecidableEq, Repr

/-- What a PTP message says of its sender: its domain and its identity (R109). -/
structure PtpSource where
  domain : Byte
  master : Nat
  deriving DecidableEq, Repr

/-- Which copy of a package is checked, and whether it came through an authenticated session on MAINT (R114, R515). -/
structure PackageCopy where
  authenticated : Bool
  copyB : Bool
  deriving DecidableEq, Repr

/-- The commands, one constructor per row of the table; each names the rule of its row. -/
inductive Instr where
  /-- REGISTER_WRITE (R10). -/
  | registerWrite (who : Requester) (place : RegPlace) (size : Nat) (val : BitVec 64)
  /-- SAGE_LIST_TAKE (R475). -/
  | sageListTake (bufB : Bool) (assoc : List Assoc)
  /-- EGO_SPEED_STALE (R17). -/
  | egoSpeedStale
  /-- CAB_DISAGREE_TIMEOUT (R14). -/
  | cabDisagreeTimeout (reverse : Bool)
  /-- PATTERN_PHASE_TIMER (R20). -/
  | patternPhaseTimer
  /-- DETECTION_TIMEOUT (R43). -/
  | detectionTimeout
  /-- NO_VIDEO_TIMEOUT (R43). -/
  | noVideoTimeout (door : DoorId)
  /-- COUNT_WINDOW_CLOSE (R23). -/
  | countWindowClose (close : WindowEnd)
  /-- COUNT_WINDOW_LONG (R24). -/
  | countWindowLong (close : WindowEnd)
  /-- CLIP_POST_TRIGGER_END (R27). -/
  | clipPostTriggerEnd (incident : BitVec 32)
  /-- NARRATION_START (R487). -/
  | narrationStart
  /-- NARRATION_TOKEN (R488). -/
  | narrationToken (text : List Byte) (last : Bool)
  /-- NARRATION_SEGMENT_TIMER (R93). -/
  | narrationSegmentTimer
  /-- CAM_FRAME_RECEIVED (R63). -/
  | camFrameReceived (port : Fin 2) (frame : CamFrame)
  /-- REORDER_WAIT_EXPIRY (R57). -/
  | reorderWaitExpiry (slot : Fin 12)
  /-- DECODE_START (R51). -/
  | decodeStart (engine : Fin 6) (slot : Fin 12)
  /-- DECODE_COMPLETE (R52). -/
  | decodeComplete (engine : Fin 6)
  /-- DECODER_BITSTREAM_ERROR (R76). -/
  | decoderBitstreamError (engine : Fin 6)
  /-- DECODER_WATCHDOG (R77). -/
  | decoderWatchdog (engine : Fin 6) (resetFailed : Bool)
  /-- SLOT_START (R59). -/
  | slotStart (who : Requester) (slot : Fin 12) (val : BitVec 32)
  /-- SLOT_STOP (R59). -/
  | slotStop (who : Requester) (slot : Fin 12) (val : BitVec 32)
  /-- RTSP_RESPONSE (R48). -/
  | rtspResponse (slot : Fin 12) (answer : RtspAnswer)
  /-- RTSP_SESSION_CLOSED (R59). -/
  | rtspSessionClosed (slot : Fin 12)
  /-- RTSP_ANSWER_TIMEOUT (R59). -/
  | rtspAnswerTimeout (slot : Fin 12)
  /-- IRAP_TIMEOUT (R59). -/
  | irapTimeout (slot : Fin 12)
  /-- CONNECT_BACKOFF_EXPIRY (R60). -/
  | connectBackoffExpiry (slot : Fin 12)
  /-- RTSP_KEEPALIVE (R48). -/
  | rtspKeepalive (slot : Fin 12)
  /-- SLOT_LOST_TIMEOUT (R61). -/
  | slotLostTimeout (slot : Fin 12)
  /-- RTCP_RECEIVER_REPORT (R47). -/
  | rtcpReceiverReport (slot : Fin 12)
  /-- CAM_LINK_CHANGE (R60). -/
  | camLinkChange (port : Fin 2) (up : Bool)
  /-- CAM_PORT_ENABLE (R79). -/
  | camPortEnable (who : Requester) (port : Fin 2) (val : BitVec 32)
  /-- SHED_EPOCH (R67). -/
  | shedEpoch
  /-- SLOT_RATE_WINDOW (R71). -/
  | slotRateWindow (slot : Fin 12)
  /-- DEGRADATION_RECORD (R74). -/
  | degradationRecord
  /-- VEH_FRAME_RECEIVED (R82). -/
  | vehFrameReceived (frame : VehFrame)
  /-- VEHICLE_STATE_TELEGRAM (R86). -/
  | vehicleStateTelegram (t : Telegram)
  /-- WARNING_DATASET_CYCLE (R89). -/
  | warningDatasetCycle
  /-- MD_REPLY (R92). -/
  | mdReply (record : Nat)
  /-- MD_RESEND_TIMER (R92). -/
  | mdResendTimer (record : Nat)
  /-- OPERATOR_REQUEST (R94). -/
  | operatorRequest (head : RequestHead) (carSlot : Byte) (slots : BitVec 16) (requestId : BitVec 32)
  /-- VEH_LINK_CHANGE (R117). -/
  | vehLinkChange (up : Bool)
  /-- CAB_INPUT_DEBOUNCED (R95). -/
  | cabInputDebounced (input : Fin 8) (level : Bool)
  /-- INPUT_CHATTER (R97). -/
  | inputChatter (input : Fin 8)
  /-- CAB_OUT_COMMAND (R100). -/
  | cabOutCommand (who : Requester) (val : BitVec 32)
  /-- SAFE_CUT_WRITE (R99). -/
  | safeCutWrite (who : Requester) (val : BitVec 32)
  /-- CAB_SELFTEST (R104). -/
  | cabSelftest (who : Requester) (val : BitVec 32) (result : SelfTest)
  /-- SELFTEST_REPEAT (R105). -/
  | selftestRepeat (result : SelfTest)
  /-- READBACK_CHANGE (R100). -/
  | readbackChange (out : Bool) (level : ReadBack)
  /-- READBACK_MISMATCH_TIMEOUT (R102). -/
  | readbackMismatchTimeout (out : Bool)
  /-- TEST_PULSE (R103). -/
  | testPulse (out : Bool)
  /-- TEST_PULSE_END (R103). -/
  | testPulseEnd (out : Bool)
  /-- GPO_WRITE (R108). -/
  | gpoWrite (who : Requester) (val : BitVec 32)
  /-- PTP_SYNC (R109). -/
  | ptpSync (source : PtpSource) (offset : Int) (interval : Nat)
  /-- PTP_ANNOUNCE (R118). -/
  | ptpAnnounce (source : PtpSource) (clockClass : Byte) (better : Bool)
  /-- PTP_SYNC_TIMEOUT (R109). -/
  | ptpSyncTimeout
  /-- HOLDOVER_EXPIRY (R109). -/
  | holdoverExpiry
  /-- MASTER_INTERVAL (R118). -/
  | masterInterval
  /-- TIME_STEP_FLAG_EXPIRY (R111). -/
  | timeStepFlagExpiry
  /-- ENC_PICTURE_DONE (R112). -/
  | encPictureDone (bytes : Nat) (irap : Bool)
  /-- MAINT_REQUEST (R114). -/
  | maintRequest (authenticated : Bool) (req : MaintReq)
  /-- DEBUG_UNLOCK (R114). -/
  | debugUnlock (accepted : Bool)
  /-- HOST_LINK_CHANGE (R115). -/
  | hostLinkChange (up : Bool)
  /-- BAY_PRESENT_CHANGE (R126). -/
  | bayPresentChange (present : Bool)
  /-- BAY_LATCH_CHANGE (R126). -/
  | bayLatchChange (closed : Bool)
  /-- BAY_CERT_READ_DONE (R127). -/
  | bayCertReadDone (cert : CartCert) (sigOk : Bool)
  /-- BAY_CHALLENGE_DONE (R127). -/
  | bayChallengeDone (ledger : Ledger) (sigOk : Bool)
  /-- BAY_AUTH_RETRY (R128). -/
  | bayAuthRetry
  /-- BAY_LINK_TRAINED (R145). -/
  | bayLinkTrained (gen : Nat) (lanes : Nat)
  /-- BAY_CONTROLLER_READY (R145). -/
  | bayControllerReady (subsetOk : Bool)
  /-- BAY_IDENTIFY_DONE (R145). -/
  | bayIdentifyDone (ident : CartIdent)
  /-- BAY_REAUTH_TIMER (R129). -/
  | bayReauthTimer
  /-- BAY_HOURLY (R134). -/
  | bayHourly (smart : Byte)
  /-- NVME_WRITE_COMPLETE (R132). -/
  | nvmeWriteComplete (what : BayWrite) (bytes : Nat)
  /-- NVME_WRITE_FAIL (R153). -/
  | nvmeWriteFail (what : BayWrite) (retryFailed : Bool)
  /-- JOURNAL_BLOCK_TIMER (R141). -/
  | journalBlockTimer
  /-- NVME_FLUSH_COMPLETE (R148). -/
  | nvmeFlushComplete
  /-- LEDGER_ADD_DONE (R148). -/
  | ledgerAddDone
  /-- NVME_SHUTDOWN_COMPLETE (R148). -/
  | nvmeShutdownComplete
  /-- BAY_EJECT (R148). -/
  | bayEject (who : Requester) (val : BitVec 32)
  /-- BAY_REMOVE_DEADLINE (R149). -/
  | bayRemoveDeadline
  /-- BAY_LINK_DOWN (R154). -/
  | bayLinkDown (cause : BayLinkFault)
  /-- BAY_RECOVERY_ATTEMPT (R154). -/
  | bayRecoveryAttempt (result : BayRecovery)
  /-- WRITE (R163). -/
  | write (p : Packet)
  /-- READ_REQ (R163). -/
  | readReq (p : Packet)
  /-- READ_RESP (R163). -/
  | readResp (p : Packet)
  /-- ATOMIC (R163). -/
  | atomic (p : Packet)
  /-- ATOMIC_RESP (R163). -/
  | atomicResp (p : Packet)
  /-- MSG (R178). -/
  | msg (p : Packet)
  /-- SIGNAL (R175). -/
  | signal (p : Packet)
  /-- HEARTBEAT (R192). -/
  | heartbeat (port : Fin 2) (p : Packet)
  /-- INAUG (R204). -/
  | inaug (port : Fin 2) (p : Packet)
  /-- REMAP (R198). -/
  | remap (port : Fin 2) (p : Packet)
  /-- MGMT (R163). -/
  | mgmt (p : Packet)
  /-- FAB_CC_SET (R177). -/
  | fabCcSet (who : Requester) (val : BitVec 32)
  /-- FAB_CC_ADD (R177). -/
  | fabCcAdd (who : Requester) (val : BitVec 32)
  /-- FAB_RT_DATA_WRITE (R183). -/
  | fabRtDataWrite (who : Requester) (val : BitVec 32)
  /-- FAB_RT_REMOTE_WRITE (R183). -/
  | fabRtRemoteWrite (who : Requester) (val : BitVec 32)
  /-- FAB_INAUG_START (R204). -/
  | fabInaugStart (who : Requester) (val : BitVec 32)
  /-- ITD_PORT_ENABLE (R204). -/
  | itdPortEnable (who : Requester) (port : Fin 2) (val : BitVec 32)
  /-- ITD_LEARN_WRITE (R189). -/
  | itdLearnWrite (who : Requester) (val : BitVec 32)
  /-- ITARD_PACKET_RECEIVED (R185). -/
  | itardPacketReceived (port first : Fin 2) (lane0 lane1 : List Block)
  /-- ITARD_ACK (R185). -/
  | itardAck (port : Fin 2) (ack : LinkAck)
  /-- ITARD_NAK (R185). -/
  | itardNak (port : Fin 2) (linkSeq : BitVec 10)
  /-- ITARD_RETRAIN_DONE (R186). -/
  | itardRetrainDone (port : Fin 2) (ok : Bool)
  /-- ITARD_ACK_TIMER (R185). -/
  | itardAckTimer (port : Fin 2)
  /-- ITARD_PORT_DOWN (R202). -/
  | itardPortDown (port : Fin 2) (cause : ItdDown)
  /-- LEARN_SUPPRESS_EXPIRY (R189). -/
  | learnSuppressExpiry (eid : BitVec 12)
  /-- LEARN_WINDOW_END (R204). -/
  | learnWindowEnd
  /-- INAUG_COMPLETE (R204). -/
  | inaugComplete
  /-- CMAP_GATHER (R181). -/
  | cmapGather (sums : List RouterSums) (txOcc : List Nat)
  /-- HEARTBEAT_SEND (R192). -/
  | heartbeatSend
  /-- HEARTBEAT_MISSED (R193). -/
  | heartbeatMissed (port : Fin 2) (warningSeen : Bool)
  /-- ADD (R215). -/
  | add (x : Px) (rd rs1 rs2 : SReg)
  /-- SUB (R215). -/
  | sub (x : Px) (rd rs1 rs2 : SReg)
  /-- AND (R215). -/
  | and (x : Px) (rd rs1 rs2 : SReg)
  /-- OR (R215). -/
  | or (x : Px) (rd rs1 rs2 : SReg)
  /-- XOR (R215). -/
  | xor (x : Px) (rd rs1 rs2 : SReg)
  /-- SLL (R215). -/
  | sll (x : Px) (rd rs1 rs2 : SReg)
  /-- SRL (R215). -/
  | srl (x : Px) (rd rs1 rs2 : SReg)
  /-- SRA (R215). -/
  | sra (x : Px) (rd rs1 rs2 : SReg)
  /-- SLT (R215). -/
  | slt (x : Px) (rd rs1 rs2 : SReg)
  /-- SLTU (R215). -/
  | sltu (x : Px) (rd rs1 rs2 : SReg)
  /-- MIN (R215). -/
  | min (x : Px) (rd rs1 rs2 : SReg)
  /-- MAX (R215). -/
  | max (x : Px) (rd rs1 rs2 : SReg)
  /-- MINU (R215). -/
  | minu (x : Px) (rd rs1 rs2 : SReg)
  /-- MAXU (R215). -/
  | maxu (x : Px) (rd rs1 rs2 : SReg)
  /-- ANDN (R215). -/
  | andn (x : Px) (rd rs1 rs2 : SReg)
  /-- SEL (R215). -/
  | sel (x : Px) (rd rs1 rs2 : SReg)
  /-- MUL (R215). -/
  | mul (x : Px) (rd rs1 rs2 : SReg)
  /-- MULH (R215). -/
  | mulh (x : Px) (rd rs1 rs2 : SReg)
  /-- MULHU (R215). -/
  | mulhu (x : Px) (rd rs1 rs2 : SReg)
  /-- MULHSU (R215). -/
  | mulhsu (x : Px) (rd rs1 rs2 : SReg)
  /-- DIV (R217). -/
  | div (x : Px) (rd rs1 rs2 : SReg)
  /-- DIVU (R217). -/
  | divu (x : Px) (rd rs1 rs2 : SReg)
  /-- REM (R217). -/
  | rem (x : Px) (rd rs1 rs2 : SReg)
  /-- REMU (R217). -/
  | remu (x : Px) (rd rs1 rs2 : SReg)
  /-- CLZ (R215). -/
  | clz (x : Px) (rd rs1 : SReg)
  /-- CTZ (R215). -/
  | ctz (x : Px) (rd rs1 : SReg)
  /-- POPC (R215). -/
  | popc (x : Px) (rd rs1 : SReg)
  /-- REV8 (R215). -/
  | rev8 (x : Px) (rd rs1 : SReg)
  /-- ROR (R215). -/
  | ror (x : Px) (rd rs1 rs2 : SReg)
  /-- ROL (R215). -/
  | rol (x : Px) (rd rs1 rs2 : SReg)
  /-- SEXT_B (R215). -/
  | sextB (x : Px) (rd rs1 : SReg)
  /-- SEXT_H (R215). -/
  | sextH (x : Px) (rd rs1 : SReg)
  /-- SEXT_W (R215). -/
  | sextW (x : Px) (rd rs1 : SReg)
  /-- ZEXT_W (R215). -/
  | zextW (x : Px) (rd rs1 : SReg)
  /-- MFC (R210). -/
  | mfc (x : Px) (rd : SReg) (imm : BitVec 16)
  /-- MTC (R210). -/
  | mtc (x : Px) (rs : SReg) (imm : BitVec 16)
  /-- ADDI (R215). -/
  | addi (x : Px) (rd rs1 : SReg) (imm : BitVec 10)
  /-- ANDI (R215). -/
  | andi (x : Px) (rd rs1 : SReg) (imm : BitVec 10)
  /-- ORI (R215). -/
  | ori (x : Px) (rd rs1 : SReg) (imm : BitVec 10)
  /-- XORI (R215). -/
  | xori (x : Px) (rd rs1 : SReg) (imm : BitVec 10)
  /-- SLLI (R215). -/
  | slli (x : Px) (rd rs1 : SReg) (imm : BitVec 10)
  /-- SRLI (R215). -/
  | srli (x : Px) (rd rs1 : SReg) (imm : BitVec 10)
  /-- SRAI (R215). -/
  | srai (x : Px) (rd rs1 : SReg) (imm : BitVec 10)
  /-- SLTI (R215). -/
  | slti (x : Px) (rd rs1 : SReg) (imm : BitVec 10)
  /-- SLTIU (R215). -/
  | sltiu (x : Px) (rd rs1 : SReg) (imm : BitVec 10)
  /-- MULI (R215). -/
  | muli (x : Px) (rd rs1 : SReg) (imm : BitVec 10)
  /-- SLI (R215). -/
  | sli (x : Px) (rd : SReg) (imm : BitVec 16)
  /-- SINS1 (R215). -/
  | sins1 (x : Px) (rd : SReg) (imm : BitVec 16)
  /-- SINS2 (R215). -/
  | sins2 (x : Px) (rd : SReg) (imm : BitVec 16)
  /-- SINS3 (R215). -/
  | sins3 (x : Px) (rd : SReg) (imm : BitVec 16)
  /-- SPC (R215). -/
  | spc (x : Px) (rd : SReg) (imm : BitVec 16)
  /-- LD_B (R222). -/
  | ldB (x : Px) (rd rb : SReg) (off : BitVec 10)
  /-- LD_BU (R222). -/
  | ldBu (x : Px) (rd rb : SReg) (off : BitVec 10)
  /-- LD_H (R222). -/
  | ldH (x : Px) (rd rb : SReg) (off : BitVec 10)
  /-- LD_HU (R222). -/
  | ldHu (x : Px) (rd rb : SReg) (off : BitVec 10)
  /-- LD_W (R222). -/
  | ldW (x : Px) (rd rb : SReg) (off : BitVec 10)
  /-- LD_WU (R222). -/
  | ldWu (x : Px) (rd rb : SReg) (off : BitVec 10)
  /-- LD_D (R222). -/
  | ldD (x : Px) (rd rb : SReg) (off : BitVec 10)
  /-- ST_B (R222). -/
  | stB (x : Px) (rs rb : SReg) (off : BitVec 10)
  /-- ST_H (R222). -/
  | stH (x : Px) (rs rb : SReg) (off : BitVec 10)
  /-- ST_W (R222). -/
  | stW (x : Px) (rs rb : SReg) (off : BitVec 10)
  /-- ST_D (R222). -/
  | stD (x : Px) (rs rb : SReg) (off : BitVec 10)
  /-- AMOADD_D (R222). -/
  | amoaddD (x : Px) (rd rb rs : SReg)
  /-- AMOSWAP_D (R222). -/
  | amoswapD (x : Px) (rd rb rs : SReg)
  /-- AMOCAS_D (R222). -/
  | amocasD (x : Px) (rd rb rs : SReg)
  /-- SIG (R222). -/
  | sig (x : Px) (rs : SReg) (cc : BitVec 6)
  /-- CCADD (R222). -/
  | ccadd (x : Px) (rs : SReg) (cc : BitVec 6)
  /-- CCSET (R222). -/
  | ccset (x : Px) (rs : SReg) (cc : BitVec 6)
  /-- CCRD (R222). -/
  | ccrd (x : Px) (rd : SReg) (cc : BitVec 6)
  /-- CCWAIT (R224). -/
  | ccwait (x : Px) (rd rt : SReg) (cc : BitVec 6)
  /-- CCWAIT_TIMEOUT (R224). -/
  | ccwaitTimeout (core : Fin 24) (thread : Fin 4)
  /-- FENCE (R226). -/
  | fence (x : Px)
  /-- ICINV (R236). -/
  | icinv (x : Px) (rb : SReg) (fn : BitVec 4)
  /-- LDG (R222). -/
  | ldg (x : Px) (rd rb : SReg) (off : BitVec 10)
  /-- STG (R222). -/
  | stg (x : Px) (rs rb : SReg) (off : BitVec 10)
  /-- BEQ (R229). -/
  | beq (x : Px) (rs1 rs2 : SReg) (off : BitVec 10)
  /-- BNE (R229). -/
  | bne (x : Px) (rs1 rs2 : SReg) (off : BitVec 10)
  /-- BLT (R229). -/
  | blt (x : Px) (rs1 rs2 : SReg) (off : BitVec 10)
  /-- BGE (R229). -/
  | bge (x : Px) (rs1 rs2 : SReg) (off : BitVec 10)
  /-- BLTU (R229). -/
  | bltu (x : Px) (rs1 rs2 : SReg) (off : BitVec 10)
  /-- BGEU (R229). -/
  | bgeu (x : Px) (rs1 rs2 : SReg) (off : BitVec 10)
  /-- JMP (R229). -/
  | jmp (x : Px) (off : BitVec 22)
  /-- CALL (R229). -/
  | call (x : Px) (off : BitVec 22)
  /-- JR (R229). -/
  | jr (x : Px) (rs : SReg)
  /-- JALR (R229). -/
  | jalr (x : Px) (rd rs : SReg)
  /-- LOOP (R230). -/
  | loop (x : Px) (l : Fin 2) (rs : SReg) (endoff : BitVec 15)
  /-- LOOPI (R230). -/
  | loopi (x : Px) (l : Fin 2) (count : BitVec 10) (endoff : BitVec 11)
  /-- TRAP (R229). -/
  | trap (x : Px) (code : BitVec 16)
  /-- BRK (R229). -/
  | brk (x : Px)
  /-- RFE (R239). -/
  | rfe (x : Px)
  /-- WFI (R241). -/
  | wfi (x : Px)
  /-- HALT (R229). -/
  | halt (x : Px)
  /-- TCONV (R296). -/
  | tconv (x : Px) (rs : SReg) (fields : BitVec 16)
  /-- TMM (R310). -/
  | tmm (x : Px) (rs : SReg) (fields : BitVec 16)
  /-- TPOOL (R308). -/
  | tpool (x : Px) (rs : SReg) (fields : BitVec 16)
  /-- TDW (R309). -/
  | tdw (x : Px) (rs : SReg) (fields : BitVec 16)
  /-- TLOAD (R311). -/
  | tload (x : Px) (rs : SReg) (fields : BitVec 16)
  /-- VADD (R256). -/
  | vadd (x : Px) (o : VOp)
  /-- VSUB (R256). -/
  | vsub (x : Px) (o : VOp)
  /-- VAND (R256). -/
  | vand (x : Px) (o : VOp)
  /-- VOR (R256). -/
  | vor (x : Px) (o : VOp)
  /-- VXOR (R256). -/
  | vxor (x : Px) (o : VOp)
  /-- VSLL (R256). -/
  | vsll (x : Px) (o : VOp)
  /-- VSRL (R256). -/
  | vsrl (x : Px) (o : VOp)
  /-- VSRA (R256). -/
  | vsra (x : Px) (o : VOp)
  /-- VMIN (R256). -/
  | vmin (x : Px) (o : VOp)
  /-- VMAX (R256). -/
  | vmax (x : Px) (o : VOp)
  /-- VMINU (R256). -/
  | vminu (x : Px) (o : VOp)
  /-- VMAXU (R256). -/
  | vmaxu (x : Px) (o : VOp)
  /-- VSADD (R256). -/
  | vsadd (x : Px) (o : VOp)
  /-- VSADDU (R256). -/
  | vsaddu (x : Px) (o : VOp)
  /-- VSSUB (R256). -/
  | vssub (x : Px) (o : VOp)
  /-- VSSUBU (R256). -/
  | vssubu (x : Px) (o : VOp)
  /-- VMUL (R256). -/
  | vmul (x : Px) (o : VOp)
  /-- VMULH (R256). -/
  | vmulh (x : Px) (o : VOp)
  /-- VMULHU (R256). -/
  | vmulhu (x : Px) (o : VOp)
  /-- VMACC (R256). -/
  | vmacc (x : Px) (o : VOp)
  /-- VABSD (R256). -/
  | vabsd (x : Px) (o : VOp)
  /-- VSEL (R256). -/
  | vsel (x : Px) (o : VOp)
  /-- VCMPEQ (R254). -/
  | vcmpeq (x : Px) (o : VOp)
  /-- VCMPNE (R254). -/
  | vcmpne (x : Px) (o : VOp)
  /-- VCMPLT (R254). -/
  | vcmplt (x : Px) (o : VOp)
  /-- VCMPLTU (R254). -/
  | vcmpltu (x : Px) (o : VOp)
  /-- VCMPLE (R254). -/
  | vcmple (x : Px) (o : VOp)
  /-- VCMPLEU (R254). -/
  | vcmpleu (x : Px) (o : VOp)
  /-- VMAC2 (R259). -/
  | vmac2 (x : Px) (o : VOp)
  /-- VMAC4 (R259). -/
  | vmac4 (x : Px) (o : VOp)
  /-- VWMACC (R256). -/
  | vwmacc (x : Px) (o : VOp)
  /-- VACC_CLR (R256). -/
  | vaccClr (x : Px) (o : VOp)
  /-- VACC_GET (R256). -/
  | vaccGet (x : Px) (o : VOp)
  /-- VACC_SET (R256). -/
  | vaccSet (x : Px) (o : VOp)
  /-- VNSRA (R259). -/
  | vnsra (x : Px) (o : VOp)
  /-- VREDSUM (R256). -/
  | vredsum (x : Px) (o : VOp)
  /-- VSETVL (R252). -/
  | vsetvl (x : Px) (o : VOp)
  /-- VSETVLI (R252). -/
  | vsetvli (x : Px) (rd : Fin 32) (imm : BitVec 10) (var ew : BitVec 2)
  /-- VMINI_V (R264). -/
  | vminiV (x : Px) (o : VOp) (n : AReg)
  /-- VMAXI_V (R264). -/
  | vmaxiV (x : Px) (o : VOp) (n : AReg)
  /-- VMINI_R (R265). -/
  | vminiR (x : Px) (o : VOp) (n : AReg)
  /-- VMAXI_R (R265). -/
  | vmaxiR (x : Px) (o : VOp) (n : AReg)
  /-- VFADD (R258). -/
  | vfadd (x : Px) (o : VOp)
  /-- VFSUB (R258). -/
  | vfsub (x : Px) (o : VOp)
  /-- VFMUL (R258). -/
  | vfmul (x : Px) (o : VOp)
  /-- VFMA (R258). -/
  | vfma (x : Px) (o : VOp)
  /-- VFMIN (R258). -/
  | vfmin (x : Px) (o : VOp)
  /-- VFMAX (R258). -/
  | vfmax (x : Px) (o : VOp)
  /-- VFCMPEQ (R257). -/
  | vfcmpeq (x : Px) (o : VOp)
  /-- VFCMPLT (R257). -/
  | vfcmplt (x : Px) (o : VOp)
  /-- VFCMPLE (R257). -/
  | vfcmple (x : Px) (o : VOp)
  /-- VCVT_F_X (R257). -/
  | vcvtFX (x : Px) (o : VOp)
  /-- VCVT_X_F (R257). -/
  | vcvtXF (x : Px) (o : VOp)
  /-- VFWIDEN (R257). -/
  | vfwiden (x : Px) (o : VOp)
  /-- VFNARROW (R257). -/
  | vfnarrow (x : Px) (o : VOp)
  /-- VSLIDEUP (R257). -/
  | vslideup (x : Px) (o : VOp)
  /-- VSLIDEDOWN (R257). -/
  | vslidedown (x : Px) (o : VOp)
  /-- VRGATHER (R257). -/
  | vrgather (x : Px) (o : VOp)
  /-- VBCAST (R257). -/
  | vbcast (x : Px) (o : VOp)
  /-- VEXT (R257). -/
  | vext (x : Px) (o : VOp)
  /-- VINS (R257). -/
  | vins (x : Px) (o : VOp)
  /-- VID (R257). -/
  | vid (x : Px) (o : VOp)
  /-- PAND (R257). -/
  | pand (x : Px) (o : VOp)
  /-- POR (R257). -/
  | por (x : Px) (o : VOp)
  /-- PXOR (R257). -/
  | pxor (x : Px) (o : VOp)
  /-- PANDN (R257). -/
  | pandn (x : Px) (o : VOp)
  /-- PWHILE (R257). -/
  | pwhile (x : Px) (o : VOp)
  /-- PCOUNT (R257). -/
  | pcount (x : Px) (o : VOp)
  /-- PFIRST (R257). -/
  | pfirst (x : Px) (o : VOp)
  /-- PGET (R257). -/
  | pget (x : Px) (o : VOp)
  /-- PSET (R257). -/
  | pset (x : Px) (o : VOp)
  /-- VLD (R266). -/
  | vld (x : Px) (o : VOp) (stopAt : Option Nat)
  /-- VLDS (R266). -/
  | vlds (x : Px) (o : VOp) (stopAt : Option Nat)
  /-- VGATHER (R266). -/
  | vgather (x : Px) (o : VOp) (stopAt : Option Nat)
  /-- VST (R266). -/
  | vst (x : Px) (o : VOp) (stopAt : Option Nat)
  /-- VSTS (R266). -/
  | vsts (x : Px) (o : VOp) (stopAt : Option Nat)
  /-- VSCATTER (R266). -/
  | vscatter (x : Px) (o : VOp) (stopAt : Option Nat)
  /-- PLD (R266). -/
  | pld (x : Px) (o : VOp)
  /-- PST (R266). -/
  | pst (x : Px) (o : VOp)
  /-- VLDA (R266). -/
  | vlda (x : Px) (o : VOp) (stopAt : Option Nat)
  /-- VSTA (R266). -/
  | vsta (x : Px) (o : VOp) (stopAt : Option Nat)
  /-- THR_START (R249). -/
  | thrStart (who : Requester) (core : Fin 24) (thread : Fin 4) (val : BitVec 32)
  /-- THR_STOP (R243). -/
  | thrStop (who : Requester) (core : Fin 24) (thread : Fin 4) (val : BitVec 32)
  /-- THR_STEP (R243). -/
  | thrStep (who : Requester) (core : Fin 24) (thread : Fin 4) (val : BitVec 32)
  /-- THR_DBG (R238). -/
  | thrDbg (who : Requester) (core : Fin 24) (thread : Fin 4) (val : BitVec 32)
  /-- CORE_ICINV (R236). -/
  | coreIcinv (who : Requester) (core : Fin 24) (val : BitVec 32)
  /-- SOFTWARE_INTERRUPT_SET (R238). -/
  | softwareInterruptSet (who : Requester) (core : Fin 24) (val : BitVec 32)
  /-- TIMECMP_REACHED (R238). -/
  | timecmpReached (core : Fin 24) (thread : Fin 4)
  /-- INTERRUPT_ENTRY (R239). -/
  | interruptEntry (core : Fin 24) (thread : Fin 4)
  /-- SCRATCHPAD_INIT_DONE (R248). -/
  | scratchpadInitDone (core : Fin 24)
  /-- TENSOR_START (R315). -/
  | tensorStart (array : Fin 8)
  /-- TENSOR_STEP_DONE (R298). -/
  | tensorStepDone (array : Fin 8)
  /-- TENSOR_COMPLETE (R304). -/
  | tensorComplete (array : Fin 8)
  /-- TENSOR_WATCHDOG (R326). -/
  | tensorWatchdog (array : Fin 8)
  /-- TAR_QMASK_WRITE (R323). -/
  | tarQmaskWrite (who : Requester) (array : Fin 8) (val : BitVec 32)
  /-- TABLE_MEMORY_INIT_DONE (R327). -/
  | tableMemoryInitDone (array : Fin 8)
  /-- QU_COMMIT_REQUEST (R338). -/
  | quCommitRequest (who : Requester) (qu : Fin 8) (val : BitVec 32)
  /-- QU_COMMIT (R337). -/
  | quCommit (qu : Fin 8) (readError : Bool)
  /-- ADAPTATION_START (R348). -/
  | adaptationStart
  /-- ADAPTATION_STOP (R348). -/
  | adaptationStop
  /-- ADAPTATION_END (R351). -/
  | adaptationEnd (gradients : List Gradient) (validation heldOut : ErrorPair)
  /-- DELTA_RESET (R351). -/
  | deltaReset (authenticated : Bool)
  /-- WEIGHT_HASH_CHECK (R347). -/
  | weightHashCheck (hashOk : Bool)
  /-- DMA_WAKE (R371). -/
  | dmaWake (cluster : Fin 8) (halo : Bool) (who : Option Requester) (val : BitVec 32)
  /-- DMA_COPY (R372). -/
  | dmaCopy (cluster : Fin 8)
  /-- DMA_COPY2D (R372). -/
  | dmaCopy2d (cluster : Fin 8)
  /-- DMA_FILL (R372). -/
  | dmaFill (cluster : Fin 8)
  /-- HALO_COPY (R374). -/
  | haloCopy (cluster : Fin 8)
  /-- HALO_COPY2D (R374). -/
  | haloCopy2d (cluster : Fin 8)
  /-- DMA_DESCRIPTOR_DONE (R372). -/
  | dmaDescriptorDone (cluster : Fin 8) (halo : Bool)
  /-- DMA_CONFIRM_TIMEOUT (R382). -/
  | dmaConfirmTimeout (cluster : Fin 8) (halo : Bool)
  /-- DMA_RESUME (R382). -/
  | dmaResume (who : Requester) (cluster : Fin 8) (val : BitVec 32)
  /-- HALO_RESUME (R382). -/
  | haloResume (who : Requester) (cluster : Fin 8) (val : BitVec 32)
  /-- SLICE_MAP_WRITE (R362). -/
  | sliceMapWrite (who : Requester) (slice : Fin 8) (val : BitVec 32)
  /-- SRAM_SCRUB (R381). -/
  | sramScrub (group : Fin 64) (corrected : Nat) (uncorrectable : List Nat)
  /-- DRAM_SCRUB (R381). -/
  | dramScrub (channel : Fin 4) (corrected : Nat) (uncorrectable : List Nat)
  /-- DDR_TRAINING_LOST (R383). -/
  | ddrTrainingLost (channel : Fin 4)
  /-- DDR_ECC_INIT_DONE (R384). -/
  | ddrEccInitDone
  /-- BANK_GROUP_INIT_DONE (R385). -/
  | bankGroupInitDone (group : Fin 64)
  /-- CLK_ISL_WRITE (R400). -/
  | clkIslWrite (who : Requester) (island : Nat) (val : BitVec 32)
  /-- CLK_GROUP_CHANGE (R399). -/
  | clkGroupChange (who : Requester) (val : BitVec 32)
  /-- FREQ_CHANGE_DUE (R397). -/
  | freqChangeDue (change : Nat)
  /-- FLL_LOCK (R397). -/
  | fllLock (change : Nat)
  /-- FLL_LOCK_TIMEOUT (R401). -/
  | fllLockTimeout (island : Nat)
  /-- GUARD_WINDOW_END (R402). -/
  | guardWindowEnd
  /-- ISLAND_IDLE_STOP (R406). -/
  | islandIdleStop (island : Nat)
  /-- ISLAND_WAKE (R406). -/
  | islandWake (island : Nat)
  /-- THERMAL_CAP (R408). -/
  | thermalCap (crit : Bool) (temps : List Int)
  /-- THERMAL_CAP_LIFT (R408). -/
  | thermalCapLift (crit : Bool) (temps : List Int)
  /-- REF_CLK_LOST (R410). -/
  | refClkLost
  /-- REF_CLK_BACK (R411). -/
  | refClkBack
  /-- ISLAND_DEAD (R412). -/
  | islandDead (island : Nat)
  /-- SENSOR_INVALID (R413). -/
  | sensorInvalid (sensor : Fin 12) (reading : Option Int)
  /-- SENSOR_VALID (R413). -/
  | sensorValid (sensor : Fin 12) (reading : Int)
  /-- DOMAIN_TARGET_WRITE (R425). -/
  | domainTargetWrite (who : Requester) (domain : Nat) (val : BitVec 32)
  /-- DOMAIN_GROUP_TARGET (R432). -/
  | domainGroupTarget (who : Requester) (val : BitVec 32)
  /-- DOMAIN_CYCLE (R436). -/
  | domainCycle (who : Requester) (domain : Nat) (val : BitVec 32)
  /-- DOMAIN_CLEAR (R437). -/
  | domainClear (who : Requester) (domain : Nat) (val : BitVec 32)
  /-- DRAIN_COMPLETE (R422). -/
  | drainComplete (domain : Nat)
  /-- DRAIN_FAIL (R422). -/
  | drainFail (domain : Nat)
  /-- SEQUENCER_STEP_DONE (R420). -/
  | sequencerStepDone (domain : Nat)
  /-- DISCHARGE_DONE (R420). -/
  | dischargeDone (domain : Nat)
  /-- WAKE_ADMIT (R430). -/
  | wakeAdmit (domain : Nat)
  /-- SUPPLY_GOOD (R421). -/
  | supplyGood (domain : Nat)
  /-- SW_OPEN (R437). -/
  | swOpen (domain : Nat)
  /-- STUCK_ON (R437). -/
  | stuckOn (domain : Nat)
  /-- DROOP (R437). -/
  | droop (domain : Nat)
  /-- RET_DROOP (R437). -/
  | retDroop (domain : Nat)
  /-- ISO (R437). -/
  | iso (domain : Nat)
  /-- STEP_LATE (R437). -/
  | stepLate (domain : Nat)
  /-- SUPPLY_ARM (R442). -/
  | supplyArm (sample : SupplySample)
  /-- SUPPLY_BACK (R444). -/
  | supplyBack (sample : SupplySample)
  /-- SUPPLY_CRIT (R445). -/
  | supplyCrit (sample : SupplySample)
  /-- RIDE_THROUGH_WINDOW_END (R445). -/
  | rideThroughWindowEnd (code : Nat) (failLow : Bool)
  /-- SAVE_DONE (R446). -/
  | saveDone (badItems : BitVec 16) (rewrite : Bool) (vDone : BitVec 16)
  /-- SUPPLY_RETURN_RESET (R447). -/
  | supplyReturnReset (sample : SupplySample)
  /-- ROSEMARY_IDLE (R461). -/
  | rosemaryIdle (sample : SupplySample)
  /-- LEDGER_GO (R452). -/
  | ledgerGo (who : Requester) (val : BitVec 32)
  /-- RESTORE (R462). -/
  | restore (who : Requester) (val : BitVec 32)
  /-- RESTORE_DONE (R462). -/
  | restoreDone
  /-- CONSUME (R462). -/
  | consume (who : Requester) (val : BitVec 32)
  /-- TEST_SAVE (R463). -/
  | testSave (who : Requester) (val : BitVec 32)
  /-- SENSE_FAULT (R459). -/
  | senseFault (sample : SupplySample)
  /-- FAIL_N_FAULT (R460). -/
  | failNFault (sample : SupplySample)
  /-- HLD_TH_WRITE (R455). -/
  | hldThWrite (who : Requester) (crit : Bool) (val : BitVec 32)
  /-- SAGE_VEHICLE_AREA (R479). -/
  | sageVehicleArea
  /-- SAGE_STATUS_BLOCK (R480). -/
  | sageStatusBlock
  /-- SAGE_STATUS_STALE (R480). -/
  | sageStatusStale
  /-- SGE_WDOG_KICK (R482). -/
  | sgeWdogKick (who : Requester) (val : BitVec 32)
  /-- SAGE_WDOG_EXPIRY (R482). -/
  | sageWdogExpiry
  /-- LOCKSTEP_MISMATCH (R481). -/
  | lockstepMismatch
  /-- SGE_HB_BEAT (R483). -/
  | sgeHbBeat (who : Requester) (val : BitVec 32)
  /-- HB_MISS (R483). -/
  | hbMiss
  /-- SAGE_HB_RESET_REQUEST (R483). -/
  | sageHbResetRequest
  /-- SGE_CC_ADD (R177). -/
  | sgeCcAdd (who : Requester) (val : BitVec 32)
  /-- LATE_CLEAR (R478). -/
  | lateClear
  /-- TASK_FAULT (R468). -/
  | taskFault (task : TaskId) (cause : Byte) (pc tval : BitVec 64)
  /-- THERMAL_STAGE_ENTER (R486). -/
  | thermalStageEnter (temps : List Int)
  /-- THERMAL_STAGE_LEAVE (R486). -/
  | thermalStageLeave (temps : List Int)
  /-- CLUSTER_RETAIN (R489). -/
  | clusterRetain (cluster : Fin 8)
  /-- PACKAGE_VERIFY (R495). -/
  | packageVerify (pkg : Package) (copy : PackageCopy) (sigOk tableHashOk sectionsOk : Bool)
  /-- PACKAGE_ACTIVATE (R496). -/
  | packageActivate (kind : PkgKind)
  /-- CC_UNRESPONSIVE (R500). -/
  | ccUnresponsive (cc : Fin 4)
  /-- POWER_ON_RESET (R554). -/
  | powerOnReset (release : Bool)
  /-- RESET_N_PIN (R503). -/
  | resetNPin (lowNs : Nat)
  /-- SOFT_RESET (R503). -/
  | softReset (who : Requester) (val : BitVec 32)
  /-- WARM_RESET (R505). -/
  | warmReset
  /-- SYS_WDOG_KICK (R518). -/
  | sysWdogKick (who : Requester) (val : BitVec 32)
  /-- SYS_WDOG_CFG_WRITE (R518). -/
  | sysWdogCfgWrite (who : Requester) (val : BitVec 32)
  /-- SYSTEM_WDOG_EXPIRY (R518). -/
  | systemWdogExpiry
  /-- BOOT_IMAGE_SELECT (R513). -/
  | bootImageSelect (a b : ImageCheck)
  /-- START_FAIL_RESET (R523). -/
  | startFailReset
  /-- XSPI_READ (R514). -/
  | xspiRead (who : Requester) (val : BitVec 32)
  /-- XSPI_PROGRAM (R514). -/
  | xspiProgram (who : Requester) (val : BitVec 32)
  /-- XSPI_ERASE_4K (R514). -/
  | xspiErase4k (who : Requester) (val : BitVec 32)
  /-- XSPI_ERASE_64K (R514). -/
  | xspiErase64k (who : Requester) (val : BitVec 32)
  /-- XSPI_DONE (R514). -/
  | xspiDone (err : Bool)
  /-- PROVISIONING_BUNDLE (R510). -/
  | provisioningBundle (b : Bundle) (signedOk wrappedOk authenticated : Bool)
  /-- COMMISSIONING_WRITE (R512). -/
  | commissioningWrite (authenticated : Bool) (record : List Setting)
  /-- FIRMWARE_UPLOAD (R514). -/
  | firmwareUpload (authenticated : Bool) (image : List Byte) (ok : Bool)
  /-- TRIAL_RESET (R514). -/
  | trialReset
  /-- TRIAL_CONFIRM (R514). -/
  | trialConfirm
  /-- SEC_DEBUG_LOCK (R114). -/
  | secDebugLock (who : Requester) (val : BitVec 32)
  /-- SEC_COMMAND_SUBMIT (R495). -/
  | secCommandSubmit (who : Requester) (val : BitVec 32)
  /-- SEC_COMMAND_DONE (R524). -/
  | secCommandDone
  /-- SYS_IRQ_CLAIM (R524). -/
  | sysIrqClaim (who : Requester) (ctx : Fin 8)
  /-- SYS_IRQ_COMPLETE (R524). -/
  | sysIrqComplete (who : Requester) (ctx : Fin 8) (val : BitVec 32)
  /-- THERMAL_TRIP (R551). -/
  | thermalTrip (temps : List Int)
  /-- REGISTER_READ_CLEAR (R10). -/
  | registerReadClear (who : Requester) (place : RegPlace) (size : Nat)
  /-- DOOR_RELEASE_DISAGREE (R25). -/
  | doorReleaseDisagree (door : DoorId)
  /-- READBACK_CONFIRM_SAMPLE (R100). -/
  | readbackConfirmSample (out : Bool)
  /-- EXT_DRIVE_CHECK (R106). -/
  | extDriveCheck
  /-- ITARD_TRAINING_END (R204). -/
  | itardTrainingEnd (port : Fin 2) (partner : Option Nat)
  /-- DDR_TRAINING_DONE (R384). -/
  | ddrTrainingDone (ok : Bool)
  /-- SECURITY_ENGINE_READY (R156). -/
  | securityEngineReady
  /-- BAY_READY_TIMEOUT (R124). -/
  | bayReadyTimeout
  /-- NVME_READ_COMPLETE (R155). -/
  | nvmeReadComplete (readError : Bool)
  /-- HOST_BAR_ACCESS (R115). -/
  | hostBarAccess (bar : HostBar) (offset : Nat) (wr : Option (List Byte)) (len : Nat)
  /-- TENSOR_SLICE_ERROR (R324). -/
  | tensorSliceError (array : Fin 8) (tablePe : Bool) (addr : BitVec 48)
  /-- MAINT_LINK_CHANGE (R524). -/
  | maintLinkChange (up : Bool)
  deriving DecidableEq, Repr

end Sys2Proof
end

