-- ==== Sys2Proof/Machine/Bits.lean ====
section
/-! DEFINITION. Bit fields, byte order and sign extension, as the notation of R4 and R5 has them. -/
namespace Sys2Proof.Machine

open Sys2Proof

/-- Bits [hi:lo] of a natural number (R4). -/
def bits (x hi lo : Nat) : Nat := x / 2 ^ lo % 2 ^ (hi + 1 - lo)

/-- Bit i of a natural number. -/
def bitAt (x i : Nat) : Bool := x.testBit i

/-- The field [hi:lo] of a word. -/
def fld (w : Word) (hi lo : Nat) : Nat := bits w.toNat hi lo

/-- Bit i of a word. -/
def bit (w : Word) (i : Nat) : Bool := w.getLsbD i

/-- The word whose bits [hi:lo] are ones. -/
def mask (hi lo : Nat) : Word := BitVec.ofNat 64 ((2 ^ (hi + 1 - lo) - 1) * 2 ^ lo)

/-- The word with its field [hi:lo] set to v. -/
def setFld (w : Word) (hi lo v : Nat) : Word :=
  (w &&& ~~~(mask hi lo)) ||| (BitVec.ofNat 64 (v % 2 ^ (hi + 1 - lo) * 2 ^ lo))

/-- The word with bit i set to b. -/
def setBit (w : Word) (i : Nat) (b : Bool) : Word := setFld w i i b.toNat

/-- The word whose only one is bit i. -/
def oneBit (i : Nat) : Word := BitVec.ofNat 64 (2 ^ i)

/-- A Bool as the number 0 or 1. -/
def num (b : Bool) : Nat := b.toNat

/-- x taken as a w-bit two's-complement value (`sext` of R4). -/
def sext (x w : Nat) : Int :=
  let y := x % 2 ^ w
  if y < 2 ^ (w - 1) then (y : Int) else (y : Int) - (2 ^ w : Nat)

/-- An integer wrapped to w bits. -/
def wrap (w : Nat) (x : Int) : Nat := (x % (2 ^ w : Nat)).toNat

/-- `clamp` of R4. -/
def clamp (x lo hi : Int) : Int := if x < lo then lo else if x > hi then hi else x

/-- x / d rounded to the nearest integer, ties to even (`rne` of R4), for d > 0. -/
def rneDiv (x : Int) (d : Nat) : Int :=
  let q := x.ediv d
  let r := (x.emod d).toNat
  if 2 * r < d then q else if 2 * r > d then q + 1 else if q.emod 2 = 0 then q else q + 1

/-- The n low bytes of x, least significant first (R5). -/
def bytesOf (n x : Nat) : List Byte :=
  match n with
  | 0 => []
  | n + 1 => BitVec.ofNat 8 (x % 256) :: bytesOf n (x / 256)

/-- The number a little-endian list of bytes stands for (R5). -/
def ofBytes (l : List Byte) : Nat :=
  match l with
  | [] => 0
  | b :: t => b.toNat + 256 * ofBytes t

/-- The numbers of the bits of x that are one, below n, rising. -/
def onesBelow (x n : Nat) : List Nat := (List.range n).filter (fun i => x.testBit i)

/-- How many of the low n bits of x are one. -/
def popCount (x n : Nat) : Nat := (onesBelow x n).length

/-- A counter of R11: it saturates at all ones of w bits. -/
def satAdd (w x n : Nat) : Nat := min (2 ^ w - 1) (x + n)

/-- An element put before the first one that it does not come after. -/
def insertSorted {α : Type} (le : α → α → Bool) (x : α) (l : List α) : List α :=
  match l with
  | [] => [x]
  | y :: t => if le x y then x :: y :: t else y :: insertSorted le x t

/-- A list put in order; equal elements keep theirs. -/
def sortBy {α : Type} (le : α → α → Bool) (l : List α) : List α := l.foldr (insertSorted le) []

/-- CRC-32 of one byte (R164): polynomial 0x04C11DB7, reflected, by eight shifts. -/
def crcBits (n : Nat) (c : BitVec 32) : BitVec 32 :=
  match n with
  | 0 => c
  | n + 1 => crcBits n (if c.getLsbD 0 then (c >>> 1) ^^^ 0xEDB88320#32 else c >>> 1)

/-- CRC-32 of a list of bytes, as Ethernet computes it (R164). -/
def crc32 (l : List Byte) : BitVec 32 :=
  ~~~(l.foldl (fun c b => crcBits 8 (c ^^^ b.setWidth 32)) 0xFFFFFFFF#32)

end Sys2Proof.Machine
end

