-- ==== Sys2Proof/Machine/RegMap.lean ====
section
/-! DEFINITION. The register map: where every register of control space lies (Table 10-2 and the register
tables of each chapter), which of its bits software may write, and what it holds after reset (R6, R9, R10). -/
namespace Sys2Proof.Machine

open Sys2Proof

/-- The base of control-space block i (R361). -/
def blockBase (i : Nat) : Nat := 0x18_0000_0000 + i * 0x1_0000

/-- The block indices that Table 10-2 assigns. -/
def blockAssigned (i : Nat) : Bool :=
  i ≤ 0x008 || (0x010 ≤ i && i ≤ 0x017) || (0x100 ≤ i && i ≤ 0x117) || (0x140 ≤ i && i ≤ 0x147)
    || (0x150 ≤ i && i ≤ 0x157) || (0x160 ≤ i && i ≤ 0x167)

namespace Reg

/-! Addresses, under the names of the register tables. -/
def sys (o : Nat) : Nat := blockBase 0x000 + o
def boot (o : Nat) : Nat := blockBase 0x001 + o
def sec (o : Nat) : Nat := blockBase 0x002 + o
def clk (o : Nat) : Nat := blockBase 0x003 + o
def pwr (o : Nat) : Nat := blockBase 0x004 + o
def hld (o : Nat) : Nat := blockBase 0x005 + o
def thy (o : Nat) : Nat := blockBase 0x006 + o
def sge (o : Nat) : Nat := blockBase 0x007 + o
def mem (o : Nat) : Nat := blockBase 0x008 + o
def fab (o : Nat) : Nat := blockBase 0x010 + o
def itd (o : Nat) : Nat := blockBase 0x011 + o
def cam (o : Nat) : Nat := blockBase 0x012 + o
def dec (o : Nat) : Nat := blockBase 0x013 + o
def enc (o : Nat) : Nat := blockBase 0x014 + o
def veh (o : Nat) : Nat := blockBase 0x015 + o
def cab (o : Nat) : Nat := blockBase 0x016 + o
def bay (o : Nat) : Nat := blockBase 0x017 + o
def pxc (n o : Nat) : Nat := blockBase (0x100 + n) + o
def tar (c o : Nat) : Nat := blockBase (0x140 + c) + o
def qnt (c o : Nat) : Nat := blockBase (0x150 + c) + o
def dma (c o : Nat) : Nat := blockBase (0x160 + c) + o

-- Table 15-11
def sysRstCtrl := sys 0x0000
def sysRstCause := sys 0x0004
def sysRstCount := sys 0x0008
def sysWdog := sys 0x000C
def sysWdogCfg := sys 0x0010
def sysScratch (i : Nat) := sys (0x0020 + 4 * i)
def sysMboxPend (i : Nat) := sys (0x0040 + 4 * i)
def sysIrqPrio (n : Nat) := sys (0x8000 + 4 * n)
def sysIrqPend (i : Nat) := sys (0x8200 + 4 * i)
def sysIrqEn (x i : Nat) := sys (0x8400 + 0x20 * x + 4 * i)
def sysIrqThresh (x : Nat) := sys (0x8800 + 0x10 * x)
def sysIrqClaim (x : Nat) := sys (0x8804 + 0x10 * x)
def bootStat := boot 0x0000
def bootImgVer := boot 0x0004
def bootJumpTime := boot 0x0008
def bootXspiAddr := boot 0x0100
def bootXspiDst := boot 0x0108
def bootXspiLen := boot 0x0110
def bootXspiCmd := boot 0x0114
def bootXspiStat := boot 0x0118
def secStat := sec 0x0000
def secDeviceId := sec 0x0008
def secFloor (i : Nat) := sec (0x0010 + 4 * i)
def secDebug := sec 0x0020
def secRingBase := sec 0x0100
def secRingTail := sec 0x0108
-- Table 11-6
def clkCtrl := clk 0x0000
def clkStat := clk 0x0004
def clkIrqStat := clk 0x0008
def clkIrqEn := clk 0x000C
def clkTh := clk 0x0010
def clkGuard := clk 0x0014
def clkGuardEnd := clk 0x0018
def clkGroupSel (i : Nat) := clk (0x0020 + 4 * i)
def clkGroupFreq := clk 0x003C
def clkAlarm (i : Nat) := clk (0x0040 + 4 * i)
def clkTemp (k : Nat) := clk (0x0060 + 4 * k)
def clkTempMax := clk 0x0090
def clkChanges := clk 0x00A0
def clkLockFails := clk 0x00A4
def clkRefLosses := clk 0x00A8
def clkThrottleEvents := clk 0x00AC
def clkGuardDefers := clk 0x00B0
def clkDeadIsl := clk 0x00C0
def clkIslCtrl (i : Nat) := clk (0x1000 + 0x10 * i)
def clkIslStat (i : Nat) := clk (0x1004 + 0x10 * i)
def clkIslPause (i : Nat) := clk (0x1008 + 0x10 * i)
-- Table 12-9
def pwrCfg := pwr 0x0000
def pwrStat := pwr 0x0004
def pwrIrqStat := pwr 0x0008
def pwrIrqEn := pwr 0x000C
def pwrGroupSel (i : Nat) := pwr (0x0010 + 4 * i)
def pwrGroupTarget := pwr 0x0028
def pwrLastRefuse := pwr 0x0030
def pwrTransitions := pwr 0x0040
def pwrReversals := pwr 0x0044
def pwrDrainFails := pwr 0x0048
def pwrSwFaults := pwr 0x004C
def pwrIsoDrop := pwr 0x0050
def pwrDomCtrl (d : Nat) := pwr (0x1000 + 0x10 * d)
def pwrDomStat (d : Nat) := pwr (0x1004 + 0x10 * d)
def pwrDomInfo (d : Nat) := pwr (0x1008 + 0x10 * d)
-- the HLD_ map of the Rosemary chapter
def hldCtrl := hld 0x0000
def hldCfg := hld 0x0004
def hldTh := hld 0x0008
def hldThCrit := hld 0x000C
def hldStat := hld 0x0010
def hldSense := hld 0x0014
def hldIrqStat := hld 0x0018
def hldIrqEn := hld 0x001C
def hldStageBase := hld 0x0020
def hldStageLen := hld 0x0028
def hldStageRdy := hld 0x002C
def hldLedgerSrc := hld 0x0030
def hldSlotStat := hld 0x0038
def hldRestoreStat := hld 0x003C
def hldSaveSeq := hld 0x0040
def hldLastV := hld 0x0048
def hldArms := hld 0x0050
def hldRideThroughs := hld 0x0054
def hldCommits := hld 0x0058
def hldTorn := hld 0x005C
def hldLate := hld 0x0060
def hldSenseFaults := hld 0x0064
-- Table 3-10, THY_ rows
def thyLocal := thy 0x0000
def thyPtpSec := thy 0x0008
def thyPtpNs := thy 0x0010
def thyStat := thy 0x0014
def thyOffset := thy 0x0018
def vehPtpCfg := thy 0x001C
def thySteps := thy 0x0020
def thyMasterChg := thy 0x0024
-- Table 14-12
def sgeStat := sge 0x0000
def sgeIrqStat := sge 0x0004
def sgeIrqEn := sge 0x0008
def sgeWdog := sge 0x000C
def sgeHb := sge 0x0010
def sgeInboxMask (i : Nat) := sge (0x0020 + 4 * i)
def sgeWinBase (w : Nat) := sge (0x0030 + 0x10 * w)
def sgeWinSize (w : Nat) := sge (0x0038 + 0x10 * w)
def sgeLastPath := sge 0x0050
def sgeMaxPath := sge 0x0054
def sgeCcSel := sge 0x0058
def sgeCcVal := sge 0x005C
def sgeCcAdd := sge 0x0060
def sgeFrames := sge 0x0070
def sgeLsMismatch := sge 0x0074
def sgeWdogExp := sge 0x0078
def sgeLate := sge 0x007C
def sgeListDrop := sge 0x0080
def sgeTrackDrop := sge 0x0084
-- Table 10-9
def memDdrCfg := mem 0x0000
def memDdrStat := mem 0x0004
def memDdrUsable := mem 0x0008
def memScrub := mem 0x0010
def memErrLog := mem 0x0018
def memIrqStat := mem 0x0020
def memIrqEn := mem 0x0024
def memSramCe := mem 0x0030
def memSramUe := mem 0x0034
def memDdrCe := mem 0x0038
def memDdrUe := mem 0x003C
def memOffAccess := mem 0x0040
def memGuardDeny := mem 0x0044
def memScrubPasses := mem 0x0048
def memSliceCfg (c : Nat) := mem (0x0100 + 0x10 * c)
def memSliceStat (c : Nat) := mem (0x0104 + 0x10 * c)
def memSliceWmask (c i : Nat) := mem (0x0200 + 0x10 * c + 4 * i)
-- Table 5-13
def fabCtrl := fab 0x0000
def fabSlot := fab 0x0004
def fabGen := fab 0x0008
def fabHbStat := fab 0x000C
def fabEvtStat := fab 0x0010
def fabEvtEn := fab 0x0014
def fabThrottle := fab 0x0018
def fabRtSel := fab 0x0020
def fabRtData := fab 0x0024
def fabRtRemote := fab 0x0028
def fabCmapBase := fab 0x0030
def fabCmapSeq := fab 0x0038
def fabCmapCfg := fab 0x003C
def fabPlanBase := fab 0x0040
def fabVc2En (i : Nat) := fab (0x0050 + 4 * i)
def fabCcSel := fab 0x0060
def fabCcVal := fab 0x0064
def fabCcSet := fab 0x0068
def fabCcAdd := fab 0x006C
def fabCcUnder := fab 0x0070
def fabCcStat := fab 0x0074
def fabMalformed := fab 0x0080
def fabCrcErr := fab 0x0084
def fabNoroute := fab 0x0088
def fabTtlDrop := fab 0x008C
def fabVcDrop := fab 0x0090
def fabSeqDrop := fab 0x0094
def fabEccCe := fab 0x0098
def fabEccUe := fab 0x009C
def fabThrottleCyc := fab 0x00A0
def fabCcUnderEp := fab 0x00A4
def itdCtrl (f : Nat) := itd (0x0000 + 0x0100 * f)
def itdStat (f : Nat) := itd (0x0004 + 0x0100 * f)
def itdPeerId (f : Nat) := itd (0x0008 + 0x0100 * f)
def itdMalformed (f : Nat) := itd (0x0010 + 0x0100 * f)
def itdReplay (f : Nat) := itd (0x0014 + 0x0100 * f)
def itdRetrain (f : Nat) := itd (0x0018 + 0x0100 * f)
def itdCrcErr (f : Nat) := itd (0x001C + 0x0100 * f)
def itdWinDeny (f : Nat) := itd (0x0020 + 0x0100 * f)
def itdTxDiscard (f : Nat) := itd (0x0024 + 0x0100 * f)
def itdMoves (f : Nat) := itd (0x0028 + 0x0100 * f)
def itdConflictHits (f : Nat) := itd (0x002C + 0x0100 * f)
def itdOwnSrc (f : Nat) := itd (0x0030 + 0x0100 * f)
def itdCfg := itd 0x0400
def itdLearnSel := itd 0x0410
def itdLearnData := itd 0x0414
def itdConflictEid := itd 0x0418
def itdWinBase (w : Nat) := itd (0x0420 + 0x10 * w)
def itdWinSize (w : Nat) := itd (0x0428 + 0x10 * w)
-- Table 2-6
def camPortCtrl (p : Nat) := cam (0x0000 + 0x0100 * p)
def camPortStat (p : Nat) := cam (0x0004 + 0x0100 * p)
def camRxFrames (p : Nat) := cam (0x0008 + 0x0100 * p)
def camRunt (p : Nat) := cam (0x0010 + 0x0100 * p)
def camGiant (p : Nat) := cam (0x0014 + 0x0100 * p)
def camFcsErr (p : Nat) := cam (0x0018 + 0x0100 * p)
def camVlanDrop (p : Nat) := cam (0x001C + 0x0100 * p)
def camFragDrop (p : Nat) := cam (0x0020 + 0x0100 * p)
def camProtoDrop (p : Nat) := cam (0x0024 + 0x0100 * p)
def camPoolCfg := cam 0x0400
def camShedForce := cam 0x0404
def camShedStat := cam 0x0408
def camIrqStat := cam 0x0410
def camIrqEn := cam 0x0414
def camSlotCtrl (s : Nat) := cam (0x1000 + 0x0100 * s)
def camSlotStat (s : Nat) := cam (0x1004 + 0x0100 * s)
def camSlotCfg (s : Nat) := cam (0x1008 + 0x0100 * s)
def camSlotSize (s : Nat) := cam (0x100C + 0x0100 * s)
def camSlotDesc (s : Nat) := cam (0x1010 + 0x0100 * s)
def camSlotDemand (s : Nat) := cam (0x1018 + 0x0100 * s)
def camSlotRate (s : Nat) := cam (0x101C + 0x0100 * s)
def camSlotPktLost (s : Nat) := cam (0x1020 + 0x0100 * s)
def camSlotAuLost (s : Nat) := cam (0x1024 + 0x0100 * s)
def camSlotSkipFrames (s : Nat) := cam (0x1028 + 0x0100 * s)
def camSlotSkipGops (s : Nat) := cam (0x102C + 0x0100 * s)
def camSlotQDrop (s : Nat) := cam (0x1030 + 0x0100 * s)
def camSlotAuOversize (s : Nat) := cam (0x1034 + 0x0100 * s)
def camSlotRetries (s : Nat) := cam (0x1038 + 0x0100 * s)
def decStat (n : Nat) := dec (0x0000 + 0x0100 * n)
def decFrames (n : Nat) := dec (0x0004 + 0x0100 * n)
def decErr (n : Nat) := dec (0x0008 + 0x0100 * n)
def decResets (n : Nat) := dec (0x000C + 0x0100 * n)
def decReserve := dec 0x0800
-- Tables 3-10 and 3-13
def vehPortCtrl := veh 0x0000
def vehPortStat := veh 0x0004
def vehComidBase := veh 0x0008
def vehVsCfg := veh 0x000C
def vehVsSrc := veh 0x0010
def vehMdDst := veh 0x0014
def vehPdDst := veh 0x0018
def vehCabCfg := veh 0x001C
def vehViewCtrl := veh 0x0020
def vehViewDst := veh 0x0028
def vehRunt := veh 0x0030
def vehGiant := veh 0x0034
def vehProtoDrop := veh 0x0038
def vehTrdpDrop := veh 0x003C
def vehMdDrop := veh 0x0040
def vehMdQueue := veh 0x0044
def cabInStat := cab 0x0000
def cabInDeb (i : Nat) := cab (0x0004 + 4 * i)
def cabOutCmd := cab 0x0040
def cabSafeCut := cab 0x0044
def cabTest := cab 0x0048
def cabOutStat := cab 0x004C
def cabGpo := cab 0x0050
def encStat := enc 0x0000
def encIrqStat := enc 0x0004
def encIrqEn := enc 0x0008
def encBytes := enc 0x0010
def encFrames := enc 0x0018
def encDrop := enc 0x001C
def encIrap := enc 0x0020
-- Table 4-12
def bayCtrl := bay 0x0000
def bayCfg := bay 0x0004
def bayStat := bay 0x0008
def baySerial := bay 0x0010
def bayLifeGb := bay 0x0018
def bayLifePct := bay 0x001C
def bayMfg := bay 0x0020
def bayJrnSeq := bay 0x0028
def bayFree := bay 0x002C
def bayIrqStat := bay 0x0030
def bayIrqEn := bay 0x0034
def bayWrErr := bay 0x0040
def bayRdErr := bay 0x0044
def bayAuthFail := bay 0x0048
def baySurprise := bay 0x004C
def bayLateRemove := bay 0x0050
def bayReclaims := bay 0x0054
def bayClipsLost := bay 0x0058
-- Table 6-11
def pxcCoreCtrl (n : Nat) := pxc n 0x0000
def pxcCoreStat (n : Nat) := pxc n 0x0004
def pxcThrCtrl (n t : Nat) := pxc n (0x0010 + 0x40 * t)
def pxcThrStat (n t : Nat) := pxc n (0x0014 + 0x40 * t)
def pxcThrPc (n t : Nat) := pxc n (0x0018 + 0x40 * t)
def pxcThrBundles (n t : Nat) := pxc n (0x0020 + 0x40 * t)
def pxcThrStall (n t : Nat) := pxc n (0x0028 + 0x40 * t)
def pxcWinBase (n w : Nat) := pxc n (0x0100 + 0x20 * w)
def pxcWinSize (n w : Nat) := pxc n (0x0108 + 0x20 * w)
def pxcWinAttr (n w : Nat) := pxc n (0x0110 + 0x20 * w)
def pxcSwi (n : Nat) := pxc n 0x0200
def pxcIrqStat (n : Nat) := pxc n 0x0204
def pxcIrqEn (n : Nat) := pxc n 0x0208
def pxcIcacheLock (n : Nat) := pxc n 0x0210
def pxcSpCe (n : Nat) := pxc n 0x0220
def pxcSpUe (n : Nat) := pxc n 0x0224
def pxcIcPe (n : Nat) := pxc n 0x0228
def pxcRfPe (n : Nat) := pxc n 0x022C
-- the TAR_ map
def tarCfg (c : Nat) := tar c 0x0000
def tarPrio (c : Nat) := tar c 0x0004
def tarQmask (c : Nat) := tar c 0x0008
def tarStat (c : Nat) := tar c 0x000C
def tarFault (c : Nat) := tar c 0x0010
def tarFaultAddr (c : Nat) := tar c 0x0018
def tarIrqStat (c : Nat) := tar c 0x0020
def tarIrqEn (c : Nat) := tar c 0x0024
def tarSpill (c t : Nat) := tar c (0x0040 + 8 * t)
def tarInstr (c : Nat) := tar c 0x0100
def tarBusyCyc (c : Nat) := tar c 0x0108
def tarSteps (c : Nat) := tar c 0x0110
def tarParks (c : Nat) := tar c 0x0114
def tarSuspends (c : Nat) := tar c 0x0118
def tarAccSat (c : Nat) := tar c 0x011C
def tarTernBad (c : Nat) := tar c 0x0120
def tarWdog (c : Nat) := tar c 0x0124
-- the QNT_ map
def qntCfg (c : Nat) := qnt c 0x0000
def qntClipLimit (c : Nat) := qnt c 0x0004
def qntCommitList (c : Nat) := qnt c 0x0008
def qntCommit (c : Nat) := qnt c 0x0010
def qntStat (c : Nat) := qnt c 0x0014
def qntLastRerun (c : Nat) := qnt c 0x0018
def qntIrqStat (c : Nat) := qnt c 0x0020
def qntIrqEn (c : Nat) := qnt c 0x0024
def qntClips (c : Nat) := qnt c 0x0030
def qntEscapes (c : Nat) := qnt c 0x0034
def qntOverflows (c : Nat) := qnt c 0x0038
def qntRerunTrig (c : Nat) := qnt c 0x003C
def qntEscMiss (c : Nat) := qnt c 0x0040
def qntCommits (c : Nat) := qnt c 0x0044
-- Table 10-10
def dmaCtrl (c : Nat) := dma c 0x0000
def dmaStat (c : Nat) := dma c 0x0004
def dmaCfg (c : Nat) := dma c 0x0008
def dmaRingBase (c : Nat) := dma c 0x0010
def dmaRingSize (c : Nat) := dma c 0x0018
def dmaHead (c : Nat) := dma c 0x001C
def dmaTail (c : Nat) := dma c 0x0020
def haloRingBase (c : Nat) := dma c 0x0030
def haloRingSize (c : Nat) := dma c 0x0038
def haloHead (c : Nat) := dma c 0x003C
def haloTail (c : Nat) := dma c 0x0040
def dmaIrqStat (c : Nat) := dma c 0x0050
def dmaIrqEn (c : Nat) := dma c 0x0054
def dmaBytes (c : Nat) := dma c 0x0060
def dmaDescDone (c : Nat) := dma c 0x0068
def dmaErrors (c : Nat) := dma c 0x006C
def haloDescDone (c : Nat) := dma c 0x0070

end Reg

/-- A row of a register table: `n` copies `stride` apart, each of `m` words `step` apart; its width; the
bits a plain write sets (`rw`), those a written 1 clears (`w1c`); whether a read clears it (RC). Bits that
the hardware alone changes, and write actions, are not in the masks. -/
structure RegSpec where
  base : Nat
  n : Nat
  stride : Nat
  m : Nat
  step : Nat
  wide : Bool
  rw : Nat
  w1c : Nat
  rc : Bool
  deriving DecidableEq, Repr

/-- One 32-bit register with the RW bits `rw`. -/
def regRw (base rw : Nat) : RegSpec := ⟨base, 1, 1, 1, 1, false, rw, 0, false⟩
/-- One 64-bit register with the RW bits `rw`. -/
def regRw64 (base rw : Nat) : RegSpec := ⟨base, 1, 1, 1, 1, true, rw, 0, false⟩
/-- A status register with the W1C bits `w1c`. -/
def regW1c (base w1c : Nat) : RegSpec := ⟨base, 1, 1, 1, 1, false, 0, w1c, false⟩
/-- `k` consecutive RC counters of 32 bits. -/
def regRc (base k : Nat) : RegSpec := ⟨base, 1, 1, k, 4, false, 0, 0, true⟩
/-- The row repeated as `m` words. -/
def RegSpec.words (r : RegSpec) (m : Nat) : RegSpec := { r with m := m, step := 4 }
/-- The row repeated `n` times, `stride` apart. -/
def RegSpec.many (r : RegSpec) (n stride : Nat) : RegSpec := { r with n := n, stride := stride }

/-- All 32 bits. -/
def all32 : Nat := 0xFFFF_FFFF
/-- All 64 bits. -/
def all64 : Nat := 0xFFFF_FFFF_FFFF_FFFF

/-- SYS_, BOOT_ and SEC_ (Table 15-11); the priority words and enable bits of the sources that Table 15-12 does not list are storage. (DESIGN CHOICE, log 185) -/
def regsBoot : List RegSpec :=
  [regRw Reg.sysRstCtrl 0, regRw Reg.sysRstCause 0, regRw Reg.sysRstCount 0, regRw Reg.sysWdog 0,
   regRw Reg.sysWdogCfg 0x3FFF, (regRw (Reg.sysScratch 0) all32).words 8, (regRw (Reg.sysMboxPend 0) 0).words 8,
   (regRw (Reg.sysIrqPrio 0) 7).words 96, (regRw (Reg.sysIrqPend 0) 0).words 3,
   ((regRw (Reg.sysIrqEn 0 0) all32).words 3).many 8 0x20, (regRw (Reg.sysIrqThresh 0) 7).many 8 0x10,
   (regRw (Reg.sysIrqClaim 0) 0).many 8 0x10,
   (regRw Reg.bootStat 0).words 3, regRw Reg.bootXspiAddr 0x3FF_FFFF, regRw64 Reg.bootXspiDst all64,
   regRw Reg.bootXspiLen all32, regRw Reg.bootXspiCmd 0, regW1c Reg.bootXspiStat 6,
   regRw Reg.secStat 0, regRw64 Reg.secDeviceId 0, (regRw (Reg.secFloor 0) 0).words 3, regRw Reg.secDebug 0,
   regRw64 Reg.secRingBase all64, regRw Reg.secRingTail all32]

/-- CLK_ (Table 11-6); the bits of the group and alarm words for islands 216 to 223, which the device lacks, are storage. (DESIGN CHOICE, log 185) -/
def regsClk : List RegSpec :=
  [regRw Reg.clkCtrl 1, regRw Reg.clkStat 0, regW1c Reg.clkIrqStat 0x3FF, regRw Reg.clkIrqEn 0x3FF,
   regRw Reg.clkTh 0x0FFF_FFFF, regRw Reg.clkGuard 0xFFFF, regRw64 Reg.clkGuardEnd 0,
   (regRw (Reg.clkGroupSel 0) all32).words 7, regRw Reg.clkGroupFreq 0, (regRw (Reg.clkAlarm 0) all32).words 7,
   (regRw (Reg.clkTemp 0) 0).words 12, regRw Reg.clkTempMax 0, regRc Reg.clkChanges 5, regRw Reg.clkDeadIsl 0,
   (regRw (Reg.clkIslCtrl 0) 0x7F_037F).many 216 0x10, (regRw (Reg.clkIslStat 0) 0).many 216 0x10,
   (regRw (Reg.clkIslPause 0) 0).many 216 0x10]

/-- PWR_ (Table 12-9); the bits of the group word for domains 177 to 191, which the device lacks, are storage. (DESIGN CHOICE, log 185) -/
def regsPwr : List RegSpec :=
  [regRw Reg.pwrCfg 0xFFFF_001F, regRw Reg.pwrStat 0, regW1c Reg.pwrIrqStat 0x7FF, regRw Reg.pwrIrqEn 0x7FF,
   (regRw (Reg.pwrGroupSel 0) all32).words 6, regRw Reg.pwrGroupTarget 0, regRw Reg.pwrLastRefuse 0,
   regRc Reg.pwrTransitions 5, (regRw (Reg.pwrDomCtrl 0) 0).many 177 0x10,
   (regW1c (Reg.pwrDomStat 0) 0).many 177 0x10, (regRw (Reg.pwrDomInfo 0) 0).many 177 0x10]

/-- HLD_ (the register map of the Rosemary chapter). -/
def regsHld : List RegSpec :=
  [regRw Reg.hldCtrl 3, regRw Reg.hldCfg 0x7F, regRw Reg.hldTh 0x0FFF_0FFF, regRw Reg.hldThCrit 0xFFF,
   regRw Reg.hldStat 0, regRw Reg.hldSense 0, regW1c Reg.hldIrqStat 0x1FF, regRw Reg.hldIrqEn 0x1FF,
   regRw64 Reg.hldStageBase all64, regRw Reg.hldStageLen 0xF_FFFF, regRw Reg.hldStageRdy 0,
   regRw64 Reg.hldLedgerSrc all64, regRw Reg.hldSlotStat 0, regRw Reg.hldRestoreStat 0, regRw64 Reg.hldSaveSeq 0,
   regRw Reg.hldLastV 0, regRc Reg.hldArms 6]

/-- THY_, SGE_, VEH_, CAB_ and ENC_ (Tables 3-10, 3-13 and 14-12). -/
def regsCab : List RegSpec :=
  [regRw64 Reg.thyLocal 0, regRw64 Reg.thyPtpSec 0, regRw Reg.thyPtpNs 0, regRw Reg.thyStat 0, regRw Reg.thyOffset 0,
   regRw Reg.vehPtpCfg 0xFF, regRc Reg.thySteps 2,
   regRw Reg.sgeStat 0, regW1c Reg.sgeIrqStat 0x7F, regRw Reg.sgeIrqEn 0x7F, regRw Reg.sgeWdog 0, regRw Reg.sgeHb 0,
   (regRw (Reg.sgeInboxMask 0) all32).words 4, (regRw64 (Reg.sgeWinBase 0) 0xFFFF_FFFF_FFFF_F000).many 2 0x10,
   (regRw (Reg.sgeWinSize 0) 0xFFFF_F000).many 2 0x10, (regRw Reg.sgeLastPath 0).words 2, regRw Reg.sgeCcSel 0x3F,
   regRw Reg.sgeCcVal 0, regRw Reg.sgeCcAdd 0, regRc Reg.sgeFrames 6,
   regRw Reg.vehPortCtrl 0x1_FFFF, regRw Reg.vehPortStat 0, regRw Reg.vehComidBase all32, regRw Reg.vehVsCfg 1,
   (regRw Reg.vehVsSrc all32).words 3, regRw Reg.vehCabCfg 3, regRw Reg.vehViewCtrl 0xFF03,
   regRw64 Reg.vehViewDst 0xFFFF_FFFF_FFFF, regRc Reg.vehRunt 5, regRw Reg.vehMdQueue 0,
   regW1c Reg.cabInStat 0xFF_0000, (regRw (Reg.cabInDeb 0) 0xFF).words 8, regRw Reg.cabOutCmd 3,
   regRw Reg.cabSafeCut 1, regRw Reg.cabTest 0, regRw Reg.cabOutStat 0, regRw Reg.cabGpo 0x3F,
   regRw Reg.encStat 0, regW1c Reg.encIrqStat 0xF, regRw Reg.encIrqEn 0xF, regRw64 Reg.encBytes 0, regRc Reg.encFrames 3]

/-- MEM_, FAB_ and ITD_ (Tables 10-9 and 5-13). -/
def regsFab : List RegSpec :=
  [regRw Reg.memDdrCfg 0x37, regRw Reg.memDdrStat 0, regRw64 Reg.memDdrUsable 0, regRw Reg.memScrub all32,
   regRw64 Reg.memErrLog 0, regW1c Reg.memIrqStat 0x7F, regRw Reg.memIrqEn 0x7F, regRc Reg.memSramCe 7,
   (regRw (Reg.memSliceCfg 0) 2).many 8 0x10, (regRw (Reg.memSliceStat 0) 0).many 8 0x10,
   ((regRw (Reg.memSliceWmask 0 0) all32).words 4).many 8 0x10,
   (regRw Reg.fabCtrl 0).words 4, regW1c Reg.fabEvtStat 0x3FF, regRw Reg.fabEvtEn 0x3FF, regRw Reg.fabThrottle 0xFFFF,
   regRw Reg.fabRtSel 0x3_FFFF, regRw Reg.fabRtData 0, regRw Reg.fabRtRemote 0, regRw64 Reg.fabCmapBase all64,
   regRw Reg.fabCmapSeq 0, regRw Reg.fabCmapCfg 0xFFFF, regRw64 Reg.fabPlanBase all64,
   (regRw (Reg.fabVc2En 0) all32).words 4, regRw Reg.fabCcSel 0x7FFF, (regRw Reg.fabCcVal 0).words 3,
   regRc Reg.fabCcUnder 1, regRw Reg.fabCcStat 0, regRc Reg.fabMalformed 10,
   (regRw (Reg.itdCtrl 0) 3).many 2 0x100, (regRw (Reg.itdStat 0) 0).many 2 0x100,
   (regRw64 (Reg.itdPeerId 0) 0).many 2 0x100, (regRc (Reg.itdMalformed 0) 9).many 2 0x100,
   regRw Reg.itdCfg 0x0FFF_0FFF, regRw Reg.itdLearnSel 0xFFF, (regRw Reg.itdLearnData 0).words 2,
   (regRw64 (Reg.itdWinBase 0) 0x1FFF_FFFF_FFFF).many 4 0x10, (regRw64 (Reg.itdWinSize 0) 0x1FFF_FFFF_FFFF).many 4 0x10]

/-- CAM_ and DEC_ (Table 2-6) and BAY_ (Table 4-12). -/
def regsCam : List RegSpec :=
  [(regRw (Reg.camPortCtrl 0) 0x1_FFFF).many 2 0x100, (regRw (Reg.camPortStat 0) 0).many 2 0x100,
   (regRw64 (Reg.camRxFrames 0) 0).many 2 0x100, (regRc (Reg.camRunt 0) 6).many 2 0x100,
   regRw Reg.camPoolCfg 0xFFFF_FF0F, regRw Reg.camShedForce 1, regRw Reg.camShedStat 0, regW1c Reg.camIrqStat 0x1_FFFF,
   regRw Reg.camIrqEn 0x1_FFFF, (regRw (Reg.camSlotCtrl 0) 0x3F_001F).many 12 0x100,
   (regRw (Reg.camSlotStat 0) 0).many 12 0x100, (regRw (Reg.camSlotCfg 0) 0xFF_FFFF).many 12 0x100,
   (regRw (Reg.camSlotSize 0) 0).many 12 0x100, (regRw64 (Reg.camSlotDesc 0) all64).many 12 0x100,
   ((regRw (Reg.camSlotDemand 0) 0).words 2).many 12 0x100, (regRc (Reg.camSlotPktLost 0) 7).many 12 0x100,
   (regRw (Reg.decStat 0) 0).many 6 0x100, (regRc (Reg.decFrames 0) 3).many 6 0x100, regRw Reg.decReserve 0,
   regRw Reg.bayCtrl 3, regRw Reg.bayCfg 0xFF_0FFF, regRw Reg.bayStat 0, regRw64 Reg.baySerial 0,
   (regRw Reg.bayLifeGb 0).words 2, regRw64 Reg.bayMfg 0, (regRw Reg.bayJrnSeq 0).words 2,
   regW1c Reg.bayIrqStat 0x1FF, regRw Reg.bayIrqEn 0x1FF, regRc Reg.bayWrErr 7]

/-- PXC_, TAR_, QNT_ and DMA_, one block per core or cluster. -/
def regsCluster : List RegSpec :=
  [(regRw (Reg.pxcCoreCtrl 0) 1).many 24 0x1_0000, (regRw (Reg.pxcCoreStat 0) 0).many 24 0x1_0000,
   (regRw (Reg.pxcIcacheLock 0) 3).many 24 0x1_0000, (regRw (Reg.pxcSwi 0) 0).many 24 0x1_0000,
   (regW1c (Reg.pxcIrqStat 0) 0x3FF).many 24 0x1_0000, (regRw (Reg.pxcIrqEn 0) 0x3FF).many 24 0x1_0000,
   (regRc (Reg.pxcSpCe 0) 4).many 24 0x1_0000,
   ⟨Reg.pxcThrCtrl 0 0, 24, 0x1_0000, 4, 0x40, false, 0xC, 0, false⟩,
   ⟨Reg.pxcThrStat 0 0, 24, 0x1_0000, 4, 0x40, false, 0, 0, false⟩,
   ⟨Reg.pxcThrPc 0 0, 24, 0x1_0000, 4, 0x40, true, 0, 0, false⟩,
   ⟨Reg.pxcThrBundles 0 0, 24, 0x1_0000, 4, 0x40, true, 0, 0, false⟩,
   ⟨Reg.pxcThrStall 0 0, 24, 0x1_0000, 4, 0x40, true, 0, 0, false⟩,
   ⟨Reg.pxcWinBase 0 0, 24, 0x1_0000, 8, 0x20, true, 0xFFFF_FFFF_FFFF_F000, 0, false⟩,
   ⟨Reg.pxcWinSize 0 0, 24, 0x1_0000, 8, 0x20, true, 0xFFFF_FFFF_FFFF_F000, 0, false⟩,
   ⟨Reg.pxcWinAttr 0 0, 24, 0x1_0000, 8, 0x20, false, 0xF7, 0, false⟩,
   (regRw (Reg.tarCfg 0) 3).many 8 0x1_0000, (regRw (Reg.tarPrio 0) 0xFFF).many 8 0x1_0000,
   (regRw (Reg.tarQmask 0) 0).many 8 0x1_0000, ((regRw (Reg.tarStat 0) 0).words 2).many 8 0x1_0000,
   (regRw64 (Reg.tarFaultAddr 0) 0).many 8 0x1_0000, (regW1c (Reg.tarIrqStat 0) 0x1F).many 8 0x1_0000,
   (regRw (Reg.tarIrqEn 0) 0x1F).many 8 0x1_0000,
   ⟨Reg.tarSpill 0 0, 8, 0x1_0000, 12, 8, true, 0xFFFF_FFFF_FFFF_0000, 0, false⟩,
   (regRc (Reg.tarInstr 0) 1).many 8 0x1_0000, (regRw64 (Reg.tarBusyCyc 0) 0).many 8 0x1_0000,
   (regRc (Reg.tarSteps 0) 6).many 8 0x1_0000,
   (regRw (Reg.qntCfg 0) 0xFF1F).many 8 0x1_0000, (regRw (Reg.qntClipLimit 0) 0xFFFF).many 8 0x1_0000,
   (regRw64 (Reg.qntCommitList 0) 0xFFFF_FFFF_FFFF).many 8 0x1_0000, (regRw (Reg.qntCommit 0) 0x1FF).many 8 0x1_0000,
   ((regRw (Reg.qntStat 0) 0).words 2).many 8 0x1_0000, (regW1c (Reg.qntIrqStat 0) 0x1F).many 8 0x1_0000,
   (regRw (Reg.qntIrqEn 0) 0x1F).many 8 0x1_0000, (regRc (Reg.qntClips 0) 6).many 8 0x1_0000,
   (regRw (Reg.dmaCtrl 0) 1).many 8 0x1_0000, (regRw (Reg.dmaStat 0) 0).many 8 0x1_0000,
   (regRw (Reg.dmaCfg 0) 0xFFFF).many 8 0x1_0000, (regRw64 (Reg.dmaRingBase 0) 0xFFFF_FFFF_FFFF_FFC0).many 8 0x1_0000,
   ((regRw (Reg.dmaRingSize 0) 0).words 2).many 8 0x1_0000, (regRw (Reg.dmaTail 0) all32).many 8 0x1_0000,
   (regRw64 (Reg.haloRingBase 0) 0xFFFF_FFFF_FFFF_FFC0).many 8 0x1_0000, ((regRw (Reg.haloRingSize 0) 0).words 2).many 8 0x1_0000,
   (regRw (Reg.haloTail 0) all32).many 8 0x1_0000, (regW1c (Reg.dmaIrqStat 0) 0xF).many 8 0x1_0000,
   (regRw (Reg.dmaIrqEn 0) 0xF).many 8 0x1_0000, (regRw64 (Reg.dmaBytes 0) 0).many 8 0x1_0000,
   (regRc (Reg.dmaDescDone 0) 3).many 8 0x1_0000]

/-- The whole register map. -/
def regMap : List RegSpec :=
  regsBoot ++ regsClk ++ regsPwr ++ regsHld ++ regsCab ++ regsFab ++ regsCam ++ regsCluster

/-- Whether a row holds a register that begins at address a. -/
def RegSpec.holds (r : RegSpec) (a : Nat) : Bool :=
  decide (r.base ≤ a) && decide ((a - r.base) / r.stride < r.n) && decide ((a - r.base) % r.stride % r.step = 0)
    && decide ((a - r.base) % r.stride / r.step < r.m)

/-- A row whose `words` are laid out without a stride of copies has stride 1 by its builder; this gives
every row the stride that its words need. -/
def RegSpec.fit (r : RegSpec) : RegSpec := if r.n = 1 then { r with stride := r.m * r.step + 1 } else r

/-- The register that begins at address a, if the map has one. -/
def regAt (a : Nat) : Option RegSpec := regMap.find? (fun r => r.fit.holds a)

/-- Whether a lies in the upper half of a 64-bit register. -/
def upperHalf (a : Nat) : Bool :=
  match regAt (a - 4) with
  | some r => r.wide
  | none => false

end Sys2Proof.Machine
end

