-- ==== Sys2Proof/Machine/Resets.lean ====
section
/-! DEFINITION. What every register holds after reset: the Reset columns of the register tables (R9). -/
namespace Sys2Proof.Machine

open Sys2Proof

/-- The islands of the alarm set at reset, QU0 and QU1 included (Table 11-3). -/
def alarmAtReset (i : Nat) : Bool :=
  i < 6 || (24 ≤ i && i < 32) || (56 ≤ i && i < 72) || (120 ≤ i && i < 156) || i = 167 || i = 168 || i = 175
    || i = 176 || i = 183 || i = 184

/-- The floor of a variable island at reset, in 25 MHz (Table 11-3); the decoders' floor is implicit. -/
def floorAtReset (i : Nat) : Nat :=
  if i < 6 then 64 else if 24 ≤ i && i < 32 then 56 else if 56 ≤ i && i < 72 then 40
  else if 120 ≤ i && i < 156 then 32 else if i = 167 || i = 168 || i = 175 || i = 176 then 40 else 0

/-- The reset setting of an island, in 25 MHz (Table 11-1); 0 for fixed islands and the QUs. -/
def freqAtReset (i : Nat) : Nat :=
  if i < 24 then 32 else if i < 56 then 28 else if i < 120 then 20 else if i < 156 then 32
  else if i < 163 then 14 else if i < 167 then 48 else if i < 183 then 20 else 0

/-- The bitmap word w of the islands in the alarm set at reset. -/
def alarmWord (w : Nat) : Nat :=
  (List.range 32).foldl (fun a b => if alarmAtReset (32 * w + b) then a + 2 ^ b else a) 0

/-- The non-zero reset values of the registers of the single blocks. -/
def resetSingle : List (Nat × Nat) :=
  [(Reg.sysWdogCfg, 5000), (Reg.clkCtrl, 1), (Reg.clkTh, 0x056E_6964), (Reg.clkGuard, 200),
   (Reg.pwrCfg, 0x03E8_0008), (Reg.hldCtrl, 2), (Reg.hldCfg, 100), (Reg.hldTh, 0x0A22_099A),
   (Reg.hldThCrit, 1911), (Reg.fabThrottle, 0x1030), (Reg.fabCmapCfg, 1024), (Reg.itdCfg, 0x0200_0600),
   (Reg.memScrub, 0x0018_0064), (Reg.camPoolCfg, 0x01F4_0A04), (Reg.vehComidBase, 21000), (Reg.bayCtrl, 1),
   (Reg.bayCfg, 0x5F_0000),
   (Reg.cabInDeb 0, 20), (Reg.cabInDeb 1, 20), (Reg.cabInDeb 2, 100), (Reg.cabInDeb 3, 100),
   (Reg.cabInDeb 4, 20), (Reg.cabInDeb 5, 20), (Reg.cabInDeb 6, 20), (Reg.cabInDeb 7, 20)]

/-- The non-zero reset values of a block that is repeated, by offset. -/
def resetRepeated (block o : Nat) : Nat :=
  if 0x100 ≤ block && block ≤ 0x117 then (if o = 0 then 1 else 0)
  else if 0x140 ≤ block && block ≤ 0x147 then (if o = 0 then 1 else if o = 8 then 0xF else 0)
  else if 0x150 ≤ block && block ≤ 0x157 then (if o = 0 then 0x808 else if o = 4 then 4096 else 0)
  else if 0x160 ≤ block && block ≤ 0x167 then (if o = 0 then 1 else if o = 8 then 1000 else 0)
  else 0

/-- CLK_ISL_CTRL at reset: FREQ, IDLE_GATE on every variable island, FLOOR (R390, R414). (DEDUCED, log 74) -/
def islCtrlAtReset (i : Nat) : Nat :=
  if i < 183 then freqAtReset i + 0x200 + floorAtReset i * 0x1_0000 else if i < 191 then 0x200 else 0

/-- What the register at address a holds after reset (R9). -/
def regReset (a : Nat) : Word :=
  let block := (a - blockBase 0) / 0x1_0000
  let o := a % 0x1_0000
  BitVec.ofNat 64 (
    match resetSingle.find? (fun e => e.1 = a) with
    | some e => e.2
    | none =>
      if block = 3 then
        if 0x1000 ≤ o then (if o % 0x10 = 0 then islCtrlAtReset ((o - 0x1000) / 0x10) else 0)
        else if 0x40 ≤ o && o ≤ 0x58 then alarmWord ((o - 0x40) / 4) else 0
      else if block = 0x12 then (if 0x1000 ≤ o && o % 0x100 = 8 then 0x3_01F4 else 0)
      else resetRepeated block o)

end Sys2Proof.Machine
end

