-- ==== Sys2Proof/Machine/Store.lean ====
section
/-! DEFINITION. Keyed stores as plain data. What a key that is not listed reads as is the store's default
`d`; a write keeps the keys strictly rising and lists no entry equal to its default, so equal contents are
equal data. -/
namespace Sys2Proof.Machine

open Sys2Proof

/-- The entry listed at key `k`. -/
def lookup {α : Type} (m : SMap α) (k : Nat) : Option α :=
  match m with
  | [] => none
  | (j, v) :: t => if j = k then some v else lookup t k

/-- What key `k` reads as, where `d` gives the value of the keys not listed. -/
def get {α : Type} (d : Nat → α) (m : SMap α) (k : Nat) : α :=
  (lookup m k).getD (d k)

/-- The store without key `k`. -/
def erase {α : Type} (m : SMap α) (k : Nat) : SMap α :=
  m.filter (fun e => e.1 != k)

/-- `v` listed at `k`, before the first larger key. -/
def insertAt {α : Type} (m : SMap α) (k : Nat) (v : α) : SMap α :=
  match m with
  | [] => [(k, v)]
  | (j, w) :: t => if k < j then (k, v) :: (j, w) :: t else (j, w) :: insertAt t k v

/-- The store with `k` set to `v`; an entry equal to the default is not listed. -/
def put {α : Type} [DecidableEq α] (d : Nat → α) (m : SMap α) (k : Nat) (v : α) : SMap α :=
  if v = d k then erase m k else insertAt (erase m k) k v

/-- The keys listed, and what they hold, mapped by `f`; the result is put in canonical form. -/
def update {α : Type} [DecidableEq α] (d : Nat → α) (m : SMap α) (k : Nat) (f : α → α) : SMap α :=
  put d m k (f (get d m k))

/-- The keys `lo ≤ k` of a store are all that it lists above `lo`, strictly rising (a Bool). -/
def risingFrom {α : Type} (lo : Nat) (m : SMap α) : Bool :=
  match m with
  | [] => true
  | (j, _) :: t => decide (lo ≤ j) && risingFrom (j + 1) t

/-- No entry equals what its key would read as unlisted. -/
def noDefault {α : Type} [DecidableEq α] (d : Nat → α) (m : SMap α) : Bool :=
  m.all (fun e => decide (e.2 ≠ d e.1))

/-- The canonical form of a store. -/
def storeWf {α : Type} [DecidableEq α] (d : Nat → α) (m : SMap α) : Bool :=
  risingFrom 0 m && noDefault d m

end Sys2Proof.Machine
end

