-- ==== Sys2Proof/Machine/State.lean ====
section
/-! DEFINITION. The state of the VT12 as plain data: every register, store, queue, mode and timer that the
spec gives the block, grouped by the chapter that gives it; the queue of waiting commands; the reasons a
step can stop; and the state right after reset. -/
namespace Sys2Proof.Machine

open Sys2Proof

/-- What a step can stop on. -/
inductive Fault where
  /-- Raised by no command: operation outside the ratings is the one thing for which the spec promises no
  behaviour, and no command of the table describes it. Safe: it adds no run. -/
  | outsideRatings
  deriving DecidableEq, Repr

/-- Why a command has no effect at all. -/
inductive Refusal where
  /-- Raised by an arm of the dispatch that has no meaning yet. Safe: it stops where the hardware goes on. -/
  | notModelled (mnemonic : String)
  deriving DecidableEq, Repr

/-- The answer to the last access: its value, whether it was the access error of R7, and whether that was a page fault of Sv48 (R376).
The model's own observation; no unit reads it. (DESIGN CHOICE, log 3) -/
structure Bus where
  value : Word
  error : Bool
  page : Bool
  deriving DecidableEq, Repr

/-- What the spec has a unit or Tymor log. -/
inductive LogEvent where
  /-- A malformed packet's header, as its 16 bytes (R191). -/
  | malformed (header : List Byte)
  /-- A device that uses this device's slot (R190). -/
  | duplicateSlot (port : Nat)
  /-- A device that appeared after inauguration (R206). -/
  | newDevice (port : Nat) (id : Word)
  /-- Any other event that a rule has logged, under the rule's number, with one argument. -/
  | rule (r : Nat) (arg : Nat)
  deriving DecidableEq, Repr

/-! ### Clock islands (chapter 11) -/

/-- One clock island (Table 11-8; FREQ, FLOOR, OVERRIDE and IDLE_GATE are in its CLK_ISL_CTRL). -/
structure Island where
  /-- EFFECTIVE, in 25 MHz. -/
  eff : Nat
  /-- Stopped under R406 (IDLE_GATE). -/
  idle : Bool
  /-- Held stopped by the sequencer of its domain (R407). -/
  held : Bool
  /-- THROTTLED. -/
  throttled : Bool
  dead : Bool
  lockFail : Bool
  /-- A setting stored while the island was stopped, to be taken at the restart (R407, Table 11-5). -/
  stored : Bool
  /-- Longest pause in 10 ns, and number of pauses (CLK_ISL_PAUSE). -/
  longest : Nat
  pauses : Nat
  deriving DecidableEq, Repr

/-- A frequency change, of one island or of a group (R397 to R402). -/
structure Change where
  id : Nat
  members : List Nat
  /-- Whether it waits for the guard window (R402). -/
  deferred : Bool
  /-- Once it has fallen due: when the pause began, and each member's new effective frequency. -/
  paused : Option Nat
  targets : List (Nat × Nat)
  deriving DecidableEq, Repr

/-- The CLK_ block. -/
structure Clk where
  islands : SMap Island
  /-- Changes pending, deferred or in their pause, in the order requested. -/
  changes : List Change
  nextId : Nat
  /-- WARN, HOT and CRIT as the device temperature stands (CLK_STAT). -/
  warn : Bool
  hot : Bool
  crit : Bool
  refOk : Bool
  /-- End of the last alarm pause, if there has been one since reset (CLK_GUARD_END). -/
  guardEnd : Option Nat
  /-- Sensor readings in 0.25 °C, and VALID. -/
  temps : SMap Int
  valid : SMap Bool
  /-- Sensors marked invalid (R413). -/
  bad : SMap Bool
  deriving DecidableEq, Repr

/-! ### Power domains (chapter 12) -/

/-- STATE of PWR_DOM_STAT. -/
inductive DomState where
  | off | waking | on | draining | retained
  deriving DecidableEq, Repr

/-- STEP of PWR_DOM_STAT. -/
inductive DomStep where
  | none | drain | clkStop | isolate | reset | switch | discharge | precharge | close | raise | clock
  | release | reversing
  deriving DecidableEq, Repr

/-- One switched domain (Tables 12-10 and 12-11). -/
structure Domain where
  target : Nat
  st : DomState
  step : DomStep
  swClosed : Bool
  isolated : Bool
  inReset : Bool
  depWait : Bool
  /-- Its place in the queue for a wake, when it waits (WAKE_QUEUED, R430). -/
  queued : Option Nat
  reversed : Bool
  revViaOff : Bool
  drainFail : Bool
  retLost : Bool
  /-- FAULT; 0 for none (FAULTED). -/
  fault : Nat
  /-- The course began with the supply lowered to retention level. -/
  lowered : Bool
  /-- The course has been forced (R436). -/
  forced : Bool
  /-- The supply of its arrays has been off since the domain was last ON (R418). -/
  cold : Bool
  /-- When the step in progress began. -/
  since : Nat
  deriving DecidableEq, Repr

/-- The PWR_ block. -/
structure Pwr where
  domains : SMap Domain
  nextQueue : Nat
  /-- Members of the last group write that have not reached its target (GROUP_BUSY). -/
  group : List Nat
  groupTarget : Nat
  /-- A Rosemary commit is in progress (COMMIT). -/
  commit : Bool
  /-- The faulted domains for which Tymor has written CLEAR and TARGET ON (R499). -/
  retried : List Nat
  deriving DecidableEq, Repr

/-! ### The fabric and the Itard link (chapter 5) -/

/-- The 64 completion counters of an endpoint or memory set (R175, R176). -/
structure CcSet where
  val : SMap (BitVec 32)
  under : Word
  underCount : Nat
  /-- When each counter last had a tagged arrival (R177). -/
  hitAt : SMap (Option Nat)
  deriving DecidableEq, Repr

/-- One flow into a mailbox: the next SEQ expected and the packets that wait in the reorder window (R178). -/
structure FlowIn where
  next : Nat
  held : SMap (Option Packet)
  deriving DecidableEq, Repr

/-- A mailbox of a software endpoint, with its flows by source EID × 256 + FLOW. -/
structure Mailbox where
  queue : List Packet
  flows : SMap FlowIn
  deriving DecidableEq, Repr

/-- STATE of ITD_STAT. -/
inductive ItdState where
  | down | training | up | retrain
  deriving DecidableEq, Repr

/-- An Itard port (Table 5-15, R185, R186, R192, R193). -/
structure ItdPort where
  st : ItdState
  lock0 : Bool
  lock1 : Bool
  aligned : Bool
  vc3Only : Bool
  inaugFail : Bool
  peerId : Word
  /-- Training has ended with no partner: an open end (Table 5-12). -/
  openEnd : Bool
  /-- The devices beyond this port that the flooded lists have named, nearest first, each by its ID and the port on which it faces this
  device; and the whole of them, once the lists give them to the end (Table 5-12). -/
  heard : List (Word × Nat)
  chain : Option (List (Word × Nat))
  /-- The skew of the lanes that training found, in blocks (R184). -/
  skew : Nat
  /-- Next link sequence number expected, and the next to send. -/
  rxSeq : Nat
  txSeq : Nat
  /-- Packets sent and not acknowledged, with their link sequence numbers; consecutive replays of the first. -/
  replay : List (Nat × Packet)
  replays : Nat
  /-- The transmit queue, the packets for which it has no room yet, and whether endpoints hold VC0 packets for this port (R180). -/
  txq : List Packet
  txWait : List Packet
  hold : Bool
  /-- The flits that the far receiver can still take (Table 5-5). -/
  credits : Credits
  /-- Packets received since the last ACK, and since when one waits; the number last acknowledged; the number from which a NAK has asked for
  a replay that has not come yet. -/
  unacked : Nat
  ackAt : Nat
  lastAck : Option Nat
  nak : Option Nat
  /-- Replays, and CRC errors, since the last congestion map (Table 5-6). -/
  mapReplays : Nat
  mapCrc : Nat
  /-- The neighbour's slot and device ID as inaugurated, the last heartbeat and the intervals missed (R193, R197). -/
  neighbour : Option Nat
  mateId : Word
  hbAt : Option Nat
  missed : Nat
  deriving DecidableEq, Repr

/-- A learn-table entry (Table 5-8); AGE follows from when the EID was last seen on PORT. -/
structure Learn where
  st : Nat
  port : Nat
  suppress : Bool
  seen : Nat
  conflictAt : Nat
  deriving DecidableEq, Repr

/-- Where inauguration stands (Table 5-12). -/
inductive Inaug where
  | idle | training | flooding | learning | settled
  deriving DecidableEq, Repr

/-- A slot descriptor: stream URL, credential reference, stream destination, ring base and size (R80). -/
structure SlotDesc where
  url : List Byte
  cred : Nat
  dst : BitVec 32
  port : BitVec 16
  ringBase : Nat
  ringSize : Nat
  deriving DecidableEq, Repr

/-- No descriptor taken yet. -/
def noDesc : SlotDesc := { url := [], cred := 0, dst := 0, port := 0, ringBase := 0, ringSize := 0 }

/-- What a device of the set has told slot 0 for the plan: class and binding of each of its stream slots (R197, Table 5-10). -/
abbrev SlotUse := List (Nat × Nat)

/-- The fabric, the fabric manager and the Itard ports. -/
structure Fab where
  slot : Nat
  setSize : Nat
  gen : Nat
  /-- View of the set: 0 ALIVE, 1 LOST, 2 UNREACHABLE, 3 PARTITIONED, by slot (FAB_HB_STAT). -/
  view : SMap Nat
  /-- ITARD_FWD faces the slot-0 end of the chain (orient, Table 5-10). -/
  facing : Bool
  /-- Routing entries [7:0] that have been written (Table 5-4), by router × 8192 + 4096 + local index for the own slot and
  router × 8192 + EID for the others. -/
  routes : SMap (Option (BitVec 8))
  learn : SMap Learn
  ports : SMap ItdPort
  /-- Counters by endpoint or set (the DRAM set at 0x048, the slice set of cluster c at 0x050 + 8c). -/
  cc : SMap CcSet
  boxes : SMap Mailbox
  /-- Next request tag of each local index (R223). -/
  tagOut : SMap Nat
  /-- Next SEQ of each flow that this device sends, by local index × 256 + FLOW (R178). -/
  flowOut : SMap Nat
  /-- Packets in flight on the on-die fabric, in no order (R175). -/
  net : List Packet
  /-- VC0 packets that their endpoints hold, oldest first, and since when an endpoint, by its local index, holds new ones (R179, R180). -/
  held : List Packet
  holding : SMap (Option Nat)
  /-- The packets in the crossings into endpoints whose islands do not run, by local index (R391, R395). -/
  cross : SMap (List Packet)
  /-- RLEN of the READ_REQs sent and not answered, by local index × 65536 + tag (Table 5-9). -/
  asked : SMap (Option Nat)
  /-- Consecutive maps in which an output was hot and its alternate cool, and in which it was not, by router × 64 + output × 8
  + alternate (R182). -/
  hotRun : SMap Nat
  coolRun : SMap Nat
  inaug : Inaug
  inaugAt : Nat
  /-- Inauguration has set FAB_SLOT (R190). -/
  known : Bool
  /-- At slot 0: what each slot has reported for the plan. At every device: the descriptors received, by lost slot × 16 + stream slot
  (R198). -/
  reports : SMap (Option SlotUse)
  descs : SMap (Option SlotDesc)
  /-- The slot-0 manager has been asked for the plan again (R198). -/
  planAsked : Bool
  /-- The slots whose loss this device's manager has applied the plan for (R194). -/
  applied : List Nat
  hbNumber : Nat
  hbSentAt : Option Nat
  deriving DecidableEq, Repr

/-! ### Memory, the DMA and halo engines (chapter 10) -/

/-- Whether a descriptor is in progress, its data moved and its completion awaited. -/
inductive EngPhase where
  | idle | confirming
  deriving DecidableEq, Repr

/-- A DMA or halo engine (Table 10-10). -/
structure Engine where
  /-- A wake has come since the engine last found VALID clear (R371). -/
  awake : Bool
  phase : EngPhase
  size : Nat
  head : Nat
  halted : Bool
  lastErr : Nat
  bytes : Nat
  /-- When the last write of the descriptor left the engine (R382, code 0x07). -/
  sentAt : Nat
  deriving DecidableEq, Repr

/-- The memory block. -/
structure Mem where
  /-- TRAINED per channel and ECC_INIT_DONE. -/
  trained : BitVec 4
  eccDone : Bool
  refresh : Nat
  /-- Bank groups whose initialisation is done, by 8c + g (READY). -/
  ready : SMap Bool
  /-- Poisoned 64-bit words, by address / 8 (R368, R379). -/
  poison : SMap Bool
  scrubAt : SMap Nat
  deriving DecidableEq, Repr

/-- A control core's registers that a rule names (R376, R465), and the load through the fabric that it awaits: its address and size. -/
structure CtlCore where
  satp : Word
  stimecmp : Word
  load : Option (Nat × Nat)
  deriving DecidableEq, Repr

/-- A 64-byte line of the control cores' caches (Table 14-1). -/
structure CtlLine where
  data : List Byte
  dirty : Bool
  deriving DecidableEq, Repr

/-- The control cores, and what their caches hold, which are coherent among the four (R377): by local address / 64. -/
structure CtlPort where
  cores : SMap CtlCore
  lines : SMap (Option CtlLine)
  deriving DecidableEq, Repr

/-! ### The PX cores (chapters 6 and 7) -/

/-- A register write. -/
inductive RVal where
  | s (i : Nat) (x : Word)
  | v (i : Nat) (x : BitVec 1024)
  | p (i : Nat) (x : BitVec 128)
  | a (i : Nat) (x : BitVec 4096)
  | tcr (n : Nat) (x : Word)
  deriving DecidableEq, Repr

/-- Where a load's bytes go: a scalar register with its extension, four scalar registers, a predicate. -/
inductive LoadDst where
  | s (i : Nat) (signed : Bool)
  | g (i : Nat)
  | p (i : Nat)
  deriving DecidableEq, Repr

/-- The operation of an atomic (Table 6-4). -/
inductive AmoOp where
  | add | swap | cas
  deriving DecidableEq, Repr

/-- The memory access of a non-resumable M syllable (Table 6-4 and `pld`, `pst`). -/
inductive MemOp where
  | none
  | load (dst : LoadDst) (addr size : Nat)
  | store (addr size val : Nat)
  | amo (op : AmoOp) (dst addr : Nat) (operand cmp : Word)
  | signal (eid cc : Nat)
  | ccadd (cc : Nat) (v : BitVec 32)
  | ccset (cc : Nat) (v : BitVec 32)
  | ccrd (dst cc : Nat)
  | ccwait (dst cc timeout : Nat)
  | fence
  | icinv (addr : Nat) (whole : Bool)
  deriving DecidableEq, Repr

/-- The vector memory instructions of Table 7-5 that are resumable. -/
inductive VmKind where
  | ld | lds | gather | st | sts | scatter | lda | sta
  deriving DecidableEq, Repr

/-- The resumable part of a syllable (R212, R233): a vector memory syllable with its fields and the element
boundary at which an interrupt is recognised, or a tensor instruction with its descriptor and fields. -/
inductive Res where
  | none
  | vm (kind : VmKind) (vd rb x pred ew : Nat) (stopAt : Option Nat)
  | tensor (op : Nat) (desc : Nat) (fields : Nat)
  deriving DecidableEq, Repr

/-- The control part of a B syllable (Table 6-5). -/
inductive Ctl where
  | none
  | jump (taken : Bool) (target : Nat) (link : Option Nat)
  | loopSet (l : Nat) (count : Nat) (endoff : Nat)
  | rfe (epc : Nat)
  | wfi | halt
  deriving DecidableEq, Repr

/-- A syllable with its operands read (R213): its class, the registers it reads, its register writes, its
memory access, its resumable part, its control part, and the causes it raises with their TVAL. -/
structure Syl where
  cls : Nat
  reads : List RName
  wr : List RVal
  mem : MemOp
  res : Res
  ctl : Ctl
  faults : List (Nat × Nat)
  deriving DecidableEq, Repr

/-- STATE of PXC_THR_STAT, RUN standing for RUN and WAIT; `stopLater` is STOPPING in the handler of a fault that came
first (Table 7-10). -/
inductive ThrState where
  | stopped | run | halted | stopping | stopLater
  deriving DecidableEq, Repr

/-- What the thread waits for with its bundle held. -/
inductive Wait where
  | none
  /-- `ccwait` (R224): destination, counter, timeout in cycles, since when. -/
  | ccwait (dst cc timeout since : Nat)
  | wfi
  | fence
  /-- An atomic sent as a packet (R222), by its tag: the bundle's other syllables have taken effect. -/
  | atomic (tag addr dst : Nat)
  /-- A vector memory syllable at element k whose request has the tag (R271, R272). -/
  | vmem (k tag : Nat)
  | tensor
  /-- The stores of a vector memory syllable have yet to leave the injection queue (R272). -/
  | drain
  /-- An exception is due once every outstanding load has returned (R239). -/
  | due
  deriving DecidableEq, Repr

/-- A fabric load outstanding (R225). -/
structure Load where
  tag : Nat
  addr : Nat
  size : Nat
  dst : LoadDst
  err : Bool
  deriving DecidableEq, Repr

/-- One hardware thread (R207). -/
structure Thread where
  st : ThrState
  s : SMap Word
  v : SMap (BitVec 1024)
  p : SMap (BitVec 128)
  a : SMap (BitVec 4096)
  pc : Nat
  tcr : SMap Word
  /-- CAUSE of PXC_THR_STAT. -/
  cause : Nat
  bundles : Nat
  loads : List Load
  wait : Wait
  /-- The syllables of the bundle being gathered or held. -/
  bundle : List Syl
  /-- The held bundle's other syllables have taken effect (R233). -/
  started : Bool
  /-- Runs one bundle and is STOPPED again (PXC_THR_CTRL.STEP). -/
  once : Bool
  /-- Accesses of the bundle that take effect after the atomic or the vector memory syllable before them (R213, R226, Table 7-10). -/
  todo : List MemOp
  /-- The cause and TVAL of the exception that is due. -/
  due : Option (Nat × Nat)
  /-- The PC of its last START, its task's initial state; Tymor starts it again there once it has stopped (R468). -/
  entry : Nat
  again : Bool
  deriving DecidableEq, Repr

/-- What the four threads of a core share. -/
structure PxCore where
  initDone : Bool
  /-- Lines of code that the instruction cache may hold, by address / 64 (R236). -/
  icLines : SMap Bool
  deriving DecidableEq, Repr

/-! ### The tensor arrays and requantisation units (chapters 8 and 9) -/

/-- A tensor instruction as a thread issued it (R231): the cluster's thread number, the descriptor's address,
the T syllable's OP and fields, and whether it resumes a suspended one. -/
structure TInstr where
  thread : Nat
  op : Nat
  desc : Nat
  fields : Nat
  resume : Bool
  deriving DecidableEq, Repr

/-- The running instruction: its copy of the descriptor (as a number), the quadrants in use, the output block, the
first pixel of the current tile, the tile once sized (pixels, tap-blocks a step), and the steps of it done. -/
structure TRun where
  ins : TInstr
  d : Nat
  qmask : Nat
  ob : Nat
  px : Nat
  tile : Option (Nat × Nat)
  step : Nat
  /-- The output of this instruction is undefined from here on (Table 8-8). -/
  tainted : Bool
  deriving DecidableEq, Repr

/-- A tensor context that the array has written (R318): the number its opaque bytes are drawn by, and what it holds. -/
structure TCtx where
  id : Nat
  run : TRun
  deriving DecidableEq, Repr

/-- A tensor array. -/
structure Tar where
  initDone : Bool
  tmValid : Bool
  /-- Table memory: codebook m as four INT8 entries. -/
  table : SMap (BitVec 32)
  /-- Waiting and parked instructions, in the order in which their class is served (R315, R316). -/
  queue : List TInstr
  run : Option TRun
  qactive : Nat
  ctxs : List TCtx
  deriving DecidableEq, Repr

/-- A requantisation unit: the commits requested, each as its list of record addresses (R337, R353), the records
processed, and how many commits in a row each slot has stayed at smax (R355). -/
structure Qu where
  commits : List (List Nat)
  done : Nat
  atMax : SMap Nat
  deriving DecidableEq, Repr

/-- A weight tensor in training (R350): the weight codes w8, the master weights w16, momentum m8 and v16, and the scales s_g, s_m, s_v. -/
structure Trained where
  w8 : List Int
  w16 : List Int
  m8 : List Int
  v16 : List Int
  sG : Nat
  sM : Nat
  sV : Nat
  deriving DecidableEq, Repr

/-- On-device adaptation (R347 to R351). -/
structure Adapt where
  running : Bool
  /-- The sample store, oldest first, each with whether it is held out, and how many samples have been taken. -/
  samples : List (List Byte × Bool)
  taken : Nat
  /-- Accepted weights waiting for the moment when no count window is open. -/
  waiting : Option (List Trained)
  /-- The weights accepted and in effect, with their optimiser state; none for the shipped ones. -/
  deltas : List Trained
  rejections : Nat
  /-- The warning package's weights have failed their check (R347). -/
  hashBad : Bool
  deriving DecidableEq, Repr

/-! ### Thyme, the cab and VEH (chapter 3) -/

/-- The state of Thyme (R109). -/
inductive ThyMode where
  | locked | holdover | freerun
  deriving DecidableEq, Repr

/-- Thyme: PTP time is local time plus `base`, plus as much of `slew` as has been worked off since `slewAt` (R111). -/
structure Thyme where
  mode : ThyMode
  base : Int
  slew : Int
  slewAt : Nat
  /-- The frequency correction in force, in ns per s; HOLDOVER keeps the last one (R109). -/
  freq : Int
  /-- Last measured offset in ns. -/
  offset : Int
  /-- Consecutive Sync messages with an offset below 10 µs. -/
  good : Nat
  master : Option Nat
  syncAt : Nat
  interval : Nat
  holdAt : Nat
  /-- When PTP time was stepped, while STEPPED stands. -/
  stepAt : Option Nat
  /-- PTP time in ns as latched by the last read of THY_LOCAL. -/
  latched : Nat
  /-- Masters heard in the 1 s interval `heardIn` (R118). -/
  heard : List Nat
  heardIn : Nat
  deriving DecidableEq, Repr

/-- One warning output: its read-back, the times of its edges, and the test pulse in progress (R100 to R103). -/
structure OutPin where
  rb : ReadBack
  rbAt : Nat
  /-- Last change of what the output is commanded to, test pulses included, and since when it has been held. -/
  edgeAt : Nat
  heldAt : Nat
  confirmed : Bool
  pulse : Option Nat
  pulseSeen : Bool
  /-- RB_FAULT. -/
  fault : Bool
  deriving DecidableEq, Repr

/-- The cab block (Tables 3-11 and 3-12). -/
structure Cab where
  inputs : BitVec 8
  raw : BitVec 8
  inAt : SMap Nat
  /-- When the run of samples at the raw level began, by input (R95). -/
  rawAt : SMap Nat
  /-- When the raw samples of an input changed, within the last 1000 samples (R97). -/
  rawChanges : SMap (List Nat)
  outA : OutPin
  outB : OutPin
  /-- The new pattern's changes of A and of B whose confirmation the alarm path awaits (R34). -/
  awaitA : Bool
  awaitB : Bool
  /-- When SAFE_CUT last opened. -/
  cutAt : Nat
  selfTestFail : Bool
  extDrive : Bool
  testAt : Nat
  passAt : Option Nat
  /-- Levels of the general output balls, and whether a commit has released them (R108). -/
  balls : Nat
  ballsFree : Bool
  deriving DecidableEq, Repr

/-- A count record (kind 20) or a degradation record (kind 30) that awaits its Mp (R92). -/
structure MdRecord where
  id : Nat
  kind : Nat
  data : List Byte
  tries : Nat
  sentAt : Option Nat
  deriving DecidableEq, Repr

/-- VEH as Tymor and Sage see it. -/
structure Veh where
  linkUp : Bool
  /-- A telegram has been accepted since the link last came up (R117). -/
  fresh : Bool
  /-- The last accepted telegram: its sequence counter, its fields and its time (R86). -/
  seq : Option (BitVec 32)
  flags : Nat
  runDir : Nat
  speed : Nat
  doorL : BitVec 16
  doorR : BitVec 16
  acceptedAt : Option Nat
  speedAt : Option Nat
  warnAt : Option Nat
  records : List MdRecord
  nextRecord : Nat
  degSeq : Nat
  /-- The last telegram sent of each kind, by ComId offset × 16 + car slot: its ComId and its dataset. -/
  last : SMap (Nat × List Byte)
  /-- Since when CAB_ACTIVE, and REVERSE, have differed from VEH, and whether for more than 500 ms (R14). -/
  differs : Option Nat
  differsRev : Option Nat
  disagree : Bool
  disagreeRev : Bool
  /-- Since when the ego speed has been valid and zero (R514). -/
  stillSince : Option Nat
  deriving DecidableEq, Repr

/-- ENC0 (Table 3-13). -/
structure Enc where
  running : Bool
  busy : Bool
  slot : Nat
  size : Bool
  rate : Nat
  waitIrap : Bool
  bytes : Nat
  /-- The picture being encoded is an IRAP picture, and when the last one was begun (R112). -/
  irap : Bool
  irapAt : Nat
  /-- The overlay of the picture: its boxes, as track and level, and the level as text (R112). -/
  boxes : List (Nat × Nat)
  level : Nat
  deriving DecidableEq, Repr

/-! ### Camera ingress and decoding (chapter 2) -/

/-- STATE of CAM_SLOT_STAT. -/
inductive SlotSt where
  | idle | connecting | running | shedding | rejected | lost
  deriving DecidableEq, Repr

/-- A complete access unit, with the parameter set that it uses. -/
structure AUnit where
  ts : BitVec 32
  data : List Byte
  irap : Bool
  nonRef : Bool
  sps : Option Sps
  pathStart : Nat
  capture : Option Nat
  /-- When it became complete. -/
  doneAt : Nat
  deriving DecidableEq, Repr

/-- An access unit in a slot's bitstream ring (R58): its arrival in local and in PTP time, its RTP timestamp, its codec, whether it is an
IRAP picture, whether it was shed from decode, its bytes. -/
structure RingUnit where
  time : Nat
  stamp : Nat
  ts : BitVec 32
  h265 : Bool
  irap : Bool
  shed : Bool
  data : List Byte
  deriving DecidableEq, Repr

/-- A stream slot (Tables 2-2, 2-7 and 2-8). -/
structure Slot where
  st : SlotSt
  reject : Nat
  h265 : Bool
  rtsp2 : Bool
  mcast : Bool
  degraded : Bool
  onAlt : Bool
  /-- The RTSP request whose answer is awaited, and since when. -/
  asked : Option RtspMethod
  askedAt : Nat
  redirected : Bool
  answered401 : Bool
  /-- PLAY has been answered, and when; the session timeout in seconds; the last keepalive. -/
  playAt : Option Nat
  timeout : Nat
  keptAt : Nat
  offer : Option Sdp
  /-- The back-off in ms, and since when it runs (R60). -/
  backoff : Nat
  waitingSince : Option Nat
  rtpAt : Nat
  ssrc : BitVec 32
  /-- The descriptor with which the slot was started (R80). -/
  desc : SlotDesc
  /-- Units are dropped up to the next IRAP picture. -/
  resync : Bool
  /-- The rest of the GOP is skipped (R69, R70). -/
  skipping : Bool
  /-- The packets gathered with their times of arrival, and the sequence number at which the next unit begins (R33, R57). -/
  parts : List (Nat × RtpPacket)
  first : Option (BitVec 16)
  /-- The bitstream ring, oldest unit first (R58), and how many units it has given up. -/
  ring : List RingUnit
  ringFirst : Nat
  queue : List AUnit
  /-- The parameter set in use at the decoder, and the last that arrived (R64, R66). -/
  sps : Option Sps
  spsIn : Option Sps
  /-- Pixels per second. -/
  demand : Nat
  rate : Nat
  /-- The rate at which the bucket fills: RATE, but of class C from the next IRAP picture (Table 2-5). -/
  fill : Nat
  bucket : Int
  filledAt : Nat
  /-- Units and charges that arrived in the epoch, and frames per second of the last one. -/
  units : Nat
  charges : Nat
  fps : Nat
  equalSince : Option Nat
  /-- When pictures of the slot were decoded, within the last second (R71). -/
  decoded : List Nat
  slowAt : Option Nat
  /-- When the slot first came to RUNNING since its START; since when it has been SHEDDING. -/
  ranSince : Option Nat
  shedAt : Option Nat
  reportAt : Nat
  /-- The latest sender report: its time in ns and the RTP timestamp it belongs to. -/
  report : Option (Nat × BitVec 32)
  /-- Frames and GOPs skipped since the last degradation record. -/
  newFrames : Nat
  newGops : Nat
  deriving DecidableEq, Repr

/-- A decoder engine: the slot and unit it decodes, since when, and its failed resets (R77). -/
structure DecEngine where
  job : Option (Nat × AUnit)
  since : Nat
  trips : List Nat
  deriving DecidableEq, Repr

/-- The picture in a slot's DRAM buffer with its descriptor (R55): NV12 with the line stride; its samples are the free values of one
draw. (DEDUCED, log 118) -/
structure Picture where
  slot : Nat
  width : Nat
  height : Nat
  ts : BitVec 32
  pathStart : Nat
  capture : Option Nat
  irap : Bool
  concealedNone : Bool
  stride : Nat
  draw : Nat
  deriving DecidableEq, Repr

/-- The ingress block. -/
structure Cam where
  slots : SMap Slot
  engines : SMap DecEngine
  portUp : SMap Bool
  rxFrames : SMap Nat
  pics : SMap (Option Picture)
  epochAt : Nat
  /-- Since when any slot has been SHEDDING, and since when none has been. -/
  shedSince : Option Nat
  calmSince : Option Nat
  /-- When the shedding that the degradation records tell of began (R74). -/
  shedBegan : Nat
  /-- When the last degradation record went out, while records are active (R74). -/
  recordAt : Option Nat
  deriving DecidableEq, Repr

/-! ### The services (chapters 1 and 14) -/

/-- An open count window (R23, Table 3-5). -/
structure Window where
  door : DoorId
  car : Nat
  seq : Nat
  /-- Opening time in PTP ns, and in local time. -/
  opened : Nat
  openedAt : Nat
  flags : BitVec 5
  /-- When the later source showed the release ended. -/
  ending : Option Nat
  /-- Time out of service so far, and since when (NO_VIDEO). -/
  outTotal : Nat
  outSince : Option Nat
  differs : Option Nat
  /-- PTP time has been stepped while the window was open (Table 3-9). -/
  stepped : Bool
  /-- The crossings counted are a free value: this one. -/
  draw : Nat
  deriving DecidableEq, Repr

/-- An incident and its clip (R26 to R28, R93, R487). -/
structure Incident where
  id : Nat
  car : Nat
  triggers : BitVec 3
  /-- Time of the first trigger, in PTP ns and in local time; the clip's end. -/
  trigger : Nat
  startAt : Nat
  endAt : Nat
  slots : BitVec 12
  request : BitVec 32
  clipOpen : Bool
  noClip : Bool
  /-- The fifth that awaited narration (R28); the rings held less than 15 s at the trigger (R58). -/
  fifth : Bool
  short : Bool
  /-- Clip data awaits a cartridge (R151); the first unit of each slot, by its number, that no cartridge has taken; some of it has been
  lost. -/
  waits : Bool
  cursor : SMap Nat
  lost : Bool
  /-- Awaits narration; its account is being generated; its account has ended. -/
  narrate : Bool
  started : Bool
  ended : Bool
  tokens : Nat
  text : List Byte
  segment : Nat
  segAt : Nat
  /-- Segments held while VEH is down. -/
  held : List (List Byte)
  deriving DecidableEq, Repr

/-- A task's faults within the last 60 s, whether it is held (R468), and whether its code and windows are loaded (R196). -/
structure TaskState where
  faults : List Nat
  held : Bool
  loaded : Bool
  deriving DecidableEq, Repr

/-- A job of a lost device taken over (R195, R196). -/
structure Adopted where
  lost : Nat
  job : Nat
  cls : Nat
  binding : Nat
  slot : Nat
  deriving DecidableEq, Repr

/-- A job that the plan, as applied here, has given to another device: device, stream slot, lost slot, job, and when (R195). -/
structure Placed where
  dev : Nat
  slot : Nat
  lost : Nat
  job : Nat
  at' : Nat
  started : Bool
  deriving DecidableEq, Repr

/-- Tymor's services. -/
structure Tram where
  windows : List Window
  nextWindow : Nat
  incidents : List Incident
  nextIncident : Nat
  tasks : SMap TaskState
  /-- Narration shed by overload (R484), and since when it has fitted. -/
  narrShed : Bool
  /-- Reason 0x06 has ended (R45). -/
  started : Bool
  /-- Slots whose jobs are being moved, with the time of the declaration (reason 0x05). -/
  moving : List (Nat × Nat)
  adopted : List Adopted
  /-- Jobs given to other devices (R195). -/
  placed : List Placed
  /-- Lost slot and class of the jobs that found no place (R195). -/
  unplaced : List (Nat × Nat)
  /-- Reason 0x12 for a door (R14, Table 1-4). -/
  releaseDiffers : List DoorId
  stage : Nat
  /-- FREQ of the islands that stage 1 caps, as it stood before (R486). -/
  stageFreqs : List (Nat × Nat)
  /-- Since when the temperature has been 5 °C below the stage's threshold (R486). -/
  coolSince : Option Nat
  /-- FORCE_C as it stood before this arm, while ARMED (R444). -/
  forceBefore : Option Bool
  busyAt : Nat
  /-- The layers of the alarm partition that this frame has re-run, or has been denied (R345, R346). -/
  reruns : List Nat
  /-- When the last frame of the alarm path was abandoned (R469). -/
  abandonedAt : Option Nat
  /-- The reasons reported last, for the fault log (R485). -/
  reported : List Nat
  deriving DecidableEq, Repr

/-- The packages in force, and those verified and waiting (R495, R496). -/
structure Pkgs where
  warning : Option Package
  counting : Option Package
  narration : Option Package
  waiting : List Package
  deriving DecidableEq, Repr

/-! ### Sage (chapter 14) -/

/-- STATE of SGE_STAT. -/
inductive SageSt where
  | reset | selftest | safe | run | latched
  deriving DecidableEq, Repr

/-- A tracked object: d and edge in mm, v_o in mm/s, accepted frames so far. -/
structure Track where
  id : Nat
  d : Nat
  edge : Int
  vo : Int
  frames : Nat
  deriving DecidableEq, Repr

/-- A car that Sage serves (R476, R493): its tracks, its level, when each level was last raised, and what it publishes. -/
structure CarView where
  tracks : List Track
  level : Nat
  levelAt : Nat
  raised : SMap (Option Nat)
  lastPath : Option Nat
  ttc : Nat
  distance : Nat
  deriving DecidableEq, Repr

/-- The Sage pair. -/
structure Sage where
  st : SageSt
  cars : SMap CarView
  /-- The pattern's phase: asserted or not, since when. -/
  high : Bool
  phaseAt : Nat
  /-- The vehicle area as taken (R479). -/
  flags : Nat
  runDir : Nat
  speed : Nat
  speedAt : Option Nat
  /-- Reason 0x02. -/
  stale : Bool
  /-- The running direction in force, and since when. -/
  dir : Option Bool
  dirAt : Nat
  detectedAt : Option Nat
  /-- Reason 0x01 by the 200 ms of R43. -/
  blind : Bool
  kickAt : Nat
  beatAt : Nat
  hbMissed : Bool
  /-- Lockstep mismatches and watchdog expiries within the last hour (R481). -/
  events : List Nat
  /-- Reason 0x0A stands; a fault of R41 awaits its self-test and frame; since when the safe state has been held. -/
  faulted : Bool
  held : Bool
  safeSince : Nat
  statusSeq : Nat
  statusAt : Nat
  statusStale : Bool
  lateAt : Option Nat
  deriving DecidableEq, Repr

/-! ### The Bay cartridge (chapter 4) -/

/-- PHASE of BAY_STAT. -/
inductive BayPhase where
  | empty | identifying | mounting | mounted | removing | safe | offline
  deriving DecidableEq, Repr

/-- A journal entry (Table 4-7): type, flags, number, time, incident, device slot, car, slot mask, and its body as numbers. -/
structure JEntry where
  kind : Nat
  flags : Nat
  seq : Nat
  time : Nat
  incident : Nat
  dev : Nat
  car : Nat
  slots : Nat
  body : List Nat
  deriving DecidableEq, Repr

/-- A medium header (R140). -/
structure BayHeader where
  serial : BitVec 64
  salt : List Byte
  formatTime : Nat
  seq : Nat
  tailHint : Nat
  extentCount : Nat
  deriving DecidableEq, Repr

/-- An extent of the clip area in use (R138, R144). -/
structure Extent where
  index : Nat
  archive : Bool
  clip : BitVec 32
  deriving DecidableEq, Repr

/-- A clip being written to the mounted cartridge (R143): its incident_id (0 for archive) and slots; from when it takes units, and the
next unit of each slot; its records so far. Of the extent being written: its index, where its records begin, the units taken before it,
and how many units it holds. -/
structure Clip where
  id : Nat
  car : Nat
  slots : BitVec 12
  startAt : Nat
  cursor : SMap Nat
  data : List Byte
  extent : Option Nat
  extStart : Nat
  extCursor : SMap Nat
  units : Nat
  deriving DecidableEq, Repr

/-- A write of namespace 1 that is outstanding: its class, its first LBA, its bytes before encryption, and the entries of a journal
block. -/
structure BayIo where
  what : BayWrite
  lba : Nat
  data : List Byte
  entries : List JEntry
  deriving DecidableEq, Repr

/-- The journal tail of a save (Table 13-4): the cartridge's serial, the ledger increment in bytes, and the entries not on the medium. -/
structure JTail where
  serial : BitVec 64
  increment : Nat
  entries : List JEntry
  deriving DecidableEq, Repr

/-- The Bay block and the cartridge as the VT12 knows it. -/
structure Bay where
  phase : BayPhase
  /-- Debounced presence and latch; and the pins as sampled, with the time at which they came to their level (R126). -/
  present : Bool
  latched : Bool
  rawPresent : Bool
  presentAt : Nat
  rawLatch : Bool
  latchAt : Nat
  life : Nat
  retire : Nat
  cause : Nat
  safe : Bool
  serial : BitVec 64
  mfg : Nat
  /-- Authentication: attempts that have failed in this course, when the last failed, whether the last check passed. -/
  fails : Nat
  failedAt : Option Nat
  certOk : Bool
  authAt : Option Nat
  /-- The serial number that Identify gave (R127). -/
  sn : List Byte
  /-- The secure element's record as last known, the reconciled record, and SMART percentage used. -/
  element : Ledger
  ledger : Ledger
  smart : Nat
  linkAt : Option Nat
  mountAt : Nat
  /-- When the removal began, and how far it is: 0 writes outstanding, 1 closing block formed, 2 flushed, 3 ledger added; in MOUNTING, 1
  once the controller is ready. -/
  removeAt : Option Nat
  step : Nat
  /-- The latch has closed again during the removal (Table 4-10). -/
  again : Bool
  /-- The header last written and the LBA of its copy; the last block_seq and the place of the next block in the ring. -/
  header : BayHeader
  headerAt : Nat
  blockSeq : Nat
  blockPos : Nat
  /-- The last entry_seq; the entries that wait for a block, and since when. -/
  entrySeq : Nat
  entries : List JEntry
  pendingAt : Option Nat
  /-- Extents in use, oldest first; the clips being written; the writes outstanding, oldest first. -/
  extents : List Extent
  clips : List Clip
  io : List BayIo
  /-- Bytes written since the last ledger update, and when that was. -/
  bytes : Nat
  ledgerAt : Nat
  /-- When the last hourly update ran (R134). -/
  hourAt : Nat
  /-- The cause that has brought the life to 1.0 while extents are still being written (R136). -/
  retiring : Option Nat
  abandoned : List Nat
  /-- Recovery attempts made (R154); none while the link is good. -/
  recovering : Option Nat
  hadHeader : Bool
  /-- The clip being exported through MAINT (R155). -/
  exporting : Option (BitVec 32)
  /-- The journal tail restored from Rosemary (R157). -/
  tail : Option JTail
  deriving DecidableEq, Repr

/-! ### Rosemary (chapter 13) -/

/-- PHASE of HLD_STAT. -/
inductive HldPhase where
  | disabled | idle | armed | saving | saved
  deriving DecidableEq, Repr

/-- A save area (Tables 13-4 and 13-5): its header fields, the staging image as copied, and the items as their owners had
them. -/
structure Save where
  /-- 0 none, 1 WRITING, 2 VALID, 3 CONSUMED. -/
  state : Nat
  seq : Nat
  flags : Nat
  ptp : Nat
  quality : Nat
  slot : Nat
  gen : Nat
  warnHash : BitVec 256
  countHash : BitVec 256
  fresh : BitVec 16
  bad : BitVec 16
  vCommit : Nat
  vDone : Nat
  image : List Byte
  windows : List Window
  records : List MdRecord
  incidents : List Incident
  tail : Option JTail
  deltas : List Trained
  /-- The scale-slot tables of the packages in force, with the package's hash (item 6). -/
  slotTables : List (BitVec 256 × List (List Byte))
  thyme : Option Thyme
  deriving DecidableEq, Repr

/-- A ledger area (R452): its sequence number, whether it is valid, and its entries, least recently mounted first. -/
structure LedgerArea where
  valid : Bool
  seq : Nat
  entries : List (BitVec 64 × Ledger)
  deriving DecidableEq, Repr

/-- How many samples running have met each condition of Table 13-1 and of R459 and R460: HOLD_SENSE below ARM, SUPPLY_FAIL_N low, both
back, HOLD_SENSE below CRIT; HOLD_SENSE at the fault level with SUPPLY_FAIL_N high; SUPPLY_FAIL_N high. -/
structure SupplyRuns where
  arm : Nat
  fail : Nat
  back : Nat
  crit : Nat
  dead : Nat
  high : Nat
  deriving DecidableEq, Repr

/-- Rosemary and its MRAM. -/
structure Hld where
  phase : HldPhase
  senseFault : Bool
  failNFault : Bool
  partialSave : Bool
  forceSet : Bool
  armedAt : Nat
  /-- Latest HOLD_SENSE code, and the lowest since HLD_SENSE was read. -/
  code : Nat
  lowest : Nat
  runs : SupplyRuns
  commitAt : Nat
  saves : SMap Save
  /-- The area that the save in progress writes. -/
  writing : Nat
  ledgers : SMap LedgerArea
  restoring : Option Nat
  restored : Nat
  /-- The save area restored since the start (R357, R462). -/
  restoredFrom : Option Nat
  /-- A ledger write, or a restore, is in progress since. -/
  busyAt : Nat
  byTrip : Bool
  /-- FORCE_C was written by firmware while ARMED (R444). -/
  forceWritten : Bool
  deriving DecidableEq, Repr

/-! ### Start-up, reset and the board (chapters 15 and 16) -/

/-- The SYS_, BOOT_ and SEC_ blocks beyond their registers, the boot flash, the fuses, and the ports without a block. -/
structure Sys where
  /-- A WARM request that has not taken effect, and since when (R505); the power-on reset is asserted. -/
  warmAt : Option Nat
  porHeld : Bool
  /-- When the boot ROM jumped; when a failure code was set; failed DRAM trainings (R523). -/
  jumpAt : Option Nat
  failAt : Option Nat
  ddrFails : Nat
  wdogArmed : Bool
  wdogAt : Nat
  /-- When the steps of R501 had completed (R514). -/
  servicesAt : Option Nat
  /-- Consecutive failed starts (R519). -/
  failedStarts : Nat
  /-- A thermal trip has occurred; THERMTRIP_N is low (R551). -/
  tripped : Bool
  tripPin : Bool
  /-- RESET_N came during a trip: the first sample at 120 °C trips again (Table 16-10). -/
  tripAgain : Bool
  /-- When the boot ROM gave up (R522). -/
  romFailAt : Option Nat
  /-- Interrupt sources claimed and not completed; events of sources that have no status register (R524). -/
  inService : List Nat
  events : List Nat
  /-- The boot flash, by flash address; what is not listed is erased. -/
  flash : SMap Byte
  /-- The flash command in progress: its bit in BOOT_XSPI_CMD, flash address, DRAM address and length. -/
  xspi : Option (Nat × Nat × Nat × Nat)
  secReady : Bool
  /-- A valid provisioning record stands (R511); burnt counter bits; rollback floors; fuses of the firmware. -/
  provisioned : Bool
  /-- The clip root of the key store (R139). -/
  clipRoot : BitVec 256
  provCount : Nat
  floorWarning : Nat
  floorCounting : Nat
  floorNarration : Nat
  floorFirmware : Nat
  revoke : Nat
  debugUnlocked : Bool
  /-- Where the security engine has come to in its ring (SEC_RING_TAIL as last submitted, and completed). -/
  secTail : Nat
  secDone : Nat
  /-- The copies of the commissioning record: sequence number and settings (R512). -/
  commA : Option (Nat × List Setting)
  commB : Option (Nat × List Setting)
  hostUp : Bool
  maintUp : Bool
  /-- The log as MAINT last read it (R114). -/
  maintLog : List LogEvent
  deriving DecidableEq, Repr

/-! ### The whole -/

/-- The state of the VT12, with the queue of the commands that wait. -/
structure State where
  /-- The commands that wait, first in, first out. -/
  pending : List Instr
  /-- Thyme's local time in ns (THY_LOCAL). -/
  now : Nat
  bus : Bus
  /-- How many free values have been drawn. -/
  freeCtr : Nat
  log : List LogEvent
  /-- Registers, by physical address; one that is not listed holds its reset value. -/
  regs : SMap Word
  /-- DRAM, SRAM tier and scratchpads by local address, one byte each; one not listed reads as zero. -/
  mem : SMap Byte
  clk : Clk
  pwr : Pwr
  fab : Fab
  memb : Mem
  dmas : SMap Engine
  halos : SMap Engine
  thr : SMap Thread
  cores : SMap PxCore
  tars : SMap Tar
  qus : SMap Qu
  adapt : Adapt
  thy : Thyme
  cab : Cab
  veh : Veh
  enc : Enc
  cam : Cam
  tram : Tram
  pkgs : Pkgs
  sage : Sage
  bay : Bay
  hld : Hld
  sys : Sys
  ctl : CtlPort
  deriving DecidableEq, Repr

/-! ### Reset -/

/-- An island at reset: at the effective frequency of R414, running. -/
def islandReset (i : Nat) : Island :=
  { eff := if i < 183 then Nat.max (freqAtReset i) (if i = 156 then 28 else floorAtReset i)
           else if i = 183 ∨ i = 184 then 56 else if i < 191 then 28 else 0
    idle := false, held := false, throttled := false, dead := false, lockFail := false, stored := false
    longest := 0, pauses := 0 }

/-- A locked domain (Table 12-1). -/
def domLocked (d : Nat) : Bool :=
  (120 ≤ d && d ≤ 125) || d = 133 || (161 ≤ d && d ≤ 164) || (173 ≤ d && d ≤ 175)

/-- A domain at the release of the power-on reset: OFF, locked domains with TARGET ON (R439). -/
def domainReset (d : Nat) : Domain :=
  { target := num (domLocked d), st := .off, step := .none, swClosed := false, isolated := true, inReset := true
    depWait := false, queued := none, reversed := false, revViaOff := false
    drainFail := false, retLost := false, fault := 0, lowered := false, forced := false, cold := true, since := 0 }

/-- The counters of an endpoint after reset: zero (R203). -/
def ccReset (_ : Nat) : CcSet := { val := [], under := 0, underCount := 0, hitAt := [] }

/-- A mailbox after reset. -/
def boxReset (_ : Nat) : Mailbox := { queue := [], flows := [] }

/-- A flow into a mailbox after reset (R178). -/
def flowInReset (_ : Nat) : FlowIn := { next := 0, held := [] }

/-- An Itard port after reset: disabled, limited to VC3 (R203, Table 5-15). -/
def portReset (_ : Nat) : ItdPort :=
  { st := .down, lock0 := false, lock1 := false, aligned := false, vc3Only := true, inaugFail := false, peerId := 0
    openEnd := false, heard := [], chain := none, skew := 0, rxSeq := 0, txSeq := 0, replay := [], replays := 0, txq := [], txWait := []
    hold := false, credits := { vc0 := 512, vc1 := 512, vc3 := 64 }, unacked := 0, ackAt := 0, lastAck := none, nak := none
    mapReplays := 0, mapCrc := 0, neighbour := none, mateId := 0, hbAt := none, missed := 0 }

/-- A learn entry after reset: NONE (R203). -/
def learnReset (_ : Nat) : Learn := { st := 0, port := 0, suppress := false, seen := 0, conflictAt := 0 }

/-- An engine after reset: idle, ring size 0 (R384). -/
def engineReset (_ : Nat) : Engine :=
  { awake := false, phase := .idle, size := 0, head := 0, halted := false, lastErr := 0, bytes := 0, sentAt := 0 }

/-- A thread after reset: STOPPED, every register zero (R248). -/
def threadReset (_ : Nat) : Thread :=
  { st := .stopped, s := [], v := [], p := [], a := [], pc := 0, tcr := [], cause := 0, bundles := 0, loads := []
    wait := .none, bundle := [], started := false, once := false, todo := [], due := none, entry := 0, again := false }

/-- A core after reset: not initialised, instruction cache invalid (R248). -/
def coreReset (_ : Nat) : PxCore := { initDone := false, icLines := [] }

/-- A tensor array after reset: queue empty, TAR_STAT.QACTIVE 0xF (R327, Table 8-11). -/
def tarReset (_ : Nat) : Tar :=
  { initDone := false, tmValid := false, table := [], queue := [], run := none, qactive := 0xF, ctxs := [] }

/-- A requantisation unit after reset (R356). -/
def quReset (_ : Nat) : Qu := { commits := [], done := 0, atMax := [] }

/-- No adaptation has run. -/
def adaptReset : Adapt := { running := false, samples := [], taken := 0, waiting := none, deltas := [], rejections := 0, hashBad := false }

/-- Thyme after reset: FREERUN, PTP time at 0 (R109). -/
def thymeReset : Thyme :=
  { mode := .freerun, base := 0, slew := 0, slewAt := 0, offset := 0, freq := 0, good := 0, master := none, syncAt := 0, interval := 0
    holdAt := 0, stepAt := none, latched := 0, heard := [], heardIn := 0 }

/-- A warning output after reset: released (R120). -/
def outPinReset : OutPin :=
  { rb := .released, rbAt := 0, edgeAt := 0, heldAt := 0, confirmed := true, pulse := none, pulseSeen := false, fault := false }

/-- The cab block after reset: inputs released, outputs released, SAFE_CUT open (R120, R121). -/
def cabReset : Cab :=
  { inputs := 0, raw := 0, inAt := [], rawAt := [], rawChanges := [], awaitA := false, awaitB := false, outA := outPinReset, outB := outPinReset, cutAt := 0, selfTestFail := false
    extDrive := false, testAt := 0, passAt := none, balls := 0, ballsFree := false }

/-- VEH after reset: no telegram accepted, an empty record queue (R87, R119). -/
def vehReset : Veh :=
  { linkUp := false, fresh := false, seq := none, flags := 0, runDir := 0, speed := 0, doorL := 0, doorR := 0, acceptedAt := none
    speedAt := none, warnAt := none, records := [], nextRecord := 0, degSeq := 0, last := [], differs := none, differsRev := none
    disagree := false, disagreeRev := false, stillSince := none }

/-- ENC0 after reset: no view. -/
def encReset : Enc :=
  { running := false, busy := false, slot := 0xFF, size := false, rate := 0, waitIrap := true, bytes := 0, irap := false, irapAt := 0
    boxes := [], level := 0 }

/-- A stream slot after reset: IDLE (R79). -/
def slotReset (_ : Nat) : Slot :=
  { st := .idle, reject := 0, h265 := false, rtsp2 := false, mcast := false, degraded := false, onAlt := false
    asked := none, askedAt := 0, redirected := false, answered401 := false, playAt := none, timeout := 60, keptAt := 0
    offer := none, backoff := 250, waitingSince := none, rtpAt := 0, ssrc := 0, desc := noDesc, resync := true, skipping := false
    parts := [], first := none, ring := [], ringFirst := 0, queue := [], sps := none, spsIn := none, demand := 0, rate := 0, fill := 0, bucket := 0
    filledAt := 0, units := 0, charges := 0, fps := 0, equalSince := none, decoded := [], slowAt := none, ranSince := none, shedAt := none
    reportAt := 0, report := none, newFrames := 0, newGops := 0 }

/-- A decoder engine after reset: free. -/
def engineFree (_ : Nat) : DecEngine := { job := none, since := 0, trips := [] }

def camReset : Cam :=
  { slots := [], engines := [], portUp := [], rxFrames := [], pics := [], epochAt := 0, shedSince := none, calmSince := none
    shedBegan := 0, recordAt := none }

def taskReset (_ : Nat) : TaskState := { faults := [], held := false, loaded := false }

/-- The control cores after reset: translation Bare; the spec gives stimecmp no reset value. (DESIGN CHOICE, log 198) -/
def ctlCoreReset (_ : Nat) : CtlCore := { satp := 0, stimecmp := 0, load := none }
/-- Their caches hold nothing. -/
def ctlReset : CtlPort := { cores := [], lines := [] }

/-- No window, no incident; every service starting (R45). -/
def tramReset : Tram :=
  { windows := [], nextWindow := 0, incidents := [], nextIncident := 1, tasks := [], narrShed := false, started := false
    moving := [], adopted := [], placed := [], unplaced := [], releaseDiffers := [], stage := 0, stageFreqs := [], coolSince := none, forceBefore := none
    busyAt := 0, reruns := [], abandonedAt := none, reported := [] }

def pkgsReset : Pkgs := { warning := none, counting := none, narration := none, waiting := [] }

/-- A car before any list of it: no level, nothing tracked. -/
def carReset (_ : Nat) : CarView :=
  { tracks := [], level := 0, levelAt := 0, raised := [], lastPath := none, ttc := 0xFFFF, distance := 0xFFFF }

/-- Sage in RESET (R502, Table 14-13). -/
def sageReset : Sage :=
  { st := .reset, cars := [], high := false, phaseAt := 0, flags := 0, runDir := 0, speed := 0, speedAt := none
    stale := true, dir := none, dirAt := 0, detectedAt := none, blind := false, kickAt := 0, beatAt := 0, hbMissed := false
    events := [], faulted := false, held := false, safeSince := 0, statusSeq := 0, statusAt := 0, statusStale := false, lateAt := none }

def ledgerReset : Ledger := { state := 0, gb := 0, lastTime := 0, updates := 0 }

/-- No header known. -/
def headerReset : BayHeader := { serial := 0, salt := [], formatTime := 0, seq := 0, tailHint := 0, extentCount := 0 }

/-- No cartridge (R156). -/
def bayReset : Bay :=
  { phase := .empty, present := false, latched := false, rawPresent := false, presentAt := 0, rawLatch := false, latchAt := 0, life := 0
    retire := 0, cause := 0, safe := false, serial := 0, mfg := 0, fails := 0, failedAt := none, certOk := false, authAt := none, sn := []
    element := ledgerReset, ledger := ledgerReset, smart := 0, linkAt := none, mountAt := 0, removeAt := none, step := 0, again := false
    header := headerReset, headerAt := 0, blockSeq := 0, blockPos := 0, entrySeq := 0, entries := [], pendingAt := none, extents := []
    clips := [], io := [], bytes := 0, ledgerAt := 0, hourAt := 0, retiring := none, abandoned := [], recovering := none
    hadHeader := false, exporting := none, tail := none }

/-- A save area that holds nothing. -/
def saveReset (_ : Nat) : Save :=
  { state := 0, seq := 0, flags := 0, ptp := 0, quality := 0, slot := 0, gen := 0, warnHash := 0, countHash := 0, fresh := 0
    bad := 0, vCommit := 0, vDone := 0, image := [], windows := [], records := [], incidents := [], tail := none, deltas := [], slotTables := []
    thyme := none }

/-- A ledger area that holds nothing. -/
def ledgerAreaReset (_ : Nat) : LedgerArea := { valid := false, seq := 0, entries := [] }

/-- No sample yet. -/
def runsReset : SupplyRuns := { arm := 0, fail := 0, back := 0, crit := 0, dead := 0, high := 0 }

/-- Rosemary after reset: DISABLED (R461); the MRAM of a new device holds nothing. -/
def hldReset : Hld :=
  { phase := .disabled, senseFault := false, failNFault := false, partialSave := false, forceSet := false, armedAt := 0
    code := 0, lowest := 0xFFF, runs := runsReset, commitAt := 0, saves := [], writing := 0, ledgers := [], restoring := none
    restored := 0, restoredFrom := none, busyAt := 0, byTrip := false, forceWritten := false }

/-- Start-up and board after the first power-on: a new device, its flash erased, nothing provisioned. (DESIGN CHOICE, log 7) -/
def sysReset : Sys :=
  { warmAt := none, porHeld := false, jumpAt := none, failAt := none, ddrFails := 0, wdogArmed := false, wdogAt := 0
    servicesAt := none, failedStarts := 0, tripped := false, tripPin := false, tripAgain := false, romFailAt := none, inService := [], events := [], flash := []
    xspi := none, secReady := false, provisioned := false, clipRoot := 0, provCount := 0, floorWarning := 0, floorCounting := 0
    floorNarration := 0, floorFirmware := 0, revoke := 0, debugUnlocked := false, secTail := 0, secDone := 0, commA := none
    commB := none, hostUp := false, maintLog := [], maintUp := false }

def clkReset : Clk :=
  { islands := [], changes := [], nextId := 0, warn := false, hot := false, crit := false, refOk := true
    guardEnd := none, temps := [], valid := [], bad := [] }

def pwrReset : Pwr :=
  { domains := [], nextQueue := 177, group := [], groupTarget := 0, commit := false, retried := [] }

def fabReset : Fab :=
  { slot := 0, setSize := 1, gen := 0, view := [], facing := true, routes := [], learn := [], ports := [], cc := []
    boxes := [], tagOut := [], flowOut := [], net := [], held := [], holding := [], cross := [], asked := [], hotRun := [], coolRun := [], inaug := .idle
    inaugAt := 0, known := false, reports := [], descs := []
    planAsked := false, applied := [], hbNumber := 0, hbSentAt := none }

def membReset : Mem :=
  { trained := 0, eccDone := false, refresh := 0, ready := [], poison := [], scrubAt := [] }

/-- The machine right after the power-on reset is released (R439, R516): time 0 of Table 15-6. (DESIGN CHOICE, log 6; DEDUCED, log 8) -/
def State.reset : State :=
  { pending := [], now := 0, bus := { value := 0, error := false, page := false }, freeCtr := 0, log := [], regs := [(Reg.sysRstCause, 1)], mem := []
    clk := clkReset, pwr := pwrReset, fab := fabReset, memb := membReset, dmas := [], halos := [], thr := [], cores := [], tars := [], qus := []
    adapt := adaptReset, thy := thymeReset, cab := cabReset, veh := vehReset, enc := encReset, cam := camReset
    tram := tramReset, pkgs := pkgsReset, sage := sageReset, bay := bayReset, hld := hldReset, sys := sysReset
    ctl := ctlReset }

end Sys2Proof.Machine
end

