-- ==== Sys2Proof/Machine/Ops.lean ====
section
/-! DEFINITION. The named operations over the state: one home for every register, store and bit; every
read and write of a meaning goes through them. -/
namespace Sys2Proof.Machine

open Sys2Proof

/-- What a step answers. -/
abbrev Out := Host.Outcome State Fault Refusal

/-! ### Registers -/

/-- What the register at address a holds. -/
def State.reg (s : State) (a : Nat) : Word := get regReset s.regs a

/-- The register at address a set to v. -/
def State.setReg (s : State) (a : Nat) (v : Word) : State := { s with regs := put regReset s.regs a v }

/-- The field [hi:lo] of the register at a. -/
def State.fldAt (s : State) (a hi lo : Nat) : Nat := fld (s.reg a) hi lo

/-- Bit i of the register at a. -/
def State.bitAt (s : State) (a i : Nat) : Bool := bit (s.reg a) i

/-- The field [hi:lo] of the register at a set to v. -/
def State.setFldAt (s : State) (a hi lo v : Nat) : State := s.setReg a (setFld (s.reg a) hi lo v)

/-- Bit i of the register at a set: a status bit raised (R10). -/
def State.raise (s : State) (a i : Nat) : State := s.setReg a (s.reg a ||| oneBit i)

/-- The 32-bit counter at a, higher by n, saturating (R11). -/
def State.countBy (s : State) (a n : Nat) : State :=
  s.setReg a (BitVec.ofNat 64 (satAdd 32 (s.reg a).toNat n))

/-- The 32-bit counter at a, higher by one. -/
def State.count (s : State) (a : Nat) : State := s.countBy a 1

/-- The registers of addresses lo to hi - 1 at their reset values. -/
def State.resetRegs (s : State) (lo hi : Nat) : State :=
  { s with regs := s.regs.filter (fun e => decide (e.1 < lo) || decide (hi ≤ e.1)) }

/-- An event logged. -/
def State.logged (s : State) (e : LogEvent) : State := { s with log := s.log ++ [e] }

/-- An event of rule r logged, with an argument. -/
def State.logRule (s : State) (r arg : Nat) : State := s.logged (.rule r arg)

/-- The answer v to an access. -/
def State.answer (s : State) (v : Word) : State := { s with bus := { value := v, error := false, page := false } }

/-- The access-error response of R7. -/
def State.busError (s : State) : State := { s with bus := { value := 0, error := true, page := false } }

/-- A page fault of a control core (R376). -/
def State.pageFault (s : State) : State := { s with bus := { value := 0, error := true, page := true } }

/-- The number of the next free value, and the state that has drawn it. (DESIGN CHOICE, log 4) -/
def State.draw (s : State) : State := { s with freeCtr := s.freeCtr + 1 }

/-- f applied to the state where c holds. -/
def State.when (s : State) (c : Bool) (f : State → State) : State := if c then f s else s

/-- f applied for each element of a list, in order. -/
def State.each {α : Type} (s : State) (l : List α) (f : State → α → State) : State := l.foldl f s

/-! ### Who may reach a register (R7, R98, R359, R396, R556) -/

/-- The control-space block of an address. -/
def blockOf (a : Nat) : Nat := (a - blockBase 0) / 0x1_0000

/-- An address of control space (Table 10-1). -/
def inControl (a : Nat) : Bool := decide (0x18_0000_0000 ≤ a) && decide (a < 0x18_1000_0000)

/-- The registers that Sage alone may write (Tables 3-10 and 14-12). -/
def sageOnly (a : Nat) : Bool :=
  a = Reg.cabOutCmd || a = Reg.cabSafeCut || a = Reg.cabTest || a = Reg.sgeWdog || a = Reg.sgeCcSel || a = Reg.sgeCcAdd
    || (decide (Reg.sgeInboxMask 0 ≤ a) && decide (a < Reg.sgeLastPath))

/-- The registers that the control cores alone may write (Table 14-12). -/
def controlOnly (a : Nat) : Bool := a = Reg.sgeHb

/-- Whether the requester reaches control space at address a: the control cores everywhere, Sage its own
block and the CAB_ block (R359, R556). (DEDUCED, log 11) -/
def reaches (who : Requester) (a : Nat) : Bool :=
  match who with
  | .cc _ => true
  | .sage => blockOf a = 7 || blockOf a = 0x16
  | _ => false

/-- Whether the requester may write the register at a. -/
def mayWrite (who : Requester) (a : Nat) : Bool :=
  reaches who a &&
    match who with
    | .cc _ => !sageOnly a
    | .sage => !controlOnly a
    | _ => false

/-- Whether an access of the size fits the register at a, or the reserved register there (R7, R8). (DEDUCED, log 9; DEDUCED, log 10) -/
def fits (a size : Nat) : Bool :=
  inControl a && blockAssigned (blockOf a) && decide (a % size = 0) &&
    match regAt a with
    | some r => decide (size = if r.wide then 8 else 4)
    | none => decide (size = 4) && !upperHalf a

/-- The effect of a write of a register that is reached by a command of its own, with its access check. -/
def State.writeGuard (s : State) (who : Requester) (a : Nat) (f : State → State) : State :=
  if mayWrite who a then f (s.answer 0) else s.busError

/-- A write of the RW and W1C bits of the register at a (R10). -/
def State.plainWrite (s : State) (a : Nat) (r : RegSpec) (v : Word) : State :=
  let old := s.reg a
  let rw := BitVec.ofNat 64 r.rw
  s.setReg a (((old &&& ~~~rw) ||| (v &&& rw)) &&& ~~~(v &&& BitVec.ofNat 64 r.w1c))

/-- An event of an interrupt source that has no status register: it stays pending until it is claimed (R524). -/
def State.irq (s : State) (n : Nat) : State :=
  if s.sys.events.contains n then s else { s with sys := { s.sys with events := s.sys.events ++ [n] } }

/-! ### Stores of units -/

def State.island (s : State) (i : Nat) : Island := get islandReset s.clk.islands i
def State.setIsland (s : State) (i : Nat) (x : Island) : State :=
  { s with clk := { s.clk with islands := put islandReset s.clk.islands i x } }
def State.modIsland (s : State) (i : Nat) (f : Island → Island) : State := s.setIsland i (f (s.island i))

def State.dom (s : State) (d : Nat) : Domain := get domainReset s.pwr.domains d
def State.setDom (s : State) (d : Nat) (x : Domain) : State :=
  { s with pwr := { s.pwr with domains := put domainReset s.pwr.domains d x } }
def State.modDom (s : State) (d : Nat) (f : Domain → Domain) : State := s.setDom d (f (s.dom d))

def State.ccSet (s : State) (k : Nat) : CcSet := get ccReset s.fab.cc k
def State.setCcSet (s : State) (k : Nat) (x : CcSet) : State :=
  { s with fab := { s.fab with cc := put ccReset s.fab.cc k x } }

def State.port (s : State) (f : Nat) : ItdPort := get portReset s.fab.ports f
def State.setPort (s : State) (f : Nat) (x : ItdPort) : State :=
  { s with fab := { s.fab with ports := put portReset s.fab.ports f x } }
def State.modPort (s : State) (f : Nat) (g : ItdPort → ItdPort) : State := s.setPort f (g (s.port f))

def State.engine (s : State) (halo : Bool) (c : Nat) : Engine :=
  get engineReset (if halo then s.halos else s.dmas) c
def State.setEngine (s : State) (halo : Bool) (c : Nat) (x : Engine) : State :=
  if halo then { s with halos := put engineReset s.halos c x } else { s with dmas := put engineReset s.dmas c x }

/-- Thread t of core n. -/
def State.thread (s : State) (n t : Nat) : Thread := get threadReset s.thr (4 * n + t)
def State.setThread (s : State) (n t : Nat) (x : Thread) : State :=
  { s with thr := put threadReset s.thr (4 * n + t) x }
def State.modThread (s : State) (n t : Nat) (f : Thread → Thread) : State := s.setThread n t (f (s.thread n t))

def State.core (s : State) (n : Nat) : PxCore := get coreReset s.cores n
def State.setCore (s : State) (n : Nat) (x : PxCore) : State := { s with cores := put coreReset s.cores n x }

def State.tar (s : State) (c : Nat) : Tar := get tarReset s.tars c
def State.setTar (s : State) (c : Nat) (x : Tar) : State := { s with tars := put tarReset s.tars c x }
def State.modTar (s : State) (c : Nat) (f : Tar → Tar) : State := s.setTar c (f (s.tar c))

def State.qu (s : State) (c : Nat) : Qu := get quReset s.qus c
def State.setQu (s : State) (c : Nat) (x : Qu) : State := { s with qus := put quReset s.qus c x }

/-! ### Memory -/

/-- What a byte that nothing has written reads as. (DESIGN CHOICE, log 5) -/
def memDefault (_ : Nat) : Byte := 0

/-- The canonical form of memory: addresses strictly rising, none listed with what it reads as unlisted. -/
def Memory.wf (m : SMap Byte) : Bool := storeWf memDefault m

/-- The canonical form of the register file. -/
def Registers.wf (m : SMap Word) : Bool := storeWf regReset m

/-- The byte at a local address. -/
def State.byte (s : State) (a : Nat) : Byte := get memDefault s.mem a

/-- The n bytes from local address a. -/
def State.bytes (s : State) (a n : Nat) : List Byte := (List.range n).map (fun i => s.byte (a + i))

/-- The little-endian number of n bytes at local address a (R5). -/
def State.load (s : State) (a n : Nat) : Nat := ofBytes (s.bytes a n)

/-- A byte written. -/
def State.setByte (s : State) (a : Nat) (b : Byte) : State := { s with mem := put memDefault s.mem a b }

/-- Bytes written from local address a upward. -/
def State.setBytes (s : State) (a : Nat) (l : List Byte) : State :=
  match l with
  | [] => s
  | b :: t => (s.setByte a b).setBytes (a + 1) t

/-- The number x written as n bytes, little-endian. -/
def State.store (s : State) (a n x : Nat) : State := s.setBytes a (bytesOf n x)

/-- The local addresses lo to hi - 1 written with zeros, with valid check bits (R385). -/
def State.zeroMem (s : State) (lo hi : Nat) : State :=
  { s with
    mem := s.mem.filter (fun e => decide (e.1 < lo) || decide (hi ≤ e.1))
    memb := { s.memb with poison := s.memb.poison.filter (fun e => decide (e.1 * 8 < lo) || decide (hi ≤ e.1 * 8)) } }

/-- Whether the 64-bit word that holds local address a is poisoned (R368). -/
def State.poisoned (s : State) (a : Nat) : Bool := get (fun _ => false) s.memb.poison (a / 8)

/-- The poison of the word at local address a set or cleared. -/
def State.setPoison (s : State) (a : Nat) (b : Bool) : State :=
  { s with memb := { s.memb with poison := put (fun _ => false) s.memb.poison (a / 8) b } }

/-- Whether any of the n bytes at a lies in a poisoned word. -/
def State.anyPoison (s : State) (a n : Nat) : Bool := (List.range n).any (fun i => s.poisoned (a + i))

/-- Clears the poison of the 64-bit words that n bytes at a cover whole (R379). -/
def State.healWords (s : State) (a n : Nat) : State :=
  s.each ((List.range ((n + 7) / 8)).map (fun k => (a + 7) / 8 * 8 + 8 * k))
    (fun s w => if w + 8 ≤ a + n then s.setPoison w false else s)

/-! ### Time -/

/-- t ns have passed since time x. (DEDUCED, log 152) -/
def State.past (s : State) (x t : Nat) : Bool := decide (x + t ≤ s.now)

/-- Milliseconds and microseconds in ns. -/
def ms (n : Nat) : Nat := n * 1_000_000
def us (n : Nat) : Nat := n * 1000
def sec (n : Nat) : Nat := n * 1_000_000_000

end Sys2Proof.Machine
end

