-- ==== Sys2Proof/Machine/Clock.lean ====
section
/-! DEFINITION. The clock islands: settings and effective frequencies, the course of a change, the guard of
the alarm path, stops and starts, thermal caps, and the clock faults (chapter 11). -/
namespace Sys2Proof.Machine

open Sys2Proof

/-! ### Groups and settings -/

/-- A variable island, one that CLK_ISL_CTRL changes (Table 11-1). -/
def variableIsland (i : Nat) : Bool := decide (i < 183)

/-- A QU island (R389). -/
def quIsland (i : Nat) : Bool := decide (183 ≤ i) && decide (i < 191)

/-- A fixed island (R390). -/
def fixedIsland (i : Nat) : Bool := !variableIsland i && !quIsland i

/-- Group minimum, in 25 MHz (Table 11-1). -/
def groupMin (i : Nat) : Nat := if 120 ≤ i ∧ i < 156 then 16 else if 156 ≤ i ∧ i < 163 then 4 else 8

/-- Group maximum, in 25 MHz (Table 11-1). -/
def groupMax (i : Nat) : Nat :=
  if i < 24 then 64 else if i < 56 then 56 else if i < 120 then 40 else if i < 156 then 48 else if i < 163 then 28
  else if i < 167 then 48 else 40

/-- The decoder that serves class A (DEC_RESERVE). -/
def decReserve (s : State) : Nat := s.fldAt Reg.decReserve 2 0

/-- Whether island i is in the alarm set: its CLK_ALARM bit, or the decoder of DEC_RESERVE (R402). -/
def inAlarm (s : State) (i : Nat) : Bool :=
  s.bitAt (Reg.clkAlarm (i / 32)) (i % 32) || decide (i = 156 + decReserve s)

/-- The floor of island i: CLK_ISL_CTRL.FLOOR, and 700 MHz for the decoder of DEC_RESERVE (R403, Table 11-3). -/
def islFloor (s : State) (i : Nat) : Nat :=
  Nat.max (s.fldAt (Reg.clkIslCtrl i) 22 16) (if i = 156 + decReserve s then 28 else 0)

/-- Whether any bit of FAB_VC2_EN is set (R404). -/
def anyVc2 (s : State) : Bool := (List.range 4).any (fun w => decide (s.reg (Reg.fabVc2En w) ≠ 0))

/-- A router while VC2 is enabled: it never goes below 800 MHz (R404). (DEDUCED, log 76) -/
def routerHeld (s : State) (i : Nat) : Bool := anyVc2 s && decide (120 ≤ i) && decide (i < 156)

/-- The setting of island i raised to its floors and minimum and lowered to its maximum, no cap applied (R387, R403). -/
def uncapped (s : State) (i : Nat) : Nat :=
  let f := s.fldAt (Reg.clkIslCtrl i) 6 0
  let f := if s.bitAt (Reg.clkIslCtrl i) 8 then f else Nat.max f (islFloor s i)
  let f := Nat.max f (groupMin i)
  let f := if routerHeld s i then Nat.max f 32 else f
  Nat.min f (groupMax i)

/-- The ride-through cap: every variable island outside the alarm set and other than CC0, while Rosemary is ARMED and RT_CAP is
set (Table 13-2). -/
def rideCap (s : State) (i : Nat) : Bool :=
  decide (s.hld.phase = .armed) && s.bitAt Reg.hldCtrl 1 && !inAlarm s i && decide (i ≠ 163)

/-- The cap on island i, if one is in force: CRIT on every variable island, HOT outside the alarm set (R408), and the
ride-through cap; the lower governs (R387). -/
def capOn (s : State) (i : Nat) : Option Nat :=
  if s.clk.crit || rideCap s i then some (groupMin i)
  else if s.clk.hot && s.bitAt Reg.clkCtrl 0 && !inAlarm s i then some (groupMax i / 2) else none

/-- The effective frequency that island i is to run at (R387, R403, R404, R408). -/
def wantedEff (s : State) (i : Nat) : Nat :=
  match capOn s i with
  | none => uncapped s i
  | some c => let f := Nat.min (uncapped s i) c
              if routerHeld s i then Nat.max f 32 else f

/-- Stopped under R406 or R407. (DEDUCED, log 75) -/
def islStopped (s : State) (i : Nat) : Bool := (s.island i).idle || (s.island i).held

/-- The change in whose pause island i is. -/
def pauseOf (s : State) (i : Nat) : Option Change :=
  s.clk.changes.find? (fun c => c.paused.isSome && c.members.contains i)

/-- The change that waits for its due point, or for the guard, with island i. -/
def waitingOf (s : State) (i : Nat) : Option Change :=
  s.clk.changes.find? (fun c => c.paused.isNone && c.members.contains i)

/-- The effective frequency of island i once the pause it may be in has ended. -/
def settledEff (s : State) (i : Nat) : Nat :=
  match pauseOf s i with
  | none => (s.island i).eff
  | some c => match c.targets.find? (fun t => t.1 = i) with
    | none => (s.island i).eff
    | some t => t.2

/-- An alarm change: one with a member in the alarm set (R402). -/
def alarmChange (s : State) (c : Change) : Bool := c.members.any (inAlarm s)

/-- The guard window in ns: CLK_GUARD, at least 20.0 ms. -/
def guardNs (s : State) : Nat := Nat.max 200 (s.fldAt Reg.clkGuard 15 0) * 100_000

/-- The guard window after the last alarm pause has not ended (R402, GUARD_ACTIVE). -/
def guardActive (s : State) : Bool :=
  match s.clk.guardEnd with
  | none => false
  | some t => decide (s.now < t + guardNs s)

def State.setChanges (s : State) (l : List Change) : State := { s with clk := { s.clk with changes := l } }

/-- The quadrants that the array of cluster c uses: those of the running instruction, else TAR_QMASK. -/
def qmaskOf (s : State) (c : Nat) : Nat :=
  match (s.tar c).run with
  | some r => r.qmask
  | none => s.fldAt (Reg.tarQmask c) 3 0

/-- The array clock f of TAc, in 25 MHz: the lowest among the quadrants in TAR_QMASK (R285). -/
def arrayClock (s : State) (c : Nat) : Nat :=
  ((onesBelow (qmaskOf s c) 4).map (fun q => (s.island (24 + 4 * c + q)).eff)).foldl Nat.min 56

/-- Whether island i may change now: a quadrant in TAR_QMASK only at the end of a tile or while no instruction
runs, every other at the end of its cycle (R397, R319). -/
def duePoint (s : State) (i : Nat) : Bool :=
  if 24 ≤ i ∧ i < 56 then
    let c := (i - 24) / 4
    match (s.tar c).run with
    | none => true
    | some r => !(qmaskOf s c).testBit ((i - 24) % 4) || r.tile.isNone
  else true

/-! ### Requesting a change -/

/-- Drops the members that no longer need a waiting change, and the changes left empty (R400). -/
def pruneChanges (s : State) (drop : Nat → Bool) : State :=
  s.setChanges ((s.clk.changes.map (fun c =>
    if c.paused.isSome then c else { c with members := c.members.filter (fun i => !drop i) })).filter
      (fun c => !c.members.isEmpty))

/-- A change over the islands `ms` is asked for, as a single write or as one group (R399, R400, R402, R407). -/
def requestChange (s : State) (ms : List Nat) (group : Bool) : State :=
  let ms := ms.filter variableIsland
  let s := s.each (ms.filter (islStopped s)) (fun s i =>
    s.modIsland i (fun x => { x with stored := decide (wantedEff s i ≠ x.eff) }))
  let live := ms.filter (fun i => !islStopped s i)
  let s := pruneChanges s (fun i => live.contains i && (group || decide (wantedEff s i = settledEff s i)))
  let new := live.filter (fun i => decide (wantedEff s i ≠ settledEff s i) && (waitingOf s i).isNone)
  if new.isEmpty then s
  else
    let c : Change := { id := s.clk.nextId, members := new, deferred := false, paused := none, targets := [] }
    let deferred := alarmChange s c && (guardActive s || s.clk.changes.any (alarmChange s))
    let s := { s with clk := { s.clk with changes := s.clk.changes ++ [{ c with deferred := deferred }]
                                          nextId := s.clk.nextId + 1 } }
    if deferred then s.count Reg.clkGuardDefers else s

/-- Every island whose wanted frequency may have changed asks for it: one group over the alarm set, one over the
others (R408). -/
def recap (s : State) : State :=
  let all := List.range 183
  requestChange (requestChange s (all.filter (fun i => !inAlarm s i)) true) (all.filter (inAlarm s)) true

/-! ### The course of a change -/

/-- The QU of cluster c follows its array's clock within the same pause (R389). -/
def followQu (s : State) (c : Nat) : State := s.modIsland (183 + c) (fun x => { x with eff := arrayClock s c })

/-- Island i restarts after a pause that began at t0, at effective frequency e; it has locked or not. -/
def restartIsland (s : State) (i e t0 : Nat) (locked : Bool) : State :=
  s.modIsland i (fun x =>
    { x with eff := e, lockFail := !locked && x.lockFail, throttled := decide (e < uncapped s i)
             longest := Nat.max x.longest (Nat.min 0x3FFF ((s.now - t0) / 10)), pauses := Nat.min 0xFFFF (x.pauses + 1) })

/-- The guard starts again at the end of an alarm pause (R402, CLK_GUARD_END). -/
def endAlarmPause (s : State) : State :=
  { s with clk := { s.clk with guardEnd := some s.now } }.setReg Reg.clkGuardEnd (BitVec.ofNat 64 s.now)

/-- The clusters whose quadrants are among the members. -/
def clustersOf (ms : List Nat) : List Nat :=
  (List.range 8).filter (fun c => ms.any (fun i => decide (24 + 4 * c ≤ i) && decide (i < 28 + 4 * c)))

/-- BELOW_FLOOR is raised for each member of the alarm set that runs below its floor (R403). -/
def raiseBelowFloor (s : State) (ms : List Nat) : State :=
  s.when (ms.any (fun i => inAlarm s i && decide ((s.island i).eff < islFloor s i))) (fun s => s.raise Reg.clkIrqStat 7)

/-- The pause of change c ends: every member restarts (R398, R399). -/
def endPause (s : State) (c : Change) (t0 : Nat) : State :=
  let alarm := alarmChange s c
  let s := s.each c.members (fun s i =>
    match c.targets.find? (fun t => t.1 = i) with
    | some t => restartIsland s i t.2 t0 true
    | none => restartIsland s i (s.island i).eff t0 false)
  let s := s.each (clustersOf c.members) followQu
  let s := s.setChanges (s.clk.changes.filter (fun d => d.id ≠ c.id))
  let s := s.when (!c.targets.isEmpty) (fun s => (s.raise Reg.clkIrqStat 9).count Reg.clkChanges)
  let s := raiseBelowFloor s c.members
  s.when alarm endAlarmPause

/-- A change falls due (R397, R402): the guard may defer it, its members stop, and their new frequencies are fixed. -/
def fallDue (s : State) (c : Change) : State :=
  let others := s.clk.changes.filter (fun d => d.id ≠ c.id)
  if alarmChange s c && (guardActive s || others.any (fun d => d.paused.isSome && alarmChange s d)) then
    (s.setChanges (s.clk.changes.map (fun d => if d.id = c.id then { d with deferred := true } else d))).count
      Reg.clkGuardDefers
  else
    let s := s.each (c.members.filter (islStopped s)) (fun s i => s.modIsland i (fun x => { x with stored := true }))
    let ms := c.members.filter (fun i => !islStopped s i && decide (wantedEff s i ≠ (s.island i).eff))
    if ms.isEmpty then s.setChanges others
    else s.setChanges (s.clk.changes.map (fun d =>
      if d.id = c.id then
        { d with members := ms, paused := some s.now, targets := ms.map (fun i => (i, wantedEff s i)) }
      else d))

/-- A setting stored while the island was stopped is taken at its restart (R407, Table 11-5). -/
def takeStored (s : State) (i : Nat) : State :=
  if (s.island i).stored then
    s.modIsland i (fun x => { x with eff := wantedEff s i, stored := false, throttled := decide (wantedEff s i < uncapped s i) })
  else s

/-! ### Temperature -/

/-- WARN, HOT and CRIT thresholds and HYST in 0.25 °C, limited as CLK_TH says. -/
def thCrit (s : State) : Int := 4 * (Nat.min 110 (s.fldAt Reg.clkTh 23 16) : Nat)
def thHot (s : State) : Int := min (4 * (s.fldAt Reg.clkTh 15 8 : Nat)) (thCrit s)
def thWarn (s : State) : Int := min (4 * (s.fldAt Reg.clkTh 7 0 : Nat)) (thHot s)
def thHyst (s : State) : Int := 4 * (s.fldAt Reg.clkTh 27 24 : Nat)

/-- What sensor k counts as reading: nothing before its first sample, HOT when marked invalid (R413). -/
def sensorReads (s : State) (k : Nat) : Option Int :=
  if get (fun _ => false) s.clk.bad k then some (thHot s)
  else if get (fun _ => false) s.clk.valid k then some (get (fun _ => 0) s.clk.temps k) else none

/-- The device temperature and the sensor that gives it: the highest reading (Table 11-4). -/
def deviceTemp (s : State) : Option (Int × Nat) :=
  (List.range 12).foldl (fun m k =>
    match sensorReads s k, m with
    | none, m => m
    | some t, none => some (t, k)
    | some t, some (u, j) => if t > u then some (t, k) else some (u, j)) none

/-- The device temperature is at or above x. -/
def tempAtLeast (s : State) (x : Int) : Bool :=
  match deviceTemp s with
  | none => false
  | some (t, _) => decide (x ≤ t)

/-- The thresholds of the thermal stages 1 to 4 (Table 14-8), in 0.25 °C. -/
def stageTh (s : State) (n : Nat) : Int :=
  if n = 1 then thWarn s else if n = 2 then thWarn s + 8 else if n = 3 then thHot s else thCrit s

/-- Since when the device temperature has been 5 °C below the threshold of the stage in force (R486). (DEDUCED, log 79) -/
def noteCool (s : State) : State :=
  { s with tram := { s.tram with
    coolSince := if s.tram.stage = 0 ∨ tempAtLeast s (stageTh s s.tram.stage - 20) then none else some (s.tram.coolSince.getD s.now) } }

/-- One conversion of every sensor: readings in range are taken, those of sensors marked invalid are not. -/
def sampleTemps (s : State) (temps : List Int) : State :=
  noteCool <| s.each ((List.range 12).zip temps) (fun s kt =>
    if get (fun _ => false) s.clk.bad kt.1 || decide (kt.2 < -220) || decide (kt.2 > 600) then s
    else { s with clk := { s.clk with temps := put (fun _ => 0) s.clk.temps kt.1 kt.2
                                      valid := put (fun _ => false) s.clk.valid kt.1 true } })

/-- WARN follows the device temperature: it raises CLK_IRQ_STAT.WARN only (R408). -/
def checkWarn (s : State) : State :=
  if tempAtLeast s (thWarn s) && !s.clk.warn then
    { s with clk := { s.clk with warn := true } }.raise Reg.clkIrqStat 2
  else if s.clk.warn && !tempAtLeast s (thWarn s - thHyst s) then { s with clk := { s.clk with warn := false } }
  else s

/-- A cap is entered once the device temperature has reached its threshold (R408). -/
def enterCap (s : State) (crit : Bool) : State :=
  if crit then
    if tempAtLeast s (thCrit s) && !s.clk.crit then
      recap (({ s with clk := { s.clk with crit := true } }.raise Reg.clkIrqStat 4).count Reg.clkThrottleEvents)
    else s
  else if tempAtLeast s (thHot s) && !s.clk.hot then
    recap (({ s with clk := { s.clk with hot := true } }.raise Reg.clkIrqStat 3).when (s.bitAt Reg.clkCtrl 0)
      (fun s => s.count Reg.clkThrottleEvents))
  else s

/-- A cap is lifted once the device temperature has fallen below its threshold minus HYST (R408). -/
def liftCap (s : State) (crit : Bool) : State :=
  if crit then
    if s.clk.crit && !tempAtLeast s (thCrit s - thHyst s) then recap { s with clk := { s.clk with crit := false } } else s
  else if s.clk.hot && !tempAtLeast s (thHot s - thHyst s) then recap { s with clk := { s.clk with hot := false } } else s

/-! ### The commands -/

/-- CLK_ISL_WRITE (R387, R390, R396, R400, R403): a write of CLK_ISL_CTRL. Above the last island the register is reserved, and the write is
ignored (R8). -/
def execClkIslWrite (who : Requester) (island : Nat) (val : BitVec 32) (s : State) : Out :=
  .next (s.writeGuard who (Reg.clkIslCtrl island) (fun s =>
    if variableIsland island then
      requestChange (s.setReg (Reg.clkIslCtrl island) (val.setWidth 64 &&& 0x7F037F#64)) [island] false
    else s))

/-- CLK_GROUP_CHANGE (R399): a write of CLK_GROUP_FREQ gives FREQ and OVERRIDE to every variable island selected. -/
def execClkGroupChange (who : Requester) (val : BitVec 32) (s : State) : Out :=
  .next (s.writeGuard who Reg.clkGroupFreq (fun s =>
    let ms := (List.range 183).filter (fun i => s.bitAt (Reg.clkGroupSel (i / 32)) (i % 32))
    let s := s.each ms (fun s i =>
      s.setReg (Reg.clkIslCtrl i)
        (setFld (setFld (s.reg (Reg.clkIslCtrl i)) 6 0 (val.toNat % 128)) 8 8 (val.toNat / 256 % 2)))
    requestChange s ms true))

/-- FREQ_CHANGE_DUE (R397, R399, R400, R402): a waiting change falls due once every member may change and is in no pause; none does while
REF_CLK is lost (R410). -/
def execFreqChangeDue (change : Nat) (s : State) : Out :=
  match s.clk.changes.find? (fun c => c.id = change) with
  | none => .next s
  | some c =>
    if c.paused.isNone && !c.deferred && s.clk.refOk && c.members.all (fun i => duePoint s i && (pauseOf s i).isNone) then .next (fallDue s c) else .next s

/-- GUARD_WINDOW_END (R402): the guard has cleared, and the first deferred alarm change may fall due. -/
def execGuardWindowEnd (s : State) : Out :=
  if guardActive s || s.clk.changes.any (fun c => !c.deferred && alarmChange s c) then .next s
  else match s.clk.changes.find? (fun c => c.deferred) with
    | none => .next s
    | some c => .next (s.setChanges (s.clk.changes.map (fun d => if d.id = c.id then { d with deferred := false } else d)))

/-- The block of island i has work in progress, as far as the state shows it: a running thread, a tensor
instruction, a descriptor (R406). -/
def islandBusy (s : State) (i : Nat) : Bool :=
  if i < 24 then (List.range 4).any (fun t => decide ((s.thread i t).st ≠ .stopped) && decide ((s.thread i t).st ≠ .halted))
  else if i < 56 then (s.tar ((i - 24) / 4)).run.isSome
  else if 167 ≤ i ∧ i < 175 then decide ((s.engine false (i - 167)).phase ≠ .idle)
  else if 175 ≤ i ∧ i < 183 then decide ((s.engine true (i - 175)).phase ≠ .idle)
  else false

/-- ISLAND_IDLE_STOP (R406): an idle variable island with IDLE_GATE stops its clock. -/
def execIslandIdleStop (island : Nat) (s : State) : Out :=
  if variableIsland island && s.bitAt (Reg.clkIslCtrl island) 9 && !islStopped s island && (pauseOf s island).isNone
      && !islandBusy s island then
    .next (s.modIsland island (fun x => { x with idle := true }))
  else .next s

/-- THERMAL_CAP (R408): the sensors read `temps`, and HOT or CRIT is entered. -/
def execThermalCap (crit : Bool) (temps : List Int) (s : State) : Out :=
  .next (enterCap (checkWarn (sampleTemps s temps)) crit)

/-- THERMAL_CAP_LIFT (R408): the sensors read `temps`, and HOT or CRIT is left. -/
def execThermalCapLift (crit : Bool) (temps : List Int) (s : State) : Out :=
  .next (liftCap (checkWarn (sampleTemps s temps)) crit)

/-- A change in its pause when REF_CLK is lost goes back to waiting; its islands restart as they were (Table 11-5). -/
def abortPause (s : State) (c : Change) : State :=
  match c.paused with
  | none => s
  | some t0 =>
    let alarm := alarmChange s c
    let s := s.each c.members (fun s i => s.modIsland i (fun x =>
      { x with longest := Nat.max x.longest (Nat.min 0x3FFF ((s.now - t0) / 10)), pauses := Nat.min 0xFFFF (x.pauses + 1) }))
    let s := s.setChanges (s.clk.changes.map (fun d => if d.id = c.id then { d with paused := none, targets := [] } else d))
    s.when alarm endAlarmPause

/-- REF_CLK_BACK (R411): pending changes may fall due again. -/
def execRefClkBack (s : State) : Out :=
  if s.clk.refOk then .next s
  else .next ({ s with clk := { s.clk with refOk := true } }.raise Reg.clkIrqStat 1)

/-- The clock of a QU is gated: every quadrant of its array is stopped or is not ON (R389). -/
def quGated (s : State) (i : Nat) : Bool :=
  quIsland i && (List.range 4).all (fun q =>
    let k := 24 + 4 * (i - 183) + q
    islStopped s k || decide ((s.dom k).st ≠ .on))

/-- ISLAND_DEAD (R412): a running island, neither stopped nor paused, has produced no edge for 10 µs. -/
def execIslandDead (island : Nat) (s : State) : Out :=
  if 216 ≤ island || islStopped s island || (pauseOf s island).isSome || quGated s island then .next s
  else
    let s := s.modIsland island (fun x => { x with dead := true })
    .next ((s.setReg Reg.clkDeadIsl (BitVec.ofNat 64 island)).raise Reg.clkIrqStat 6)

/-- SENSOR_INVALID (R413): a reading out of range, or no conversion in 100 sample periods. -/
def execSensorInvalid (sensor : Fin 12) (reading : Option Int) (s : State) : Out :=
  let inRange := match reading with
    | none => false
    | some r => decide (-220 ≤ r) && decide (r ≤ 600)
  if inRange then .next s
  else
    let s := { s with clk := { s.clk with bad := put (fun _ => false) s.clk.bad sensor true
                                          valid := put (fun _ => false) s.clk.valid sensor false } }
    .next (enterCap (enterCap (checkWarn (s.raise Reg.clkIrqStat 8)) false) true)

/-- SENSOR_VALID (R413): in-range conversions in 100 consecutive periods; SENSOR_BAD stays until cleared. -/
def execSensorValid (sensor : Fin 12) (reading : Int) (s : State) : Out :=
  if reading < -220 ∨ 600 < reading then .next s
  else
    let s := { s with clk := { s.clk with bad := put (fun _ => false) s.clk.bad sensor false
                                          valid := put (fun _ => false) s.clk.valid sensor true
                                          temps := put (fun _ => 0) s.clk.temps sensor reading } }
    .next (liftCap (liftCap (checkWarn s) true) false)

end Sys2Proof.Machine
end

