-- ==== Sys2Proof/Config.lean ====
section
/-! DEFINITION. The free values: what the spec leaves open and the machine nevertheless produces. They have
no body, so nothing can be proved of a value; each is applied to the counter of draws in the state, or to
the operands it depends on. Each is named in the assumption log. -/
namespace Sys2Proof.Config

open Sys2Proof

/-- The router at which the endpoint of a local index attaches, modulo 36: the spec places the Itard ports only. (DESIGN CHOICE, log 12) -/
opaque routerOf : Nat → Nat

/-- The core cycles a PX core has counted since reset (CYCLE), as a function of the core and of the time: the
latencies of chapter 6 are bounds, and which cycle a bundle issues in is not given. (DESIGN CHOICE, log 24) -/
opaque cycles : Nat → Nat → Word

/-- PXC_THR_STALL of a thread at a time. -/
opaque stalls : Nat → Nat → Word

/-- TAR_BUSY_CYC of an array at a time. -/
opaque busyCycles : Nat → Nat → Word

/-- The opaque bytes of tensor context number n (R318). (DESIGN CHOICE, log 41) -/
opaque ctxByte : Nat → Nat → Byte

/-- Bytes written to a spill area, whose layout is not given (R316). -/
opaque spillByte : Nat → Nat → Byte

/-- An output of an instruction whose output is undefined (Table 8-8), draw n. (DESIGN CHOICE, log 42) -/
opaque undefinedOutput : Nat → Nat

/-- What LOG mode adds to the exact result, before the bound of R289 is applied, draw n, as a fraction of the
bound in 2⁻³². -/
opaque logError : Nat → Int

/-- A byte of a flash page or sector whose command was cut off (R505), draw n. -/
opaque flashByte : Nat → Byte

/-- The persons counted in draw n: 0 for boardings, 1 for alightings. (DESIGN CHOICE, log 119) -/
opaque crossings : Nat → Nat → Nat

/-- The decode demand of narration, in pixels per second (R484). (DESIGN CHOICE, log 117) -/
opaque narrationDemand : Nat

/-- The sign of the zero that `vfmin` (or `vfmax`) returns for two zeros of unlike sign: negative or not. (DESIGN CHOICE, log 27) -/
opaque zeroSign : Bool → Nat → Nat → Bool

/-- The integer that a requantisation unit rounds a NaN to, as a function of the NaN. (DESIGN CHOICE, log 28) -/
opaque intOfNan : Nat → Int

/-- A byte of a sealed or signed record in the flash, whose keys never leave the security engine, draw n. (DESIGN CHOICE, log 100) -/
opaque sealedByte : Nat → Byte

/-- The refresh interval that the DRAM's temperature readout gives, in 0.1 ms, draw n. (DESIGN CHOICE, log 99) -/
opaque refreshInterval : Nat → Nat

/-- Where Tymor places BAR0 and BAR2 in DRAM (R115). (DESIGN CHOICE, log 104) -/
opaque hostBar0 : Nat
opaque hostBar2 : Nat

/-- What PXC_THR_PC reads while its thread runs, draw n. (DESIGN CHOICE, log 25) -/
opaque runningPc : Nat → Word

/-- What part i of a self-test sees where a plain register write starts it, draw n. (DESIGN CHOICE, log 110) -/
opaque testSeen : Nat → Nat → Bool

/-- The device ID in the fuses. (DESIGN CHOICE, log 149) -/
opaque deviceId : Word

/-- What the bytes of a slot descriptor in DRAM say: the spec names its parts and gives no layout (R80). (DESIGN CHOICE, log 155) -/
opaque descUrl : (Nat → Byte) → List Byte
opaque descCred : (Nat → Byte) → Nat
opaque descDst : (Nat → Byte) → BitVec 32
opaque descPort : (Nat → Byte) → BitVec 16
opaque descRingBase : (Nat → Byte) → Nat
opaque descRingSize : (Nat → Byte) → Nat

/-- Byte o of the NV12 picture decoded in draw n: what the picture shows is not the device's (R55). (DEDUCED, log 118) -/
opaque nv12 : Nat → Nat → Byte

/-- The frequency correction that Thyme's servo reaches at Sync message n, in ns per s. (DESIGN CHOICE, log 156) -/
opaque servoFreq : Nat → Int

/-- Byte i of the salt of a header formatted at draw n (R140). (DESIGN CHOICE, log 168) -/
opaque salt : Nat → Nat → Byte

/-- Whether the control cores' caches let go of a line before access n: when a line leaves is not given (R377). (DESIGN CHOICE, log 197) -/
opaque evicts : Nat → Nat → Bool

/-- A byte of the boot ROM, whose contents the spec does not give (R359). (DESIGN CHOICE, log 197) -/
opaque bootRom : Nat → Byte

end Sys2Proof.Config
end

