-- ==== Sys2Proof/Machine/FabOps.lean ====
section
/-! DEFINITION. Addresses and endpoints: the decode of local addresses, the rules of access to the SRAM tier
and DRAM, completion counters, and the making of packets (chapters 5 and 10). -/
namespace Sys2Proof.Machine

open Sys2Proof

/-! ### Addresses (R358 to R367) -/

/-- Where a local address leads. -/
inductive Target where
  | dram (ch : Nat)
  | sram (c g : Nat)
  | scratch (n : Nat)
  | control
  | rom
  | unmapped
  deriving DecidableEq, Repr

/-- Usable DRAM in bytes: 7/8 of four channels of the configured density (R367). -/
def usableDram (s : State) : Nat := 2 ^ (31 + s.fldAt Reg.memDdrCfg 1 0) * 4 / 8 * 7

/-- MEM_SLICE_CFG.MAP: whether slice c is LINEAR (R362). -/
def linearMap (s : State) (c : Nat) : Bool := s.bitAt (Reg.memSliceCfg c) 0

/-- The decode of a local address (R359, R360). -/
def targetOf (s : State) (a : Nat) : Target :=
  if a < usableDram s then .dram (bits a 9 8 ^^^ bits a 17 16)
  else if 0x10_0000_0000 ≤ a ∧ a < 0x10_0800_0000 then
    .sram (bits a 26 24) (if linearMap s (bits a 26 24) then bits a 23 21 else bits a 9 7)
  else if 0x11_0000_0000 ≤ a ∧ a < 0x11_0180_0000 ∧ (a - 0x11_0000_0000) % 0x10_0000 < 0x4_0000 then
    .scratch ((a - 0x11_0000_0000) / 0x10_0000)
  else if inControl a then .control
  else if 0x1F_0000_0000 ≤ a ∧ a < 0x1F_0004_0000 then .rom
  else .unmapped

/-- The local index of the endpoint of a target (R360). -/
def Target.index (t : Target) : Option Nat :=
  match t with
  | .dram ch => some (0x048 + ch)
  | .sram c g => some (0x050 + 8 * c + g)
  | .scratch n => some n
  | .control => some 0x090
  | _ => none

/-- Whether n bytes at a lie within one unit of their endpoint: a 256-byte DRAM unit, a 128-byte block or one bank
group, one scratchpad (R360, Table 10-7). (DEDUCED, log 53) -/
def oneSpan (s : State) (a n : Nat) : Bool :=
  let z := a + n - 1
  match targetOf s a with
  | .dram _ => decide (a / 256 = z / 256)
  | .sram c _ => if linearMap s c then decide (a / 0x20_0000 = z / 0x20_0000) else decide (a / 128 = z / 128)
  | .scratch _ => decide ((a - 0x11_0000_0000) / 0x10_0000 = (z - 0x11_0000_0000) / 0x10_0000)
                    && decide ((z - 0x11_0000_0000) % 0x10_0000 < 0x4_0000)
  | _ => decide (n ≤ 8)

/-- A bank group that is ON and READY. -/
def groupUp (s : State) (c g : Nat) : Bool :=
  decide ((s.dom (56 + 8 * c + g)).st = .on) && get (fun _ => false) s.memb.ready (8 * c + g)

/-- Whether a bank group may be accessed: in the INTERLEAVED map, only while all eight of the slice may (R363, R433). -/
def groupOpen (s : State) (c g : Nat) : Bool :=
  if linearMap s c then groupUp s c g else (List.range 8).all (groupUp s c)

/-- Whether DRAM channel ch serves requests (R383). -/
def channelUp (s : State) (ch : Nat) : Bool := s.memb.trained.getLsbD ch

/-! ### Errors of the memories (R363, R365, R368, R379, R380) -/

/-- The first error since the log was re-armed, with its kind and address. -/
def logMemErr (s : State) (a kind : Nat) (ue : Bool) : State :=
  if s.bitAt Reg.memErrLog 53 then s
  else s.setReg Reg.memErrLog (BitVec.ofNat 64 (a % 2 ^ 48 + kind * 2 ^ 48 + num ue * 2 ^ 52 + 2 ^ 53))

/-- An access to a bank group that is not ON (R363). -/
def offAccess (s : State) (a : Nat) : State := logMemErr ((s.count Reg.memOffAccess).raise Reg.memIrqStat 6) a 2 false

/-- An uncorrectable error met at address a (R380). -/
def uncorrectable (s : State) (a : Nat) : State :=
  match targetOf s a with
  | .dram _ => logMemErr ((s.count Reg.memDdrUe).raise Reg.memIrqStat 1) a 1 true
  | .sram _ _ => logMemErr ((s.count Reg.memSramUe).raise Reg.memIrqStat 0) a 0 true
  | .scratch n => (s.count (Reg.pxcSpUe n)).raise (Reg.pxcIrqStat n) 8
  | _ => s

/-- A corrected error met at address a (R244, R380). -/
def corrected (s : State) (a : Nat) : State :=
  match targetOf s a with
  | .dram _ => s.count Reg.memDdrCe
  | .sram _ _ => s.count Reg.memSramCe
  | .scratch n => s.count (Reg.pxcSpCe n)
  | _ => s

/-- A write that WGUARD refuses (R365). -/
def guardDenied (s : State) (a : Nat) : State := logMemErr ((s.count Reg.memGuardDeny).raise Reg.memIrqStat 5) a 4 false

/-- Whether the unit of local index `src` may write slice c (R365). -/
def mayWriteSlice (s : State) (src c : Nat) : Bool :=
  !s.bitAt (Reg.memSliceCfg c) 1 || (decide (3 * c ≤ src) && decide (src < 3 * c + 3)) || src = 0x018 + c || src = 0x020 + c
    || src = 0x028 + c || src = 0x030 + c || (decide (src < 0x080) && s.bitAt (Reg.memSliceWmask c (src / 32)) (src % 32))

/-- A partial write to a word that holds an uncorrectable error is discarded (R379). -/
def partialPoison (s : State) (a n : Nat) : Bool :=
  (List.range n).any (fun i => s.poisoned (a + i) && (decide ((a + i) / 8 * 8 < a) || decide (a + n < (a + i) / 8 * 8 + 8)))

/-- The bytes written at a local address that the writer may write; whole words lose their poison (R379). -/
def putData (s : State) (a : Nat) (l : List Byte) : State := (s.setBytes a l).healWords a l.length

/-! ### Completion counters (R175 to R177) -/

/-- The key of the counters that a local index reaches: DRAM channels share the DRAM set, the bank groups of a slice
the slice set. -/
def ccKey (idx : Nat) : Nat :=
  if 0x048 ≤ idx ∧ idx ≤ 0x04B then 0x048
  else if 0x050 ≤ idx ∧ idx ≤ 0x08F then 0x050 + 8 * ((idx - 0x050) / 8)
  else idx

/-- Counter cc of the endpoint or set of a local index. -/
def ccVal (s : State) (idx cc : Nat) : BitVec 32 := get (fun _ => 0) (s.ccSet (ccKey idx)).val cc

/-- Counter cc set to v; its UNDER bit is unchanged (R176). -/
def ccPut (s : State) (idx cc : Nat) (v : BitVec 32) : State :=
  let x := s.ccSet (ccKey idx)
  s.setCcSet (ccKey idx) { x with val := put (fun _ => 0) x.val cc v }

/-- A tagged arrival: the counter falls by one; at zero it wraps, and the underflow is marked and counted (R175, R176). -/
def ccDec (s : State) (idx cc : Nat) : State :=
  let s1 := ccPut s idx cc (ccVal s idx cc - 1)
  if ccVal s idx cc = 0 then
    let x := s1.ccSet (ccKey idx)
    ((s1.setCcSet (ccKey idx) { x with under := x.under ||| oneBit cc, underCount := satAdd 32 x.underCount 1 }).count
      Reg.fabCcUnder).raise Reg.fabEvtStat 4
  else s1

/-- A tagged arrival at counter cc, with its time (R175, R177). -/
def ccArrive (s : State) (idx cc : Nat) : State :=
  let s1 := ccDec s idx cc
  let x := s1.ccSet (ccKey idx)
  s1.setCcSet (ccKey idx) { x with hitAt := put (fun _ => none) x.hitAt cc (some s.now) }

/-- Counter cc set to v; a tagged arrival of the same cycle takes one from what is written (R177). (DEDUCED, log 60) -/
def ccWrite (s : State) (idx cc : Nat) (v : BitVec 32) : State :=
  let s1 := ccPut s idx cc v
  if get (fun _ => none) (s.ccSet (ccKey idx)).hitAt cc = some s.now then ccDec s1 idx cc else s1

/-! ### Endpoints (Table 5-1) -/

/-- A local index that Table 5-1 lists. -/
def listedIndex (i : Nat) : Bool :=
  decide (i ≤ 0x046) || (decide (0x048 ≤ i) && decide (i ≤ 0x04B)) || (decide (0x050 ≤ i) && decide (i ≤ 0x097))
    || (decide (0x100 ≤ i) && decide (i ≤ 0x1FF))

/-- The power domain of an endpoint (Table 12-1); none for those of the always-on domain. (DEDUCED, log 73) -/
def endpointDomain (i : Nat) : Option Nat :=
  if i < 0x018 then some i
  else if i < 0x020 then some (24 + 4 * (i - 0x018))
  else if i < 0x028 then some (137 + (i - 0x020))
  else if i < 0x030 then some (145 + (i - 0x028))
  else if i < 0x038 then some (153 + (i - 0x030))
  else if i < 0x03C then some (133 + (i - 0x038))
  else if i = 0x03C then some 173
  else if i = 0x03E then some 174
  else if i = 0x03F then some 175
  else if 0x040 ≤ i ∧ i < 0x046 then some (126 + (i - 0x040))
  else if i = 0x046 then some 132
  else if 0x048 ≤ i ∧ i < 0x04C then some (161 + (i - 0x048))
  else if 0x050 ≤ i ∧ i < 0x090 then some (56 + (i - 0x050))
  else if i = 0x092 then some 167
  else if i = 0x093 then some 168
  else if i = 0x094 then some 171
  else if i = 0x095 then some 172
  else if i = 0x096 then some 169
  else if i = 0x097 then some 170
  else none

/-- The endpoint's domain is ON, not in DRAIN (R423). -/
def endpointOn (s : State) (i : Nat) : Bool :=
  match endpointDomain i with
  | none => true
  | some d => decide ((s.dom d).st = .on)

/-- FAB_VC2_EN of a local index (R171). -/
def vc2Enabled (s : State) (i : Nat) : Bool := decide (i < 0x080) && s.bitAt (Reg.fabVc2En (i / 32)) (i % 32)

/-- The EID of a local index of this device (R158). -/
def ownEid (s : State) (i : Nat) : BitVec 12 := BitVec.ofNat 12 (s.fab.slot * 512 + i)

/-- The local index of an EID. -/
def localIndex (e : BitVec 12) : Nat := e.toNat % 512

/-- The device slot of an EID. -/
def slotOf (e : BitVec 12) : Nat := e.toNat / 512

/-- The device slot and the local part of a 48-bit global address (R358). -/
def addrSlot (a : Nat) : Nat := bits a 47 45
def addrLocal (a : Nat) : Nat := bits a 44 0

/-! ### Routing (R166 to R170) -/

/-- The router at which a local index attaches. -/
def routerFor (i : Nat) : Nat := if i = 0x096 then 12 else if i = 0x097 then 23 else Config.routerOf i % 36

/-- The output of router n towards router d of the dimension-ordered route (R166): 0 local, 1 north, 2 east, 3 south, 4 west. -/
def xyPort (n d : Nat) : Nat :=
  if n % 6 < d % 6 then 2 else if d % 6 < n % 6 then 4 else if d / 6 < n / 6 then 1 else if n / 6 < d / 6 then 3 else 0

/-- The router beyond an output of router n; none at the edge of the mesh. -/
def beyond (n out : Nat) : Option Nat :=
  match out with
  | 1 => if n / 6 = 0 then none else some (n - 6)
  | 2 => if n % 6 = 5 then none else some (n + 1)
  | 3 => if n / 6 = 5 then none else some (n + 6)
  | 4 => if n % 6 = 0 then none else some (n - 1)
  | _ => none

/-- The Itard port on whose side slot k lies, 0 FWD and 1 AFT. -/
def sideOf (s : State) (k : Nat) : Nat := if decide (k < s.fab.slot) = s.fab.facing then 0 else 1

/-- Where the entry of EID e in router n is kept. -/
def routeKey (s : State) (n : Nat) (e : BitVec 12) : Nat :=
  n * 8192 + (if slotOf e = s.fab.slot then 4096 + localIndex e else e.toNat)

/-- The entry that reset and inauguration leave (R166, R159, R203, Table 5-12): the XY route of a listed index of the own
slot, and the side of another slot of the set. -/
def routeDefault (s : State) (n : Nat) (e : BitVec 12) : BitVec 8 :=
  if slotOf e = s.fab.slot then
    if listedIndex (localIndex e) then BitVec.ofNat 8 (0x80 + xyPort n (routerFor (localIndex e))) else 0
  else if slotOf e < s.fab.setSize then BitVec.ofNat 8 (0x86 + sideOf s (slotOf e)) else 0

/-- The routing entry of EID e in router n, bits [7:0] (Table 5-4). -/
def routeAt (s : State) (n : Nat) (e : BitVec 12) : BitVec 8 :=
  (get (fun _ => none) s.fab.routes (routeKey s n e)).getD (routeDefault s n e)

/-- The entry of EID e in router n written. -/
def setRoute (s : State) (n : Nat) (e : BitVec 12) (x : BitVec 8) : State :=
  { s with fab := { s.fab with routes := put (fun _ => none) s.fab.routes (routeKey s n e) (some x) } }

/-- The entry of EID e written in all 36 routers. -/
def setRoutes (s : State) (e : BitVec 12) (x : BitVec 8) : State := s.each (List.range 36) (fun s n => setRoute s n e x)

/-- Where a packet's way through the routers ends. -/
inductive Exit where
  | endpoint
  | itard (port : Nat)
  | noRoute
  deriving DecidableEq, Repr

/-- The way of a packet to EID e on virtual channel vc from router n: VC2 and VC3 use PORT, VC0 and VC1 use ALT where SEL is
set (R167); codes 6 and 7 lead towards routers 12 and 23 (R166). (DEDUCED, log 16) -/
def wayFrom (s : State) (e : BitVec 12) (vc : Nat) (fuel n : Nat) : Exit :=
  match fuel with
  | 0 => .noRoute
  | f + 1 =>
    let x := routeAt s n e
    let code := if x.getLsbD 6 && decide (vc ≤ 1) then bits x.toNat 5 3 else bits x.toNat 2 0
    if !x.getLsbD 7 then .noRoute
    else if code = 6 ∧ n = 12 then .itard 0
    else if code = 7 ∧ n = 23 then .itard 1
    else
      let out := if code = 6 then xyPort n 12 else if code = 7 then xyPort n 23 else code
      if out = 0 then (if slotOf e = s.fab.slot ∧ n = routerFor (localIndex e) then .endpoint else .noRoute)
      else match beyond n out with
        | some m => wayFrom s e vc f m
        | none => .noRoute

/-- The router at which a packet enters: its source's, or the port's from which it came. -/
def entryRouter (s : State) (p : Packet) : Nat :=
  if slotOf p.src = s.fab.slot then routerFor (localIndex p.src) else if sideOf s (slotOf p.src) = 0 then 12 else 23

/-! ### Packets (R161 to R164) -/

/-- The 16 header bytes of a packet (Table 5-2). -/
def headerBytes (p : Packet) : List Byte :=
  bytesOf 16 (p.dst.toNat + p.src.toNat * 2 ^ 12 + p.ptype.toNat * 2 ^ 24 + p.vc.toNat * 2 ^ 28 + p.len.toNat * 2 ^ 32
    + p.flow.toNat * 2 ^ 40 + p.seq.toNat * 2 ^ 48 + p.addr.toNat * 2 ^ 64 + p.cc.toNat * 2 ^ 112
    + num p.ccEn * 2 ^ 118 + p.hops.toNat * 2 ^ 119 + num p.err * 2 ^ 122)

/-- The CRC over every byte before the CRC field: header, payload and 12 bytes of padding (R161, R164). -/
def packetCrc (p : Packet) : BitVec 32 := crc32 (headerBytes p ++ p.payload ++ List.replicate 12 0)

/-- The bytes of a packet's flits: header, payload, padding and CRC (R161). -/
def packetBytes (p : Packet) : List Byte := headerBytes p ++ p.payload ++ List.replicate 12 0 ++ bytesOf 4 p.crc.toNat

/-- The packet that the bytes of whole flits make up (R161, Table 5-2). -/
def packetOf (l : List Byte) : Packet :=
  let h := ofBytes (l.take 16)
  { dst := BitVec.ofNat 12 h, src := BitVec.ofNat 12 (h / 2 ^ 12), ptype := BitVec.ofNat 4 (h / 2 ^ 24), vc := BitVec.ofNat 2 (h / 2 ^ 28)
    len := BitVec.ofNat 8 (h / 2 ^ 32), flow := BitVec.ofNat 8 (h / 2 ^ 40), seq := BitVec.ofNat 16 (h / 2 ^ 48)
    addr := BitVec.ofNat 48 (h / 2 ^ 64), cc := BitVec.ofNat 6 (h / 2 ^ 112), ccEn := h.testBit 118, hops := BitVec.ofNat 3 (h / 2 ^ 119)
    err := h.testBit 122, payload := (l.drop 16).take (l.length - 32), flits := l.length / 32
    crc := BitVec.ofNat 32 (ofBytes ((l.drop (l.length - 4)).take 4)) }

/-- The packet with its flits and CRC as a sender forms them. -/
def sealPacket (p : Packet) : Packet :=
  let q := { p with len := BitVec.ofNat 8 (p.payload.length / 32), flits := p.payload.length / 32 + 1 }
  { q with crc := packetCrc q }

/-- Local index i sent packet p. -/
def sentBy (s : State) (i : Nat) (p : Packet) : Bool := slotOf p.src = s.fab.slot && localIndex p.src = i

/-- The flits that local index i has sent and that have not arrived: its injection queue and the router buffers behind it (R179).
(DEDUCED, log 61) -/
def queuedFlits (s : State) (i : Nat) : Nat := ((s.fab.net.filter (sentBy s i)).map (·.flits)).sum

/-- Since when local index i holds new VC0 packets, where it does. -/
def holdsSince (s : State) (i : Nat) : Option Nat := get (fun _ => none) s.fab.holding i

/-- Packet p leaves through an Itard port for which endpoints hold VC0 packets (R180). -/
def portHolds (s : State) (p : Packet) : Bool :=
  slotOf p.dst ≠ s.fab.slot && match wayFrom s p.dst 0 72 (entryRouter s p) with
    | .itard f => (s.port f).hold
    | _ => false

/-- A new packet that its endpoint holds: of VC0, behind a full queue or towards a full Itard port (R179, R180). -/
def mustHold (s : State) (p : Packet) : Bool :=
  slotOf p.src = s.fab.slot && p.vc = 0 && ((holdsSince s (localIndex p.src)).isSome || portHolds s p)

/-- A packet enters the fabric; above FAB_THROTTLE.HI its endpoint begins to hold (R179). -/
def State.putNet (s : State) (p : Packet) : State :=
  let s1 := { s with fab := { s.fab with net := s.fab.net ++ [p] } }
  let i := localIndex p.src
  if slotOf p.src = s.fab.slot ∧ (holdsSince s i).isNone ∧ s.fldAt Reg.fabThrottle 7 0 < queuedFlits s1 i then
    { s1 with fab := { s1.fab with holding := put (fun _ => none) s1.fab.holding i (some s.now) } }
  else s1

/-- A packet put on the fabric, or held at its endpoint. -/
def State.inject (s : State) (p : Packet) : State :=
  if mustHold s p then { s with fab := { s.fab with held := s.fab.held ++ [p] } } else s.putNet p

/-- The held packets that nothing holds any more enter, oldest first. -/
def release (s : State) : State :=
  if s.fab.held.isEmpty then s else { s with fab := { s.fab with held := [] } }.each s.fab.held State.inject

/-- The cycles of its router for which local index i has held since t (R179). -/
def heldCycles (s : State) (i t : Nat) : Nat := (s.now - t) * (s.island (120 + routerFor i)).eff / 40

/-- The cycles held so far brought into FAB_THROTTLE_CYC. -/
def countHeld (s : State) : State :=
  s.each s.fab.holding (fun s e => match e.2 with
    | some t => { s.countBy Reg.fabThrottleCyc (heldCycles s e.1 t) with fab := { s.fab with
        holding := put (fun _ => none) s.fab.holding e.1 (some s.now) } }
    | none => s)

/-- A packet off the fabric; below FAB_THROTTLE.LO its endpoint releases what it holds (R179). -/
def State.leave (s : State) (p : Packet) : State :=
  let s1 := { s with fab := { s.fab with net := s.fab.net.erase p } }
  let i := localIndex p.src
  match holdsSince s i with
  | some t =>
    if slotOf p.src = s.fab.slot ∧ queuedFlits s1 i < s.fldAt Reg.fabThrottle 15 8 then
      let s2 := s1.countBy Reg.fabThrottleCyc (heldCycles s1 i t)
      release { s2 with fab := { s2.fab with holding := put (fun _ => none) s2.fab.holding i none } }
    else s1
  | none => s1

/-- The next SEQ of a flow of a local index, and the state after taking it (R178). -/
def takeSeq (s : State) (i flow : Nat) : Nat × State :=
  let k := i * 256 + flow
  let n := get (fun _ => 0) s.fab.flowOut k
  (n, { s with fab := { s.fab with flowOut := put (fun _ => 0) s.fab.flowOut k ((n + 1) % 65536) } })

/-- The next request tag of a local index, and the state after taking it (R223). -/
def takeTag (s : State) (i : Nat) : Nat × State :=
  let n := get (fun _ => 0) s.fab.tagOut i
  (n, { s with fab := { s.fab with tagOut := put (fun _ => 0) s.fab.tagOut i ((n + 1) % 65536) } })

/-- A packet of this device with every field but those given zero. -/
def plainPacket (dst src : BitVec 12) (ptype vc : Nat) (addr : Nat) (payload : List Byte) : Packet :=
  { dst := dst, src := src, ptype := BitVec.ofNat 4 ptype, vc := BitVec.ofNat 2 vc, len := 0, flow := 0, seq := 0
    addr := BitVec.ofNat 48 addr, cc := 0, ccEn := false, hops := 0, err := false, payload := payload, flits := 0, crc := 0 }

/-- The destination EID of a global address: the address's slot and the endpoint of its local part (R158, R360). -/
def destEid (s : State) (a : Nat) : Option (BitVec 12) :=
  match (targetOf s (addrLocal a)).index with
  | none => none
  | some i => some (BitVec.ofNat 12 (addrSlot a * 512 + i))

/-- A WRITE packet of a flow injected by local index `src`, tagged with a counter where `tag` gives one (R223, R373). -/
def sendWrite (s : State) (src flow vc a : Nat) (data : List Byte) (tag : Option Nat) : State :=
  match destEid s a with
  | none => s
  | some dst =>
    let (q, s) := takeSeq s src flow
    let p := plainPacket dst (ownEid s src) 0 vc a data
    s.inject (sealPacket { p with flow := BitVec.ofNat 8 flow, seq := BitVec.ofNat 16 q, cc := BitVec.ofNat 6 (tag.getD 0), ccEn := tag.isSome })

/-- A READ_REQ of n granules from local index `src`, with its tag. -/
def sendRead (s : State) (src vc a n tag : Nat) : State :=
  match destEid s a with
  | none => s
  | some dst =>
    let p := plainPacket dst (ownEid s src) 1 vc a []
    s.inject (sealPacket { p with flow := BitVec.ofNat 8 n, seq := BitVec.ofNat 16 tag })

/-- The operation code and operands of an ATOMIC's granule: the operation in byte 0, the operand in bytes 8 to 15, the
comparand in bytes 16 to 23 (the layout is the model's). (DESIGN CHOICE, log 13) -/
def atomicPayload (op : AmoOp) (x cmp : Word) : List Byte :=
  bytesOf 8 (match op with | .add => 0 | .swap => 1 | .cas => 2) ++ bytesOf 8 x.toNat ++ bytesOf 16 cmp.toNat

/-- An ATOMIC packet from local index `src`. -/
def sendAtomic (s : State) (src vc a : Nat) (op : AmoOp) (x cmp : Word) (tag : Nat) : State :=
  match destEid s a with
  | none => s
  | some dst =>
    let p := plainPacket dst (ownEid s src) 3 vc a (atomicPayload op x cmp)
    s.inject (sealPacket { p with seq := BitVec.ofNat 16 tag })

/-- A SIGNAL of a flow with CC_EN 1 and counter cc to an EID (R163, R372). -/
def sendSignal (s : State) (src flow vc : Nat) (dst : BitVec 12) (cc : Nat) : State :=
  let (q, s) := takeSeq s src flow
  let p := plainPacket dst (ownEid s src) 6 vc 0 []
  s.inject (sealPacket { p with flow := BitVec.ofNat 8 flow, seq := BitVec.ofNat 16 q, cc := BitVec.ofNat 6 cc, ccEn := true })

/-- What an atomic leaves in memory (Table 6-4). -/
def amoResult (op : AmoOp) (old x cmp : Word) : Word :=
  match op with
  | .add => old + x
  | .swap => x
  | .cas => if old = cmp then x else old

/-- What the router buffers did to a packet's flits: corrected errors are counted; one that is not correctable drops the packet (R200). -/
def bufferEcc (s : State) (p : Packet) : State :=
  let s1 := s.when (p.corrected ≠ 0) (fun s => s.countBy Reg.fabEccCe p.corrected)
  s1.when p.uncorrectable (fun s => (s.count Reg.fabEccUe).raise Reg.fabEvtStat 5)

/-- A packet as a sender formed it, less what the router buffers did to it. -/
def asSent (p : Packet) : Packet := { p with corrected := 0, uncorrectable := false }

/-- The mailbox of software endpoint m, 0 to 255, and its setting. -/
def State.box (s : State) (m : Nat) : Mailbox := get boxReset s.fab.boxes m
def State.setBox (s : State) (m : Nat) (b : Mailbox) : State :=
  { s with fab := { s.fab with boxes := put boxReset s.fab.boxes m b } }

end Sys2Proof.Machine
end

