-- ==== Sys2Proof/Machine/CtlPort.lean ====
section
/-! DEFINITION. The control cores as the other units meet them: their time and timer, Sv48, the memory attributes, and their caches
(R376, R377, R380, R464 to R466). -/
namespace Sys2Proof.Machine

open Sys2Proof

def ctlCore (s : State) (n : Nat) : CtlCore := get ctlCoreReset s.ctl.cores n
def setCtlCore (s : State) (n : Nat) (x : CtlCore) : State := { s with ctl := { s.ctl with cores := put ctlCoreReset s.ctl.cores n x } }

/-- The local index of control core n. -/
def ctlIndex (n : Nat) : Nat := 0x038 + n

/-! ### time and stimecmp (R465) -/

/-- The `time` CSR: Thyme's local time in ticks of 10 ns. -/
def ctlTime (s : State) : Word := BitVec.ofNat 64 (s.now / 10)

/-- The timer interrupt of control core n is pending. -/
def timerPending (s : State) (n : Nat) : Bool := decide ((ctlCore s n).stimecmp.toNat ≤ (ctlTime s).toNat)

/-- A CSR read. -/
def readCsr (s : State) (n : Nat) (r : Csr) : Word :=
  match r with
  | .satp => (ctlCore s n).satp
  | .stimecmp => (ctlCore s n).stimecmp
  | .time => ctlTime s

/-- A CSR write: `time` is read only; a satp whose mode is neither Bare nor Sv48 is not taken. (PRESUMED, log 199) -/
def writeCsr (s : State) (n : Nat) (r : Csr) (v : Word) : State :=
  match r with
  | .satp => if fld v 63 60 = 0 ∨ fld v 63 60 = 8 + 1 then setCtlCore (s.answer 0) n { ctlCore s n with satp := v } else s.answer 0
  | .stimecmp => setCtlCore (s.answer 0) n { ctlCore s n with stimecmp := v }
  | .time => s.busError

/-! ### The caches (R377, R466) -/

/-- The line of local addresses 64k to 64k + 63, where the caches hold it. -/
def ctlLine (s : State) (k : Nat) : Option CtlLine := get (fun _ => none) s.ctl.lines k
def setCtlLine (s : State) (k : Nat) (l : Option CtlLine) : State :=
  { s with ctl := { s.ctl with lines := put (fun _ => none) s.ctl.lines k l } }

/-- The byte at a local address as the control cores see it. -/
def ctlByte (s : State) (a : Nat) : Byte :=
  match ctlLine s (a / 64) with
  | some l => (l.data[a % 64]?).getD 0
  | none => s.byte a

/-- The number of n bytes at a local address as the control cores see it. -/
def ctlLoad (s : State) (a n : Nat) : Nat := ofBytes ((List.range n).map (fun i => ctlByte s (a + i)))

/-- What stops a transfer of the line at local address a through the control port: the state with the error reported (R363, R380, R383). -/
def lineError (s : State) (a : Nat) : Option State :=
  match targetOf s a with
  | .dram ch => if !channelUp s ch then some s else if s.anyPoison a 64 then some (uncorrectable s a) else none
  | .sram c g => if !groupOpen s c g then some (offAccess s a) else if s.anyPoison a 64 then some (uncorrectable s a) else none
  | _ => some s

/-- A line leaves the caches: what a store has changed in it goes to memory. -/
def evict (s : State) (k : Nat) : State :=
  match ctlLine s k with
  | none => s
  | some l => (setCtlLine s k none).when (l.dirty && (lineError s (64 * k)).isNone) (fun s => putData s (64 * k) l.data)

/-- Before an access the caches may let go of lines: which is free. (DESIGN CHOICE, log 197) -/
def evictSome (s : State) : State :=
  (s.each (s.ctl.lines.map (·.1)) (fun t k => if Config.evicts s.freeCtr k then evict t k else t)).draw

/-- A line comes into the caches. -/
def fillLine (s : State) (k : Nat) : State :=
  if (ctlLine s k).isSome then s else setCtlLine s k (some { data := s.bytes (64 * k) 64, dirty := false })

/-- A byte stored in the caches. -/
def storeCached (s : State) (a : Nat) (b : Byte) : State :=
  match ctlLine s (a / 64) with
  | some l => setCtlLine s (a / 64) (some { data := l.data.set (a % 64) b, dirty := true })
  | none => s

/-- The lines that n bytes at a local address touch. -/
def linesOf (a n : Nat) : List Nat := if a / 64 = (a + n - 1) / 64 then [a / 64] else [a / 64, (a + n - 1) / 64]

/-- A load, or a store of v, in the own DRAM or SRAM tier, through the caches and the control port: any size and alignment. A guarded slice
takes a control core's stores under its mask (R365). -/
def cachedAccess (s : State) (n a size : Nat) (v : Option Nat) : State :=
  let s := evictSome s
  let guarded (k : Nat) : Bool := match targetOf s (64 * k) with
    | .sram c _ => v.isSome && !mayWriteSlice s (ctlIndex n) c
    | _ => false
  match (linesOf a size).findSome? (fun k => if (ctlLine s k).isSome then none else lineError s (64 * k)) with
  | some t => t.busError
  | none =>
    if (linesOf a size).any guarded then (guardDenied s a).busError
    else
      let s := s.each (linesOf a size) fillLine
      match v with
      | none => s.answer (BitVec.ofNat 64 (ctlLoad s a size))
      | some x => (s.each ((bytesOf size x).zipIdx) (fun s b => storeCached s (a + b.2) b.1)).answer 0

/-! ### Sv48 (R376) -/

/-- What becomes of a virtual address: a physical one, a page fault, an access fault. -/
inductive Walk where
  | pa (a : Nat)
  | page
  | access
  deriving DecidableEq, Repr

/-- The permissions of a leaf entry allow the access: W or R; U pages for U-mode alone; A, and D for a store, are set. (PRESUMED, log 199) -/
def leafAllows (pte : Nat) (store : Bool) (priv : Priv) : Bool :=
  (if store then pte.testBit 2 && pte.testBit 7 else pte.testBit 1) && pte.testBit 6 && (pte.testBit 4 == decide (priv = .u))

/-- The walk from the table at `base`, with i levels below it. An entry that memory does not give is an access fault; so is a leaf whose
physical address has a bit above 47 set (R376). (PRESUMED, log 199) -/
def walk (s : State) (va : Nat) (store : Bool) (priv : Priv) : Nat → Nat → Walk
  | i, base =>
    let at_ := base + 8 * (va / 2 ^ (12 + 9 * i) % 512)
    let pte := ctlLoad s (addrLocal at_) 8
    let ppn := bits pte 53 10
    if 2 ^ 48 ≤ at_ ∨ addrSlot at_ ≠ s.fab.slot ∨ ((ctlLine s (addrLocal at_ / 64)).isNone ∧ (lineError s (addrLocal at_ / 64 * 64)).isSome) then .access
    else if !pte.testBit 0 ∨ (pte.testBit 2 ∧ !pte.testBit 1) ∨ bits pte 63 54 ≠ 0 then .page
    else if pte.testBit 1 ∨ pte.testBit 3 then
      if ppn % 2 ^ (9 * i) ≠ 0 ∨ !leafAllows pte store priv then .page
      else if 2 ^ 48 ≤ ppn * 2 ^ 12 then .access
      else .pa (ppn * 2 ^ 12 + va % 2 ^ (12 + 9 * i))
    else match i with
      | 0 => .page
      | j + 1 => walk s va store priv j (ppn * 2 ^ 12)

/-- The physical address of an access: with satp Bare, in M-mode, and for any requester but a control core, the address itself. -/
def physical (s : State) (who : Requester) (a : Nat) (priv : Priv) (store : Bool) : Walk :=
  let plain : Walk := if a < 2 ^ 48 then .pa a else .access
  match who with
  | .cc n =>
    let satp := (ctlCore s n).satp
    if priv = .m ∨ fld satp 63 60 = 0 then plain
    else if a / 2 ^ 47 ≠ 0 ∧ a / 2 ^ 47 ≠ 2 ^ 17 - 1 then .page
    else walk s (a % 2 ^ 48) store priv 3 (fld satp 43 0 * 2 ^ 12)
  | _ => plain

/-! ### The memory attributes (Table 10-5) -/

/-- A load through the fabric: the enclosing granules are asked for, and the answer comes with their READ_RESP (R219). -/
def askFabric (s : State) (n a size : Nat) : State :=
  sendRead (setCtlCore s n { ctlCore s n with load := some (a, size) }) (ctlIndex n) 0 (a / 32 * 32) ((a % 32 + size + 31) / 32) 0

/-- The answer to a load through the fabric: the bytes asked for, or an access fault. -/
def ctlReturn (s : State) (n : Nat) (err : Bool) (data : List Byte) : State :=
  match (ctlCore s n).load with
  | none => s
  | some (a, size) =>
    let s := setCtlCore s n { ctlCore s n with load := none }
    if err then s.busError else s.answer (BitVec.ofNat 64 (ofBytes ((data.drop (a % 32)).take size)))

/-- A load, or a store of v, of a control core at a physical address outside its control space, under Table 10-5. No store of a control core
covers a whole granule, so none goes to a scratchpad or to another slot (R219). -/
def ctlAccess (s : State) (n a size : Nat) (v : Option Nat) : State :=
  if !([1, 2, 4, 8].contains size) then s.busError
  else if addrSlot a ≠ s.fab.slot then
    (if v.isSome ∨ s.fab.setSize ≤ addrSlot a then s.busError else askFabric s n a size)
  else match targetOf s (addrLocal a) with
    | .dram _ => cachedAccess s n (addrLocal a) size v
    | .sram _ _ => cachedAccess s n (addrLocal a) size v
    | .scratch _ => if v.isSome then s.busError else askFabric s n a size
    | .rom => if v.isSome then s.busError
        else s.answer (BitVec.ofNat 64 (ofBytes ((List.range size).map (fun i => Config.bootRom (addrLocal a - 0x1F_0000_0000 + i)))))
    | _ => s.busError

end Sys2Proof.Machine
end

