-- ==== Sys2Proof/Machine/PxCore.lean ====
section
/-! DEFINITION. The PX thread: its registers, the gathering of a bundle, the checks before it takes effect, its
memory accesses, exception entry, and the completion of a bundle (chapters 6 and 7). -/
namespace Sys2Proof.Machine

open Sys2Proof

/-! ### Registers of a thread (R207, R210, R216) -/

/-- s_i; s0 reads as zero (R216). -/
def Thread.sreg (t : Thread) (i : Nat) : Word := if i = 0 then 0 else get (fun _ => 0) t.s i
def Thread.vreg (t : Thread) (i : Nat) : BitVec 1024 := get (fun _ => 0) t.v i
def Thread.preg (t : Thread) (i : Nat) : BitVec 128 := get (fun _ => 0) t.p i
def Thread.areg (t : Thread) (i : Nat) : BitVec 4096 := get (fun _ => 0) t.a i
/-- A thread control register as stored. -/
def Thread.tcrAt (t : Thread) (n : Nat) : Word := get (fun _ => 0) t.tcr n

/-- A write of s_i; writes to s0 are ignored (R216). -/
def Thread.setS (t : Thread) (i : Nat) (x : Word) : Thread :=
  if i = 0 then t else { t with s := put (fun _ => 0) t.s i x }
def Thread.setV (t : Thread) (i : Nat) (x : BitVec 1024) : Thread := { t with v := put (fun _ => 0) t.v i x }
def Thread.setP (t : Thread) (i : Nat) (x : BitVec 128) : Thread := { t with p := put (fun _ => 0) t.p i x }
def Thread.setA (t : Thread) (i : Nat) (x : BitVec 4096) : Thread := { t with a := put (fun _ => 0) t.a i x }
def Thread.setTcr (t : Thread) (n : Nat) (x : Word) : Thread := { t with tcr := put (fun _ => 0) t.tcr n x }

/-- The numbers of Table 6-1. -/
def TSTAT : Nat := 0x000
def EPC : Nat := 0x001
def CAUSE : Nat := 0x002
def TVAL : Nat := 0x003
def TIDX : Nat := 0x004
def IVEC : Nat := 0x005
def IE : Nat := 0x006
def IP : Nat := 0x007
def TCTX : Nat := 0x00A
def STAG : Nat := 0x00B
def TIMECMP : Nat := 0x00C
def CCIRQ : Nat := 0x00D
def MBOX : Nat := 0x00E
def LC (l : Nat) : Nat := 0x010 + 3 * l
def LS (l : Nat) : Nat := 0x011 + 3 * l
def LE (l : Nat) : Nat := 0x012 + 3 * l
def VL : Nat := 0x030
def VSTART : Nat := 0x031

/-- TSTAT.MODE, IE, PART, TRES and STEP. -/
def Thread.monitor (t : Thread) : Bool := bit (t.tcrAt TSTAT) 0
def Thread.ie (t : Thread) : Bool := bit (t.tcrAt TSTAT) 1
def Thread.part (t : Thread) : Bool := bit (t.tcrAt TSTAT) 4
def Thread.tres (t : Thread) : Bool := bit (t.tcrAt TSTAT) 5
def Thread.stepping (t : Thread) : Bool := bit (t.tcrAt TSTAT) 7
def Thread.setTstat (t : Thread) (i : Nat) (b : Bool) : Thread := t.setTcr TSTAT (setBit (t.tcrAt TSTAT) i b)
/-- `vl`. -/
def Thread.vl (t : Thread) : Nat := (t.tcrAt VL).toNat

/-- RUN, or the handler of a fault taken while the thread was stopping (Table 7-10). -/
def Thread.runs (t : Thread) : Bool := decide (t.st = .run) || decide (t.st = .stopLater)

/-- A number that Table 6-1 lists (R210). -/
def tcrListed (n : Nat) : Bool := decide (n ≤ 0x015) || n = 0x020 || n = 0x021 || n = 0x022 || n = 0x030 || n = 0x031

/-- A register marked M in Table 6-1 (R209). -/
def tcrMonitor (n : Nat) : Bool := decide (n ≤ 0x00A) || n = 0x00C || n = 0x00D || n = 0x00E

/-- IP as it reads: the stored bits, and MESSAGE while the mailbox that MBOX names is not empty (Table 6-8). -/
def ipOf (s : State) (t : Thread) : Word :=
  setBit (t.tcrAt IP) 3 (bit (t.tcrAt MBOX) 8 && !(s.box (fld (t.tcrAt MBOX) 7 0)).queue.isEmpty)

/-- What `mfc` reads from register n of thread t of core c (Table 6-1). -/
def readTcr (s : State) (c t n : Nat) : Word :=
  let th := s.thread c t
  if n = IP then ipOf s th
  else if n = 0x00F then BitVec.ofNat 64 (c + 32 * t)
  else if n = 0x020 then Config.cycles c s.now
  else if n = 0x021 then BitVec.ofNat 64 th.bundles
  else if n = 0x022 then BitVec.ofNat 64 s.now
  else th.tcrAt n

/-- What a write of a thread control register leaves in it (Table 6-1): IVEC[5:0] are ignored, a 1 written to IP
clears the bit but not TIMER while it holds, `vl` is at most 128, read-only registers keep their value. -/
def tcrValue (s : State) (th : Thread) (n : Nat) (x : Word) : Word :=
  if n = TSTAT then x &&& mask 7 0
  else if n = IVEC then x &&& ~~~(mask 5 0)
  else if n = IE then x &&& mask 4 0
  else if n = IP then th.tcrAt IP &&& ~~~(x &&& ~~~(if (th.tcrAt TIMECMP).toNat ≤ s.now then oneBit 1 else 0))
  else if n = STAG ∨ n = CCIRQ then x &&& mask 6 0
  else if n = MBOX then x &&& mask 8 0
  else if n = VL then BitVec.ofNat 64 (Nat.min x.toNat 128)
  else if n = 0x00F ∨ n = 0x020 ∨ n = 0x021 ∨ n = 0x022 then th.tcrAt n
  else x

/-- A write of a thread control register with its effect on IP: TIMECMP sets or clears TIMER, CCIRQ with EN on a
counter at zero sets COUNTER (Table 6-8). -/
def writeTcr (s : State) (c t n : Nat) (x : Word) : State :=
  let th := s.thread c t
  let v := tcrValue s th n x
  let th := th.setTcr n v
  let th :=
    if n = TIMECMP then th.setTcr IP (setBit (th.tcrAt IP) 1 (decide (v.toNat ≤ s.now)))
    else if n = CCIRQ ∧ bit v 6 ∧ ccVal s c (fld v 5 0) = 0 then th.setTcr IP (setBit (th.tcrAt IP) 2 true)
    else th
  s.setThread c t th

/-- A register write applied. -/
def applyVal (s : State) (c t : Nat) (w : RVal) : State :=
  match w with
  | .s i x => s.modThread c t (fun th => th.setS i x)
  | .v i x => s.modThread c t (fun th => th.setV i x)
  | .p i x => s.modThread c t (fun th => th.setP i x)
  | .a i x => s.modThread c t (fun th => th.setA i x)
  | .tcr n x => writeTcr s c t n x

/-! ### Names that a syllable writes (R212) -/

def RVal.name (w : RVal) : RName :=
  match w with
  | .s i _ => .s i
  | .v i _ => .v i
  | .p i _ => .p i
  | .a i _ => .a i
  | .tcr n _ => .tcr n

def LoadDst.names (d : LoadDst) : List RName :=
  match d with
  | .s i _ => [.s i]
  | .g i => [.s i, .s (i + 1), .s (i + 2), .s (i + 3)]
  | .p i => [.p i]

/-- Every register that a syllable writes; s0 does not count (R216). -/
def Syl.dests (y : Syl) : List RName :=
  (y.wr.map RVal.name
    ++ (match y.mem with
        | .load d _ _ => d.names
        | .amo _ d _ _ _ => [.s d]
        | .ccrd d _ => [.s d]
        | .ccwait d _ _ => [.s d]
        | _ => [])
    ++ (match y.res with
        | .vm .ld vd _ _ _ _ _ | .vm .lds vd _ _ _ _ _ | .vm .gather vd _ _ _ _ _ => [.v vd]
        | .vm .lda vd _ _ _ _ _ => [.a vd]
        | _ => [])
    ++ (match y.ctl with
        | .jump _ _ (some r) => [.s r]
        | .loopSet l _ _ => [.tcr (LC l), .tcr (LS l), .tcr (LE l)]
        | .rfe _ => [.tcr TSTAT]
        | _ => [])).filter (fun n => n ≠ .s 0)

/-- A syllable with nothing in it but its class. -/
def emptySyl (cls : Nat) : Syl := { cls := cls, reads := [], wr := [], mem := .none, res := .none, ctl := .none, faults := [] }

/-- A resumable syllable (R212). -/
def Syl.resumable (y : Syl) : Bool :=
  match y.res with
  | .none => false
  | _ => true

/-- The rules of R212 on a run of syllables. -/
def legalRun (l : List Syl) : Bool :=
  let n (f : Syl → Bool) := (l.filter f).length
  let ds := l.map Syl.dests
  decide (n (fun y => y.cls = 0) ≤ 2) && decide (n (fun y => y.cls = 1) ≤ 2)
    && decide (n (fun y => y.cls = 2 || y.cls = 3) ≤ 3) && decide (n (fun y => y.cls = 4 || y.cls = 5) ≤ 1)
    && l.all (fun y => decide (y.cls ≤ 5))
    && (l.zip (l.drop 1)).all (fun yz => decide (yz.1.cls ≤ yz.2.cls))
    && decide (ds.flatten.Nodup)
    && decide (n Syl.resumable ≤ 1)
    && (n Syl.resumable = 0 ||
        (n (fun y => y.cls = 4) = 0 &&
          l.all (fun y => y.resumable ||
            y.dests.all (fun d => !(l.any (fun z => z.resumable && z.reads.contains d))))))

/-- The index of the first syllable with which the bundle breaks a rule of R212 (Table 6-7). (DEDUCED, log 19) -/
def illegalAt (l : List Syl) : Option Nat :=
  (List.range l.length).find? (fun i => !legalRun (l.take (i + 1)))

/-! ### Where an access goes (R218 to R221) -/

/-- The path of an access (R218). -/
inductive Path where
  | scratch | slice | fabric | fault
  deriving DecidableEq, Repr

/-- The path of address a from core c. -/
def pathOf (s : State) (c a : Nat) : Path :=
  let l := addrLocal a
  if addrSlot a ≠ s.fab.slot then
    (match (targetOf s l).index with
     | some i => if addrSlot a < s.fab.setSize ∧ i ≠ 0x090 then .fabric else .fault
     | none => .fault)
  else match targetOf s l with
    | .scratch n => if n = c then .scratch else .fabric
    | .sram k g => if k = c / 3 then (if groupOpen s k g then .slice else .fault) else .fabric
    | .dram _ => .fabric
    | _ => .fault

/-- Whether n bytes at a lie wholly within a window of the core with the permissions asked for (R220). -/
def windowOk (s : State) (c t a n perm : Nat) : Bool :=
  (List.range 8).any (fun w =>
    let base := (s.reg (Reg.pxcWinBase c w)).toNat
    let size := (s.reg (Reg.pxcWinSize c w)).toNat
    let attr := (s.reg (Reg.pxcWinAttr c w)).toNat
    decide (size ≠ 0) && decide (base ≤ a) && decide (a + n ≤ base + size) && decide (attr % 8 &&& perm = perm)
      && attr.testBit (4 + t))

/-- The permissions of a window: R, W, X. -/
def permR : Nat := 1
def permW : Nat := 2
def permX : Nat := 4

/-- The causes that an access of n bytes at a raises before it takes effect, with the address as TVAL (R218 to R222,
R274): misaligned to `al`, a fabric store that is not whole granules, outside the windows, unmapped. -/
def accessFaults (s : State) (c t a n al perm : Nat) (granules : Bool) : List (Nat × Nat) :=
  (if a % al = 0 then [] else [(0x04, a)])
    ++ (if granules ∧ pathOf s c a = .fabric ∧ (a % 32 ≠ 0 ∨ n % 32 ≠ 0) then [(0x05, a)] else [])
    ++ (if (s.thread c t).monitor ∨ windowOk s c t a n perm then [] else [(0x06, a)])
    ++ (if pathOf s c a = .fault then [(0x07, a)] else [])

/-- Uncorrectable data met by a direct access (R244, R379, R380). -/
def eccFaults (s : State) (c a n : Nat) (isStore : Bool) : List (Nat × Nat) :=
  if pathOf s c a = .scratch ∨ pathOf s c a = .slice then
    if (if isStore then partialPoison s (addrLocal a) n else s.anyPoison (addrLocal a) n) then [(0x0A, a)] else []
  else []

/-- The causes of a non-resumable memory access (R222). -/
def memFaults (s : State) (c t : Nat) (op : MemOp) : List (Nat × Nat) :=
  match op with
  | .load _ a n => accessFaults s c t a n n permR false ++ eccFaults s c a n false
  | .store a n _ => accessFaults s c t a n n permW true ++ eccFaults s c a n true
  | .amo _ _ a _ _ =>
    accessFaults s c t a 8 8 (permR + permW) false ++ (if pathOf s c a = .scratch then eccFaults s c a 8 false else [])
  | _ => []

/-- The causes of the fetch of a bundle of n syllables at b: outside an X window in task mode, or not from DRAM or the
SRAM tier, or from memory that is not up (R220, R221, R363, R383). (DEDUCED, log 193) -/
def fetchFaults (s : State) (c t b n : Nat) : List (Nat × Nat) :=
  ((List.range n).map (fun i => b + 4 * i)).filterMap (fun a =>
    let own := decide (addrSlot a = s.fab.slot)
    let ok := match targetOf s (addrLocal a) with
      | .dram ch => !own || channelUp s ch
      | .sram k g => !own || groupOpen s k g
      | _ => false
    if ok && decide (addrSlot a < s.fab.setSize) && ((s.thread c t).monitor || windowOk s c t a 4 permX) then none
    else some (0x09, a))

/-! ### Exceptions and interrupts (R225, R237 to R239, R247) -/

/-- The lowest cause of a list, the earliest of equals (R237). -/
def lowestCause (l : List (Nat × Nat)) : Option (Nat × Nat) :=
  l.foldl (fun m x => match m with
    | none => some x
    | some y => if x.1 < y.1 then some x else some y) none

/-- Exception or interrupt entry for cause k at the thread's pc (R239), or the double fault (R247). (DEDUCED, log 18) -/
def enter (s : State) (c t k tval : Nat) (deferred : Bool) : State :=
  let th := s.thread c t
  let next := if th.once then ThrState.stopped else if th.st = ThrState.stopping then ThrState.stopLater else th.st
  let gone : Thread := { th with cause := k, bundle := [], wait := .none, started := false, st := next, once := false, todo := [], due := none }
  if th.monitor && !th.ie && decide (k < 0x80) then
    ((s.setThread c t { gone with st := .halted }).raise (Reg.pxcIrqStat c) (4 + t)).raise (Reg.pxcIrqStat c) t
  else
    let st := th.tcrAt TSTAT
    let st := setBit (setBit (setBit (setBit (setBit st 2 th.monitor) 3 th.ie) 0 true) 1 false) 6 deferred
    s.setThread c t
      { (((gone.setTcr TSTAT st).setTcr EPC (BitVec.ofNat 64 th.pc)).setTcr CAUSE (BitVec.ofNat 64 k)).setTcr TVAL
          (BitVec.ofNat 64 tval) with pc := (th.tcrAt IVEC).toNat % 2 ^ 48 }

/-- Outstanding loads that have not returned. -/
def Thread.waitingLoads (th : Thread) : List Load := th.loads.filter (fun l => !l.err)

/-- The cause 0x08 of a load that returned ERR, if one is held (R225). (DEDUCED, log 21) -/
def Thread.deferredErr (th : Thread) : Option Load := th.loads.find? (fun l => l.err)

/-- The interrupt that is pending, enabled and of the highest priority (Table 6-8). -/
def pendingIrq (s : State) (th : Thread) : Option Nat :=
  [4, 1, 2, 3, 0].find? (fun i => bit (ipOf s th) i && bit (th.tcrAt IE) i)

/-- The thread takes the fault k of its bundle: the access that fell on a closed bank group or outside the set is counted
(R160, R363), and a load that returned ERR is spent when its fault is the one taken (R225). -/
def takeFault (s : State) (c t k tval : Nat) : State :=
  let l := addrLocal tval
  let s :=
    if k = 0x07 then
      if addrSlot tval ≠ s.fab.slot then s.when (decide (s.fab.setSize ≤ addrSlot tval)) (fun s => s.count Reg.fabNoroute)
      else match targetOf s l with
        | .sram _ _ => offAccess s l
        | _ => s
    else if k = 0x0A ∧ (pathOf s c tval = .scratch ∨ pathOf s c tval = .slice) then uncorrectable s l
    else s
  if k = 0x08 then
    let th := s.thread c t
    let s := s.setThread c t { th with loads := th.loads.filter (fun x => !(x.err && x.addr = tval)) }
    enter s c t k tval true
  else enter s c t k tval false

/-- The interrupt entry of a thread, at a bundle, element or tile boundary; a held ERR is taken first (R225, R239). -/
def takeInterrupt (s : State) (c t i : Nat) : State :=
  match (s.thread c t).deferredErr with
  | some l => takeFault s c t 0x08 l.addr
  | none => enter s c t (0x80 + i) 0 false

/-- The exception of cause k: a held ERR is taken in its place where its cause is the lower (R225, R237). -/
def takeCause (s : State) (c t k tval : Nat) : State :=
  match (s.thread c t).deferredErr with
  | some x => if 0x08 < k then takeFault s c t 0x08 x.addr else takeFault s c t k tval
  | none => takeFault s c t k tval

/-- The exception of cause k, which waits until every outstanding load and atomic of the thread has returned (R239). -/
def raiseCause (s : State) (c t k tval : Nat) : State :=
  let th := s.thread c t
  match th.wait with
  | .atomic _ _ _ => s.setThread c t { th with due := some (k, tval) }
  | _ =>
    if th.waitingLoads.isEmpty then takeCause s c t k tval
    else s.setThread c t { th with wait := .due, due := some (k, tval) }

/-! ### Memory accesses of a bundle -/

/-- The virtual channel of the thread's fabric packets (R223). -/
def threadVc (s : State) (c t : Nat) : Nat := if vc2Enabled s c && s.bitAt (Reg.pxcThrCtrl c t) 3 then 2 else 0

/-- The counter that tags the thread's fabric stores (R223). -/
def storeTag (th : Thread) : Option Nat :=
  if bit (th.tcrAt STAG) 6 then some (fld (th.tcrAt STAG) 5 0) else none

/-- The register writes that n loaded bytes make. -/
def loadVals (d : LoadDst) (n x : Nat) : List RVal :=
  match d with
  | .s i signed => [.s i (if signed then BitVec.ofInt 64 (sext x (8 * n)) else BitVec.ofNat 64 x)]
  | .g i => (List.range 4).map (fun k => .s (i + k) (BitVec.ofNat 64 (x / 2 ^ (64 * k))))
  | .p i => [.p i (BitVec.ofNat 128 x)]

/-- A store by thread t of core c of the n low bytes of x at a: direct, or as WRITE packets of one granule each, in the flow of the
thread (R223, R270). (DESIGN CHOICE, log 189) -/
def doStore (s : State) (c t a n x : Nat) : State :=
  if pathOf s c a = .fabric then
    s.each (List.range (n / 32)) (fun s k =>
      sendWrite s c t (threadVc s c t) (a + 32 * k) (bytesOf 32 (x / 2 ^ (256 * k))) (storeTag (s.thread c t)))
  else putData s (addrLocal a) (bytesOf n x)

/-- Counter cc of core c may have reached zero: COUNTER becomes pending in the threads whose CCIRQ names it (Table 6-8). -/
def counterIrq (s : State) (c cc : Nat) : State :=
  if ccVal s c cc = 0 then
    s.each (List.range 4) (fun s t =>
      let th := s.thread c t
      if bit (th.tcrAt CCIRQ) 6 && decide (fld (th.tcrAt CCIRQ) 5 0 = cc) then
        s.setThread c t (th.setTcr IP (setBit (th.tcrAt IP) 2 true))
      else s)
  else s

/-- A non-resumable memory access takes effect: the state, and the register writes it makes at once (R222). -/
def doMem (s : State) (c t : Nat) (op : MemOp) (timedOut : Bool) : State × List RVal :=
  match op with
  | .none => (s, [])
  | .load d a n =>
    if pathOf s c a = .fabric then
      let (tag, s) := takeTag s c
      let s := sendRead s c (threadVc s c t) (a / 32 * 32) 1 tag
      (s.modThread c t (fun th => { th with loads := th.loads ++ [{ tag := tag, addr := a, size := n, dst := d, err := false }] }), [])
    else (s, loadVals d n (s.load (addrLocal a) n))
  | .store a n x => (doStore s c t a n x, [])
  | .amo op d a x cmp =>
    if pathOf s c a = .scratch then
      let old := BitVec.ofNat 64 (s.load (addrLocal a) 8)
      (putData s (addrLocal a) (bytesOf 8 (amoResult op old x cmp).toNat), [.s d old])
    else
      let (tag, s) := takeTag s c
      let s := sendAtomic s c (threadVc s c t) a op x cmp tag
      (s.modThread c t (fun th => { th with wait := .atomic tag a d }), [])
  | .signal e cc => (sendSignal s c t (threadVc s c t) (BitVec.ofNat 12 e) cc, [])
  | .ccadd cc v => (counterIrq (ccPut s c cc (ccVal s c cc + v)) c cc, [])
  | .ccset cc v => (counterIrq (ccWrite s c cc v) c cc, [])
  | .ccrd d cc => (s, [.s d ((ccVal s c cc).setWidth 64)])
  | .ccwait d _ _ => (s, [.s d (if timedOut then 1 else 0)])
  | .fence => (s, [])
  | .icinv a whole =>
    let x := s.core c
    (s.setCore c { x with icLines := if whole then [] else put (fun _ => false) x.icLines (a / 64) false }, [])

/-- Accesses in syllable order, with the register writes they make; those behind an atomic that goes to the fabric wait for its old value
(R213, R226). -/
def doMems (s : State) (c t : Nat) (timedOut : Bool) (ops : List MemOp) : State × List RVal :=
  match ops with
  | [] => (s, [])
  | op :: rest =>
    let x := doMem s c t op timedOut
    match (x.1.thread c t).wait with
    | .atomic _ _ _ => (x.1.modThread c t (fun th => { th with todo := rest ++ th.todo }), x.2)
    | _ =>
      let y := doMems x.1 c t timedOut rest
      (y.1, x.2 ++ y.2)

/-- A vector memory syllable. -/
def Syl.isVm (y : Syl) : Bool :=
  match y.res with
  | .vm .. => true
  | _ => false

/-- An atomic. -/
def MemOp.isAmo (m : MemOp) : Bool :=
  match m with
  | .amo .. => true
  | _ => false

/-- `ccwait`, which touches no memory: its wait is over when the bundle issues. -/
def MemOp.isWait (m : MemOp) : Bool :=
  match m with
  | .ccwait _ _ _ => true
  | _ => false

/-- The accesses of a bundle that come after its vector memory syllable, and the rest (R213, Table 7-10). -/
def memsLater (l : List Syl) : List MemOp := ((l.dropWhile (fun y => !y.isVm)).map (·.mem))
def memsAfter (l : List Syl) : List MemOp := (memsLater l).filter (fun m => decide (m ≠ .none) && !m.isWait)
def memsBefore (l : List Syl) : List MemOp := (l.takeWhile (fun y => !y.isVm)).map (·.mem) ++ (memsLater l).filter MemOp.isWait

/-- The accesses of a bundle in syllable order, then its register writes (R213); accesses behind a vector memory syllable are left to do. -/
def doBundle (s : State) (c t : Nat) (l : List Syl) (timedOut : Bool) : State :=
  let s := s.when (!(memsAfter l).isEmpty) (fun s => s.modThread c t (fun th => { th with todo := memsAfter l }))
  let x := doMems s c t timedOut (memsBefore l)
  x.1.each (l.flatMap (fun y => y.wr) ++ x.2) (fun s w => applyVal s c t w)

/-- The accesses left to do take effect. -/
def doTodo (s : State) (c t : Nat) : State :=
  let ops := (s.thread c t).todo
  if ops.isEmpty then s
  else
    let x := doMems (s.modThread c t (fun th => { th with todo := [] })) c t false ops
    x.1.each x.2 (fun s w => applyVal s c t w)

/-! ### Completion of a bundle -/

/-- One level of the zero-overhead loops at address n, unless a higher level has gone back (`done`): at its end LC counts down, and
while it is not zero the thread goes back to LS (R230). -/
def loopLevel (s : State) (c t n : Nat) (done : Bool) (l : Nat) : State × Nat × Bool :=
  let th := s.thread c t
  if !done && decide (th.tcrAt (LC l) ≠ 0) && decide (n = (th.tcrAt (LE l)).toNat) then
    let lc := th.tcrAt (LC l) - 1
    let s := s.setThread c t (th.setTcr (LC l) lc)
    if lc ≠ 0 then (s, (th.tcrAt (LS l)).toNat, true) else (s, n, false)
  else (s, n, done)

/-- The next address after a bundle without a taken branch: the loop registers are served, level 1 first (R230). -/
def loopNext (s : State) (c t n : Nat) : State × Nat :=
  let x := loopLevel s c t n false 1
  let y := loopLevel x.1 c t x.2.1 x.2.2 0
  (y.1, y.2.1)

/-- The control part of a bundle of n syllables at b: the state, and where the pc goes (R229, R230, R239). -/
def doControl (s : State) (c t b n : Nat) (ctl : Ctl) : State × Nat :=
  let after := (b + 4 * n) % 2 ^ 48
  match ctl with
  | .jump taken target link =>
    let s := match link with
      | some r => s.modThread c t (fun th => th.setS r (BitVec.ofNat 64 after))
      | none => s
    if taken then (s, target % 2 ^ 48) else loopNext s c t after
  | .loopSet l count endoff =>
    let s := s.modThread c t (fun th =>
      ((th.setTcr (LE l) (BitVec.ofNat 64 ((b + endoff * 4) % 2 ^ 48))).setTcr (LS l) (BitVec.ofNat 64 after)).setTcr (LC l)
        (BitVec.ofNat 64 count))
    if count = 0 then (s, (b + endoff * 4) % 2 ^ 48) else loopNext s c t after
  | .rfe epc =>
    let th := s.thread c t
    let st := th.tcrAt TSTAT
    (s.setThread c t (th.setTcr TSTAT (setBit (setBit st 0 (bit st 2)) 1 (bit st 3))), epc)
  | _ => loopNext s c t after

/-- The control part among the syllables of a bundle. -/
def bundleCtl (l : List Syl) : Ctl :=
  match l.find? (fun y => y.ctl ≠ .none) with
  | some y => y.ctl
  | none => .none

/-- The lines of code of a bundle at b of n syllables are in the instruction cache once it has been fetched (R236). (DESIGN CHOICE, log 34) -/
def fillLines (s : State) (c b n : Nat) : State :=
  let x := s.core c
  s.setCore c { x with icLines := put (fun _ => false) (put (fun _ => false) x.icLines (b / 64) true) ((b + 4 * n - 4) / 64) true }

/-- Whether the control part is a return. -/
def Ctl.isRfe (x : Ctl) : Bool :=
  match x with
  | .rfe _ => true
  | _ => false

/-- The bundle completes: control, pc, the end of a `halt`, of a single step and of a stop, and cause 0x11 where TSTAT.STEP
was set when the bundle issued (`pre`) and still is (R230, R237, Tables 6-5, 6-12). -/
def finish (s : State) (c t : Nat) (pre : Bool) : State :=
  let th := s.thread c t
  let b := th.pc
  let ctl := bundleCtl th.bundle
  let stepped := pre && th.stepping
  let (s, pc) := doControl s c t b th.bundle.length ctl
  let th := s.thread c t
  let th := { th with pc := pc, bundle := [], started := false }
  let th := { th with st := if ctl = .halt then .halted else if th.once || decide (th.st = .stopping) && decide (th.wait = .none)
                              || decide (th.st = .stopLater) && ctl.isRfe then .stopped else th.st
                      once := false }
  let s := s.setThread c t th
  let s := s.when (decide (ctl = .halt)) (fun s => s.raise (Reg.pxcIrqStat c) t)
  if stepped && decide (ctl ≠ .halt) then raiseCause s c t 0x11 pc else s

end Sys2Proof.Machine
end

