-- ==== Sys2Proof/Machine/PxBundle.lean ====
section
/-! DEFINITION. How a bundle is gathered, checked, held, and takes effect, and how a vector memory syllable runs
element by element, stops, faults and resumes (R211 to R213, R224 to R226, R233, R237, R266 to R281). -/
namespace Sys2Proof.Machine

open Sys2Proof

/-! ### Elements of a vector memory syllable (R250, R251, R266) -/

/-- The width in bits of EW (Table 7-1). -/
def ewBits (ew : Nat) : Nat := 8 * 2 ^ ew

/-- VLMAX of EW (Table 7-1). -/
def vlmax (ew : Nat) : Nat := 128 / 2 ^ ew

/-- The elements that an instruction of width EW works on: n := min(vl, VLMAX) (R251). -/
def vcount (th : Thread) (ew : Nat) : Nat := Nat.min th.vl (vlmax ew)

/-- Whether element i is active under predicate field m (R253, Table 7-1). -/
def vactive (th : Thread) (m ew i : Nat) : Bool := m = 0 || (th.preg m).getLsbD (i * 2 ^ ew)

/-- Element i of width w bits of a register held as a number (R250). -/
def lane (x w i : Nat) : Nat := x / 2 ^ (w * i) % 2 ^ w

/-- A register of m bits with element i of width w set to y. -/
def setLane {m : Nat} (x : BitVec m) (w i y : Nat) : BitVec m :=
  (x &&& ~~~(BitVec.ofNat m ((2 ^ w - 1) * 2 ^ (w * i)))) ||| BitVec.ofNat m (y % 2 ^ w * 2 ^ (w * i))

/-- Whether a vector memory syllable stores. -/
def VmKind.stores (k : VmKind) : Bool :=
  match k with
  | .st | .sts | .scatter | .sta => true
  | _ => false

/-- Whether it addresses quarters of an accumulator. -/
def VmKind.quarters (k : VmKind) : Bool :=
  match k with
  | .lda | .sta => true
  | _ => false

/-- Whether its elements are contiguous, so that one request of a 128-byte block serves several (R271). -/
def VmKind.unitStride (k : VmKind) : Bool :=
  match k with
  | .ld | .st | .lda | .sta => true
  | _ => false

/-- The size of an element in bytes. -/
def vmSize (k : VmKind) (ew : Nat) : Nat := if k.quarters then 128 else 2 ^ ew

/-- The address of element i (Table 7-5); addresses wrap modulo 2⁴⁸. -/
def vmAddr (th : Thread) (k : VmKind) (rb x ew i : Nat) : Nat :=
  let base := (th.sreg rb).toNat
  let off5 := wrap 48 (sext x 5)
  (match k with
    | .ld | .st => base + off5 * 128 + i * 2 ^ ew
    | .lds | .sts => base + i * (th.sreg x).toNat
    | .gather | .scatter => base + lane (th.vreg x).toNat (ewBits ew) i * 2 ^ ew
    | .lda | .sta => base + off5 * 512 + 128 * i) % 2 ^ 48

/-- The active elements below n with their addresses, in increasing index order (R251, R266, R269). -/
def vmElems (th : Thread) (k : VmKind) (rb x pred ew : Nat) : List (Nat × Nat) :=
  let n := if k.quarters then 4 else vcount th ew
  ((List.range n).filter (fun i => k.quarters || vactive th pred ew i)).map (fun i => (i, vmAddr th k rb x ew i))

/-- The data of element i of a store. -/
def vmData (th : Thread) (k : VmKind) (vd ew i : Nat) : Nat :=
  if k.quarters then lane (th.areg vd).toNat 1024 i else lane (th.vreg vd).toNat (ewBits ew) i

/-- Element i of a load's destination set (R272). -/
def vmPut (th : Thread) (k : VmKind) (vd ew i x : Nat) : Thread :=
  if k.quarters then th.setA vd (setLane (th.areg vd) 1024 i x) else th.setV vd (setLane (th.vreg vd) (ewBits ew) i x)

/-- Whether every byte of the granule at g lies in some element of the list (R270). -/
def granuleWhole (es : List (Nat × Nat)) (sz g : Nat) : Bool :=
  (List.range 32).all (fun b => es.any (fun e => decide (e.2 ≤ g + b) && decide (g + b < e.2 + sz)))

/-- The bytes that the elements of the list store in the granule at g, the higher index remaining (R269). -/
def granuleData (th : Thread) (k : VmKind) (vd ew : Nat) (es : List (Nat × Nat)) (g : Nat) : Nat :=
  let sz := vmSize k ew
  (List.range 32).foldl (fun acc b =>
    match (es.filter (fun e => decide (e.2 ≤ g + b) && decide (g + b < e.2 + sz))).getLast? with
    | none => acc
    | some e => acc + lane (vmData th k vd ew e.1) 8 (g + b - e.2) * 2 ^ (8 * b)) 0

/-- The causes of element e before it takes effect (R268, R270, R274). -/
def elemFaults (s : State) (c t : Nat) (k : VmKind) (ew : Nat) (es : List (Nat × Nat)) (e : Nat × Nat) : List (Nat × Nat) :=
  let sz := vmSize k ew
  let a := e.2
  let stores := k.stores
  (accessFaults s c t a sz sz (if stores then permW else permR) false)
    ++ (if stores && decide (pathOf s c a = .fabric) && !granuleWhole es sz (a / 32 * 32) then [(0x05, a)] else [])
    ++ eccFaults s c a sz stores

/-- The cause that element e raises, if any: the lowest (R274). -/
def elemFault (s : State) (c t : Nat) (k : VmKind) (ew : Nat) (es : List (Nat × Nat)) (e : Nat × Nat) : Option (Nat × Nat) :=
  lowestCause (elemFaults s c t k ew es e)

/-- A store element takes effect: direct, or as the packets of the granules that no lower element has sent (R270). -/
def storeElem (s : State) (c t : Nat) (k : VmKind) (vd ew : Nat) (es : List (Nat × Nat)) (e : Nat × Nat) : State :=
  let th := s.thread c t
  let sz := vmSize k ew
  if pathOf s c e.2 = .fabric then
    s.each (List.range (Nat.max 1 (sz / 32))) (fun s q =>
      let g := e.2 / 32 * 32 + 32 * q
      if es.any (fun x => decide (x.1 < e.1) && decide (x.2 < g + 32) && decide (g < x.2 + sz)) then s
      else sendWrite s c t (threadVc s c t) g (bytesOf 32 (granuleData th k vd ew es g)) (storeTag th))
  else putData s (addrLocal e.2) (bytesOf sz (vmData th k vd ew e.1))

/-! ### Stopping, faulting and resuming (R233, R275, R276, R279, R281) -/

/-- The syllable stops before element k: vstart and PART are set, the accesses behind it take effect, and once every outstanding access
has returned the thread takes the interrupt or stops (R239, R279, R281, Table 7-10). -/
def stopVm (s : State) (c t k : Nat) : State :=
  let s := doTodo (s.modThread c t (fun th => (th.setTcr VSTART (BitVec.ofNat 64 k)).setTstat 4 true)) c t
  let th := s.thread c t
  match th.wait with
  | .atomic _ _ _ => s
  | _ =>
    if !th.waitingLoads.isEmpty then s.setThread c t { th with wait := .fence }
    else match (if th.ie then pendingIrq s th else none) with
      | some i => takeInterrupt s c t i
      | none => s.setThread c t { th with st := .stopped, bundle := [], wait := .none, started := false }

/-- Whether a boundary is one at which the thread is to stop: an enabled interrupt is pending, or a stop. -/
def wantsStop (s : State) (c t : Nat) : Bool :=
  let th := s.thread c t
  (th.ie && (pendingIrq s th).isSome) || decide (th.st = .stopping)

/-- Element k faults with a cause and address: nothing of the bundle has taken effect where this is its first element on
its first issue; otherwise PART is set (R275). -/
def faultVm (s : State) (c t k cause tval : Nat) : State :=
  let th := s.thread c t
  let th := (th.setTcr VSTART (BitVec.ofNat 64 k)).setTcr TIDX (BitVec.ofNat 64 k)
  let th := if th.started then th.setTstat 4 true else th
  let s := s.setThread c t th
  raiseCause (if th.started then doTodo s c t else s) c t cause tval

/-- WRITE packets of thread t of core c that its injection queue still holds (R226). -/
def heldStores (s : State) (c t : Nat) : List Packet :=
  s.fab.held.filter (fun p => sentBy s c p && decide (p.ptype = 0) && decide (p.flow.toNat = t))

/-- The syllable completes once its granules have left the injection queue: vstart := 0, PART clears, the accesses behind it take effect,
and the bundle completes (R272, R276). -/
def finishVm (s : State) (c t : Nat) : State :=
  if !(heldStores s c t).isEmpty then s.modThread c t (fun th => { th with wait := .drain })
  else
    finish (doTodo (s.modThread c t (fun th => { (th.setTcr VSTART 0).setTstat 4 false with wait := .none })) c t) c t true

/-- Runs the elements of the list `todo`, of which `es` is the whole; `data` holds a 128-byte block, or the granule of one
element, that has come back from the fabric: its address, length and bytes (R271, R272, R274). -/
def runElems (s : State) (c t : Nat) (k : VmKind) (vd ew : Nat) (stopAt : Option Nat) (es : List (Nat × Nat))
    (data : Option (Nat × Nat × Nat)) (todo : List (Nat × Nat)) : State :=
  match todo with
  | [] => finishVm s c t
  | e :: rest =>
    let sz := vmSize k ew
    let here := match data with
      | some (a, n, _) => decide (a ≤ e.2) && decide (e.2 + sz ≤ a + n)
      | none => false
    let fetches := !k.stores && decide (pathOf s c e.2 = .fabric) && !here
    let due := ((match stopAt with
      | some j => decide (j ≤ e.1)
      | none => false) || fetches) && wantsStop s c t && (s.thread c t).started
    if due then stopVm s c t e.1
    else match elemFault s c t k ew es e with
      | some (cause, a) => faultVm s c t e.1 cause a
      | none =>
        if k.stores then
          runElems ((storeElem s c t k vd ew es e).modThread c t (fun th => { th with started := true })) c t k vd ew stopAt es data rest
        else if pathOf s c e.2 = .fabric then
          match data, here with
          | some (a, _, x), true =>
            runElems (s.modThread c t (fun th =>
              { vmPut th k vd ew e.1 (x / 2 ^ (8 * (e.2 - a)) % 2 ^ (8 * sz)) with started := true }))
              c t k vd ew stopAt es (if k.unitStride then data else none) rest
          | _, _ =>
            let (tag, s) := takeTag s c
            let a := if k.unitStride then e.2 / 128 * 128 else e.2 / 32 * 32
            let s := sendRead s c (threadVc s c t) a (if k.unitStride then 4 else 1) tag
            s.modThread c t (fun th => { th with wait := .vmem e.1 tag })
        else
          runElems (s.modThread c t (fun th => { vmPut th k vd ew e.1 (s.load (addrLocal e.2) sz) with started := true }))
            c t k vd ew stopAt es data rest

/-- The resumable part of a bundle. -/
def bundleRes (l : List Syl) : Res :=
  match l.find? Syl.resumable with
  | some y => y.res
  | none => .none

/-- Runs a vector memory syllable from element k on (R276). (DEDUCED, log 22) -/
def runVm (s : State) (c t : Nat) (r : Res) (k : Nat) (data : Option (Nat × Nat × Nat)) : State :=
  match r with
  | .vm kind vd rb x pred ew stopAt =>
    let es := vmElems (s.thread c t) kind rb x pred ew
    runElems s c t kind vd ew stopAt es data (es.filter (fun e => decide (k ≤ e.1)))
  | _ => s

/-! ### Commit (R211, R212, R237) -/

/-- The causes of the syllables as such, TVAL being the syllable's index for causes 0x02 and 0x03 (Table 6-7), and the bad
loop setup of R230. -/
def sylFaults (l : List Syl) : List (Nat × Nat) :=
  let n := l.length
  ((List.range n).zip l).flatMap (fun iy =>
    (iy.2.faults.map (fun f => if f.1 = 0x02 ∨ f.1 = 0x03 then (f.1, iy.1) else f))
      ++ (match iy.2.ctl with
          | .loopSet _ _ endoff => if endoff ≤ n then [(0x02, iy.1)] else []
          | _ => []))

/-- The cause 0x08 that a bundle takes: for an operand or destination whose load returned ERR, or because it holds a
`fence` (R225). -/
def deferredFaults (th : Thread) (l : List Syl) : List (Nat × Nat) :=
  (th.loads.filter (fun x => x.err && l.any (fun y =>
    y.mem = .fence || x.dst.names.any (fun d => y.reads.contains d)))).map (fun x => (0x08, x.addr))

/-- Every cause that the bundle raises before it takes effect (R237, R275). -/
def bundleFaults (s : State) (c t : Nat) (l : List Syl) : List (Nat × Nat) :=
  let th := s.thread c t
  (match illegalAt l with
    | some i => [(0x01, i)]
    | none => [])
    ++ sylFaults l ++ deferredFaults th l
    ++ l.flatMap (fun y => memFaults s c t y.mem)
    ++ fetchFaults s c t th.pc l.length

/-- The cause of the first element of a vector memory syllable on its first issue, with its index (R275). -/
def firstElemFault (s : State) (c t : Nat) (r : Res) : Option (Nat × Nat × Nat) :=
  match r with
  | .vm kind _ rb x pred ew _ =>
    let es := vmElems (s.thread c t) kind rb x pred ew
    match es with
    | [] => none
    | e :: _ => (elemFault s c t kind ew es e).map (fun f => (f.1, f.2, e.1))
  | _ => none

/-- Whether the first element is a load through the fabric: then the bundle takes effect when it has come back. -/
def firstFabricLoad (s : State) (c t : Nat) (r : Res) : Bool :=
  match r with
  | .vm kind _ rb x pred ew _ =>
    match vmElems (s.thread c t) kind rb x pred ew with
    | [] => false
    | e :: _ => !kind.stores && decide (pathOf s c e.2 = .fabric)
  | _ => false

/-- The granules that the fabric loads of a bundle read, and the flits that its fabric stores take. -/
def loadGranules (s : State) (c : Nat) (l : List Syl) (th : Thread) : List Nat :=
  l.flatMap (fun y =>
    (match y.mem with
      | .load _ a _ => if pathOf s c a = .fabric then [a / 32] else []
      | _ => [])
    ++ (match y.res with
      | .vm k _ rb x pred ew _ => if k.stores then [] else
          ((vmElems th k rb x pred ew).filter (fun e => decide (pathOf s c e.2 = .fabric))).map (fun e => e.2 / 32)
      | _ => []))

def storeFlits (s : State) (c : Nat) (l : List Syl) (th : Thread) : Nat :=
  (l.map (fun y =>
    (match y.mem with
      | .store a n _ => if pathOf s c a = .fabric then 2 * (n / 32) else 0
      | _ => 0)
    + (match y.res with
      | .vm k _ rb x pred ew _ => if k.stores then
          2 * (((vmElems th k rb x pred ew).filter (fun e => decide (pathOf s c e.2 = .fabric))).map (fun e => e.2 / 32)).eraseDups.length
            * Nat.max 1 (vmSize k ew / 32) else 0
      | _ => 0))).sum

/-- The bundle waits for the injection queue: it reads a granule that a held store of its thread writes, it holds a `fence` behind such a
store, or its own stores find the 64 flits taken (R226, Table 6-9). (DEDUCED, log 190) -/
def queueBlocks (s : State) (c t : Nat) (l : List Syl) : Bool :=
  let th := s.thread c t
  let held := heldStores s c t
  (!held.isEmpty && (l.any (fun y => decide (y.mem = .fence))
      || held.any (fun p => (loadGranules s c l th).contains (p.addr.toNat / 32))))
    || (!s.fab.held.isEmpty && decide (0 < storeFlits s c l th)
      && decide (64 < ((s.fab.held.filter (sentBy s c)).map (·.flits)).sum + storeFlits s c l th))

/-- Outstanding fabric loads of the core (Table 6-9). -/
def coreLoads (s : State) (c : Nat) : Nat := ((List.range 4).map (fun t => (s.thread c t).waitingLoads.length)).foldl (· + ·) 0

/-- What holds the bundle before it issues, if anything: `ccwait` with its counter not zero, `wfi` with nothing pending,
`fence` or an interlock on outstanding loads (R224, R226, R241, Table 6-9). -/
def holdsFor (s : State) (c t : Nat) (l : List Syl) (timedOut : Bool) : Option Wait :=
  let th := s.thread c t
  let reqs := Nat.min 2 (loadGranules s c l th).length
  if (l.any (fun y => y.mem = .fence) && !th.waitingLoads.isEmpty) || queueBlocks s c t l
      || (decide (reqs ≠ 0) && (decide (16 < th.waitingLoads.length + reqs) || decide (48 < coreLoads s c + reqs))) then some .fence
  else match l.findSome? (fun y => match y.mem with
      | .ccwait d cc n => if timedOut || decide (ccVal s c cc = 0) then none else some (Wait.ccwait d cc n s.now)
      | _ => none) with
    | some w => some w
    | none =>
      if l.any (fun y => y.ctl = .wfi) && decide (ipOf s th &&& th.tcrAt IE = 0) then some .wfi else none

/-- The rest of a bundle than its resumable syllable takes effect (R233). -/
def startBundle (s : State) (c t : Nat) (timedOut : Bool) : State :=
  let th := s.thread c t
  let s := fillLines s c th.pc th.bundle.length
  let s := s.setThread c t { th with bundles := satAdd 64 th.bundles 1, started := true }
  doBundle s c t th.bundle timedOut

/-- A tensor instruction goes to the array of the core's cluster, behind those already waiting (R231, R315); `resume` where
TRES says that a context is to be read (R232). -/
def issueTensor (s : State) (c t op desc fields : Nat) (resume : Bool) : State :=
  (s.modThread c t (fun th => { th with wait := .tensor })).modTar (c / 3) (fun x =>
    { x with queue := x.queue ++ [{ thread := 4 * (c % 3) + t, op := op, desc := desc, fields := fields, resume := resume }] })

/-- The bundle issues again to go on with its resumable syllable (R233, R276). -/
def resumes (th : Thread) : Bool :=
  match bundleRes th.bundle with
  | .vm .. => th.part
  | .tensor .. => th.tres
  | .none => false

/-- What follows once the other syllables of a bundle have taken effect: its resumable syllable, or its completion; behind an atomic only
when that has returned (R226, R233). -/
def proceed (s : State) (c t : Nat) (pre : Bool) : State :=
  let th := s.thread c t
  match th.wait, bundleRes th.bundle with
  | .atomic _ _ _, .none => finish s c t pre
  | .atomic _ _ _, _ => s
  | _, .vm k vd rb x pred ew stopAt => runVm s c t (.vm k vd rb x pred ew stopAt) (if th.part then (th.tcrAt VSTART).toNat else 0) none
  | _, .tensor op d f => issueTensor s c t op d f false
  | _, .none => finish s c t pre

/-- The gathered bundle issues. -/
def commit (s : State) (c t : Nat) (timedOut : Bool) : State :=
  let th := s.thread c t
  let l := th.bundle
  let r := bundleRes l
  let s := s.setThread c t { th with wait := .none }
  let fs := bundleFaults s c t l
  if resumes th then
    match lowestCause (fetchFaults s c t th.pc l.length) with
    | some (k, v) => raiseCause s c t k v
    | none =>
      let s := s.setThread c t { th with wait := .none, started := true, bundles := satAdd 64 th.bundles 1 }
      match r with
      | .vm .. => runVm s c t r (th.tcrAt VSTART).toNat none
      | .tensor op d f => issueTensor s c t op d f true
      | .none => s
  else
    let elem := if fs.isEmpty then firstElemFault s c t r else
      match firstElemFault s c t r, lowestCause fs with
      | some f, some k => if f.1 < k.1 then some f else none
      | _, _ => none
    if (elem.isSome || !fs.isEmpty) && !th.waitingLoads.isEmpty then
      s.setThread c t { th with wait := .fence }
    else match elem with
    | some (k, v, i) => faultVm s c t i k v
    | none => match lowestCause fs with
      | some (k, v) => takeCause s c t k v
      | none => match holdsFor s c t l timedOut with
        | some w => s.setThread c t { th with wait := w }
        | none =>
          if firstFabricLoad s c t r && !l.any (fun y => y.mem.isAmo) then runVm s c t r 0 none
          else proceed (startBundle s c t timedOut) c t th.stepping

/-- Whether what holds a bundle at a `fence` wait has gone: nothing outstanding where it resumes or faults, else nothing of `holdsFor`. -/
def unfenced (s : State) (c t : Nat) : Bool :=
  let th := s.thread c t
  if resumes th || !(bundleFaults s c t th.bundle).isEmpty || (firstElemFault s c t (bundleRes th.bundle)).isSome then
    th.waitingLoads.isEmpty
  else decide (holdsFor s c t th.bundle false ≠ some .fence)

/-- Whether the wait of a thread can end: its counter is zero, a bit it enables is pending, its loads have returned, its stores have
left the injection queue. -/
def wakeable (s : State) (c t : Nat) : Bool :=
  let th := s.thread c t
  match th.wait with
  | .ccwait _ cc _ _ => th.runs && decide (ccVal s c cc = 0)
  | .wfi => th.runs && decide (ipOf s th &&& th.tcrAt IE ≠ 0) && !(th.ie && (pendingIrq s th).isSome)
  | .fence => th.runs && unfenced s c t
  | .drain => (heldStores s c t).isEmpty
  | .due => th.waitingLoads.isEmpty
  | _ => false

/-- The thread goes on from a wait that has ended. -/
def goOn (s : State) (c t : Nat) : State :=
  let th := s.thread c t
  match th.wait, th.due with
  | .due, some (k, v) => takeCause (s.setThread c t { th with due := none }) c t k v
  | .due, none => s.setThread c t { th with wait := .none }
  | .drain, _ => finishVm s c t
  | _, _ => commit s c t false

/-- A thread as START leaves it (R249): in monitor mode with TSTAT.IE clear and IVEC zero. -/
def Thread.begun (th : Thread) : Thread :=
  { ((th.setTstat 0 true).setTstat 1 false).setTcr IVEC 0 with
    st := .run, wait := .none, bundle := [], started := false, once := false, todo := [], due := none, entry := th.pc, again := false }

/-- A thread told to stop is STOPPED once nothing of it is in flight; a bundle not issued is given up (Table 6-10). One whose task Tymor
restarts then starts again (R468). -/
def stopIfDone (s : State) (c t : Nat) : State :=
  let th := s.thread c t
  let idle := match th.wait with
    | .none => true
    | .ccwait _ _ _ _ => true
    | .wfi => true
    | .fence => true
    | _ => false
  if decide (th.st = .stopping) && th.waitingLoads.isEmpty && idle then
    s.setThread c t (if th.again then { th with pc := th.entry }.begun else { th with st := .stopped, bundle := [], wait := .none, started := false })
  else s

/-- Threads of the core whose wait can end issue their bundle again; one that wakes may wake another. -/
def settle (fuel : Nat) (s : State) (c : Nat) : State :=
  match fuel with
  | 0 => s
  | n + 1 =>
    match (List.range 4).find? (wakeable s c) with
    | none => s
    | some t => settle n (goOn s c t) c

/-- The data of a READ_RESP, or its ERR, comes back to core c for the request of the tag: an element of a vector memory syllable
(R272, R274), or an outstanding load (R225). -/
def readReturn (s : State) (c tag : Nat) (err : Bool) (payload : List Byte) : State :=
  let x := ofBytes payload
  match (List.range 4).find? (fun t => match (s.thread c t).wait with
      | .vmem _ g => g = tag
      | _ => false) with
  | some t =>
    let th := s.thread c t
    match th.wait, bundleRes th.bundle with
    | .vmem k _, .vm kind vd rb y pred ew stopAt =>
      let a := vmAddr th kind rb y ew k
      if err then faultVm (s.setThread c t { th with wait := .none }) c t k 0x08 a
      else
        let s := s.setThread c t { th with wait := .none }
        let s := if th.started then s else startBundle s c t false
        runVm s c t (.vm kind vd rb y pred ew stopAt) k
          (some (if kind.unitStride then (a / 128 * 128, 128, x) else (a, vmSize kind ew, x / 2 ^ (8 * (a % 32)))))
    | _, _ => s
  | none =>
    match (List.range 4).find? (fun t => (s.thread c t).waitingLoads.any (fun l => l.tag = tag)) with
    | none => s
    | some t =>
      let th := s.thread c t
      match th.waitingLoads.find? (fun l => l.tag = tag) with
      | none => s
      | some l =>
        let s1 :=
          if err then s.setThread c t { th with loads := th.loads.map (fun m => if m = l then { m with err := true } else m) }
          else
            (s.setThread c t { th with loads := th.loads.filter (fun m => m ≠ l) }).each
              (loadVals l.dst l.size (x / 2 ^ (8 * (l.addr % 32)) % 2 ^ (8 * l.size))) (fun s w => applyVal s c t w)
        stopIfDone s1 c t

/-- After an atomic has returned: the accesses behind it, then the resumable syllable of its bundle, the exception that is due, or the
stop that was asked for (R226, R233, R239, Table 6-10). -/
def afterAtomic (s : State) (c t : Nat) : State :=
  let s := doTodo s c t
  let th := s.thread c t
  match th.wait with
  | .atomic _ _ _ => s
  | _ =>
    if th.due.isSome then s.setThread c t { th with wait := .due }
    else if th.bundle.isEmpty then stopIfDone s c t
    else proceed s c t false

/-- The old value of an atomic, or its ERR, comes back to core c (R222, R225). -/
def atomicReturn (s : State) (c tag : Nat) (err : Bool) (old : Word) : State :=
  match (List.range 4).find? (fun t => match (s.thread c t).wait with
      | .atomic g _ _ => g = tag
      | _ => false) with
  | none => s
  | some t =>
    let th := s.thread c t
    match th.wait with
    | .atomic _ a d =>
      let th := { th with wait := .none }
      afterAtomic (s.setThread c t (if err then { th with loads := th.loads ++ [{ tag := tag, addr := a, size := 8, dst := .s d false, err := true }] }
                       else th.setS d old)) c t
    | _ => s

/-- Whether a bundle changes a counter of its core, so that another thread's wait may end. -/
def touchesCounters (l : List Syl) : Bool :=
  l.any (fun y => match y.mem with
    | .ccadd _ _ => true
    | .ccset _ _ => true
    | _ => false)

/-- Whether the thread takes a syllable: it runs, and no bundle of it is held. -/
def canIssue (th : Thread) : Bool := th.runs && decide (th.wait = .none)

/-- Whether a syllable waits on the interlock of an outstanding load (R225, R234). -/
def interlocked (th : Thread) (y : Syl) : Bool :=
  th.waitingLoads.any (fun l => l.dst.names.any (fun d => y.reads.contains d || y.dests.contains d))

/-- The number of a register in TVAL (R245). -/
def parityNo (r : RName) : Nat :=
  match r with
  | .s i => i
  | .v i => 0x100 + i
  | .p i => 0x200 + i
  | .a i => 0x300 + i
  | .tcr _ => 0

/-- The registers with parity are those of the scalar and vector register files (R245). -/
def hasParity (r : RName) : Bool :=
  match r with
  | .tcr _ => false
  | _ => true

/-- The parity error that a syllable meets in a register it reads. -/
def parityOf (x : Px) (y : Syl) : Option RName :=
  match x.met with
  | .registerParity r => if hasParity r && y.reads.contains r then some r else none
  | _ => none

/-- The syllable as the core takes it: one of a reserved class, or of an unlisted OP or FN, in its place (R212, R215); with the cause of
a parity error (R245). (DESIGN CHOICE, log 191) -/
def taken (x : Px) (y : Syl) : Syl :=
  match x.met with
  | .unlistedClass => emptySyl 6
  | .unlistedOp => { emptySyl y.cls with faults := [(0x02, 0)] }
  | _ =>
    match parityOf x y with
    | some r => { y with faults := y.faults ++ [(0x0A, parityNo r)] }
    | none => y

/-- What the errors that a syllable meets do beside its cause: a parity error in a register or in a valid line of the instruction cache,
which is fetched anew, is counted; a corrected word is counted; one that cannot be corrected is poisoned (R244 to R246, R380). -/
def metBy (x : Px) (s : State) (y : Syl) : State :=
  let c := x.core.val
  match x.met with
  | .registerParity _ => s.when (parityOf x y).isSome (fun s => s.count (Reg.pxcRfPe c))
  | .lineParity =>
    let th := s.thread c x.thread
    s.when (get (fun _ => false) (s.core c).icLines ((th.pc + 4 * th.bundle.length) / 64)) (fun s => s.count (Reg.pxcIcPe c))
  | .corrected a => corrected s (addrLocal a.toNat)
  | .uncorrectable a => s.setPoison (addrLocal a.toNat) true
  | _ => s

/-- A syllable arrives at its thread: it joins the bundle being gathered, and a STOP bit issues the bundle. A syllable whose
operands wait on an interlock, or whose thread does not run, is not taken. An eighth syllable without a STOP bit counts as illegal
(R211). (DEDUCED, logs 19 and 23) -/
def issue (x : Px) (s : State) (f : Thread → Syl) : Out :=
  let c := x.core.val
  let t := x.thread.val
  let th := s.thread c t
  if !canIssue th || interlocked th (f th) then .next s
  else
    let y := taken x (f th)
    let l := th.bundle ++ [if !x.stop && decide (7 ≤ th.bundle.length) then { y with cls := 7 } else y]
    let s1 := (metBy x s (f th)).setThread c t { th with bundle := l }
    if x.stop || decide (8 ≤ l.length) then
      let s2 := commit s1 c t false
      .next (if touchesCounters l then settle 8 s2 c else s2)
    else .next s1

end Sys2Proof.Machine
end

