-- ==== Sys2Proof/Machine/Fabric.lean ====
section
/-! DEFINITION. The on-die fabric: routing, the checks that a packet meets on its way, what each type of packet does at its
destination, and the counter registers (chapter 5). -/
namespace Sys2Proof.Machine

open Sys2Proof

/-! ### Form (R163, R191) -/

/-- The types that may travel on a virtual channel (Table 5-3). -/
def typeFitsVc (ty vc : Nat) : Bool :=
  if ty = 0 ∨ ty = 1 ∨ ty = 3 ∨ ty = 5 ∨ ty = 6 then vc = 0 || vc = 2
  else if ty = 2 ∨ ty = 4 then vc = 1 || vc = 2
  else decide (8 ≤ ty) && decide (ty ≤ 11) && decide (vc = 3)

/-- The LEN that a type may have (Table 5-9); that of a READ_RESP is held against its request at its destination. -/
def lenFitsType (ty len : Nat) (err : Bool) : Bool :=
  match ty with
  | 0 => decide (1 ≤ len)
  | 1 => len = 0
  | 2 => if err then len = 0 else decide (1 ≤ len)
  | 3 => len = 1
  | 4 => if err then len = 0 else len = 1
  | 6 => len = 0
  | 8 => len = 1
  | 11 => decide (len ≤ 4)
  | _ => true

/-- A packet within the limits of Table 5-9. -/
def wellFormedPacket (p : Packet) : Bool :=
  decide (p.len.toNat ≤ 128) && decide (p.payload.length = 32 * p.len.toNat) && decide (p.flits = p.len.toNat + 1)
    && typeFitsVc p.ptype.toNat p.vc.toNat && lenFitsType p.ptype.toNat p.len.toNat p.err
    && (decide (p.ptype.toNat ≠ 6) || p.ccEn)

/-- The header of a malformed packet logged and the event raised (R191). -/
def logMalformed (s : State) (p : Packet) : State :=
  (s.raise Reg.fabEvtStat 0).logged (.malformed (headerBytes p))

/-- A malformed packet on the die (R191). -/
def malformedPacket (s : State) (p : Packet) : State := logMalformed (s.count Reg.fabMalformed) p

/-! ### Responses -/

/-- A READ_REQ or an ATOMIC: what an error answers with ERR. -/
def asks (p : Packet) : Bool := decide (p.ptype.toNat = 1) || decide (p.ptype.toNat = 3)

/-- The response to a request, on the channel of R172, with the request's tag and counter; one with ERR has no payload (R175). -/
def response (p : Packet) (err : Bool) (payload : List Byte) : Packet :=
  sealPacket { plainPacket p.src p.dst (if p.ptype.toNat = 1 then 2 else 4) (if p.vc.toNat = 2 then 2 else 1) p.addr.toNat payload with
    seq := p.seq, cc := p.cc, ccEn := p.ccEn, err := err }

/-- The ERR response to a READ_REQ or an ATOMIC; nothing for any other packet. (DEDUCED, log 54) -/
def errAnswer (s : State) (p : Packet) : State := if asks p then s.inject (response p true []) else s

/-- A packet dropped for want of a route (R160, R170). (DEDUCED, log 55) -/
def dropNoRoute (s : State) (p : Packet) : State := errAnswer (s.count Reg.fabNoroute) p

/-! ### The Itard transmit side (R180, R185, R202) -/

/-- A packet discarded by a DOWN port (R202). -/
def txDiscard (s : State) (f : Nat) (p : Packet) : State := errAnswer (s.count (Reg.itdTxDiscard f)) p

/-- The flits of a list of packets. -/
def flitsIn (l : List Packet) : Nat := (l.map (·.flits)).sum

/-- The flits that the replay buffer holds. -/
def replayFlits (x : ItdPort) : Nat := flitsIn (x.replay.map (·.2))

/-- The credits of a virtual channel, and the credits after n flits of it. -/
def creditOf (c : Credits) (vc : Nat) : Nat := if vc = 0 then c.vc0 else if vc = 1 then c.vc1 else c.vc3
def spendCredit (c : Credits) (vc n : Nat) : Credits :=
  if vc = 0 then { c with vc0 := c.vc0 - n } else if vc = 1 then { c with vc1 := c.vc1 - n } else { c with vc3 := c.vc3 - n }

/-- Credits returned by the far receiver; a receive buffer holds no more than Table 5-5 gives it. -/
def gainCredit (c d : Credits) : Credits :=
  { vc0 := min 512 (c.vc0 + d.vc0), vc1 := min 512 (c.vc1 + d.vc1), vc3 := min 64 (c.vc3 + d.vc3) }

/-- The packet that the port sends next: VC3 first, then the oldest for which the far receiver and the replay buffer have room (R168,
R169, R185). -/
def nextToSend (x : ItdPort) : Option Packet :=
  let fits (p : Packet) := decide (p.flits ≤ creditOf x.credits p.vc.toNat) && decide (replayFlits x + p.flits ≤ 1024)
  match x.txq.find? (fun p => p.vc = 3 && fits p) with
  | some p => some p
  | none => x.txq.find? fits

/-- Packets leave the transmit queue, numbered in order, while there is room for them (R185). -/
def sendOut (fuel : Nat) (x : ItdPort) : ItdPort :=
  match fuel with
  | 0 => x
  | n + 1 =>
    if x.st = .up then
      match nextToSend x with
      | some p => sendOut n { x with
          txq := x.txq.erase p, replay := x.replay ++ [(x.txSeq, p)], txSeq := (x.txSeq + 1) % 1024
          credits := spendCredit x.credits p.vc.toNat p.flits }
      | none => x
    else x

/-- Packets that waited for room take it, oldest first: the transmit queue holds 2048 flits (R180). -/
def takeWaiting (fuel : Nat) (x : ItdPort) : ItdPort :=
  match fuel, x.txWait with
  | n + 1, p :: t => if flitsIn x.txq + p.flits ≤ 2048 then takeWaiting n { x with txq := x.txq ++ [p], txWait := t } else x
  | _, _ => x

/-- The port sends what it can, and takes what waited. -/
def pumpPort (x : ItdPort) : ItdPort :=
  let y := takeWaiting x.txWait.length (sendOut x.txq.length x)
  sendOut y.txq.length y

/-- Whether endpoints hold VC0 packets for a port: from above TX_HI until below TX_LO (R180). -/
def holdFor (s : State) (x : ItdPort) : Bool :=
  if x.hold then !decide (flitsIn x.txq < s.fldAt Reg.itdCfg 27 16) else decide (s.fldAt Reg.itdCfg 11 0 < flitsIn x.txq)

/-- What endpoints held goes on, and with it the threads that waited for their injection queue (R179, R226). -/
def releaseHeld (s : State) : State := (release s).each (List.range 24) (fun s c => settle 8 s c)

/-- A packet leaves the fabric; what its endpoint held behind it may go on, and the thread that waited. -/
def leaveFabric (s : State) (p : Packet) : State :=
  let s1 := s.leave p
  if s1.fab.held.length < s.fab.held.length ∧ localIndex p.src < 24 then settle 8 s1 (localIndex p.src) else s1

/-- The port sends what it can; what endpoints held for it goes on once its queue has fallen. -/
def pump (s : State) (f : Nat) : State :=
  let x := pumpPort (s.port f)
  let y := { x with hold := holdFor s x }
  (s.setPort f y).when ((s.port f).hold && !y.hold) releaseHeld

/-- A packet with one more Itard link crossed (R170); a good CRC stays good. -/
def hop (p : Packet) : Packet :=
  let q := { p with hops := p.hops + 1 }
  if p.crc = packetCrc p then { q with crc := packetCrc q } else q

/-- A packet handed to Itard port f. -/
def toPort (s : State) (f : Nat) (p : Packet) : State :=
  if (s.port f).st = .down then txDiscard s f p
  else pump (s.modPort f (fun x => { x with txWait := x.txWait ++ [hop p] })) f

/-! ### The way to the destination -/

/-- A packet on its way: the state, and whether it has reached its endpoint. The checks are those of R191, R171, R172,
Table 5-9 and R160, in this order, then the routers (R170). -/
def carry (s : State) (p : Packet) : State × Bool :=
  let ty := p.ptype.toNat
  let own := decide (slotOf p.src = s.fab.slot)
  if !wellFormedPacket p then (malformedPacket s p, false)
  else if p.vc.toNat = 2 ∧ ((ty ≠ 2 ∧ ty ≠ 4 ∧ (!own || !vc2Enabled s (localIndex p.src))) ∨ 8 < p.len.toNat) then
    (s.count Reg.fabVcDrop, false)
  else if p.vc.toNat = 2 ∧ ty = 1 ∧ 8 < p.flow.toNat then (errAnswer (s.count Reg.fabVcDrop) p, false)
  else if ty = 1 ∧ (p.flow.toNat = 0 ∨ 128 < p.flow.toNat) then (errAnswer s p, false)
  else if slotOf p.dst ≠ s.fab.slot ∧ s.fab.setSize ≤ slotOf p.dst then (dropNoRoute s p, false)
  else match wayFrom s p.dst p.vc.toNat 72 (entryRouter s p) with
    | .noRoute => (dropNoRoute s p, false)
    | .itard f => (if p.vc.toNat = 2 then s.count Reg.fabVcDrop else toPort s f p, false)
    | .endpoint => (s, true)

/-- Whether the endpoint's domain takes the packet: a request only when ON, a response to the domain's own request also in
DRAIN, unless the transition is forced (R422, R423, R436). Bank groups answer for themselves (R363). -/
def takes (s : State) (i ty : Nat) : Bool :=
  match endpointDomain i with
  | none => true
  | some d =>
    if 0x050 ≤ i ∧ i < 0x090 then true
    else decide ((s.dom d).st = .on) || ((ty = 2 || ty = 4) && decide ((s.dom d).st = .draining) && !(s.dom d).forced)

/-! ### At the destination -/

/-- What a counter that has changed may wake: threads of the core it belongs to (R224, Table 6-8). -/
def counterMoved (s : State) (i cc : Nat) : State := if i < 24 then settle 8 (counterIrq s i cc) i else s

/-- The decrement of a tagged packet, once its effect is visible (R175). -/
def tagged (s : State) (i : Nat) (p : Packet) : State :=
  if p.ccEn then counterMoved (ccArrive s i p.cc.toNat) i p.cc.toNat else s

/-- The local index of a packet's source on this device; 0x200 for another device. -/
def writerOf (s : State) (p : Packet) : Nat := if slotOf p.src = s.fab.slot then localIndex p.src else 0x200

/-- What stops an access of n bytes at local address a at the endpoint of local index i (R360, R363, R365, R368, R379, R380,
R383): the state with the error reported, or none where nothing does. (DEDUCED, log 52) -/
def accessError (s : State) (i src a n : Nat) (write : Bool) : Option State :=
  let t := targetOf s a
  if t.index ≠ some i ∨ t = .control then some s
  else if !oneSpan s a n then some (logMemErr s a 3 false)
  else
    let shut : Option State := match t with
      | .dram ch => if channelUp s ch then none else some s
      | .sram c g =>
        if !groupOpen s c g then some (offAccess s a)
        else if write && !mayWriteSlice s src c then some (guardDenied s a) else none
      | _ => none
    match shut with
    | some x => some x
    | none => if (if write then partialPoison s a n else s.anyPoison a n) then some (uncorrectable s a) else none

/-- Where Sage keeps its inbox: an address of its own memory, outside the local address map (R474). -/
def inboxBase : Nat := 0x20_0000_0000

/-- Whether Sage takes a write from local index i (R474). -/
def inboxOpen (s : State) (i : Nat) : Bool := decide (i < 0x080) && s.bitAt (Reg.sgeInboxMask (i / 32)) (i % 32)

/-- A write into the Sage inbox: buffer A, buffer B or the vehicle area (R474). -/
def writeInbox (s : State) (p : Packet) : State :=
  let o := addrLocal p.addr.toNat
  if inboxOpen s (writerOf s p) ∧ o + p.payload.length ≤ 0x3000 then tagged (s.setBytes (inboxBase + o) p.payload) 0x03C p else s

/-- The DMA or halo engine of an endpoint woken (R371). -/
def wakeEngine (s : State) (halo : Bool) (c : Nat) : State := s.setEngine halo c { s.engine halo c with awake := true }

/-- Packets waiting in a flow's reorder window are queued in SEQ order (R178). -/
def queueHeld (fuel : Nat) (s : State) (i : Nat) (key : Nat) : State :=
  match fuel with
  | 0 => s
  | n + 1 =>
    let b := s.box (i - 0x100)
    let f := get flowInReset b.flows key
    match get (fun _ => none) f.held f.next with
    | none => s
    | some p =>
      let f' : FlowIn := { next := (f.next + 1) % 65536, held := put (fun _ => none) f.held f.next none }
      queueHeld n (tagged (s.setBox (i - 0x100) { queue := b.queue ++ [p], flows := put flowInReset b.flows key f' }) i p) i key

/-- A MSG at a software endpoint (R178). (DEDUCED, log 72) -/
def takeMessage (s : State) (i : Nat) (p : Packet) : State :=
  if i < 0x100 then s
  else
    let key := p.src.toNat * 256 + p.flow.toNat
    let b := s.box (i - 0x100)
    let f := get flowInReset b.flows key
    let ahead := (p.seq.toNat + 65536 - f.next) % 65536
    if ahead ≤ 32 then
      let held := if (get (fun _ => none) f.held p.seq.toNat).isSome then f.held
        else put (fun _ => none) f.held p.seq.toNat (some p)
      let s := queueHeld 33 (s.setBox (i - 0x100) { b with flows := put flowInReset b.flows key { f with held := held } }) i key
      s.each (List.range 24) (fun s c => settle 8 s c)
    else if 65536 ≤ ahead + 32 then s
    else s.count Reg.fabSeqDrop

/-- The granules that core c waits for under a tag: four for a block of a unit-stride vector load, else one. -/
def awaited (s : State) (c tag : Nat) : Option Nat :=
  match (List.range 4).findSome? (fun t => match (s.thread c t).wait, bundleRes (s.thread c t).bundle with
      | .vmem _ g, .vm kind _ _ _ _ _ _ => if g = tag then some (if kind.unitStride then 4 else 1) else none
      | _, _ => none) with
  | some n => some n
  | none =>
    if (List.range 4).any (fun t => (s.thread c t).waitingLoads.any (fun l => l.tag = tag)) then some 1 else none

/-- The operation of an ATOMIC's granule, with its operand and comparand. -/
def atomicFields (l : List Byte) : Option (AmoOp × Word × Word) :=
  let x := BitVec.ofNat 64 (ofBytes ((l.drop 8).take 8))
  let y := BitVec.ofNat 64 (ofBytes ((l.drop 16).take 8))
  match ofBytes (l.take 1) with
  | 0 => some (.add, x, y)
  | 1 => some (.swap, x, y)
  | 2 => some (.cas, x, y)
  | _ => none

/-! ### What each type does at its destination (Table 5-3) -/

/-- WRITE (R163, R175): the payload at ADDR, then the counter. -/
def writeEffect (p : Packet) (s : State) (i : Nat) : State :=
  if i = 0x03C then writeInbox s p
  else
    let a := addrLocal p.addr.toNat
    match accessError s i (writerOf s p) a p.payload.length true with
    | some x => x
    | none => tagged (putData s a p.payload) i p

/-- RLEN of the read that local index i has sent under a tag, where it awaits its answer. -/
def askedFor (s : State) (i tag : Nat) : Option Nat := get (fun _ => none) s.fab.asked (i * 65536 + tag)

/-- The read of local index i under a tag noted, or forgotten. -/
def noteAsked (s : State) (i tag : Nat) (n : Option Nat) : State :=
  { s with fab := { s.fab with asked := put (fun _ => none) s.fab.asked (i * 65536 + tag) n } }

/-- READ_REQ (R163): RLEN granules from ADDR, or ERR. -/
def readReqEffect (p : Packet) (s : State) (i : Nat) : State :=
  let a := addrLocal p.addr.toNat
  match accessError s i (writerOf s p) a (32 * p.flow.toNat) false with
  | some x => errAnswer x p
  | none => s.inject (response p false (s.bytes a (32 * p.flow.toNat)))

/-- READ_RESP (R163, R175, R225): completes the read with tag SEQ; its LEN is the RLEN of its request, or 0 with ERR (Table 5-9). -/
def readRespEffect (p : Packet) (s : State) (i : Nat) : State :=
  let n := (askedFor s i p.seq.toNat).or (awaited s i p.seq.toNat)
  if !p.err ∧ n.isSome ∧ n ≠ some p.len.toNat then malformedPacket s p
  else
    let s := noteAsked s i p.seq.toNat none
    if i < 24 then settle 8 (tagged (readReturn s i p.seq.toNat p.err p.payload) i p) i
    else tagged (s.when (decide (0x038 ≤ i) && decide (i < 0x03C)) (fun s => ctlReturn s (i - 0x038) p.err p.payload)) i p

/-- ATOMIC (R163): add, swap or compare-and-swap at ADDR; the old value goes back. -/
def atomicEffect (p : Packet) (s : State) (i : Nat) : State :=
  let a := addrLocal p.addr.toNat
  let bad := match accessError s i (writerOf s p) a 8 true with
    | some x => some x
    | none => accessError s i (writerOf s p) a 8 false
  match bad, atomicFields p.payload with
  | some x, _ => errAnswer x p
  | none, none => errAnswer s p
  | none, some (op, x, y) =>
    let old := BitVec.ofNat 64 (s.load a 8)
    (putData s a (bytesOf 8 (amoResult op old x y).toNat)).inject (response p false (bytesOf 32 old.toNat))

/-- ATOMIC_RESP (R163, R175): completes the atomic with tag SEQ. -/
def atomicRespEffect (p : Packet) (s : State) (i : Nat) : State :=
  if i < 24 then
    settle 8 (tagged (atomicReturn s i p.seq.toNat p.err (BitVec.ofNat 64 (ofBytes (p.payload.take 8)))) i p) i
  else tagged s i p

/-- SIGNAL (R175, R371): a decrement, or the doorbell of an engine. -/
def signalEffect (p : Packet) (s : State) (i : Nat) : State :=
  if 0x020 ≤ i ∧ i < 0x030 ∧ p.cc.toNat = 63 then wakeEngine s (decide (0x028 ≤ i)) (i % 8)
  else if 0x050 ≤ i ∧ i < 0x090 ∧ !groupUp s ((i - 0x050) / 8) (i % 8) then
    offAccess s (0x10_0000_0000 + 0x100_0000 * ((i - 0x050) / 8))
  else tagged s i p

/-- An answer of the fabric manager's access: the code with its top bit set, the value in bytes 4 to 7. -/
def mgmtAnswer (s : State) (p : Packet) (v : Nat) : State :=
  let (q, s) := takeSeq s (localIndex p.dst) 0
  let l := (bytesOf 1 (ofBytes (p.payload.take 1) + 0x80) ++ (p.payload.drop 1).take 3 ++ bytesOf 4 v ++ List.replicate 24 0)
  s.inject (sealPacket { plainPacket p.src p.dst 11 3 0 l with seq := BitVec.ofNat 16 q })

/-- The fabric manager's access to router tables and counters (Table 5-3), in the model's layout: byte 0 the code (1 changes ALT and SEL of an
entry, which is all that the manager rewrites (R167); 2 reads an entry; 3 reads a counter of Table 5-13 and clears it), byte 1 the router or
the counter's place, bytes 2 and 3 the EID, bytes 4 and 5 the entry. (DESIGN CHOICE, log 71) -/
def mgmtAccess (s : State) (p : Packet) : State :=
  let b (i n : Nat) : Nat := ofBytes ((p.payload.drop i).take n)
  let n := b 1 1
  let e := BitVec.ofNat 12 (b 2 2)
  if localIndex p.src ≠ 0x038 then s
  else match b 0 1 with
    | 1 => if n < 36 then setRoute s n e ((routeAt s n e &&& 0x87) ||| (BitVec.ofNat 8 (b 4 2) &&& 0x78)) else s
    | 2 => if n < 36 then mgmtAnswer s p (routeAt s n e).toNat else s
    | 3 =>
      let a := Reg.fabMalformed + 4 * n
      if n < 9 then mgmtAnswer (s.setReg a 0) p (s.reg a).toNat else s
    | _ => s

/-- What a packet of TYPE `ty` does at the endpoint of local index i. -/
def effectAt (ty : Nat) (p : Packet) (s : State) (i : Nat) : State :=
  match ty with
  | 0 => writeEffect p s i
  | 1 => readReqEffect p s i
  | 2 => readRespEffect p s i
  | 3 => atomicEffect p s i
  | 4 => atomicRespEffect p s i
  | 5 => takeMessage s i p
  | 6 => signalEffect p s i
  | 11 => tagged (mgmtAccess s p) i p
  | _ => s

/-! ### Crossings into the endpoints (R391 to R395, R398, R424) -/

/-- The clock island of an endpoint (Table 11-1); none for the mailboxes. -/
def endpointIsland (i : Nat) : Option Nat :=
  if i < 0x018 then some i
  else if i < 0x020 then some (24 + 4 * (i - 0x018))
  else if i < 0x028 then some (167 + (i - 0x020))
  else if i < 0x030 then some (175 + (i - 0x028))
  else if i < 0x038 then some (183 + (i - 0x030))
  else if i < 0x03C then some (163 + (i - 0x038))
  else if i = 0x03C then some 207
  else if i = 0x03D then some 208
  else if i = 0x03E then some 209
  else if i = 0x03F then some 210
  else if 0x040 ≤ i ∧ i < 0x046 then some (156 + (i - 0x040))
  else if i = 0x046 then some 162
  else if 0x048 ≤ i ∧ i < 0x04C then some (199 + (i - 0x048))
  else if 0x050 ≤ i ∧ i < 0x090 then some (56 + (i - 0x050))
  else if i = 0x090 then some 214
  else none

/-- The endpoint's island takes entries: it is not stopped, in a pause or dead. A domain that is not ON, and not in DRAIN, answers under R423
or R363 before any crossing. -/
def crossingOpen (s : State) (i : Nat) : Bool :=
  match endpointIsland i with
  | none => true
  | some n =>
    !(islStopped s n || (pauseOf s n).isSome || (s.island n).dead)
      || (endpointDomain i).any (fun d => decide ((s.dom d).st ≠ .on) && decide ((s.dom d).st ≠ .draining))
      || (decide (0x050 ≤ i) && decide (i < 0x090) && decide ((s.dom (56 + (i - 0x050))).st ≠ .on))

/-- The packets whose head has entered the crossing into local index i, oldest first (R391). -/
def crossing (s : State) (i : Nat) : List Packet := get (fun _ => []) s.fab.cross i
def setCrossing (s : State) (i : Nat) (l : List Packet) : State := { s with fab := { s.fab with cross := put (fun _ => []) s.fab.cross i l } }

/-- The destination checks the CRC (R165), and the packet takes effect. -/
def arrive (s : State) (i : Nat) (p : Packet) : State :=
  if p.crc ≠ packetCrc p then (s.count Reg.fabCrcErr).raise Reg.fabEvtStat 1 else effectAt p.ptype.toNat p s i

/-- A packet at the router of its endpoint. It crosses at once where the crossing is open; else it waits: in the crossing, a FIFO of four entries
of a flit each, once its head has a place there, and otherwise at the router (R391, R395). (DESIGN CHOICE, log 183) -/
def intoCrossing (s : State) (i : Nat) (p : Packet) : State :=
  if crossingOpen s i then arrive s i p
  else if flitsIn (crossing s i) < 4 then setCrossing s i (crossing s i ++ [p])
  else { s with fab := { s.fab with net := s.fab.net ++ [p] } }

/-- What waits in the crossing into local index i is delivered in order, each once, when its island runs again (R395). -/
def deliver (s : State) (i : Nat) : State :=
  if (crossing s i).isEmpty || !crossingOpen s i then s else (setCrossing s i []).each (crossing s i) (fun s p => arrive s i p)

/-- Every crossing delivers what it can. -/
def deliverAll (s : State) : State := s.each (s.fab.cross.map (·.1)) deliver

/-- A forced transition discards the entries of the crossing into local index i, and counts each packet (R436). -/
def discardCrossing (s : State) (i : Nat) : State :=
  if (crossing s i).isEmpty then s else (setCrossing s i []).countBy Reg.pwrIsoDrop (crossing s i).length

/-! ### The packet commands -/

/-- A TYPE of Table 5-3. -/
def knownType (ty : Nat) : Bool := decide (ty ≤ 11) && decide (ty ≠ 7)

/-- The packet that a row of TYPE `ty` hands over: of that TYPE, or of a reserved one, which is malformed (R191). (DEDUCED, log 153) -/
def ofType (ty : Nat) (p : Packet) : Packet := if knownType p.ptype.toNat then { asSent p with ptype := BitVec.ofNat 4 ty } else asSent p

/-- The arrival of a packet on a row of TYPE `ty`: the router buffers (R200), the way (`carry`), then the endpoint's domain (R423) and the
crossing into it. -/
def receive (ty : Nat) (p : Packet) (s : State) : State :=
  let s := bufferEcc s p
  let q := ofType ty p
  let s := leaveFabric s q
  if p.uncorrectable then s
  else
    let i := localIndex q.dst
    match carry s q with
    | (s, false) => s
    | (s, true) => if takes s i ty then intoCrossing s i q else errAnswer (s.count Reg.pwrIsoDrop) q

/-- WRITE (R163). -/
def execWrite (p : Packet) (s : State) : Out := .next (receive 0 p s)

/-- READ_REQ (R163). -/
def execReadReq (p : Packet) (s : State) : Out :=
  .next (receive 1 p (s.when (slotOf p.src = s.fab.slot) (fun s => noteAsked s (localIndex p.src) p.seq.toNat (some p.flow.toNat))))

/-- READ_RESP (R163). -/
def execReadResp (p : Packet) (s : State) : Out := .next (receive 2 p s)

/-- ATOMIC (R163). -/
def execAtomic (p : Packet) (s : State) : Out := .next (receive 3 p s)

/-- ATOMIC_RESP (R163). -/
def execAtomicResp (p : Packet) (s : State) : Out := .next (receive 4 p s)

/-- MSG (R163, R178). -/
def execMsg (p : Packet) (s : State) : Out := .next (receive 5 p s)

/-- SIGNAL (R163, R175). -/
def execSignal (p : Packet) (s : State) : Out := .next (receive 6 p s)

/-- MGMT (R163). -/
def execMgmt (p : Packet) (s : State) : Out := .next (receive 11 p s)

/-! ### Registers -/

/-- The counter that FAB_CC_SEL selects: its endpoint and its number. -/
def selectedCc (s : State) : Nat × Nat := (s.fldAt Reg.fabCcSel 8 0, s.fldAt Reg.fabCcSel 14 9)

/-- A write of FAB_CC_SET (R177). -/
def writeCcSet (s : State) (v : BitVec 32) : State :=
  let (i, cc) := selectedCc s
  counterMoved (ccWrite s i cc v) i cc

/-- A write of FAB_CC_ADD (R177). -/
def writeCcAdd (s : State) (v : BitVec 32) : State :=
  let (i, cc) := selectedCc s
  counterMoved (ccPut s i cc (ccVal s i cc + v)) i cc

/-- A write of FAB_RT_DATA: the entry that FAB_RT_SEL selects (R183); a router number above 35 selects none. (DEDUCED, log 56) -/
def writeRtData (s : State) (v : Nat) : State :=
  let n := s.fldAt Reg.fabRtSel 5 0
  if n < 36 then setRoute s n (BitVec.ofNat 12 (s.fldAt Reg.fabRtSel 17 6)) (BitVec.ofNat 8 v) else s

/-- A write of FAB_RT_REMOTE: one entry in all 36 routers (R183). -/
def writeRtRemote (s : State) (v : Nat) : State := setRoutes s (BitVec.ofNat 12 v) (BitVec.ofNat 8 (v / 4096))

/-- FAB_CC_SET written (R177). -/
def execFabCcSet (who : Requester) (val : BitVec 32) (s : State) : Out :=
  .next (s.writeGuard who Reg.fabCcSet (fun s => writeCcSet s val))

/-- FAB_CC_ADD written (R177). -/
def execFabCcAdd (who : Requester) (val : BitVec 32) (s : State) : Out :=
  .next (s.writeGuard who Reg.fabCcAdd (fun s => writeCcAdd s val))

/-- FAB_RT_DATA written (R183). -/
def execFabRtDataWrite (who : Requester) (val : BitVec 32) (s : State) : Out :=
  .next (s.writeGuard who Reg.fabRtData (fun s => writeRtData s val.toNat))

/-- FAB_RT_REMOTE written (R183). -/
def execFabRtRemoteWrite (who : Requester) (val : BitVec 32) (s : State) : Out :=
  .next (s.writeGuard who Reg.fabRtRemote (fun s => writeRtRemote s val.toNat))

end Sys2Proof.Machine
end

