-- ==== Sys2Proof/Machine/Crossing.lean ====
section
/-! DEFINITION. The ends of pauses and stops, after which the crossings into an island deliver what they hold (R395, R397, R401, R406, R410). -/
namespace Sys2Proof.Machine

open Sys2Proof

/-- FLL_LOCK (R397, R398): the FLLs of a change in its pause report lock; the islands restart. -/
def execFllLock (change : Nat) (s : State) : Out :=
  match s.clk.changes.find? (fun c => c.id = change) with
  | none => .next s
  | some c => match c.paused with
    | none => .next s
    | some t0 => .next (deliverAll (endPause s c t0))

/-- FLL_LOCK_TIMEOUT (R401): no lock 95 µs after the stop; the island goes back to its previous frequency. -/
def execFllLockTimeout (island : Nat) (s : State) : Out :=
  match pauseOf s island with
  | none => .next s
  | some c => match c.paused with
    | none => .next s
    | some t0 =>
      if s.past t0 95_000 && c.targets.any (fun t => t.1 = island) then
        let c' := { c with targets := c.targets.filter (fun t => t.1 ≠ island) }
        let s := s.modIsland island (fun x => { x with lockFail := true })
        let s := (s.raise Reg.clkIrqStat 5).count Reg.clkLockFails
        let s := s.setChanges (s.clk.changes.map (fun d => if d.id = c.id then c' else d))
        .next (if c'.targets.isEmpty then deliverAll (endPause s c' t0) else s)
      else .next s

/-- An island that stopped under IDLE_GATE restarts; a change stored meanwhile is taken, as a pause, unless the guard of the alarm path defers
it: the island then restarts as it was, and the change waits (R402, R406, Table 11-5). -/
def wakeIsland (s : State) (i : Nat) : State :=
  let x := s.island i
  let s1 := s.modIsland i (fun x => { x with idle := false })
  if !x.stored || x.held then s1
  else if inAlarm s i && (guardActive s || s.clk.changes.any (fun c => c.paused.isSome && alarmChange s c)) then
    requestChange (s1.modIsland i (fun x => { x with stored := false })) [i] false
  else
    let s2 := (takeStored s1 i).modIsland i (fun x => { x with pauses := Nat.min 0xFFFF (x.pauses + 1), lockFail := false })
    let s3 := (s2.raise Reg.clkIrqStat 9).count Reg.clkChanges
    let s4 := raiseBelowFloor (s3.each (clustersOf [i]) followQu) [i]
    s4.when (inAlarm s4 i) endAlarmPause

/-- ISLAND_WAKE (R406, Table 11-5): a crossing request, an interrupt source or a register access restarts the island. -/
def execIslandWake (island : Nat) (s : State) : Out :=
  if (s.island island).idle then .next (deliverAll (wakeIsland s island)) else .next s

/-- REF_CLK_LOST (R410). -/
def execRefClkLost (s : State) : Out :=
  if s.clk.refOk then
    let s := s.each s.clk.changes abortPause
    let s := { s with clk := { s.clk with refOk := false } }
    .next (deliverAll (((s.raise Reg.clkIrqStat 0).count Reg.clkRefLosses).logRule 410 s.now))
  else .next s

end Sys2Proof.Machine
end

