-- ==== Sys2Proof/Machine/Itard.lean ====
section
/-! DEFINITION. The Itard ports: the checked and replayed transport, learning, inauguration, heartbeats sent and the congestion
map (R181 to R192, R202 to R206). -/
namespace Sys2Proof.Machine

open Sys2Proof

/-! ### Learning (R188 to R190) -/

def State.learned (s : State) (e : BitVec 12) : Learn := get learnReset s.fab.learn e.toNat
def State.setLearned (s : State) (e : BitVec 12) (x : Learn) : State :=
  { s with fab := { s.fab with learn := put learnReset s.fab.learn e.toNat x } }

/-- A time in ns as a count of link cycles of 5.708 ns. -/
def linkCycle (t : Nat) : Nat := t * 1000 / 5708

/-- AGE of an entry, in link cycles, saturating at 4095 (Table 5-8). -/
def learnAge (s : State) (x : Learn) : Nat := if x.st = 0 then 0 else min 4095 (linkCycle (s.now - x.seen))

/-- The side that the learn table selects, written into the routers as port code 6 or 7. -/
def routeBySide (s : State) (e : BitVec 12) (f : Nat) : State := setRoutes s e (BitVec.ofNat 8 (0x86 + f))

/-- A conflict of EID e (R188). -/
def learnConflict (s : State) (e : BitVec 12) (x : Learn) (side : Nat) : State :=
  routeBySide (((s.setLearned e { x with st := 2, port := side, suppress := true, conflictAt := s.now }).raise Reg.fabEvtStat 2).setReg
    Reg.itdConflictEid (e.setWidth 64)) e side

/-- EID e seen on port f while learning is enabled (R188). -/
def learnFrom (s : State) (e : BitVec 12) (f : Nat) : State :=
  let x := s.learned e
  match x.st with
  | 0 => if x.suppress then s
         else routeBySide (s.setLearned e { st := 1, port := f, suppress := false, seen := s.now, conflictAt := s.now }) e f
  | 1 =>
    if x.port = f then s.setLearned e { x with seen := s.now }
    else if linkCycle x.conflictAt = linkCycle s.now then learnConflict s e x 0
    else if learnAge s x < 256 then learnConflict s e x x.port
    else routeBySide ((s.setLearned e { x with port := f, seen := s.now, conflictAt := 0 }).count (Reg.itdMoves f)) e f
  | 2 => if x.port = f then s.setLearned e { x with seen := s.now } else s.count (Reg.itdConflictHits f)
  | _ => s

/-- What EID e seen on port f leaves in the learn table: all of R188 while ITD_CTRL.LEARN is set, and afterwards only the sightings of a
CONFLICT entry (R189). -/
def sighted (s : State) (e : BitVec 12) (f : Nat) : State :=
  if !s.fab.known then s
  else if s.bitAt (Reg.itdCtrl f) 1 then learnFrom s e f
  else if (s.learned e).st = 2 ∧ (s.learned e).port ≠ f then s.count (Reg.itdConflictHits f)
  else s

/-- A write of ITD_LEARN_DATA (R189, Table 5-13): STATE and PORT; a write of STATE 1 is ignored. -/
def writeLearn (s : State) (v : Nat) : State :=
  let e := BitVec.ofNat 12 (s.fldAt Reg.itdLearnSel 11 0)
  let side := bits v 2 2
  if bits v 1 0 = 1 then s
  else
    let s := s.setLearned e { s.learned e with st := bits v 1 0, port := side }
    if bits v 1 0 = 3 then routeBySide s e side else s

/-- ITD_LEARN_DATA written (R189). -/
def execItdLearnWrite (who : Requester) (val : BitVec 32) (s : State) : Out :=
  .next (s.writeGuard who Reg.itdLearnData (fun s => writeLearn s val.toNat))

/-- 100 ms after a conflict SUPPRESS clears (R189). -/
def execLearnSuppressExpiry (eid : BitVec 12) (s : State) : Out :=
  let x := s.learned eid
  if x.suppress ∧ s.past x.conflictAt (ms 100) then
    let s := s.setLearned eid { x with suppress := false }
    .next (if x.st = 2 then s.raise Reg.fabEvtStat 3 else s)
  else .next s

/-! ### Inauguration (R203 to R206, Table 5-12) -/

/-- A packet of the fabric manager on CC0, with the next SEQ of its flow (R178). -/
def managerPacket (s : State) (ty : Nat) (dst : BitVec 12) (payload : List Byte) : Packet × State :=
  let (q, s1) := takeSeq s 0x038 0
  (sealPacket { plainPacket dst (ownEid s 0x038) ty 3 0 payload with seq := BitVec.ofNat 16 q }, s1)

/-- A VC3 packet for the device next to port f, whose slot inauguration has not given: it goes out through that port (R204). -/
def sendNext (s : State) (f ty : Nat) (payload : List Byte) : State :=
  let (p, s) := managerPacket s ty 0x038 payload
  toPort s f p

/-- A packet of VC3 on its way from router n: the entry's PORT leads it (R167), and without a route it is dropped (R170). -/
def routeVc3 (s : State) (n : Nat) (p : Packet) : State :=
  match wayFrom s p.dst 3 72 n with
  | .itard f => toPort s f p
  | _ => dropNoRoute s p

/-- A VC3 packet of the fabric manager to the manager of slot k (R192, R198). -/
def sendVc3 (s : State) (k ty : Nat) (payload : List Byte) : State :=
  let (p, s) := managerPacket s ty (BitVec.ofNat 12 (k * 512 + 0x038)) payload
  routeVc3 s (routerFor 0x038) p

/-- Bytes filled up with zeros to whole granules. -/
def granules (l : List Byte) : List Byte := l ++ List.replicate ((32 - l.length % 32) % 32) 0

/-- A REMAP packet of the fabric manager to slot k. -/
def sendRemap (s : State) (k : Nat) (payload : List Byte) : State := sendVc3 s k 10 (granules payload)

/-- An INAUG payload, in the model's layout: byte 0 is 0 for a hello and 1 for a neighbour list, byte 1 the number of devices, byte 2 is 1
where the list reaches the open end; from byte 8 on, 16 bytes a device: its ID and the port on which it faces the receiver, the sender
first. (DESIGN CHOICE, log 14) -/
def inaugPayload (kind : Nat) (whole : Bool) (l : List (Word × Nat)) : List Byte :=
  granules (bytesOf 1 kind ++ bytesOf 1 l.length ++ bytesOf 6 (num whole)
    ++ (l.map (fun e => bytesOf 8 e.1.toNat ++ bytesOf 8 e.2)).flatten)

/-- The devices of an INAUG payload. -/
def inaugList (l : List Byte) : List (Word × Nat) :=
  (List.range (ofBytes ((l.drop 1).take 1))).map (fun k =>
    (BitVec.ofNat 64 (ofBytes ((l.drop (8 + 16 * k)).take 8)), ofBytes ((l.drop (16 + 16 * k)).take 1)))

/-- The other port. -/
def otherPort (f : Nat) : Nat := 1 - f

/-- This device's list sent through port f: itself, and what the other port has named (Table 5-12). -/
def floodFrom (s : State) (f : Nat) : State :=
  let x := s.port (otherPort f)
  if (s.port f).st = .up then sendNext s f 9 (inaugPayload 1 x.chain.isSome ((Config.deviceId, f) :: x.chain.getD x.heard)) else s

/-- Every device runs alone as slot 0 with its ports limited to VC3 (R205). (DEDUCED, log 58) -/
def inaugFail (s : State) : State :=
  let s := { s with fab := { s.fab with slot := 0, setSize := 1, known := false, inaug := .settled, inaugAt := s.now } }
  (s.each [0, 1] (fun s f => s.modPort f (fun x => { x with vc3Only := true, inaugFail := true, neighbour := none }))).raise
    Reg.fabEvtStat 9

/-- The remote part of every router table by side again (Table 5-12). -/
def clearRemote (s : State) : State :=
  { s with fab := { s.fab with routes := s.fab.routes.filter (fun e => decide (4096 ≤ e.1 % 8192)) } }

/-- The far end's device ID beyond a port: this device's own where the port is the open end. -/
def endId (l : List (Word × Nat)) : Word := (l.getLast?.map (·.1)).getD Config.deviceId

/-- What this device's stream slots are used for, as class and binding (Table 5-10): the direction of class A, door and side of class B. -/
def slotUse (s : State) : SlotUse :=
  (List.range 12).map (fun k =>
    let r := (s.reg (Reg.camSlotCtrl k)).toNat
    (bits r 1 0, if bits r 1 0 = 1 then bits r 4 4 else if bits r 1 0 = 2 then bits r 21 16 else 0))

/-- The slots of this device reported to slot 0, which computes the plan from them: message 5, two bytes a slot (R198).
(DESIGN CHOICE, log 15) -/
def reportSlots (s : State) : State :=
  let l := slotUse s
  if s.fab.slot = 0 then { s with fab := { s.fab with reports := put (fun _ => none) s.fab.reports 0 (some l) } }
  else sendRemap s 0 (bytesOf 1 5 ++ bytesOf 1 s.fab.slot ++ (l.map (fun u => bytesOf 1 u.1 ++ bytesOf 1 u.2)).flatten)

/-- FAB_SLOT set once both sides are known: slot 0 is the open end whose device ID is lower, and slots count along the chain;
a chain of more than eight devices fails (Table 5-12, R205). -/
def takeSlots (s : State) : State :=
  match (s.port 0).chain, (s.port 1).chain with
  | some a, some b =>
    if s.fab.inaug ≠ .flooding then s
    else if 8 < a.length + b.length + 1 then inaugFail s
    else
      let facing := decide ((endId a).toNat ≤ (endId b).toNat)
      let slot := if facing then a.length else b.length
      let s := clearRemote { s with fab := { s.fab with
        slot := slot, setSize := a.length + b.length + 1, facing := facing, view := [], applied := [], inaug := .learning, known := true
        inaugAt := s.now } }
      reportSlots (s.each [0, 1] (fun s f =>
        let l := if f = 0 then a else b
        s.modPort f (fun x => { x with
          neighbour := if l.isEmpty then none else some (if decide (f = 0) = facing then slot - 1 else slot + 1)
          mateId := (l.head?.map (·.1)).getD 0 })))
  | _, _ => s

/-- Once no port trains any more, hellos and the lists already known go out (Table 5-12). -/
def inaugHello (s : State) : State :=
  if s.fab.inaug = .training ∧ (s.port 0).st ≠ .training ∧ (s.port 1).st ≠ .training then
    let s := { s with fab := { s.fab with inaug := .flooding } }
    let s := s.each [0, 1] (fun s f => s.modPort f (fun x =>
      { x with heard := [], chain := if x.st = .up ∧ !x.openEnd then none else some [] }))
    let s := s.each [0, 1] (fun s f => if (s.port f).st = .up then sendNext s f 9 (inaugPayload 0 false [(Config.deviceId, f)]) else s)
    takeSlots (s.each [0, 1] floodFrom)
  else s

/-- Inauguration begins: slot 0 until it completes, only VC3 on the ports; an enabled port that is DOWN trains (R203, R204).
(DEDUCED, log 57) -/
def startInaug (s : State) : State :=
  let s := clearRemote { s with fab := { s.fab with
    slot := 0, setSize := 1, known := false, learn := [], reports := [], descs := [], inaug := .training, inaugAt := s.now } }
  inaugHello (s.each [0, 1] (fun s f => s.modPort f (fun x => { x with
    st := if x.st = .down ∧ s.bitAt (Reg.itdCtrl f) 0 then .training else x.st
    openEnd := false, vc3Only := true, inaugFail := false, heard := [], chain := none, neighbour := none })))

/-- A loss declared during inauguration: it starts again without slot k, whose side is an open end where k is a neighbour (Table 5-11). -/
def restartWithout (s : State) (k : Nat) : State :=
  let shut := [0, 1].filter (fun f => (s.port f).neighbour = some k)
  let s1 := clearRemote { s with fab := { s.fab with
    slot := 0, setSize := 1, known := false, learn := [], reports := [], descs := [], inaug := .training, inaugAt := s.now } }
  inaugHello (s1.each [0, 1] (fun s f => s.modPort f (fun x => { x with
    openEnd := shut.contains f, vc3Only := true, inaugFail := false, heard := [], chain := none, neighbour := none })))

/-- Inauguration is under way. -/
def inaugRuns (s : State) : Bool := decide (s.fab.inaug ≠ .idle) && decide (s.fab.inaug ≠ .settled)

/-- A link-state change before the topology is settled starts the sequence again (R204, Table 5-11). -/
def linkChanged (s : State) : State :=
  if inaugRuns s then inaugHello (clearRemote { s with fab := { s.fab with
    slot := 0, setSize := 1, known := false, learn := [], reports := [], descs := [], inaug := .training, inaugAt := s.now } })
  else s

/-- The state of a port whose link starts anew: numbers from 0, buffers empty, every credit there (R184, R185). -/
def freshLink (x : ItdPort) : ItdPort :=
  { x with
    rxSeq := 0, txSeq := 0, replay := [], replays := 0, txq := [], txWait := [], hold := false, unacked := 0, lastAck := none, nak := none
    credits := { vc0 := 512, vc1 := 512, vc3 := 64 } }

/-- A port goes DOWN: its transmit queue and replay buffer are discarded, and endpoints hold nothing for it any more (R202). -/
def portDown (s : State) (f : Nat) : State :=
  let x := s.port f
  let lost := x.replay.map (fun e => e.2) ++ x.txq ++ x.txWait
  let s := s.setPort f { freshLink x with st := .down, lock0 := false, lock1 := false, aligned := false }
  linkChanged (releaseHeld (s.each lost (fun s p => txDiscard s f p)))

/-- A write of ITD_CTRL of port f (R204): EN starts training, and inauguration where none has run; clearing EN takes the port
DOWN. -/
def writeItdCtrl (s : State) (f v : Nat) : State :=
  let was := s.bitAt (Reg.itdCtrl f) 0
  let s := s.setFldAt (Reg.itdCtrl f) 1 0 v
  if v.testBit 0 && !was then
    let s := s.modPort f (fun x => { x with st := .training, openEnd := false, heard := [], chain := none, vc3Only := true })
    if s.fab.inaug = .settled then s
    else { s with fab := { s.fab with inaug := .training, inaugAt := s.now } }
  else if !v.testBit 0 && was then portDown s f
  else s

/-- ITD_CTRL written (R204). -/
def execItdPortEnable (who : Requester) (port : Fin 2) (val : BitVec 32) (s : State) : Out :=
  .next (s.writeGuard who (Reg.itdCtrl port) (fun s => writeItdCtrl s port val.toNat))

/-- A write of FAB_CTRL: INAUG (W1S) starts inauguration (R204). -/
def writeFabCtrl (s : State) (v : Nat) : State := if v.testBit 8 then startInaug s else s

/-- FAB_CTRL.INAUG written (R204). -/
def execFabInaugStart (who : Requester) (val : BitVec 32) (s : State) : Out :=
  .next (s.writeGuard who Reg.fabCtrl (fun s => writeFabCtrl s val.toNat))

/-- A port has trained, its lanes deskewed by up to 32 blocks (R184); or it has no partner and is an open end (Table 5-12). An enabled port
that is DOWN trains whenever a device appears on it, and after inauguration it is held to VC3 (R206). Lanes further apart do not align, and
the port stays DOWN (R202). -/
def execItardTrainingEnd (port : Fin 2) (partner : Option Nat) (s : State) : Out :=
  let x := s.port port
  let enabled := s.bitAt (Reg.itdCtrl port) 0
  match partner with
  | some skew =>
    if x.st = .training ∨ (x.st = .down ∧ enabled) then
      let s := s.modPort port (fun x =>
        if skew ≤ 32 then { freshLink x with
          st := .up, lock0 := true, lock1 := true, aligned := true, openEnd := false, skew := skew, vc3Only := true }
        else { x with st := .down, openEnd := true, lock0 := false, lock1 := false, aligned := false })
      .next (if inaugRuns s then
          (if x.st = .training then inaugHello { s with fab := { s.fab with inaugAt := s.now } } else linkChanged s)
        else s)
    else .next s
  | none =>
    if x.st ≠ .training then .next s
    else
      let s := s.modPort port (fun x => { x with st := .down, openEnd := true })
      .next (if s.fab.inaug = .training then inaugHello { s with fab := { s.fab with inaugAt := s.now } } else s)

/-- INAUG (R204, R205, R206): a hello names the neighbour; a list gives the devices beyond the port; this device's own ID in a
list shows a closed chain. -/
def takeInaug (s : State) (f : Nat) (p : Packet) : State :=
  let l := inaugList p.payload
  let kind := ofBytes (p.payload.take 1)
  let whole := decide (ofBytes ((p.payload.drop 2).take 1) = 1)
  match l with
  | [] => s
  | (id, _) :: _ =>
    let named := s.modPort f (fun x => { x with peerId := id })
    match s.fab.inaug with
    | .settled =>
      if (s.port f).neighbour.isSome ∧ (s.port f).mateId = id then named else named.logged (.newDevice f id)
    | .flooding =>
      if kind ≠ 0 ∧ l.any (fun e => e.1 = Config.deviceId) ∨ 8 < l.length + 1 then inaugFail named
      else
        let named := if kind = 0 then floodFrom named f else named
        let x := named.port f
        if x.heard.length < l.length ∨ (whole ∧ x.chain.isNone) then
          takeSlots (floodFrom (named.setPort f { x with heard := l, chain := if whole then some l else x.chain }) (otherPort f))
        else named
    | _ => named

/-- What a packet of VC3 meets before the manager takes it: the router buffers, its form (R191), its CRC (R165); once it has taken effect its
counter falls (R175). A REMAP for another slot goes on (R198). -/
def atManager (ty : Nat) (s : State) (f : Nat) (p : Packet) (k : State → Packet → State) : State :=
  let s := bufferEcc s p
  let q := ofType ty p
  let s := leaveFabric s q
  if p.uncorrectable then s
  else if !wellFormedPacket q then malformedPacket s q
  else if ty = 10 ∧ s.fab.known ∧ slotOf q.dst ≠ s.fab.slot then routeVc3 s (if f = 0 then 12 else 23) q
  else if q.crc ≠ packetCrc q then (s.count Reg.fabCrcErr).raise Reg.fabEvtStat 1
  else tagged (k s q) 0x038 q

/-- An INAUG packet on port f (R204). -/
def execInaug (port : Fin 2) (p : Packet) (s : State) : Out := .next (atManager 9 s port p (fun s q => takeInaug s port q))

/-- LEARN of both ports clear (Table 5-12). -/
def learnEnds (s : State) : State := s.each [0, 1] (fun s f => s.setFldAt (Reg.itdCtrl f) 1 1 0)

/-- Learning ends 100 ms after the slots are set (Table 5-12). -/
def execLearnWindowEnd (s : State) : Out :=
  if s.fab.inaug = .learning ∧ s.past s.fab.inaugAt (ms 100) then .next (learnEnds s) else .next s

/-! ### The receiver (R185, R187, R190, R203) -/

/-- Whether a range of local addresses lies inside one of the four windows (R187). -/
def inWindow (s : State) (a n : Nat) : Bool :=
  (List.range 4).any (fun w =>
    let b := (s.reg (Reg.itdWinBase w)).toNat
    let z := (s.reg (Reg.itdWinSize w)).toNat
    decide (z ≠ 0) && decide (b ≤ a) && decide (a + n ≤ b + z))

/-- The bytes that a request covers at ADDR. -/
def requestSpan (p : Packet) : Nat :=
  match p.ptype.toNat with
  | 0 => p.payload.length
  | 1 => 32 * p.flow.toNat
  | _ => 8

/-- A request from a neighbour that this device accepts (R187): to a software endpoint, or inside a DRAM window. -/
def admits (s : State) (p : Packet) : Bool :=
  let i := localIndex p.dst
  let ty := p.ptype.toNat
  decide (0x100 ≤ i) || (decide (0x048 ≤ i) && decide (i < 0x04C) && (ty = 0 || ty = 1 || ty = 3)
    && inWindow s (addrLocal p.addr.toNat) (requestSpan p))

/-- The local indices that never accept a packet from an Itard port (R187): Sage, Rosemary, the security engine and control space. -/
def closedToItard (i : Nat) : Bool := [0x03C, 0x03E, 0x03F, 0x090].contains i

/-- A packet for this device that this device takes from a neighbour (R187): VC3 at the fabric manager, a response anywhere but the closed
indices, any other as `admits` has it. -/
def takesFromItard (s : State) (p : Packet) : Bool :=
  let i := localIndex p.dst
  if p.vc.toNat = 3 then i = 0x038
  else if p.ptype.toNat = 2 ∨ p.ptype.toNat = 4 then !closedToItard i
  else admits s p

/-- A packet that arrived whole and correct on port f (R185 to R191, R170). -/
def accepted (s : State) (f : Nat) (p : Packet) : State :=
  if !wellFormedPacket p then logMalformed (s.count (Reg.itdMalformed f)) p
  else if s.fab.known ∧ slotOf p.src = s.fab.slot then (s.count (Reg.itdOwnSrc f)).logged (.duplicateSlot f)
  else if (s.port f).vc3Only ∧ p.vc.toNat ≠ 3 then s.count (Reg.itdWinDeny f)
  else if p.vc.toNat = 2 then s.count Reg.fabVcDrop
  else
    let s := sighted s p.src f
    let here := !s.fab.known || decide (slotOf p.dst = s.fab.slot) || decide (p.ptype.toNat = 8) || decide (p.ptype.toNat = 9)
    if !here then (if p.hops.toNat = 7 then s.count Reg.fabTtlDrop else s.inject p)
    else if takesFromItard s p then s.inject p
    else if p.ptype.toNat = 2 ∨ p.ptype.toNat = 4 then s
    else errAnswer (s.count (Reg.itdWinDeny f)) p

/-- An ACK goes out for every packet up to the last in order (R185). -/
def sendAck (s : State) (f : Nat) : State :=
  s.modPort f (fun x => { x with unacked := 0, ackAt := s.now, lastAck := some ((x.rxSeq + 1023) % 1024) })

/-- A damaged packet on port f: a NAK asks for a replay from the number expected (R185). -/
def sendNak (s : State) (f : Nat) : State := s.modPort f (fun x => { x with nak := some x.rxSeq })

/-- A whole packet of port f between START and END: `bad` where it held a block error, its link sequence number, and its bytes. A damaged one
is discarded with a NAK; one that passes is acknowledged, at the latest with the sixteenth (R185). -/
def packetIn (s : State) (f : Nat) (bad : Bool) (n : Nat) (l : List Byte) : State :=
  let x := s.port f
  if bad ∨ n ≠ x.rxSeq then sendNak s f
  else if crc32 (l.take (l.length - 4)) ≠ BitVec.ofNat 32 (ofBytes (l.drop (l.length - 4))) then
    (sendNak s f).modPort f (fun x => { x with mapCrc := x.mapCrc + 1 }) |>.count (Reg.itdCrcErr f)
  else
    let s := s.setPort f { x with
      rxSeq := (x.rxSeq + 1) % 1024, nak := none, unacked := x.unacked + 1, ackAt := if x.unacked = 0 then s.now else x.ackAt }
    let s := s.when (16 ≤ x.unacked + 1) (fun s => sendAck s f)
    accepted s f (packetOf l)

/-- An ACK of port f frees the packets up to the one it names (R185). -/
def takeAck (s : State) (f n : Nat) : State :=
  let x := s.port f
  if x.replay.any (fun e => e.1 = n) then
    pump (s.setPort f { x with replay := (x.replay.dropWhile (fun e => e.1 ≠ n)).drop 1, replays := 0 }) f
  else s

/-- Credits that the far receiver returns to port f (Table 5-7). -/
def takeCredit (s : State) (f : Nat) (c : Credits) : State := pump (s.modPort f (fun x => { x with credits := gainCredit x.credits c })) f

/-- A NAK of port f replays from the packet it names; the eighth replay in a row of one packet retrains the port (R185, R186).
(DEDUCED, log 62) -/
def takeNak (s : State) (f n : Nat) : State :=
  let x := s.port f
  if x.st = .up ∧ x.replay.any (fun e => e.1 = n) then
    let rest := x.replay.dropWhile (fun e => e.1 ≠ n)
    let k := if rest.length = x.replay.length then x.replays + 1 else 1
    let y := { x with replay := rest, replays := k, mapReplays := x.mapReplays + 1 }
    let s := s.count (Reg.itdReplay f)
    if k = 8 then (s.setPort f { y with replays := 0, st := .retrain }).count (Reg.itdRetrain f) else s.setPort f y
  else s

/-- The blocks of both lanes in line order: they alternate, starting with lane 0 (R184). -/
def lineOf : List Block → List Block → List Block
  | a :: l, b :: m => a :: b :: lineOf l m
  | l, [] => l
  | [], m => m

/-- The blocks of both lanes in line order, where the first of them came on a lane. -/
def lineFrom (first : Fin 2) (lane0 lane1 : List Block) : List Block := if first = 0 then lineOf lane0 lane1 else lineOf lane1 lane0

/-- The packet being received: whether a block of it was in error, its link sequence number, and its bytes so far. -/
structure RxPacket where
  bad : Bool
  linkSeq : Nat
  data : List Byte
  deriving DecidableEq, Repr

/-- One block of the line of port f, with the packet being received (R184, Table 5-7): control blocks take effect wherever they stand. -/
def rxBlock (f : Nat) (st : State × Option RxPacket) (b : Block) : State × Option RxPacket :=
  let (s, r) := st
  match b with
  | .data w => (s, r.map (fun q => { q with data := q.data ++ bytesOf 8 w.toNat }))
  | .start _ n => (s, some { bad := r.isSome, linkSeq := n.toNat, data := [] })
  | .stop n => match r with
    | some q => (packetIn s f (q.bad || decide (n.toNat ≠ q.linkSeq) || decide (q.data.length % 32 ≠ 0) || q.data.isEmpty) q.linkSeq q.data, none)
    | none => (s, none)
  | .bad _ => (s, r.map (fun q => { q with bad := true }))
  | .ack n => (takeAck s f n.toNat, r)
  | .nak n => (takeNak s f n.toNat, r)
  | .credit c => (takeCredit s f c, r)
  | .idle => (s, r)
  | .align _ => (s, r)
  | .train => (s, r)

/-- The blocks of a packet as a transmitter puts them on the lanes, START and END about its data, ALIGN apart (R184, Table 5-7). -/
def linkBlocks (n : BitVec 10) (p : Packet) : List Block :=
  let l := packetBytes p
  .start p.vc n :: (List.range (l.length / 8)).map (fun k => .data (BitVec.ofNat 64 (ofBytes ((l.drop (8 * k)).take 8)))) ++ [.stop n]

/-- The blocks of a line by lane. -/
def laneOf (k : Nat) (l : List Block) : List Block := (List.range ((l.length + 1 - k) / 2)).filterMap (fun i => l[2 * i + k]?)

/-- Blocks from the link (R184, R185), both lanes as deskewed: the packets among them are checked and taken. -/
def execItardPacketReceived (port first : Fin 2) (lane0 lane1 : List Block) (s : State) : Out :=
  if (s.port port).st ≠ .up then .next s
  else .next ((lineFrom first lane0 lane1).foldl (rxBlock port) (s, none)).1

/-- An ACK, with the credits that come with it (R185, Table 5-7). -/
def execItardAck (port : Fin 2) (ack : LinkAck) (s : State) : Out :=
  .next (takeCredit (takeAck s port ack.linkSeq.toNat) port ack.credit)

/-- A NAK (R185, R186). -/
def execItardNak (port : Fin 2) (linkSeq : BitVec 10) (s : State) : Out := .next (takeNak s port linkSeq.toNat)

/-- A retrain has completed, or has failed and the port goes DOWN (R186). -/
def execItardRetrainDone (port : Fin 2) (ok : Bool) (s : State) : Out :=
  if (s.port port).st ≠ .retrain then .next s
  else .next (if ok then pump (s.modPort port (fun x => { x with st := .up })) port else portDown s port)

/-- 2 µs have passed since the first packet not acknowledged, and an ACK goes out (R185). -/
def execItardAckTimer (port : Fin 2) (s : State) : Out :=
  let x := s.port port
  if x.unacked ≠ 0 ∧ s.past x.ackAt (us 2) then .next (sendAck s port) else .next s

/-- A port goes DOWN (R202). -/
def execItardPortDown (port : Fin 2) (cause : ItdDown) (s : State) : Out :=
  let x := s.port port
  let real : Bool := match cause with
    | .retrainFailed => x.st = .retrain
    | _ => decide (x.st = .up) || decide (x.st = .retrain)
  .next (if real then portDown s port else s)

/-! ### Heartbeats sent (R192) -/

/-- The view of the set, 2 bits per slot (R192, FAB_HB_STAT). -/
def viewOf (s : State) (k : Nat) : Nat := get (fun _ => 0) s.fab.view k
def viewBits (s : State) : Nat := ((List.range 8).map (fun k => viewOf s k * 4 ^ k)).foldl (· + ·) 0

/-- A heartbeat's granule, in the model's layout: device ID in bytes 0 to 7, slot in byte 8, generation in bytes 12 to 15,
number in bytes 16 to 19, view in bytes 20 and 21. (DESIGN CHOICE, log 14) -/
def heartbeatPayload (s : State) : List Byte :=
  granules (bytesOf 8 Config.deviceId.toNat ++ bytesOf 4 s.fab.slot ++ bytesOf 4 s.fab.gen ++ bytesOf 4 s.fab.hbNumber
    ++ bytesOf 2 (viewBits s))

/-- Every 10 ms ±1 ms a HEARTBEAT goes to each adjacent neighbour (R192). -/
def execHeartbeatSend (s : State) : Out :=
  let due : Bool := match s.fab.hbSentAt with
    | none => true
    | some t => s.past t (ms 9)
  if s.fab.inaug = .settled ∧ due then
    let s1 := s.each [0, 1] (fun s f =>
      match (s.port f).st, (s.port f).neighbour with
      | .up, some k => sendVc3 s k 8 (heartbeatPayload s)
      | _, _ => s)
    .next { s1 with fab := { s1.fab with hbNumber := (s1.fab.hbNumber + 1) % 2 ^ 32, hbSentAt := some s.now } }
  else .next s

/-- Slot k survives in this device's partition. -/
def survives (s : State) (k : Nat) : Bool := k = s.fab.slot || (decide (k < s.fab.setSize) && decide (viewOf s k = 0))

/-- A REMAP message to every other device that can be reached. -/
def tellSet (s : State) (l : List Byte) : State :=
  s.each ((List.range 8).filter (fun m => m ≠ s.fab.slot && survives s m)) (fun s m => sendRemap s m l)

/-- Stream slot j of this device reported RUNNING: message 4 (R197). (DEDUCED, log 70) -/
def reportRunning (s : State) (j : Nat) : State :=
  if s.fab.inaug = .settled then tellSet s (bytesOf 1 4 ++ bytesOf 1 s.fab.slot ++ bytesOf 1 j) else s

/-! ### The congestion map (R181, R182) -/

/-- The mean occupancy of an output of router n in the sums. -/
def occOf (sums : List RouterSums) (n out : Nat) : Nat := ((sums.getD n { occ := [], stall := [] }).occ).getD out 0

/-- A congestion map of 768 bytes (Table 5-6). -/
def cmapBytes (s : State) (seq : Nat) (sums : List RouterSums) (txOcc : List Nat) : List Byte :=
  let routers := (List.range 36).flatMap (fun n => (List.range 5).flatMap (fun o =>
    bytesOf 2 (min 65535 (occOf sums n o)) ++ bytesOf 2 (min 65535 (((sums.getD n { occ := [], stall := [] }).stall).getD o 0 / 64))))
  let links := (List.range 2).flatMap (fun f =>
    bytesOf 4 (txOcc.getD f 0) ++ bytesOf 4 (s.port f).mapReplays ++ bytesOf 4 (s.port f).mapCrc ++ bytesOf 4 0)
  bytesOf 4 seq ++ bytesOf 4 0 ++ bytesOf 8 s.now ++ routers ++ links

/-- The output that a port code stands for in router n (R166). -/
def outputOf (n code : Nat) : Nat := if code = 6 then xyPort n 12 else if code = 7 then xyPort n 23 else code

/-- The runs of one output and alternate, brought up to date with a map (R182). -/
def runPair (s : State) (sums : List RouterSums) (n o alt : Nat) : State :=
  let hot := s.fldAt Reg.fabCmapCfg 15 0
  let k := n * 64 + o * 8 + alt
  let on := decide (hot < occOf sums n o) && decide (2 * occOf sums n alt < hot)
  let h := if on then get (fun _ => 0) s.fab.hotRun k + 1 else 0
  let c := if on then 0 else get (fun _ => 0) s.fab.coolRun k + 1
  { s with fab := { s.fab with
    hotRun := put (fun _ => 0) s.fab.hotRun k (min 3 h), coolRun := put (fun _ => 0) s.fab.coolRun k (min 100 c) } }

/-- The entry with the SEL that R182 gives it after the runs are up to date. -/
def selectFor (s : State) (n : Nat) (x : BitVec 8) : BitVec 8 :=
  let k := n * 64 + outputOf n (bits x.toNat 2 0) * 8 + outputOf n (bits x.toNat 5 3)
  if !x.getLsbD 6 && decide (get (fun _ => 0) s.fab.hotRun k = 3) then x ||| 0x40
  else if x.getLsbD 6 && decide (get (fun _ => 0) s.fab.coolRun k = 100) then x &&& 0xBF
  else x

/-- SEL set and cleared in the entries that have an alternate, at most 64 of them in one map (R182). -/
def reselect (s : State) (sums : List RouterSums) : State :=
  let cand := s.fab.routes.filterMap (fun e => match e.2 with
    | some x => if bits x.toNat 5 3 ≠ 0 ∧ x.getLsbD 7 then some (e.1, x) else none
    | none => none)
  let pairs := (cand.map (fun e => (e.1 / 8192, outputOf (e.1 / 8192) (bits e.2.toNat 2 0), outputOf (e.1 / 8192) (bits e.2.toNat 5 3)))).eraseDups
  let keys := pairs.map (fun q => q.1 * 64 + q.2.1 * 8 + q.2.2)
  let kept := { s with fab := { s.fab with
    hotRun := s.fab.hotRun.filter (fun e => keys.contains e.1), coolRun := s.fab.coolRun.filter (fun e => keys.contains e.1) } }
  let s := kept.each pairs (fun s q => runPair s sums q.1 q.2.1 q.2.2)
  let moved := (cand.filter (fun e => selectFor s (e.1 / 8192) e.2 ≠ e.2)).take 64
  s.each moved (fun s e => { s with fab := { s.fab with
    routes := put (fun _ => none) s.fab.routes e.1 (some (selectFor s (e.1 / 8192) e.2)) } })

/-- Every 1 ms the router sums become a map in the buffer that is next in turn (R181), and entries are reselected (R182). (DEDUCED, log 59) -/
def execCmapGather (sums : List RouterSums) (txOcc : List Nat) (s : State) : Out :=
  let seq := ((s.reg Reg.fabCmapSeq).toNat + 1) % 2 ^ 32
  let base := addrLocal (s.reg Reg.fabCmapBase).toNat + (if seq % 2 = 1 then 0 else 1024)
  let s := putData s base (cmapBytes s seq sums txOcc)
  let s := s.each [0, 1] (fun s f => s.modPort f (fun x => { x with mapReplays := 0, mapCrc := 0 }))
  .next (reselect ((s.setReg Reg.fabCmapSeq (BitVec.ofNat 64 seq)).raise Reg.fabEvtStat 8) sums)

end Sys2Proof.Machine
end

