-- ==== Sys2Proof/Machine/Float.lean ====
section
/-! DEFINITION. IEEE 754 binary16 and binary32 arithmetic on encodings of w bits, rounded to nearest, ties to even
(R258). A finite value is held as an integer in units of the format's smallest subnormal. -/
namespace Sys2Proof.Machine

open Sys2Proof

/-- The fraction and exponent widths of the format of w bits. -/
def fracBits (w : Nat) : Nat := if w = 16 then 10 else 23
def expBits (w : Nat) : Nat := if w = 16 then 5 else 8

/-- The format's unit is 2^(- fixScale w): 2⁻²⁴ for binary16, 2⁻¹⁴⁹ for binary32. -/
def fixScale (w : Nat) : Nat := 2 ^ (expBits w - 1) - 2 + fracBits w

def fExp (w x : Nat) : Nat := bits x (w - 2) (fracBits w)
def fFrac (w x : Nat) : Nat := bits x (fracBits w - 1) 0
def fNeg (w x : Nat) : Bool := x.testBit (w - 1)
def expMax (w : Nat) : Nat := 2 ^ expBits w - 1

def fNan (w x : Nat) : Bool := decide (fExp w x = expMax w) && decide (fFrac w x ≠ 0)
def fInf (w x : Nat) : Bool := decide (fExp w x = expMax w) && decide (fFrac w x = 0)
def fZero (w x : Nat) : Bool := decide (fExp w x = 0) && decide (fFrac w x = 0)

/-- The canonical quiet NaN and infinity. -/
def qNan (w : Nat) : Nat := if w = 16 then 0x7E00 else 0x7FC0_0000
def infOf (w : Nat) (neg : Bool) : Nat := expMax w * 2 ^ fracBits w + (if neg then 2 ^ (w - 1) else 0)
def zeroOf (w : Nat) (neg : Bool) : Nat := if neg then 2 ^ (w - 1) else 0

/-- A finite value in units of 2^(- fixScale w). -/
def toFix (w x : Nat) : Int :=
  let m := if fExp w x = 0 then fFrac w x else (fFrac w x + 2 ^ fracBits w) * 2 ^ (fExp w x - 1)
  if fNeg w x then -(m : Int) else m

/-- x · 2^(- scale), scale ≥ fixScale w, rounded to the format; `neg` is the sign of a zero result. -/
def fRound (w : Nat) (x : Int) (scale : Nat) (neg : Bool) : Nat :=
  let mag := x.natAbs
  if mag = 0 then zeroOf w neg
  else
    let extra := scale - fixScale w
    let sh := Nat.max extra (Nat.log2 mag - fracBits w)
    let enc := (sh - extra) * 2 ^ fracBits w + (rneDiv mag (2 ^ sh)).toNat
    let s := decide (x < 0)
    if expMax w * 2 ^ fracBits w ≤ enc then infOf w s else enc + (if s then 2 ^ (w - 1) else 0)

/-- x + y. -/
def fAdd (w x y : Nat) : Nat :=
  if fNan w x || fNan w y then qNan w
  else if fInf w x then (if fInf w y && fNeg w x != fNeg w y then qNan w else x)
  else if fInf w y then y
  else fRound w (toFix w x + toFix w y) (fixScale w) (fNeg w x && fNeg w y)

/-- The encoding with its sign inverted. -/
def fFlip (w x : Nat) : Nat := x ^^^ 2 ^ (w - 1)

/-- x - y. -/
def fSub (w x y : Nat) : Nat := if fNan w y then qNan w else fAdd w x (fFlip w y)

/-- x × y. -/
def fMul (w x y : Nat) : Nat :=
  let s := fNeg w x != fNeg w y
  if fNan w x || fNan w y then qNan w
  else if fInf w x || fInf w y then (if fZero w x || fZero w y then qNan w else infOf w s)
  else fRound w (toFix w x * toFix w y) (2 * fixScale w) s

/-- d + x × y with one rounding. -/
def fFma (w d x y : Nat) : Nat :=
  let s := fNeg w x != fNeg w y
  if fNan w x || fNan w y || fNan w d then qNan w
  else if fInf w x || fInf w y then
    (if fZero w x || fZero w y || (fInf w d && fNeg w d != s) then qNan w else infOf w s)
  else if fInf w d then d
  else fRound w (toFix w d * 2 ^ fixScale w + toFix w x * toFix w y) (2 * fixScale w) (fNeg w d && s)

/-- x / y. -/
def fDiv (w x y : Nat) : Nat :=
  let s := fNeg w x != fNeg w y
  if fNan w x || fNan w y then qNan w
  else if fInf w x then (if fInf w y then qNan w else infOf w s)
  else if fInf w y then zeroOf w s
  else if fZero w y then (if fZero w x then qNan w else infOf w s)
  else
    let n := (toFix w x).natAbs * 2 ^ 200
    let d := (toFix w y).natAbs
    let q : Int := 2 * (n / d) + (if n % d = 0 then 0 else 1)
    fRound w (if s then -q else q) 201 s

/-- A value that orders the numbers that are not NaN: infinities beyond every finite value. -/
def fOrd (w x : Nat) : Int :=
  if fInf w x then (if fNeg w x then -(2 ^ 300 : Nat) else (2 ^ 300 : Nat)) else toFix w x

def fLt (w x y : Nat) : Bool := !fNan w x && !fNan w y && decide (fOrd w x < fOrd w y)
def fLe (w x y : Nat) : Bool := !fNan w x && !fNan w y && decide (fOrd w x ≤ fOrd w y)
def fEq (w x y : Nat) : Bool := !fNan w x && !fNan w y && decide (fOrd w x = fOrd w y)

/-- `vfmin` and `vfmax` (R258); of two zeros of unlike sign the spec does not say which is returned, so the sign is free. -/
def fMinMax (max : Bool) (w x y : Nat) : Nat :=
  if fNan w x && fNan w y then qNan w
  else if fNan w x then y
  else if fNan w y then x
  else if fZero w x && fZero w y then
    (if fNeg w x = fNeg w y then x else zeroOf w (Config.zeroSign max x y))
  else if fLt w x y then (if max then y else x) else (if max then x else y)

/-- An integer to float (`vcvt.f.x`). -/
def fOfInt (w : Nat) (x : Int) : Nat := fRound w (x * (2 ^ fixScale w : Nat)) (fixScale w) false

/-- Float to a signed integer of the same width, by rne, saturated; NaN gives 0 (`vcvt.x.f`). -/
def fToInt (w x : Nat) : Int :=
  let lo : Int := -(2 ^ (w - 1) : Nat)
  let hi : Int := (2 ^ (w - 1) : Nat) - 1
  if fNan w x then 0
  else if fInf w x then (if fNeg w x then lo else hi)
  else clamp (rneDiv (toFix w x) (2 ^ fixScale w)) lo hi

/-- Float to an unbounded integer, by rne; infinities lie beyond every output range, and what a NaN gives is free. -/
def fRne (w x : Nat) : Int :=
  if fNan w x then Config.intOfNan x
  else if fInf w x then (if fNeg w x then -(2 ^ 200 : Nat) else (2 ^ 200 : Nat))
  else rneDiv (toFix w x) (2 ^ fixScale w)

/-- The larger and the smaller of two floats that are not NaN. -/
def fMax (w x y : Nat) : Nat := if fLt w x y then y else x
def fMin (w x y : Nat) : Nat := if fLt w y x then y else x

/-- binary16 to binary32, exact. -/
def fWiden (x : Nat) : Nat :=
  if fNan 16 x then qNan 32
  else if fInf 16 x then infOf 32 (fNeg 16 x)
  else fRound 32 (toFix 16 x * (2 ^ (fixScale 32 - fixScale 16) : Nat)) (fixScale 32) (fNeg 16 x)

/-- binary32 to binary16. -/
def fNarrow (x : Nat) : Nat :=
  if fNan 32 x then qNan 16
  else if fInf 32 x then infOf 16 (fNeg 32 x)
  else fRound 16 (toFix 32 x) (fixScale 32) (fNeg 32 x)

end Sys2Proof.Machine
end

