-- ==== Sys2Proof/Machine/Thyme.lean ====
section
/-! DEFINITION. Thyme: local time, PTP time, its servo and the choice of a master (R84, R109 to R111, R118). -/
namespace Sys2Proof.Machine

open Sys2Proof

/-- The n low bytes of x, most significant first (R84). -/
def bytesBE (n x : Nat) : List Byte := (bytesOf n x).reverse

/-- How much of the slew in progress has been worked off: at most 100 µs per second (R111). -/
def slewed (s : State) : Int :=
  let lim : Int := ((s.now - s.thy.slewAt) / 10_000 : Nat)
  clamp s.thy.slew (-lim) lim

/-- What the frequency correction has added since the last correction of the offset. -/
def drifted (s : State) : Int := s.thy.freq * ((s.now - s.thy.slewAt : Nat) : Int) / 1_000_000_000

/-- PTP time in ns (R109). -/
def ptpNs (s : State) : Nat := ((s.now : Int) + s.thy.base + slewed s + drifted s).toNat

/-- time_quality of the warning dataset (Table 3-4). -/
def timeQuality (s : State) : Nat :=
  (match s.thy.mode with
    | .locked => 0
    | .holdover => 1
    | .freerun => 2) + (if s.thy.stepAt.isSome then 128 else 0)

/-- A TIMEDATE64 of a time in PTP ns (R84). -/
def timeDate (ns : Nat) : List Byte := bytesBE 4 (ns / 1_000_000_000) ++ bytesBE 4 (ns % 1_000_000_000 / 1000)

/-- Thyme with a new part. -/
def State.modThy (s : State) (f : Thyme → Thyme) : State := { s with thy := f s.thy }

/-- The 1 s interval of a message heard closed, if it is over: THY_MASTER_CHG counts it where it had several masters (R118). -/
def closeInterval (s : State) : State :=
  if s.thy.heardIn = s.now / sec 1 then s
  else
    let s1 := if 1 < s.thy.heard.length then s.count Reg.thyMasterChg else s
    s1.modThy (fun t => { t with heard := [], heardIn := s.now / sec 1 })

/-- An Announce or Sync message of a master received. -/
def hear (s : State) (master : Nat) : State :=
  let s := closeInterval s
  if s.thy.heard.contains master then s else s.modThy (fun t => { t with heard := t.heard ++ [master] })

/-- PTP time is stepped while count windows are open: their records will say so (Table 3-9). -/
def stepWindows (s : State) : State :=
  { s with tram := { s.tram with windows := s.tram.windows.map (fun w => { w with stepped := true }) } }

/-- A measured offset corrected: slewed up to 1 ms, stepped beyond (R111), with the frequency correction that the servo has reached, a
free value within the slew limit. (DEDUCED, log 108; DESIGN CHOICE, log 156) -/
def correct (s : State) (offset : Int) : State :=
  let b := s.thy.base + slewed s + drifted s
  let s := s.draw.modThy (fun t => { t with freq := clamp (Config.servoFreq s.freeCtr) (-100_000) 100_000, slewAt := s.now, offset := offset })
  if offset.natAbs ≤ 1_000_000 then s.modThy (fun t => { t with base := b, slew := -offset })
  else
    (((stepWindows (s.modThy (fun t => { t with base := b - offset, slew := 0, stepAt := some s.now }))).count
      Reg.thySteps).logRule 111 offset.natAbs).irq 14

/-- A PTP message of the domain in VEH_PTP_CFG.DOMAIN; of others Thyme takes no notice (R109). (DEDUCED, log 157) -/
def ptpDomain (s : State) (domain : Byte) : Bool := decide (domain.toNat = s.fldAt Reg.vehPtpCfg 7 0)

/-- A Sync message: of the best master it feeds the servo, and 16 in a row below 10 µs lock it (R109). (DEDUCED, log 107) -/
def execPtpSync (source : PtpSource) (offset : Int) (interval : Nat) (s : State) : Out :=
  if !ptpDomain s source.domain then .next s
  else
  let s := hear s source.master
  if s.thy.master ≠ some source.master then .next s
  else
    let n := if offset.natAbs < 10_000 then s.thy.good + 1 else 0
    let s1 := if 16 ≤ n ∧ s.thy.mode ≠ .locked then s.irq 14 else s
    .next ((correct s1 offset).modThy (fun t =>
      { t with good := min n 16, syncAt := s.now, interval := interval, mode := if 16 ≤ n then .locked else t.mode }))

/-- An Announce message: a master of clock class above 248 is not selected; a better one is (R109, R118). -/
def execPtpAnnounce (source : PtpSource) (clockClass : Byte) (better : Bool) (s : State) : Out :=
  if !ptpDomain s source.domain then .next s
  else
  let master := source.master
  let s := hear s master
  if 248 < clockClass.toNat then
    .next (if s.thy.master = some master then s.modThy (fun t => { t with master := none, good := 0 }) else s)
  else if s.thy.master.isNone ∨ (better ∧ s.thy.master ≠ some master) then
    .next (s.modThy (fun t => { t with master := some master, good := 0 }))
  else .next s

/-- Three Sync intervals without a Sync take a LOCKED Thyme to HOLDOVER (R109). -/
def execPtpSyncTimeout (s : State) : Out :=
  if s.thy.mode = .locked ∧ s.past s.thy.syncAt (3 * s.thy.interval) then
    .next ((s.modThy (fun t => { t with mode := .holdover, holdAt := s.now, good := 0 })).irq 14)
  else .next s

/-- After 8 h in HOLDOVER Thyme goes to FREERUN (R109). -/
def execHoldoverExpiry (s : State) : Out :=
  if s.thy.mode = .holdover ∧ s.past s.thy.holdAt (sec 28_800) then .next ((s.modThy (fun t => { t with mode := .freerun })).irq 14)
  else .next s

/-- A 1 s interval of local time ends (R118). -/
def execMasterInterval (s : State) : Out := .next (closeInterval s)

/-- 10 s after a step, STEPPED and bit 7 of time_quality clear (R111). -/
def execTimeStepFlagExpiry (s : State) : Out :=
  match s.thy.stepAt with
  | some t => .next (if s.past t (sec 10) then s.modThy (fun x => { x with stepAt := none }) else s)
  | none => .next s

/-- A read of THY_LOCAL latches PTP time (Table 3-10). -/
def latchPtp (s : State) : State := s.modThy (fun t => { t with latched := ptpNs s })

end Sys2Proof.Machine
end

