-- ==== Sys2Proof/Machine/Cab.lean ====
section
/-! DEFINITION. The cab outputs: what each is commanded and driven to, read-back, faults, self-test and test pulse, and the
general outputs (R98 to R108). -/
namespace Sys2Proof.Machine

open Sys2Proof

/-- The cab block with a new part. -/
def State.modCab (s : State) (f : Cab → Cab) : State := { s with cab := f s.cab }

/-- Output A (false) or B (true). -/
def State.pin (s : State) (out : Bool) : OutPin := if out then s.cab.outB else s.cab.outA
def State.modPin (s : State) (out : Bool) (f : OutPin → OutPin) : State :=
  s.modCab (fun c => if out then { c with outB := f c.outB } else { c with outA := f c.outA })

/-- The debounced state of input i (Table 3-8). -/
def inputOn (s : State) (i : Nat) : Bool := s.cab.inputs.getLsbD i

/-- What CAB_OUT_CMD commands of an output. -/
def commanded (s : State) (out : Bool) : Bool := s.bitAt Reg.cabOutCmd (num out)

/-- What the output is driven to: its command, but released in a test pulse (R103). -/
def driven (s : State) (out : Bool) : Bool := commanded s out && (s.pin out).pulse.isNone

/-- SAFE_CUT is closed (R99). -/
def cutClosed (s : State) : Bool := s.bitAt Reg.cabSafeCut 0

/-- The read-back shows what the output is driven to. -/
def rbMatches (s : State) (out : Bool) : Bool :=
  decide ((s.pin out).rb = if driven s out then ReadBack.asserted else ReadBack.released)

/-- A read-back fault is latched (R104, R105). -/
def faultLatched (s : State) : Bool := s.cab.outA.fault || s.cab.outB.fault || s.cab.selfTestFail

/-- CAB_OUT_CMD set: an output that changes begins its settle time; a change abandons a test pulse (R100, R102, Table 3-9). -/
def writeOutCmd (s : State) (v : Nat) : State :=
  let moved (out : Bool) : Bool := commanded s out != v.testBit (num out)
  if !moved false && !moved true then s
  else
    let s1 := s.each [false, true] (fun t out => t.modPin out (fun p =>
      if moved out then { p with edgeAt := s.now, heldAt := s.now, confirmed := false, pulse := none }
      else if p.pulse.isSome then { p with edgeAt := s.now, pulse := none } else p))
    s1.setFldAt Reg.cabOutCmd 1 0 v

/-- CAB_SAFE_CUT set (R99, R106). -/
def writeSafeCut (s : State) (v : Nat) : State :=
  let s1 := if cutClosed s && !v.testBit 0 then s.modCab (fun c => { c with cutAt := s.now }) else s
  s1.setFldAt Reg.cabSafeCut 0 0 v

/-- The alarm path awaits the confirmation of the outputs named (R34). -/
def awaitPath (s : State) (a b : Bool) : State := s.modCab (fun c => { c with awaitA := a, awaitB := b })

/-- The safe state of the pair: both commanded released, SAFE_CUT open (R99); no alarm path ends in it. -/
def safePair (s : State) : State := awaitPath (writeSafeCut (writeOutCmd s 0) 0) false false

/-- Sage takes the pair to the safe state and leaves RUN; it comes back under R41. -/
def sageSafe (s : State) : State :=
  let s := safePair s
  { s with sage := { s.sage with st := if s.sage.st = .run then .safe else s.sage.st, safeSince := s.now } }

/-- A fault of R41: the pair leaves the safe state only after a self-test and a detected frame. -/
def holdSafe (s : State) : State := { s with sage := { s.sage with held := true } }

/-- A read-back fault on the outputs named: latched, and the safe state (R102, R41). -/
def readbackFault (s : State) (a b : Bool) : State :=
  (sageSafe ∘ holdSafe) (s.modCab (fun c => { c with
    outA := { c.outA with fault := c.outA.fault || a }, outB := { c.outB with fault := c.outB.fault || b } }))

/-- CAB_OUT_CMD written by Sage (R98, R100). -/
def execCabOutCommand (who : Requester) (val : BitVec 32) (s : State) : Out :=
  .next (s.writeGuard who Reg.cabOutCmd (fun s => writeOutCmd s val.toNat))

/-- CAB_SAFE_CUT written by Sage (R98, R99). -/
def execSafeCutWrite (who : Requester) (val : BitVec 32) (s : State) : Out :=
  .next (s.writeGuard who Reg.cabSafeCut (fun s => writeSafeCut s val.toNat))

/-- The self-test of R104 with what its read-back showed: a failed step ends it, latched; one that passes clears the latch
(R105). Its samples with SAFE_CUT open set or clear EXT_DRIVE (R106). It ends with the pair in the safe state. (DEDUCED, log 109) -/
def selfTest (s : State) (r : SelfTest) : State :=
  let openOk := r.openA && r.openB
  let s0 := s.modCab (fun c => { c with extDrive := !openOk && (c.extDrive || s.past c.cutAt (us 200)) })
  let s1 := if openOk then s0.modCab (fun c => { c with cutAt := s.now }) else s0
  let s2 := s1.modCab (fun c => { c with testAt := s.now })
  if openOk && r.moveA && r.moveB then
    s2.modCab (fun c => { c with
      outA := { c.outA with fault := false }, outB := { c.outB with fault := false }, selfTestFail := false, passAt := some s.now })
  else
    let badA := if openOk then !r.moveA else !r.openA
    let badB := if openOk then !r.moveB else !r.openB
    readbackFault (s2.modCab (fun c => { c with selfTestFail := true })) badA badB

/-- The pair is in the safe state, where the self-test may run (R104). -/
def pairSafe (s : State) : Bool := !commanded s false && !commanded s true && !cutClosed s

/-- Sage has run its self-test at start-up and holds SAFE (R502). -/
def afterSelfTest (s : State) : State :=
  if s.sage.st = .selftest then { s with sage := { s.sage with st := .safe, safeSince := s.now } } else s

/-- A write of CAB_TEST: SELFTEST runs the self-test of R104 in the safe state. -/
def writeCabTest (s : State) (v : Nat) (r : SelfTest) : State :=
  if v.testBit 0 && pairSafe s then selfTest (afterSelfTest s) r else s

/-- CAB_TEST written by Sage (R104). -/
def execCabSelftest (who : Requester) (val : BitVec 32) (result : SelfTest) (s : State) : Out :=
  .next (s.writeGuard who Reg.cabTest (fun s => writeCabTest s val.toNat result))

/-- While a fault is latched the self-test repeats every 1 s (R105). -/
def execSelftestRepeat (result : SelfTest) (s : State) : Out :=
  .next (if faultLatched s && pairSafe s && s.past s.cab.testAt (sec 1) then selfTest s result else s)

/-- EXT_DRIVE at a read-back sample with SAFE_CUT open (R106). -/
def evalExtDrive (s : State) : State :=
  let a := s.cab.outA.rb
  let b := s.cab.outB.rb
  if cutClosed s then s
  else if (a = .asserted ∨ b = .asserted) ∧ s.past s.cab.cutAt (us 200) then holdSafe (s.modCab (fun c => { c with extDrive := true }))
  else if a = .released ∧ b = .released then s.modCab (fun c => { c with extDrive := false })
  else s

/-- A read-back comparator shows a new level (R100, R102, R103, R106): a release seen in a test pulse, both outputs asserted, or
an external drive. -/
def execReadbackChange (out : Bool) (level : ReadBack) (s : State) : Out :=
  let s := s.modPin out (fun p => { p with
    rb := level, rbAt := s.now
    pulseSeen := p.pulseSeen || match p.pulse with
      | some t => level = .released && decide (s.now ≤ t + us 60)
      | none => false })
  let s := evalExtDrive s
  if s.cab.outA.rb = .asserted ∧ s.cab.outB.rb = .asserted then
    .next (readbackFault s (!commanded s false) (!commanded s true))
  else .next s

/-- The second consecutive sample that matches the command confirms the change; the alarm path ends when every output that the new
pattern changed at its start is confirmed, which Sage logs as a Thyme time stamp (R34, R100). -/
def execReadbackConfirmSample (out : Bool) (s : State) : Out :=
  if rbMatches s out ∧ !(s.pin out).confirmed then
    let awaited := s.cab.awaitA || s.cab.awaitB
    let s := awaitPath (s.modPin out (fun p => { p with confirmed := true })) (s.cab.awaitA && out) (s.cab.awaitB && !out)
    .next (if awaited && !s.cab.awaitA && !s.cab.awaitB then s.logRule 34 s.now else s)
  else .next s

/-- A mismatch 60 µs or more after the last change that has lasted 100 µs (R102). -/
def execReadbackMismatchTimeout (out : Bool) (s : State) : Out :=
  let p := s.pin out
  if !rbMatches s out ∧ s.past (Nat.max p.rbAt (p.edgeAt + us 60)) (us 100) then .next (readbackFault s (!out) out) else .next s

/-- An output held asserted for 1 s is released for a test pulse (R103). -/
def execTestPulse (out : Bool) (s : State) : Out :=
  let p := s.pin out
  if commanded s out ∧ p.pulse.isNone ∧ s.past p.heldAt (sec 1) then
    .next (s.modPin out (fun p => { p with pulse := some s.now, pulseSeen := false, edgeAt := s.now, heldAt := s.now }))
  else .next s

/-- After 80 µs the output is restored; a release not shown within 60 µs is a read-back fault (R103). -/
def execTestPulseEnd (out : Bool) (s : State) : Out :=
  let p := s.pin out
  match p.pulse with
  | some t =>
    if s.past t (us 80) then
      let s := s.modPin out (fun p => { p with pulse := none, edgeAt := s.now })
      .next (if p.pulseSeen then s else readbackFault s (!out) out)
    else .next s
  | none => .next s

/-- A write of CAB_GPO: the register, and the balls unless a commit has released them (R108). -/
def writeGpo (s : State) (v : Nat) : State :=
  let s := s.setReg Reg.cabGpo (BitVec.ofNat 64 (v % 64))
  if s.cab.ballsFree then s else s.modCab (fun c => { c with balls := v % 64 })

/-- CAB_GPO written (R108). -/
def execGpoWrite (who : Requester) (val : BitVec 32) (s : State) : Out :=
  .next (s.writeGuard who Reg.cabGpo (fun s => writeGpo s val.toNat))

/-- 200 µs after SAFE_CUT opened, EXT_DRIVE is evaluated at the next sample (R106). -/
def execExtDriveCheck (s : State) : Out := .next (if s.past s.cab.cutAt (us 200) then evalExtDrive s else s)

/-- The changes of an input between consecutive raw samples within the last 1000 samples (R97). -/
def rawChanges (s : State) (i : Nat) : List Nat :=
  (get (fun _ => []) s.cab.rawChanges i).filter (fun t => decide (s.now < t + ms 1000))

/-- An input whose raw samples change more than 50 times within 1000 samples: CHATTER, and a log entry (R97). -/
def execInputChatter (input : Fin 8) (s : State) : Out :=
  .next (if 50 < (rawChanges s input).length then ((s.raise Reg.cabInStat (16 + input)).logRule 97 input).irq 12 else s)

/-- The debounce time of input i in 1 ms samples: CAB_IN_DEB, or the lower end of its range where that is greater (R96, Table 3-8). -/
def debounceTime (s : State) (i : Nat) : Nat :=
  Nat.max (if i = 2 ∨ i = 3 then 10 else 1) (s.fldAt (Reg.cabInDeb i) 7 0)

/-- A 1 ms sample of input i at a level: RAW follows it; a change begins a new run of samples and is counted (R95, R97). -/
def sampleInput (s : State) (i : Nat) (level : Bool) : State :=
  if s.cab.raw.getLsbD i = level then s
  else s.modCab (fun c => { c with
    raw := if level then c.raw ||| (1#8 <<< i) else c.raw &&& ~~~(1#8 <<< i)
    rawAt := put (fun _ => 0) c.rawAt i s.now, rawChanges := put (fun _ => []) c.rawChanges i (rawChanges s i ++ [s.now]) })

/-- The run of samples of input i at the raw level is as long as its debounce time (R95). -/
def runComplete (s : State) (i : Nat) : Bool := s.past (get (fun _ => 0) s.cab.rawAt i) (ms (debounceTime s i - 1))

end Sys2Proof.Machine
end

