-- ==== Sys2Proof/Machine/Crypto.lean ====
section
/-! DEFINITION. The ciphers of the cartridge medium: SHA-256, HMAC and HKDF over it, and AES-256 in XTS mode (R139 to R142); byte
strings are lists of bytes, as the named standards have them. -/
namespace Sys2Proof.Machine

open Sys2Proof

/-! ### SHA-256 -/

/-- The 64 round constants of SHA-256. -/
def shaK : List (BitVec 32) :=
  [0x428a2f98, 0x71374491, 0xb5c0fbcf, 0xe9b5dba5, 0x3956c25b, 0x59f111f1, 0x923f82a4, 0xab1c5ed5]
  ++ [0xd807aa98, 0x12835b01, 0x243185be, 0x550c7dc3, 0x72be5d74, 0x80deb1fe, 0x9bdc06a7, 0xc19bf174]
  ++ [0xe49b69c1, 0xefbe4786, 0x0fc19dc6, 0x240ca1cc, 0x2de92c6f, 0x4a7484aa, 0x5cb0a9dc, 0x76f988da]
  ++ [0x983e5152, 0xa831c66d, 0xb00327c8, 0xbf597fc7, 0xc6e00bf3, 0xd5a79147, 0x06ca6351, 0x14292967]
  ++ [0x27b70a85, 0x2e1b2138, 0x4d2c6dfc, 0x53380d13, 0x650a7354, 0x766a0abb, 0x81c2c92e, 0x92722c85]
  ++ [0xa2bfe8a1, 0xa81a664b, 0xc24b8b70, 0xc76c51a3, 0xd192e819, 0xd6990624, 0xf40e3585, 0x106aa070]
  ++ [0x19a4c116, 0x1e376c08, 0x2748774c, 0x34b0bcb5, 0x391c0cb3, 0x4ed8aa4a, 0x5b9cca4f, 0x682e6ff3]
  ++ [0x748f82ee, 0x78a5636f, 0x84c87814, 0x8cc70208, 0x90befffa, 0xa4506ceb, 0xbef9a3f7, 0xc67178f2]

/-- The initial hash value. -/
def shaInit : List (BitVec 32) :=
  [0x6a09e667, 0xbb67ae85, 0x3c6ef372, 0xa54ff53a, 0x510e527f, 0x9b05688c, 0x1f83d9ab, 0x5be0cd19]

/-- n further words of the message schedule; the words come last first. -/
def shaSchedule (n : Nat) (w : List (BitVec 32)) : List (BitVec 32) :=
  match n with
  | 0 => w
  | n + 1 =>
    let at' (i : Nat) : BitVec 32 := w.getD i 0
    let s0 := (at' 14).rotateRight 7 ^^^ (at' 14).rotateRight 18 ^^^ (at' 14) >>> 3
    let s1 := (at' 1).rotateRight 17 ^^^ (at' 1).rotateRight 19 ^^^ (at' 1) >>> 10
    shaSchedule n ((s1 + at' 6 + s0 + at' 15) :: w)

/-- One round on the eight working variables, with its constant and schedule word added. -/
def shaRound (v : List (BitVec 32)) (kw : BitVec 32) : List (BitVec 32) :=
  match v with
  | [a, b, c, d, e, f, g, h] =>
    let t1 := h + (e.rotateRight 6 ^^^ e.rotateRight 11 ^^^ e.rotateRight 25) + ((e &&& f) ^^^ (~~~e &&& g)) + kw
    let t2 := (a.rotateRight 2 ^^^ a.rotateRight 13 ^^^ a.rotateRight 22) + ((a &&& b) ^^^ (a &&& c) ^^^ (b &&& c))
    [t1 + t2, a, b, c, d + t1, e, f, g]
  | _ => v

/-- The number of bytes, most significant first. -/
def ofBytesBE (l : List Byte) : Nat := ofBytes l.reverse

/-- A number as n bytes, most significant first. -/
def bytesBig (n x : Nat) : List Byte := (bytesOf n x).reverse

/-- One block of 64 bytes taken into the hash value. -/
def shaBlock (h : List (BitVec 32)) (block : List Byte) : List (BitVec 32) :=
  let w := (List.range 16).map (fun i => BitVec.ofNat 32 (ofBytesBE ((block.drop (4 * i)).take 4)))
  let kw := List.zipWith (· + ·) shaK (shaSchedule 48 w.reverse).reverse
  List.zipWith (· + ·) h (kw.foldl shaRound h)

/-- n blocks of a message taken in. -/
def shaBlocks (n : Nat) (h : List (BitVec 32)) (m : List Byte) : List (BitVec 32) :=
  match n with
  | 0 => h
  | n + 1 => shaBlocks n (shaBlock h (m.take 64)) (m.drop 64)

/-- SHA-256 of a byte string, 32 bytes. -/
def sha256 (m : List Byte) : List Byte :=
  let z := (119 - m.length % 64) % 64
  let padded := m ++ [0x80] ++ List.replicate z 0 ++ bytesBig 8 (8 * m.length)
  (shaBlocks (padded.length / 64) shaInit padded).flatMap (fun x => bytesBig 4 x.toNat)

/-- HMAC-SHA-256 under a key of up to 64 bytes. -/
def hmacSha256 (key m : List Byte) : List Byte :=
  let k := key ++ List.replicate (64 - key.length) 0
  sha256 (k.map (· ^^^ 0x5c) ++ sha256 (k.map (· ^^^ 0x36) ++ m))

/-- The next n blocks of HKDF's expansion, after block i with value t. -/
def hkdfExpand (n : Nat) (prk info t : List Byte) (i : Nat) : List Byte :=
  match n with
  | 0 => []
  | n + 1 =>
    let u := hmacSha256 prk (t ++ info ++ [BitVec.ofNat 8 (i + 1)])
    u ++ hkdfExpand n prk info u (i + 1)

/-- HKDF-SHA-256 with 96 bytes of output (R139). -/
def hkdf96 (ikm salt info : List Byte) : List Byte := hkdfExpand 3 (hmacSha256 salt ikm) info [] 0

/-! ### AES-256 -/

/-- Multiplication by x in GF(2⁸) of AES. -/
def xtime (b : Byte) : Byte := (b <<< 1) ^^^ (if b.getLsbD 7 then 0x1b else 0)

/-- The product in GF(2⁸), by the n low bits of the second factor. -/
def gmul (n : Nat) (a b : Byte) : Byte :=
  match n with
  | 0 => 0
  | n + 1 => (if b.getLsbD 0 then a else 0) ^^^ gmul n (xtime a) (b >>> 1)

/-- The inverse in GF(2⁸), 0 for 0: the 254th power. -/
def ginv (a : Byte) : Byte :=
  let sq (x : Byte) : Byte := gmul 8 x x
  let a2 := sq a
  let a4 := sq a2
  let a8 := sq a4
  let a16 := sq a8
  let a32 := sq a16
  let a64 := sq a32
  let a128 := sq a64
  gmul 8 a128 (gmul 8 a64 (gmul 8 a32 (gmul 8 a16 (gmul 8 a8 (gmul 8 a4 a2)))))

/-- The S-box and its inverse. -/
def sbox (a : Byte) : Byte :=
  let b := ginv a
  b ^^^ b.rotateLeft 1 ^^^ b.rotateLeft 2 ^^^ b.rotateLeft 3 ^^^ b.rotateLeft 4 ^^^ 0x63
def sboxInv (a : Byte) : Byte := ginv (a.rotateLeft 1 ^^^ a.rotateLeft 3 ^^^ a.rotateLeft 6 ^^^ 0x05)

/-- Bytes added in GF(2⁸). -/
def xorBytes (a b : List Byte) : List Byte := List.zipWith (· ^^^ ·) a b

/-- Words i, i + 1, … of the key schedule, n of them; the words come last first. -/
def keyWords (n i : Nat) (rcon : Byte) (w : List (List Byte)) : List (List Byte) :=
  match n with
  | 0 => w
  | n + 1 =>
    let prev := w.getD 0 []
    let old := w.getD 7 []
    if i % 8 = 0 then
      let t := ((prev.drop 1 ++ prev.take 1).map sbox)
      keyWords n (i + 1) (xtime rcon) (xorBytes old (xorBytes t [rcon, 0, 0, 0]) :: w)
    else if i % 8 = 4 then keyWords n (i + 1) rcon (xorBytes old (prev.map sbox) :: w)
    else keyWords n (i + 1) rcon (xorBytes old prev :: w)

/-- The 15 round keys of a 256-bit key. -/
def roundKeys (key : List Byte) : List (List Byte) :=
  let w := ((List.range 8).map (fun i => (key.drop (4 * i)).take 4)).reverse
  let all := (keyWords 52 8 1 w).reverse
  (List.range 15).map (fun r => ((all.drop (4 * r)).take 4).flatten)

/-- The bytes of a block moved: place i takes the byte of place p i. -/
def permute (p : Nat → Nat) (b : List Byte) : List Byte := (List.range 16).map (fun i => b.getD (p i) 0)

/-- ShiftRows and its inverse on column-wise bytes. -/
def shiftRows (b : List Byte) : List Byte := permute (fun i => (i + 4 * (i % 4)) % 16) b
def shiftRowsInv (b : List Byte) : List Byte := permute (fun i => (i + 16 - 4 * (i % 4)) % 16) b

/-- Each column multiplied by the circulant matrix of a row. -/
def mixColumns (row : List Byte) (b : List Byte) : List Byte :=
  (List.range 16).map (fun i =>
    (List.range 4).foldl (fun x j => x ^^^ gmul 8 (b.getD (i / 4 * 4 + j) 0) (row.getD ((j + 4 - i % 4) % 4) 0)) 0)

/-- A block of 16 bytes enciphered with AES-256. -/
def aesEncrypt (keys : List (List Byte)) (block : List Byte) : List Byte :=
  let k (r : Nat) : List Byte := keys.getD r []
  let middle (b : List Byte) (r : Nat) : List Byte := xorBytes (mixColumns [2, 3, 1, 1] (shiftRows (b.map sbox))) (k (r + 1))
  xorBytes (shiftRows (((List.range 13).foldl middle (xorBytes block (k 0))).map sbox)) (k 14)

/-- A block of 16 bytes deciphered with AES-256. -/
def aesDecrypt (keys : List (List Byte)) (block : List Byte) : List Byte :=
  let k (r : Nat) : List Byte := keys.getD r []
  let middle (b : List Byte) (r : Nat) : List Byte := mixColumns [14, 11, 13, 9] (xorBytes ((shiftRowsInv b).map sboxInv) (k (13 - r)))
  xorBytes ((shiftRowsInv ((List.range 13).foldl middle (xorBytes block (k 14)))).map sboxInv) (k 0)

/-- The tweak of the next block: the product with x in GF(2¹²⁸), little-endian. -/
def nextTweak (t : List Byte) : List Byte :=
  let x := 2 * ofBytes t
  bytesOf 16 (if x < 2 ^ 128 then x else (x - 2 ^ 128) ^^^ 0x87)

/-- n blocks of a data unit through a block function, each between its tweak. -/
def xtsBlocks (n : Nat) (f : List Byte → List Byte) (t d : List Byte) : List Byte :=
  match n with
  | 0 => []
  | n + 1 => xorBytes (f (xorBytes (d.take 16) t)) t ++ xtsBlocks n f (nextTweak t) (d.drop 16)

/-- AES-256-XTS of a data unit under k1 and k2, with the LBA as the tweak (R139). -/
def xtsEncrypt (k1 k2 : List Byte) (lba : Nat) (d : List Byte) : List Byte :=
  xtsBlocks (d.length / 16) (aesEncrypt (roundKeys k1)) (aesEncrypt (roundKeys k2) (bytesOf 16 lba)) d
def xtsDecrypt (k1 k2 : List Byte) (lba : Nat) (d : List Byte) : List Byte :=
  xtsBlocks (d.length / 16) (aesDecrypt (roundKeys k1)) (aesEncrypt (roundKeys k2) (bytesOf 16 lba)) d

end Sys2Proof.Machine
end

