-- ==== Sys2Proof/Machine/Medium.lean ====
section
/-! DEFINITION. The medium of a Bay cartridge: its layout, keys, headers, journal blocks and entries, as bytes (R138 to R142). -/
namespace Sys2Proof.Machine

open Sys2Proof

/-! ### Layout (R138, Table 4-6) -/

/-- Bytes of an LBA; the first LBA of the journal ring and its blocks; the first LBA of the clip area and the LBAs of an extent. -/
def lbaBytes : Nat := 4096
def journalLba : Nat := 4096
def journalBlocks : Nat := 262_144
def clipLba : Nat := 266_240
def extentLbas : Nat := 16_384

/-- Extents of the clip area, and their size in bytes. -/
def extentCount : Nat := (244_140_625 - clipLba) / extentLbas
def extentBytes : Nat := extentLbas * lbaBytes

/-- The first LBA of an extent. -/
def extentLba (index : Nat) : Nat := clipLba + extentLbas * index

/-- A byte string brought to n bytes with zeros. -/
def padTo (n : Nat) (l : List Byte) : List Byte := l ++ List.replicate (n - l.length) 0

/-- n bytes of a byte string from offset o. -/
def slice (l : List Byte) (o n : Nat) : List Byte := (l.drop o).take n

/-- The little-endian number of n bytes from offset o. -/
def numAt (l : List Byte) (o n : Nat) : Nat := ofBytes (slice l o n)

/-- The bytes of a name. -/
def ascii (s : String) : List Byte := s.toList.map (fun c => BitVec.ofNat 8 c.toNat)

/-! ### Keys (R139) -/

/-- The 96 bytes of keys of a cartridge: k1, k2 and kmac. (DESIGN CHOICE, log 169) -/
def bayKeys (root : BitVec 256) (salt : List Byte) (serial : BitVec 64) : List Byte :=
  hkdf96 (bytesOf 32 root.toNat) salt (ascii "vt12-bay" ++ bytesOf 8 serial.toNat)

def keyData (okm : List Byte) : List Byte := slice okm 0 32
def keyTweak (okm : List Byte) : List Byte := slice okm 32 32
def keyMac (okm : List Byte) : List Byte := slice okm 64 32

/-- The bytes of n LBAs from an LBA on as they stand on the medium: encrypted from LBA 4096 upward. -/
def onMedium (okm : List Byte) (n lba : Nat) (d : List Byte) : List Byte :=
  match n with
  | 0 => []
  | n + 1 =>
    let x := padTo lbaBytes (d.take lbaBytes)
    (if lba < journalLba then x else xtsEncrypt (keyData okm) (keyTweak okm) lba x) ++ onMedium okm n (lba + 1) (d.drop lbaBytes)

/-- 4064 bytes with the HMAC over them behind (R140, R141). -/
def withMac (okm l : List Byte) : List Byte := padTo 4064 l ++ hmacSha256 (keyMac okm) (padTo 4064 l)

/-- The MAC of a header or of a block is good. -/
def macOk (okm l : List Byte) : Bool := decide (hmacSha256 (keyMac okm) (slice l 0 4064) = slice l 4064 32)

/-! ### Headers (R140) -/

/-- A header as bytes. (DESIGN CHOICE, log 169) -/
def mediumHeader (root : BitVec 256) (h : BayHeader) : List Byte :=
  withMac (bayKeys root h.salt h.serial) (ascii "VBAY" ++ bytesOf 1 1 ++ bytesOf 8 h.serial.toNat ++ h.salt ++ bytesOf 8 h.formatTime
    ++ bytesOf 8 h.seq ++ bytesOf 4 h.tailHint ++ bytesOf 4 h.extentCount)

/-- The header that a copy holds, where it is valid for the cartridge of a serial. -/
def readHeader (root : BitVec 256) (serial : BitVec 64) (copy : List Byte) : Option BayHeader :=
  let h : BayHeader := {
    serial := BitVec.ofNat 64 (numAt copy 5 8), salt := slice copy 13 16, formatTime := numAt copy 29 8, seq := numAt copy 37 8
    tailHint := numAt copy 45 4, extentCount := numAt copy 49 4 }
  if slice copy 0 4 = ascii "VBAY" ∧ numAt copy 4 1 = 1 ∧ h.serial = serial ∧ macOk (bayKeys root h.salt serial) copy then some h else none

/-- The header that governs, with the LBA of its copy: the valid one with the higher header_seq. -/
def governingHeader (root : BitVec 256) (serial : BitVec 64) (a b : List Byte) : Option (Nat × BayHeader) :=
  match readHeader root serial a, readHeader root serial b with
  | some x, some y => if x.seq < y.seq then some (1, y) else some (0, x)
  | some x, none => some (0, x)
  | none, some y => some (1, y)
  | none, none => none

/-! ### Journal entries and blocks (R141, R142, Table 4-7) -/

/-- The widths in bytes of an entry's body by its type. (DESIGN CHOICE, log 169) -/
def bodyWidths (kind : Nat) : List Nat :=
  match kind with
  | 0x01 => [4, 8, 8, 4]
  | 0x02 => [4, 4, 4, 4]
  | 0x03 => [8, 8, 32]
  | 0x10 => [4, 4, 8, 4]
  | 0x11 => [1, 1, 1]
  | 0x20 => [1, 1]
  | 0x21 => [1, 1]
  | 0x30 => [4]
  | _ => []

/-- Numbers laid out one after the other in the widths given, and read back. -/
def layOut (w : List Nat) (x : List Nat) : List Byte := (List.zipWith bytesOf w x).flatten
def readOut (w : List Nat) (l : List Byte) : List Nat :=
  match w with
  | [] => []
  | n :: t => ofBytes (l.take n) :: readOut t (l.drop n)

/-- A journal entry as its 128 bytes. -/
def entryBytes (e : JEntry) : List Byte :=
  padTo 128 (bytesOf 1 e.kind ++ bytesOf 1 1 ++ bytesOf 2 e.flags ++ bytesOf 4 e.seq ++ bytesOf 8 e.time ++ bytesOf 4 e.incident
    ++ bytesOf 1 e.dev ++ bytesOf 1 e.car ++ bytesOf 2 e.slots ++ layOut (bodyWidths e.kind) e.body)

/-- The entry that 128 bytes hold. -/
def entryOf (l : List Byte) : JEntry :=
  let kind := numAt l 0 1
  { kind := kind, flags := numAt l 2 2, seq := numAt l 4 4, time := numAt l 8 8, incident := numAt l 16 4, dev := numAt l 20 1
    car := numAt l 21 1, slots := numAt l 22 2, body := readOut (bodyWidths kind) (l.drop 24) }

/-- A journal block before encryption (R141). -/
def journalBytes (okm : List Byte) (seq : Nat) (l : List JEntry) : List Byte :=
  withMac okm (padTo 32 (bytesOf 8 seq ++ bytesOf 1 l.length) ++ l.flatMap entryBytes)

/-- The block_seq and the entries of a stored block at a place of the ring, where its MAC is good. -/
def readBlock (okm : List Byte) (pos : Nat) (stored : List Byte) : Option (Nat × List JEntry) :=
  let l := xtsDecrypt (keyData okm) (keyTweak okm) (journalLba + pos) stored
  if macOk okm l then some (numAt l 0 8, (List.range (min 31 (numAt l 8 1))).map (fun i => entryOf (slice l (32 + 128 * i) 128))) else none

/-- The good blocks of the ring, by place. -/
def goodBlocks (okm : List Byte) (ring : List (Nat × List Byte)) : List (Nat × Nat × List JEntry) :=
  ring.filterMap (fun e => (readBlock okm e.1 e.2).map (fun b => (e.1, b)))

/-- The journal read forward from a place, up to a bad MAC or a lower block_seq (R146): the place after the tail, and the tail's
block_seq. -/
def journalEnd (l : List (Nat × Nat × List JEntry)) (fuel pos last : Nat) : Nat × Nat :=
  match fuel with
  | 0 => (pos, last)
  | n + 1 =>
    match l.find? (fun b => b.1 = pos) with
    | some b => if b.2.1 < last then (pos, last) else journalEnd l n ((pos + 1) % journalBlocks) b.2.1
    | none => (pos, last)

/-- The entries of the ring up to a block_seq, in the order written. -/
def entriesUpTo (l : List (Nat × Nat × List JEntry)) (last : Nat) : List JEntry :=
  (sortBy (fun a b => decide (a.2.1 ≤ b.2.1)) (l.filter (fun b => decide (b.2.1 ≤ last)))).flatMap (fun b => b.2.2)

/-- The CLIP_OPEN entries that no CLIP_CLOSE follows (R146). -/
def openEntries (l : List JEntry) : List JEntry :=
  l.foldl (fun open' e =>
    if e.kind = 0x01 then open' ++ [e] else if e.kind = 0x03 then open'.filter (fun x => x.incident ≠ e.incident) else open') []

/-- The extents in use after the entries, oldest first: those that clips have filled and no RECLAIM has freed. -/
def extentsOf (l : List JEntry) : List Extent :=
  l.foldl (fun used e =>
    let n := e.body.headD 0
    if e.kind = 0x02 then used ++ [{ index := n, archive := decide (e.incident = 0), clip := BitVec.ofNat 32 e.incident }]
    else if e.kind = 0x30 then
      used.filter (fun x => if e.incident = 0 then !x.archive || decide (x.index ≠ n) else decide (x.clip.toNat ≠ e.incident))
    else used) []

/-! ### Clip records (R143) -/

/-- The record of an access unit: its 24-byte header and its bytes, padded to a multiple of 16. -/
def recordOf (slot : Nat) (u : RingUnit) : List Byte :=
  let l := bytesOf 1 slot ++ bytesOf 1 u.h265.toNat ++ bytesOf 2 (u.irap.toNat + 2 * u.shed.toNat) ++ bytesOf 4 u.data.length
    ++ bytesOf 4 u.ts.toNat ++ bytesOf 4 0 ++ bytesOf 8 u.stamp ++ u.data
  padTo ((l.length + 15) / 16 * 16) l

/-- The LBAs of an extent that hold its bytes o to o + n - 1: the first and how many. -/
def lbasOf (o n : Nat) : Nat × Nat := (o / lbaBytes, (o + n + lbaBytes - 1) / lbaBytes - o / lbaBytes)

end Sys2Proof.Machine
end

