-- ==== Sys2Proof/Machine/Journal.lean ====
section
/-! DEFINITION. What the VT12 writes to the mounted cartridge beside clip data: headers, journal entries and blocks, and the clips that
it opens and closes (R140 to R142). -/
namespace Sys2Proof.Machine

open Sys2Proof

/-- The Bay block with a new part. -/
def State.modBay (s : State) (f : Bay → Bay) : State := { s with bay := f s.bay }

/-- A cartridge that takes clips (R29, R137): BAY_STAT.WRITABLE. -/
def bayWritable (s : State) : Bool := decide (s.bay.phase = .mounted) && (decide (s.bay.life = 2) || decide (s.bay.life = 3))

/-- New writes may be issued: the cartridge takes clips, its link is good, it stands authenticated, and no commit has come (R129, R154,
Table 4-10). -/
def bayIssues (s : State) : Bool := bayWritable s && s.bay.recovering.isNone && !s.pwr.commit

/-- A cartridge that may be read: not one RETIRED with cause AUTH (Table 4-5). -/
def bayReadable (s : State) : Bool := decide (s.bay.phase = .mounted) && decide (s.bay.retire ≠ 4)

/-- The keys of the mounted cartridge (R139). -/
def keysOf (s : State) : List Byte := bayKeys s.sys.clipRoot s.bay.header.salt s.bay.header.serial

/-- A write of namespace 1 issued. -/
def bayIssue (s : State) (w : BayIo) : State := s.modBay (fun b => { b with io := b.io ++ [w] })

/-- The bytes that an outstanding write puts on the medium (R139). -/
def storedBytes (s : State) (w : BayIo) : List Byte := onMedium (keysOf s) ((w.data.length + lbaBytes - 1) / lbaBytes) w.lba w.data

/-- The header written to the other copy, with header_seq one higher and a tail hint (R140). -/
def writeHeader (s : State) (hint : Nat) : State :=
  let h := { s.bay.header with seq := s.bay.header.seq + 1, tailHint := hint }
  let lba := 1 - s.bay.headerAt
  bayIssue (s.modBay (fun b => { b with header := h, headerAt := lba }))
    { what := .header, lba := lba, data := mediumHeader s.sys.clipRoot h, entries := [] }

/-- One journal block with the first entries that wait, at most 31; every 1024 blocks the header takes the new tail hint (R140, R141). -/
def sendBlock (s : State) : State :=
  let l := s.bay.entries.take 31
  let seq := s.bay.blockSeq + 1
  let pos := s.bay.blockPos
  let rest := s.bay.entries.drop 31
  let s := s.modBay (fun b => { b with
    blockSeq := seq, blockPos := (pos + 1) % journalBlocks, entries := rest, pendingAt := if rest.isEmpty then none else b.pendingAt })
  let s := bayIssue s { what := .journal, lba := journalLba + pos, data := journalBytes (keysOf s) seq l, entries := l }
  if seq % 1024 = 0 then writeHeader s pos else s

/-- n blocks, as long as entries wait. -/
def sendBlocks (n : Nat) (s : State) : State :=
  match n with
  | 0 => s
  | n + 1 => if s.bay.entries.isEmpty then s else sendBlocks n (sendBlock s)

/-- The entries that wait go out in new blocks (R141). -/
def writeBlock (s : State) : State := sendBlocks s.bay.entries.length s

/-- A journal entry (Table 4-7) put with those that wait. -/
def queueEntry (s : State) (kind flags incident car slots : Nat) (body : List Nat) : State :=
  let e : JEntry := {
    kind := kind, flags := flags, seq := s.bay.entrySeq + 1, time := ptpNs s, incident := incident, dev := s.fab.slot, car := car
    slots := slots, body := body }
  s.modBay (fun b => { b with
    entrySeq := b.entrySeq + 1, entries := b.entries ++ [e], pendingAt := some (b.pendingAt.getD s.now) })

/-- A journal entry; the thirty-first that waits sends the block (R141). -/
def addEntry (s : State) (kind flags incident car slots : Nat) (body : List Nat) : State :=
  let s1 := queueEntry s kind flags incident car slots body
  if 31 ≤ s1.bay.entries.length then writeBlock s1 else s1

/-- The ledger record as the body of an entry (Table 4-4). -/
def ledgerBody (l : Ledger) : List Nat := [l.state, l.gb, l.lastTime, l.updates]

/-- An incident changed, by its number. -/
def modIncident (s : State) (id : Nat) (f : Incident → Incident) : State :=
  { s with tram := { s.tram with incidents := s.tram.incidents.map (fun x => if x.id = id then f x else x) } }

/-- A clip on the cartridge changed, by its number. -/
def modClip (s : State) (id : Nat) (f : Clip → Clip) : State :=
  s.modBay (fun b => { b with clips := b.clips.map (fun c => if c.id = id then f c else c) })

/-- The clip of an incident, or archive (id 0), that is being written to the cartridge. -/
def clipOn (s : State) (id : Nat) : Option Clip := s.bay.clips.find? (fun c => c.id = id)

/-- Writes of a class that are outstanding. -/
def outstanding (s : State) (what : BayWrite) : Bool := s.bay.io.any (fun w => w.what = what)

/-- The write class of a clip. -/
def classOf (id : Nat) : BayWrite := if id = 0 then .archive else .incident (BitVec.ofNat 32 id)

/-- A clip of the cartridge before its first record. -/
def newClip (id car : Nat) (slots : BitVec 12) (startAt : Nat) (cursor : SMap Nat) : Clip :=
  { id := id, car := car, slots := slots, startAt := startAt, cursor := cursor, data := [], extent := none, extStart := 0
    extCursor := cursor, units := 0 }

/-! ### What a clip takes from the rings (R27, R58) -/

/-- Whether a clip that began at a time needs a unit: to its end, which an open clip has not reached. -/
def needs (startAt : Nat) (endAt : Option Nat) (u : RingUnit) : Bool :=
  decide (startAt ≤ u.time) && (match endAt with
    | some t => decide (u.time ≤ t)
    | none => true)

/-- The first unit of slot k that a clip has yet to take, with its number. -/
def nextOf (s : State) (k startAt : Nat) (endAt : Option Nat) (cursor : SMap Nat) : Option (Nat × RingUnit) :=
  let x := get slotReset s.cam.slots k
  (((List.range x.ring.length).map (fun i => x.ringFirst + i)).zip x.ring).find? (fun e =>
    decide (get (fun _ => 0) cursor k ≤ e.1) && needs startAt endAt e.2)

/-- The next unit of a clip, the earliest of its slots: its slot, its number, and the unit. -/
def nextUnit (s : State) (slots : BitVec 12) (startAt : Nat) (endAt : Option Nat) (cursor : SMap Nat) : Option (Nat × Nat × RingUnit) :=
  let l := ((List.range 12).filter (fun k => slots.getLsbD k)).filterMap (fun k => (nextOf s k startAt endAt cursor).map (fun e => (k, e)))
  (sortBy (fun a b => decide (a.2.2.time ≤ b.2.2.time)) l).head?

/-- Whether an incident's clip still needs data. -/
def clipUnfinished (s : State) (i : Incident) : Bool := i.clipOpen || (nextUnit s i.slots i.startAt (some i.endAt) i.cursor).isSome

/-! ### Clips (R142) -/

/-- An incident's clip begins on the cartridge (R142): NO_NARRATION for the fifth incident, SHORT_START where the rings held less than
15 s, beside the flags given. -/
def openClip (s : State) (i : Incident) (flags : Nat) : State :=
  if bayWritable s then
    let s := (modIncident s i.id (fun x => { x with waits := false })).modBay (fun b => { b with
      clips := b.clips ++ [newClip i.id i.car i.slots i.startAt i.cursor] })
    addEntry s 0x01 (flags + i.fifth.toNat + 2 * i.short.toNat) i.id i.car i.slots.toNat
      [i.triggers.toNat, i.trigger - 15_000_000_000, i.trigger, i.request.toNat]
  else s

/-- The extent of a clip ends: its CLIP_EXTENT entry with the LBAs written and the units it holds (R142). -/
def endExtent (s : State) (id : Nat) (put : State → Nat → Nat → Nat → Nat → Nat → List Nat → State) : State :=
  match clipOn s id with
  | none => s
  | some c =>
    let s := match c.extent with
      | some x => if c.extStart < c.data.length then
          put s 0x02 0 id c.car c.slots.toNat [x, extentLba x, (c.data.length - c.extStart + lbaBytes - 1) / lbaBytes, c.units] else s
      | none => s
    modClip s id (fun c => { c with extent := none, extStart := c.data.length, extCursor := c.cursor, units := 0 })

/-- A clip closes on the cartridge with the flags given: its last extent, its end, its length, and the SHA-256 of its records (R142). An
incident's clip that is not finished waits for another cartridge (R151). -/
def closeClipBy (put : State → Nat → Nat → Nat → Nat → Nat → List Nat → State) (s : State) (id flags : Nat) : State :=
  match clipOn s id with
  | none => s
  | some c =>
    let s := put (endExtent s id put) 0x03 flags id c.car c.slots.toNat [ptpNs s, c.data.length, ofBytes (sha256 c.data)]
    (modIncident s id (fun x => { x with cursor := c.cursor, waits := clipUnfinished s { x with cursor := c.cursor } })).modBay (fun b => { b with clips := b.clips.filter (fun x => x.id ≠ id) })

def closeClip (s : State) (id flags : Nat) : State := closeClipBy addEntry s id flags

end Sys2Proof.Machine
end

