-- ==== Sys2Proof/Machine/Life.lean ====
section
/-! DEFINITION. The life ledger of a cartridge: its copy in Rosemary's MRAM, the bytes counted, the life state and what a change of it
does (R131 to R136, R452). -/
namespace Sys2Proof.Machine

open Sys2Proof

/-! ### The calendar (R134) -/

/-- Days from 1970-01-01 to a date, in the proleptic Gregorian calendar; 29 February of a common year is 1 March. -/
def daysFromCivil (y m d : Nat) : Nat :=
  let y := if m ≤ 2 then y - 1 else y
  let yoe := y % 400
  let doy := (153 * (if 2 < m then m - 3 else m + 9) + 2) / 5 + d - 1
  y / 400 * 146097 + (yoe * 365 + yoe / 4 - yoe / 100 + doy) - 719468

/-- Year, month and day of a day counted from 1970-01-01. -/
def civilFromDays (n : Nat) : Nat × Nat × Nat :=
  let z := n + 719468
  let doe := z % 146097
  let yoe := (doe - doe / 1460 + doe / 36524 - doe / 146096) / 365
  let doy := doe - (365 * yoe + yoe / 4 - yoe / 100)
  let mp := (5 * doy + 2) / 153
  let m := if mp < 10 then mp + 3 else mp - 9
  (yoe + z / 146097 * 400 + (if m ≤ 2 then 1 else 0), m, doy - (153 * mp + 2) / 5 + 1)

/-- A time n calendar years later: the same date and time in that year. -/
def yearsLater (t n : Nat) : Nat :=
  let (y, m, d) := civilFromDays (t / 86400)
  daysFromCivil (y + n) m d * 86400 + t % 86400

/-! ### The VT12 copy in the MRAM (R131, R452) -/

def State.modHld (s : State) (f : Hld → Hld) : State := { s with hld := f s.hld }
def State.ledgerArea (s : State) (k : Nat) : LedgerArea := get ledgerAreaReset s.hld.ledgers k

/-- The valid ledger area with the higher ledger_seq (R452). -/
def newestLedger (s : State) : Option Nat :=
  match (s.ledgerArea 0).valid, (s.ledgerArea 1).valid with
  | true, true => if (s.ledgerArea 0).seq < (s.ledgerArea 1).seq then some 1 else some 0
  | true, false => some 0
  | false, true => some 1
  | false, false => none

/-- The table that governs, the entry mounted least recently first. -/
def ledgerTable (s : State) : List (BitVec 64 × Ledger) :=
  match newestLedger s with
  | some k => (s.ledgerArea k).entries
  | none => []

/-- A ledger record as its 20 bytes (Table 4-4), and the record that bytes hold. -/
def ledgerBytes (l : Ledger) : List Byte := layOut (bodyWidths 0x10) (ledgerBody l)
def ledgerOf (l : List Byte) : Ledger := { state := numAt l 0 1, gb := numAt l 4 4, lastTime := numAt l 8 8, updates := numAt l 16 4 }

/-- A ledger area's 544 bytes: the header, then 16 entries of 32 bytes, unlisted ones zero (R452). (DESIGN CHOICE, log 170) -/
def areaBytes (seq : Nat) (t : List (BitVec 64 × Ledger)) : List Byte :=
  let entries := padTo 512 (t.flatMap (fun e => padTo 32 (bytesOf 8 e.1.toNat ++ ledgerBytes e.2)))
  let head := ascii "RLDG" ++ bytesOf 4 1 ++ bytesOf 8 seq
  padTo 32 (head ++ bytesOf 4 (crc32 (padTo 32 head ++ entries)).toNat) ++ entries

/-- The table that an area's bytes hold: the entries that name a serial. -/
def tableOf (l : List Byte) : List (BitVec 64 × Ledger) :=
  ((List.range 16).map (fun i => (BitVec.ofNat 64 (numAt l (32 + 32 * i) 8), ledgerOf (slice l (40 + 32 * i) 20)))).filter (fun e => e.1 ≠ 0)

/-- Where the ledger table's image lies in DRAM. -/
def ledgerSrc (s : State) : Nat := addrLocal (s.reg Reg.hldLedgerSrc).toNat

/-- Tymor's image of the table in DRAM. -/
def putImage (s : State) (t : List (BitVec 64 × Ledger)) : State := putData s (ledgerSrc s) (areaBytes 0 t)

/-- The image in DRAM written to the older area (R452). (DEDUCED, log 144) -/
def writeLedger (s : State) : State :=
  let k := match newestLedger s with
    | some j => 1 - j
    | none => 0
  let seq := Nat.max (s.ledgerArea 0).seq (s.ledgerArea 1).seq + 1
  let t := tableOf (s.bytes (ledgerSrc s) 544)
  s.modHld (fun h => { h with ledgers := put ledgerAreaReset h.ledgers k { valid := true, seq := seq, entries := t } })

/-- LEDGER_GO: the table to the older area, and LEDGER_DONE (R452). -/
def ledgerGo (s : State) : State := (writeLedger s).raise Reg.hldIrqStat 5

/-- The VT12 copy's entry for a serial. -/
def ledgerEntry (s : State) (serial : BitVec 64) : Option Ledger :=
  ((ledgerTable s).find? (fun e => e.1 = serial)).map (fun e => e.2)

/-- A table with an entry set; a new serial replaces the one mounted least recently (R131). -/
def withEntry (t : List (BitVec 64 × Ledger)) (serial : BitVec 64) (l : Ledger) : List (BitVec 64 × Ledger) :=
  if t.any (fun e => e.1 = serial) then t.map (fun e => if e.1 = serial then (serial, l) else e)
  else (if 16 ≤ t.length then t.drop 1 else t) ++ [(serial, l)]

/-- The VT12 copy with an entry set: Tymor's image, then LEDGER_GO. -/
def setEntry (s : State) (serial : BitVec 64) (l : Ledger) : State := ledgerGo (putImage s (withEntry (ledgerTable s) serial l))

/-- The entry of a serial set, as that of the cartridge mounted last. -/
def mountEntry (s : State) (serial : BitVec 64) (l : Ledger) : State :=
  ledgerGo (putImage s (withEntry ((ledgerTable s).filter (fun e => e.1 ≠ serial)) serial l))

/-! ### The life state (R134) -/

/-- t_ref in seconds (R134). -/
def ledgerTime (s : State) : Nat :=
  let t := if s.thy.mode = .freerun then s.bay.ledger.lastTime + (s.now - s.bay.mountAt) / 1_000_000_000 else ptpNs s / 1_000_000_000
  Nat.max t s.bay.ledger.lastTime

/-- The cause that brings the life to 1.0, if one does: 1 BYTES, 2 SMART, 3 AGE. -/
def retireCause (s : State) : Nat :=
  if 600_000 ≤ s.bay.ledger.gb then 1
  else if 100 ≤ s.bay.smart then 2
  else if yearsLater s.bay.mfg 10 ≤ ledgerTime s then 3
  else 0

/-- The life state that R134 gives; it never moves back. -/
def lifeState (s : State) : Nat :=
  let l := s.bay.ledger
  let st := if retireCause s ≠ 0 then 4
    else if 540_000 ≤ l.gb ∨ 90 ≤ s.bay.smart ∨ yearsLater s.bay.mfg 9 ≤ ledgerTime s then 3
    else if 0 < l.gb ∨ s.bay.hadHeader then 2
    else 1
  Nat.max st l.state

/-! ### Updates (R132, R136) -/

/-- The record with the bytes counted put in, in whole 10⁹, at t_ref. -/
def countedLedger (s : State) : Ledger :=
  let l := s.bay.ledger
  { state := l.state, gb := l.gb + s.bay.bytes / 1_000_000_000, lastTime := ledgerTime s, updates := l.updates }

/-- A LEDGER_ADD to the secure element, and both copies equal: the bytes counted, the time, and a state not below the old (R130,
R132). -/
def addLedger (s : State) (st : Nat) : State :=
  let c := countedLedger s
  let l := { c with state := Nat.max st c.state, updates := c.updates + 1 }
  setEntry (s.modBay (fun b => { b with ledger := l, element := l, bytes := b.bytes % 1_000_000_000, ledgerAt := s.now })) s.bay.serial l

/-- The VT12 copy alone takes the bytes counted, where the element can no longer be reached (R132, R149). -/
def keepCounted (s : State) : State :=
  if s.bay.phase = .mounted ∨ s.bay.phase = .removing then
    setEntry (s.modBay (fun b => { b with ledger := countedLedger s, bytes := b.bytes % 1_000_000_000 })) s.bay.serial (countedLedger s)
  else s

/-- An extent of a clip is being written. -/
def extentOpen (s : State) : Bool := s.bay.clips.any (fun c => c.extent.isSome)

/-- The life state changes: journalled, raised, and put into both ledgers; RETIRED with its cause, after the open clips have been closed
with CUT_LIFE, and with its entries written (R132, R136). -/
def changeLife (s : State) (st cause : Nat) : State :=
  let s := s.when (decide (st = 4)) (fun s => s.each s.bay.clips (fun s c => closeClip s c.id 16))
  let s := s.when (decide (s.bay.life ≠ 0)) (fun s => addEntry s 0x11 0 0 s.fab.slot 0 [s.bay.life, st, cause])
  let s := (s.modBay (fun b => { b with life := st, retire := cause, retiring := none })).raise Reg.bayIrqStat 4
  addLedger (s.when (decide (st = 4)) writeBlock) st

/-- The life state follows R134; RETIRED waits for the end of the extents being written, and keeps the first cause (R134, R136). -/
def followLife (s : State) : State :=
  let st := lifeState s
  if st = s.bay.life then s
  else if st = 4 then
    let cause := s.bay.retiring.getD (retireCause s)
    if extentOpen s then s.modBay (fun b => { b with retiring := some cause }) else changeLife s 4 cause
  else changeLife s st s.bay.retire

/-- A ledger update: both copies, a LEDGER entry, and the life state anew (R132, R134, R142). -/
def ledgerUpdate (s : State) : State :=
  if s.bay.life = 4 then s
  else
    let s := addLedger s s.bay.life
    followLife (addEntry s 0x10 0 0 s.fab.slot 0 (ledgerBody s.bay.ledger))

end Sys2Proof.Machine
end

