-- ==== Sys2Proof/Machine/Clips.lean ====
section
/-! DEFINITION. Clip data: units cut from the bitstream rings into records, the extents that they fill, archive recording, and what a
cartridge does not take (R58, R136, R143, R144, R151). -/
namespace Sys2Proof.Machine

open Sys2Proof

/-! ### Extents (R144) -/

/-- A free extent. -/
def freeExtent (s : State) : Option Nat := (List.range extentCount).find? (fun n => !s.bay.extents.any (fun e => decide (e.index = n)))

/-- An extent is being written. -/
def beingWritten (s : State) (e : Extent) : Bool := s.bay.clips.any (fun c => c.extent = some e.index || (c.id ≠ 0 && decide (c.id = e.clip.toNat)))

/-- Extents freed, which the entry tells by incident_id or, of archive, by index (R144). The reclaimed LBAs are deallocated. -/
def freeExtents (s : State) (id body : Nat) (p : Extent → Bool) : State :=
  (addEntry (s.modBay (fun b => { b with extents := b.extents.filter (fun e => !p e) })) 0x30 0 id s.fab.slot 0 [body]).count Reg.bayReclaims

/-- Space reclaimed oldest first: archive before incidents, and an incident clip only when such clips fill RECLAIM_PCT (R144). -/
def reclaim (s : State) : State :=
  let done := s.bay.extents.filter (fun e => !beingWritten s e)
  match done.find? (fun e => e.archive) with
  | some a => freeExtents s 0 a.index (fun e => decide (e.index = a.index))
  | none =>
    let filled := (s.bay.extents.filter (fun e => !e.archive)).length
    match done with
    | e :: _ => if s.fldAt Reg.bayCfg 23 16 * extentCount ≤ 100 * filled then freeExtents s e.clip.toNat e.clip.toNat (fun x => decide (x.clip = e.clip)) else s
    | [] => s

/-- A new extent for a clip, or for archive (id 0). -/
def takeExtent (s : State) (id : Nat) : State :=
  let s := if (freeExtent s).isNone then reclaim s else s
  match freeExtent s with
  | some n => modClip (s.modBay (fun b => { b with
      extents := b.extents ++ [{ index := n, archive := decide (id = 0), clip := BitVec.ofNat 32 id }] })) id (fun c => { c with extent := some n })
  | none => s

/-! ### Whether a clip goes on -/

/-- The end of an incident's clip as it stands. -/
def clipEnd (s : State) (id : Nat) : Option Nat := (s.tram.incidents.find? (fun i => i.id = id)).map (fun i => i.endAt)

/-- Archive recording is on: on an IN_SERVICE cartridge, with Rosemary neither armed nor saving (Tables 4-5, 4-10, 4-12). -/
def archiveOn (s : State) : Bool :=
  bayIssues s && decide (s.bay.life = 2) && s.bitAt Reg.bayCtrl 1 && decide (s.fldAt Reg.bayCfg 11 0 ≠ 0)
    && (decide (s.hld.phase = .idle) || decide (s.hld.phase = .disabled))

/-- The archive clip goes on: archive recording is on with the slots that it began with; at WORN it goes on to the end of its extent
(R136). -/
def archiveGoesOn (s : State) (c : Clip) : Bool :=
  decide (c.slots.toNat = s.fldAt Reg.bayCfg 11 0) && s.bitAt Reg.bayCtrl 1
    && (decide (s.hld.phase = .idle) || decide (s.hld.phase = .disabled)) && (decide (s.bay.life = 2) || c.extent.isSome)

/-- No unit will come for a clip but those that its rings hold. -/
def clipEnded (s : State) (c : Clip) : Bool :=
  if c.id = 0 then !archiveGoesOn s c else !s.tram.incidents.any (fun i => decide (i.id = c.id) && i.clipOpen)

/-- The next unit of a clip on the cartridge; archive that has stopped takes none. -/
def nextRecord (s : State) (c : Clip) : Option (Nat × Nat × RingUnit) :=
  if c.id = 0 ∧ clipEnded s c then none else nextUnit s c.slots c.startAt (clipEnd s c.id) c.cursor

/-! ### Records written (R143, R148) -/

/-- Writes may be issued: at most 63 outstanding in the queue pair, of at most 8 MiB with the next, or none (R124, R148). -/
def roomFor (s : State) (n : Nat) : Bool :=
  s.bay.io.isEmpty || (decide (s.bay.io.length < 63) && decide ((s.bay.io.map (fun w => w.data.length)).sum + n ≤ 0x80_0000))

/-- A record put behind those of the clip's extent: the LBAs that hold it are written, what they held before it with it. (DEDUCED, log
171) -/
def writeRecord (s : State) (c : Clip) (slot number index : Nat) (r : List Byte) : State :=
  let o := c.data.length - c.extStart
  let data := c.data ++ r
  let (first, n) := lbasOf o r.length
  bayIssue (modClip s c.id (fun c => { c with data := data, cursor := put (fun _ => 0) c.cursor slot (number + 1), units := c.units + 1 }))
    { what := classOf c.id, lba := extentLba index + first, data := padTo (n * lbaBytes) (slice data (c.extStart + first * lbaBytes) (n * lbaBytes))
      entries := [] }

/-- What a clip does next: it takes an extent and a record, ends an extent that the record does not fit, or closes; none while it waits
for a write, for a unit, or for an extent. A cartridge on its way to RETIRED gives no new extent: the clip is cut (R136). -/
def clipStep (s : State) (c : Clip) : Option State :=
  let busy := outstanding s (classOf c.id)
  match nextRecord s c with
  | none => if clipEnded s c && !busy then some (closeClip s c.id 0) else none
  | some (slot, number, u) =>
    let r := recordOf slot u
    match c.extent with
    | none =>
      if s.bay.retiring.isSome then (if busy then none else some (closeClip s c.id 16))
      else
        let s' := takeExtent s c.id
        if (clipOn s' c.id).any (fun x => x.extent.isSome) then some s' else none
    | some x =>
      if extentBytes < c.data.length - c.extStart + r.length then (if busy then none else some (endExtent s c.id addEntry))
      else if roomFor s r.length then some (writeRecord s c slot number x r) else none

/-- A clip goes on as far as it can. -/
def pumpClip (fuel : Nat) (s : State) (id : Nat) : State :=
  match fuel with
  | 0 => s
  | n + 1 =>
    match (clipOn s id).bind (clipStep s) with
    | some s' => pumpClip n s' id
    | none => s

/-- RETIRED takes effect once no extent is being written (R136). -/
def settleRetire (s : State) : State :=
  match s.bay.retiring with
  | some cause => if extentOpen s then s else changeLife s 4 cause
  | none => s

/-- Archive recording begins with a clip of its own (R142). -/
def startArchive (s : State) : State :=
  if archiveOn s && (clipOn s 0).isNone then
    let slots := s.fldAt Reg.bayCfg 11 0
    addEntry (s.modBay (fun b => { b with clips := b.clips ++ [newClip 0 s.fab.slot (BitVec.ofNat 12 slots) s.now []] })) 0x01 0 0 s.fab.slot
      slots [8, ptpNs s, 0, 0]
  else s

/-- Units in all the rings. -/
def unitsHeld (s : State) : Nat := ((List.range 12).map (fun k => (get slotReset s.cam.slots k).ring.length)).sum

/-- Clip data goes to the cartridge, as long as writes may be issued. -/
def pumpClips (s : State) : State :=
  if bayIssues s then
    let s := startArchive s
    settleRetire (s.each (s.bay.clips.map (fun c => c.id)) (fun s id => pumpClip (3 * unitsHeld s + 4) s id))
  else s

/-! ### What no cartridge has taken (R151, R154) -/

/-- The clips leave the cartridge. What an extent holds that no CLIP_EXTENT entry tells of is taken by no cartridge: an incident's clip
waits from its first unit on. (DEDUCED, log 172) -/
def releaseClips (s : State) : State :=
  let s := s.each s.bay.clips (fun s c => modIncident s c.id (fun i => { i with cursor := c.extCursor }))
  let mine := s.bay.clips.map (fun c => c.id)
  let s := s.modBay (fun b => { b with clips := [] })
  { s with tram := { s.tram with incidents := s.tram.incidents.map (fun i =>
      if mine.contains i.id then { i with waits := clipUnfinished s i } else i) } }

/-- Incidents whose clip a ring has overwritten data of, data that no cartridge has taken: counted once in BAY_CLIPS_LOST (R151). (DEDUCED,
log 173) -/
def noteClipLost (s : State) (k : Nat) (gone : List (Nat × RingUnit)) : State :=
  let cursorOf (i : Incident) : Option (SMap Nat) := ((clipOn s i.id).map (fun c => c.cursor)).or (if i.waits then some i.cursor else none)
  let loses (i : Incident) : Bool := i.slots.getLsbD k && !i.lost && (cursorOf i).any (fun cur =>
    gone.any (fun e => decide (get (fun _ => 0) cur k ≤ e.1) && needs i.startAt (some i.endAt) e.2))
  let hit := s.tram.incidents.filter loses
  let s := s.each hit (fun s i => (modIncident s i.id (fun x => { x with lost := true })).count Reg.bayClipsLost)
  { s with tram := { s.tram with incidents := s.tram.incidents.map (fun i => if i.waits then { i with waits := clipUnfinished s i } else i) } }

/-- Bytes that a ring holds. -/
def ringBytes (l : List RingUnit) : Nat := (l.map (fun u => u.data.length)).sum

/-- How many of the oldest units of a ring are given up until the rest fits n bytes. -/
def overflow (l : List RingUnit) (n : Nat) : Nat :=
  match l with
  | [] => 0
  | u :: t => if ringBytes (u :: t) ≤ n then 0 else 1 + overflow t n

/-- Slot k's bitstream ring gives up its n oldest units (R58). -/
def giveUp (s : State) (k n : Nat) : State :=
  let x := get slotReset s.cam.slots k
  let gone := ((List.range n).map (fun i => x.ringFirst + i)).zip (x.ring.take n)
  noteClipLost { s with cam := { s.cam with slots := put slotReset s.cam.slots k { x with
    ring := x.ring.drop n, ringFirst := x.ringFirst + n } } } k gone

/-- A ring emptied, for another place in DRAM. -/
def clearRing (s : State) (k : Nat) : State := giveUp s k (get slotReset s.cam.slots k).ring.length

/-- A whole unit kept in slot k's bitstream ring, decoded or shed; the oldest give way (R58). -/
def keepUnit (s : State) (k : Nat) (u : RingUnit) : State :=
  let x := get slotReset s.cam.slots k
  let l := x.ring ++ [u]
  giveUp { s with cam := { s.cam with slots := put slotReset s.cam.slots k { x with ring := l } } } k (overflow l x.desc.ringSize)

/-- The ring's last unit has been shed from decode (R143). -/
def markShed (s : State) (k : Nat) : State :=
  let x := get slotReset s.cam.slots k
  let l := x.ring
  let l := match l.getLast? with
    | some u => l.dropLast ++ [{ u with shed := true }]
    | none => l
  { s with cam := { s.cam with slots := put slotReset s.cam.slots k { x with ring := l } } }

/-- The rings of a clip's slots held less than 15 s before its trigger (R58). -/
def shortRings (s : State) (slots : BitVec 12) (startAt : Nat) : Bool :=
  (List.range 12).any (fun k => slots.getLsbD k && match (get slotReset s.cam.slots k).ring with
    | [] => true
    | u :: _ => decide (startAt < u.time))

end Sys2Proof.Machine
end

