-- ==== Sys2Proof/Machine/Svc.lean ====
section
/-! DEFINITION. What the services share: stream slots as stored, the running direction, count windows, the queue of
records, triggers, and the states and reasons of Table 1-5 (chapters 1, 3 and 14). -/
namespace Sys2Proof.Machine

open Sys2Proof

/-! ### Stream slots -/

def State.slot (s : State) (k : Nat) : Slot := get slotReset s.cam.slots k
def State.setSlot (s : State) (k : Nat) (x : Slot) : State :=
  { s with cam := { s.cam with slots := put slotReset s.cam.slots k x } }
def State.modSlot (s : State) (k : Nat) (f : Slot → Slot) : State := s.setSlot k (f (s.slot k))

/-- CLASS, DIR, DOOR and SIDE of slot k (Table 2-7). -/
def slotClass (s : State) (k : Nat) : Nat := s.fldAt (Reg.camSlotCtrl k) 1 0
def slotDir (s : State) (k : Nat) : Bool := s.bitAt (Reg.camSlotCtrl k) 4
def slotDoor (s : State) (k : Nat) : DoorId := { door := s.fldAt (Reg.camSlotCtrl k) 20 16, right := s.bitAt (Reg.camSlotCtrl k) 21 }

/-- The job for which slot k was adopted, if it was (R78). -/
def adoptedAt (s : State) (k : Nat) : Option Adopted := s.tram.adopted.find? (fun a => a.slot = k)

/-- RUNNING or SHEDDING: in service for passenger counting (R43). -/
def SlotSt.serves (x : SlotSt) : Bool := decide (x = .running) || decide (x = .shedding)

/-- The running direction (R87): of the cab end, reversed by REVERSE, where CAB_ACTIVE is active; else `rd` of the last
accepted telegram. FWD is false, AFT is true. -/
def directionFrom (s : State) (rd : Nat) : Option Bool :=
  if inputOn s 3 then some (s.bitAt Reg.vehCabCfg 0 != inputOn s 2)
  else if rd = 1 then some false else if rd = 2 then some true else none

/-- The running direction as Tymor has it. -/
def runDirection (s : State) : Option Bool := directionFrom s s.veh.runDir

/-- The car's own class-A slot assigned to a direction (R15, R87). -/
def slotFor (s : State) (dir : Option Bool) : Option Nat :=
  match dir with
  | none => none
  | some d => (List.range 12).find? (fun k => slotClass s k = 1 && slotDir s k == d && (adoptedAt s k).isNone)

/-- The active class-A slot. -/
def activeSlot (s : State) : Option Nat := slotFor s s.sage.dir

/-- The coded pixels of a parameter set. -/
def codedPixels (x : Option Sps) : Nat :=
  match x with
  | some p => p.codedW * p.codedH
  | none => 0

/-! ### Tasks -/

/-- Tasks of Table 14-2 by number. -/
def taskNo (t : TaskId) : Nat :=
  match t with
  | .alarm => 0
  | .adopted => 1
  | .counting => 2
  | .narration => 3
def State.task (s : State) (t : TaskId) : TaskState := get taskReset s.tram.tasks (taskNo t)

/-- A domain that has faulted and is not back: FAULTED, or cleared by Tymor and not yet ON (R499). -/
def faultedOut (s : State) (d : Nat) : Bool :=
  decide ((s.dom d).fault ≠ 0) || (s.pwr.retried.contains d && decide ((s.dom d).st ≠ .on))

/-- Adopted detection runs here (R491). -/
def adoptedRuns (s : State) : Bool := s.tram.adopted.any (fun a => a.cls = 1)

/-- The PX cores of a task (Table 14-2, R491), of those that have not faulted (R499). (DEDUCED, log 151) -/
def taskCores (s : State) (t : TaskId) : List Nat :=
  (match t with
    | .alarm => [0, 1, 2, 3, 4, 5]
    | .counting => [6, 7, 8, 9, 10, 11]
    | .adopted => if adoptedRuns s then [12, 13, 14, 15, 16, 17] else []
    | .narration => if adoptedRuns s then [18, 19, 20, 21, 22, 23] else [12, 13, 14, 15, 16, 17, 18, 19, 20, 21, 22, 23]).filter
      (fun d => !faultedOut s d)

/-- The task that PX core c runs. -/
def taskOn (s : State) (c : Nat) : Option TaskId :=
  [TaskId.alarm, .adopted, .counting, .narration].find? (fun t => (s.task t).loaded && (taskCores s t).contains c)

/-- A task loaded (R501). -/
def loadTask (s : State) (t : TaskId) : State :=
  { s with tram := { s.tram with tasks := put taskReset s.tram.tasks (taskNo t) { s.task t with loaded := true } } }

/-- The clusters that narration runs on (Table 14-2, R491), and the domains of clusters 4 to 7 whose loss is one of narration capacity. -/
def narrationClusters (s : State) : List Nat := if adoptedRuns s then [6, 7] else [4, 5, 6, 7]
def narrationDomains (s : State) : List Nat :=
  (narrationClusters s).flatMap (fun c => [3 * c, 3 * c + 1, 3 * c + 2] ++ (List.range 4).map (fun q => 24 + 4 * c + q)
    ++ (List.range 8).map (fun g => 56 + 8 * c + g) ++ [137 + c, 145 + c, 153 + c])

/-! ### Windows -/

/-- The windows of a door, changed. -/
def State.modWindows (s : State) (p : Window → Bool) (f : Window → Window) : State :=
  { s with tram := { s.tram with windows := s.tram.windows.map (fun w => if p w then f w else w) } }

/-- Whether window w counts through slot k. -/
def windowUses (s : State) (k : Nat) (w : Window) : Bool :=
  let car := match adoptedAt s k with
    | some a => a.lost
    | none => s.fab.slot
  slotClass s k = 2 && decide (w.door = slotDoor s k) && decide (w.car = car)

/-- A window's flag set: 0 DEGRADED, 1 INTERRUPTED, 2 DISAGREE, 3 LONG, 4 NO_VIDEO (Table 3-5). -/
def Window.flag (w : Window) (i : Nat) : Window := { w with flags := w.flags ||| (1#5 <<< i) }

/-- A window's slot goes out of service, or back (R43). -/
def Window.outage (w : Window) (now : Nat) (out : Bool) : Window :=
  match w.outSince, out with
  | none, true => { w with outSince := some now }
  | some t, false => { w with outSince := none, outTotal := w.outTotal + (now - t) }
  | _, _ => w

/-- The view stops, until an IRAP picture (R113). -/
def stopView (s : State) : State :=
  if s.enc.running then { s with enc := { s.enc with running := false, busy := false, slot := 0xFF, waitIrap := true } }.raise Reg.encIrqStat 2
  else s

/-! ### The queue of records (R92) -/

/-- A record queued for VEH_MD_DST; a full queue of 4096 drops the oldest (R92). -/
def queueRecord (s : State) (kind : Nat) (data : List Byte) : State :=
  let r : MdRecord := { id := s.veh.nextRecord, kind := kind, data := data, tries := 0, sentAt := none }
  let full := decide (4096 ≤ s.veh.records.length)
  let s1 := if full then s.count Reg.vehMdDrop else s
  { s1 with veh := { s1.veh with
    records := (if full then s.veh.records.drop 1 else s.veh.records) ++ [r], nextRecord := s.veh.nextRecord + 1 } }

/-- The ComId at an offset of the series that VEH_COMID_BASE places (Table 3-2). -/
def comIdOf (s : State) (offset : Nat) : Nat := ((s.reg Reg.vehComidBase).toNat + offset) % 2 ^ 32

/-- The last telegram of a kind, by ComId offset and car. (DEDUCED, log 154) -/
def sendTelegram (s : State) (kind car : Nat) (data : List Byte) : State :=
  { s with veh := { s.veh with last := put (fun _ => (0, [])) s.veh.last (kind * 16 + car) (comIdOf s kind, data) } }

/-- Records go out in order, at most eight awaiting Mp at once, while VEH is up (R92). (DEDUCED, log 132) -/
def sendRecords (s : State) : State :=
  if s.veh.linkUp then
    let waiting := s.veh.records.take 8
    let s1 := s.each (waiting.filter (fun r => r.sentAt.isNone)) (fun s r => sendTelegram s r.kind s.fab.slot r.data)
    { s1 with veh := { s1.veh with
      records := waiting.map (fun r => if r.sentAt.isNone then { r with sentAt := some s.now } else r) ++ s.veh.records.drop 8 } }
  else s

/-- The wait after a send of a record: 1, 2, 4, then 8 s (R92). -/
def resendWait (tries : Nat) : Nat := sec (min 8 (2 ^ tries))

/-! ### Reasons (R30, Table 1-5) -/

/-- The class-A conditions of R36: coded pixels of the RUNNING slots, and their rates. -/
def latencyMissed (s : State) : Bool :=
  let run := (List.range 12).filter (fun k => slotClass s k = 1 && decide ((s.slot k).st = .running))
  decide (1_495_000 < (run.map (fun k => codedPixels (s.slot k).sps)).foldl (· + ·) 0)
    || run.any (fun k => decide (30 < ((s.slot k).decoded.filter (fun t => decide (s.now < t + sec 1))).length))

/-- An island of the alarm set runs below its floor under a cap (R403, R408). -/
def belowFloor (s : State) : Bool :=
  (List.range 183).any (fun i => (capOn s i).isSome && inAlarm s i && decide ((s.island i).eff < islFloor s i))

/-- The codes of Table 1-5 that make a service UNAVAILABLE. -/
def unavailable (code : Nat) : Bool := [0x01, 0x04, 0x05, 0x06, 0x0A, 0x22].contains code

/-- The reasons of the car's own obstacle warning. (DEDUCED, log 121; DEDUCED, log 122) -/
def owReasons (s : State) : List Nat :=
  let on (c : Bool) (code : Nat) : List Nat := if c then [code] else []
  let a := activeSlot s
  let starting := !s.tram.started || s.pkgs.warning.isNone || s.adapt.hashBad
  on (!starting && a.isSome && (s.sage.blind || decide ((s.slot (a.getD 0)).st ≠ .running))) 0x01 ++ on s.sage.stale 0x02
    ++ on (latencyMissed s || s.sage.lateAt.isSome || !s.clk.refOk) 0x03 ++ on (faultLatched s || s.cab.extDrive || (s.sage.held && !s.sage.faulted)) 0x04
    ++ on starting 0x06 ++ on (belowFloor s) 0x08 ++ on (s.veh.disagree || s.veh.disagreeRev) 0x09
    ++ on (s.sage.faulted || decide (s.sage.st = .latched) || s.sage.statusStale) 0x0A

/-- The reasons of passenger counting. -/
def pcReasons (s : State) : List Nat :=
  let on (c : Bool) (code : Nat) : List Nat := if c then [code] else []
  let doors := (List.range 12).filter (fun k => slotClass s k = 2 && (adoptedAt s k).isNone)
  on (!s.tram.started || s.pkgs.counting.isNone) 0x06 ++ on (doors.any (fun k => (s.slot k).degraded)) 0x10
    ++ on (doors.any (fun k => !(s.slot k).st.serves) || (s.task .counting).held) 0x11 ++ on (!s.tram.releaseDiffers.isEmpty) 0x12

/-- Incidents awaiting narration (R28). -/
def awaiting (s : State) : Nat := (s.tram.incidents.filter (fun i => i.narrate && !i.ended)).length

/-- Narration is shed: by overload (R484), temperature (R486), supply (R442), a held task (R468), or a fault in its clusters (R499). -/
def narrationShed (s : State) : Bool :=
  s.tram.narrShed || decide (1 ≤ s.tram.stage) || decide (s.hld.phase = .armed) || decide (s.hld.phase = .saving)
    || (s.task .narration).held || (narrationDomains s).any (faultedOut s)

/-- The reasons of incident narration. -/
def nrReasons (s : State) : List Nat :=
  let on (c : Bool) (code : Nat) : List Nat := if c then [code] else []
  on (!s.tram.started || s.pkgs.narration.isNone) 0x06 ++ on (decide (4 ≤ awaiting s)) 0x20
    ++ on (decide (s.bay.phase ≠ .mounted) || decide (s.bay.life = 4)) 0x21 ++ on (narrationShed s) 0x22

/-- State and reason reported: the most severe state, and the lowest code within it (R30). -/
def report (l : List Nat) : Nat × Nat :=
  match (l.filter unavailable).min?, l.min? with
  | some c, _ => (2, c)
  | none, some c => (1, c)
  | none, none => (0, 0)

/-- Every change of the active reasons goes to the fault log (R30, R485). -/
def logReasons (s : State) : State :=
  let now := owReasons s ++ pcReasons s ++ nrReasons s
  if now = s.tram.reported then s
  else
    let new := now.filter (fun c => !s.tram.reported.contains c)
    let s1 := s.each new (fun s c => s.logRule 30 c)
    { s1 with tram := { s1.tram with reported := now } }

/-! ### Triggers (R26 to R28) -/

/-- The next incident number, never 0, which firmware keeps in SYS_SCRATCH (R506). -/
def newIncident (s : State) : State :=
  let n := if s.tram.nextIncident = 0xFFFF_FFFF then 1 else s.tram.nextIncident + 1
  { s with tram := { s.tram with nextIncident := n } }.setReg (Reg.sysScratch 1) (BitVec.ofNat 64 n)

/-- A trigger of kind t (0 WARN, 1 EMERG_HANDLE, 2 operator request) on stream slots of a car: it extends the clip that is in
its post-trigger part, up to 120 s, or starts a new clip and incident; the fifth awaiting narration is a clip only. -/
def trigger (s : State) (t car : Nat) (slots : BitVec 12) (request : BitVec 32) : State × Nat :=
  match s.tram.incidents.find? (fun i => i.clipOpen && decide (i.car = car)) with
  | some i =>
    let f (x : Incident) : Incident := if x.id = i.id then { x with
      triggers := x.triggers ||| (1#3 <<< t), slots := x.slots ||| slots, endAt := min (s.now + sec 15) (x.startAt + sec 120)
      request := if request = 0 then x.request else request } else x
    ({ s with tram := { s.tram with incidents := s.tram.incidents.map f } }, i.id)
  | none =>
    let narrate := decide (awaiting s < 4) && !(decide (t = 2) && narrationShed s)
    let i : Incident := {
      id := s.tram.nextIncident, car := car, triggers := 1#3 <<< t, trigger := ptpNs s, startAt := s.now - sec 15
      endAt := s.now + sec 15, slots := slots, request := request, clipOpen := true, noClip := !bayWritable s
      fifth := decide (4 ≤ awaiting s), short := shortRings s slots (s.now - sec 15), waits := !bayWritable s, cursor := [], lost := false, narrate := narrate, started := false, ended := false, tokens := 0, text := [], segment := 0
      segAt := 0, held := [] }
    (pumpClips (openClip (newIncident { s with tram := { s.tram with incidents := s.tram.incidents ++ [i] } }) i 0), i.id)

end Sys2Proof.Machine
end

