-- ==== Sys2Proof/Machine/SageOps.lean ====
section
/-! DEFINITION. What Sage decides: levels, patterns, the running direction, when the pair is safe, and the warning dataset
(R13 to R21, R30, R31, R41, R45, R89, R90, R491). -/
namespace Sys2Proof.Machine

open Sys2Proof

def State.modSage (s : State) (f : Sage → Sage) : State := { s with sage := f s.sage }

/-- What Sage holds of a car. -/
def State.car (s : State) (c : Nat) : CarView := get carReset s.sage.cars c
def State.setCar (s : State) (c : Nat) (x : CarView) : State := s.modSage (fun g => { g with cars := put carReset g.cars c x })

/-! ### TTC and levels (R16 to R18, R476); binary32 values are integers in units of 2⁻¹⁴⁹ -/

/-- 2¹⁴⁹. -/
def fixOne : Int := 2 ^ 149

/-- The thresholds in force; zeros stand in where no package is. -/
def thresholds (s : State) : Thresholds :=
  match s.pkgs.warning with
  | some p => p.thresholds
  | none => { tWarn := 0, tCaution := 0, tNotice := 0, wNear := 0, ceiling := 0 }

/-- v_e in mm/s: the last speed, or the line-speed ceiling while it is stale (R17). -/
def egoFix (s : State) : Int :=
  if s.sage.stale then 1000 * toFix 32 (thresholds s).ceiling.toNat else (10 * s.sage.speed : Nat) * fixOne

/-- v_c of a track. -/
def closing (s : State) (t : Track) : Int := egoFix s + t.vo * fixOne

/-- A track has a finite TTC: v_c is above 0.1 m/s. -/
def finiteTtc (s : State) (t : Track) : Bool := decide (100 * fixOne < closing s t)

/-- ttc ≤ T. -/
def ttcWithin (s : State) (t : Track) (x : BitVec 32) : Bool :=
  finiteTtc s t && decide ((t.d : Int) * fixOne * fixOne ≤ toFix 32 x.toNat * closing s t)

/-- In the near band, W_near wide (R476). -/
def inNear (s : State) (edge : Int) : Bool :=
  decide (0 < edge) && decide (edge * fixOne ≤ 1000 * toFix 32 (thresholds s).wNear.toNat)

/-- The level of a track (Table 1-2): 3 WARN, 2 CAUTION, 1 NOTICE. -/
def trackLevel (s : State) (t : Track) : Nat :=
  let th := thresholds s
  let path := decide (t.edge ≤ 0)
  if path && ttcWithin s t th.tWarn then 3
  else if (path && ttcWithin s t th.tCaution) || (!path && ttcWithin s t th.tWarn) then 2
  else if ttcWithin s t th.tNotice || (path && decide (t.d ≤ 10_000)) then 1
  else 0

/-- The track with the smaller TTC; an infinite one is the larger, and between two such the smaller d. -/
def sooner (s : State) (a b : Track) : Track :=
  match finiteTtc s a, finiteTtc s b with
  | true, true => if (b.d : Int) * closing s a < (a.d : Int) * closing s b then b else a
  | true, false => a
  | false, true => b
  | false, false => if b.d < a.d then b else a

/-- The track that the warning dataset describes. -/
def nearest (s : State) (l : List Track) : Option Track :=
  match l with
  | [] => none
  | t :: r => some (r.foldl (sooner s) t)

/-- ttc in 0.01 s (Table 3-4), cut off, and at most 0xFFFE. (DEDUCED, logs 123 and 186) -/
def ttcField (s : State) (l : List Track) : Nat :=
  match nearest s l with
  | some t => if finiteTtc s t then min 0xFFFE (((t.d : Int) * 100 * fixOne) / closing s t).toNat else 0xFFFF
  | none => 0xFFFF

/-- distance in 0.1 m (Table 3-4), cut off. -/
def distanceField (s : State) (l : List Track) : Nat :=
  match nearest s l with
  | some t => min 0xFFFE (t.d / 100)
  | none => 0xFFFF

/-! ### Pattern and safe state (R13, R20, R21, R31, R99) -/

/-- The level of this device's own car. -/
def ownLevel (s : State) : Nat := (s.car s.fab.slot).level

/-- The pattern on the pair: 0 idle, 1 NOTICE, 2 CAUTION, 3 WARN, 4 safe state; only the active cab's device shows a level. -/
def patternOf (s : State) : Nat :=
  if s.sage.st = .run then (if inputOn s 3 then ownLevel s else 0) else 4

/-- The pair commanded, with SAFE_CUT closed: A is asserted where `a`, and B is its complement (R20, R99). -/
def drivePair (s : State) (a : Bool) : State := writeOutCmd (writeSafeCut s 1) (if a then 1 else 2)

/-- The pattern in force begins, at its asserted phase (R20); the alarm path ends with the confirmation of the outputs that it changes,
and here where it changes none (R34). -/
def commitPattern (s : State) : State :=
  if patternOf s = 4 then safePair s
  else
    let s1 := drivePair (s.modSage (fun g => { g with high := true, phaseAt := s.now })) (decide (patternOf s ≠ 0))
    let moved (out : Bool) : Bool := commanded s1 out != commanded s out
    if moved false || moved true then awaitPath s1 (moved false) (moved true) else awaitPath (s1.logRule 34 s.now) false false

/-- A change of state that begins a new pattern where it changes the pattern. -/
def withPattern (s : State) (f : State → State) : State :=
  let s1 := f s
  if patternOf s1 = patternOf s then s1 else commitPattern s1

/-- The hardware path has released the pair until the next start: from a commit, or from a WARM request (R446, R505). -/
def hardwareHeld (s : State) : Bool := s.pwr.commit || s.sys.warmAt.isSome

/-- Sage holds the pair safe while the service is UNAVAILABLE, and drives it again once it is not, no fault of R41 is held, and the
hardware path has not released it (R31, R41, R45). (DEDUCED, log 111) -/
def sageEval (s : State) : State :=
  let st := (report (owReasons s)).1
  let s1 :=
    if s.sage.st = .run ∧ st = 2 then sageSafe s
    else if s.sage.st = .safe ∧ st ≠ 2 ∧ !s.sage.held ∧ !hardwareHeld s then commitPattern (s.modSage (fun g => { g with st := .run }))
    else s
  logReasons s1

/-! ### Direction (R15, R87, Table 1-8) -/

/-- Sage's running direction follows its inputs and the vehicle area; a change drops the tracks and shows idle. -/
def followDirection (s : State) : State :=
  let d := directionFrom s s.sage.runDir
  if d = s.sage.dir then s
  else
    let drop (e : Nat × CarView) : Nat × CarView := (e.1, { carReset e.1 with lastPath := e.2.lastPath })
    let keep (e : Nat × CarView) : Bool := decide (e.2 ≠ carReset e.1)
    sageEval (withPattern s (fun s => s.modSage (fun g => { g with
      cars := (g.cars.map drop).filter keep, dir := d, dirAt := s.now, detectedAt := none, blind := false })))

/-- Byte o of the remap plan, and a slot's bit of orient (Table 5-10). -/
def planByte (s : State) (o : Nat) : Nat := s.load (addrLocalOf (s.reg Reg.fabPlanBase).toNat + o) 1
where
  /-- The local part of a global address. -/
  addrLocalOf (a : Nat) : Nat := a % 2 ^ 45
def orientOf (s : State) (k : Nat) : Bool := (planByte s 12).testBit k

/-- The adopted class-A slot of a lost car that looks in its running direction (R491). -/
def lostActive (s : State) (car : Nat) : Option Nat :=
  match s.sage.dir with
  | none => none
  | some d =>
    let towards0 := (!d) == orientOf s s.fab.slot
    let aft := !(towards0 == orientOf s car)
    (s.tram.adopted.find? (fun a => a.lost = car && a.cls = 1 && a.binding = num aft)).map (fun a => a.slot)

/-! ### Slots -/

/-- Any slot SHEDDING. -/
def anyShedding (s : State) : Bool := (List.range 12).any (fun k => decide ((s.slot k).st = .shedding))

/-- CAM_SHED_STAT and its interrupts follow the slots (Table 2-6). Shedding that resumes before the closing record is the same one. -/
def trackShedding (s : State) : State :=
  match anyShedding s, s.cam.shedSince with
  | true, none => { s with cam := { s.cam with
      shedSince := some s.now, calmSince := none, shedBegan := if s.cam.recordAt.isSome then s.cam.shedBegan else s.now } }.raise Reg.camIrqStat 12
  | false, some _ => { s with cam := { s.cam with shedSince := none, calmSince := some s.now } }.raise Reg.camIrqStat 14
  | _, _ => s

/-- Slot k in a new state: its interrupt bit (R59), the outage of its door's windows (R43), and the view (R113). -/
def slotTo (s : State) (k : Nat) (st : SlotSt) : State :=
  let old := (s.slot k).st
  if old = st then s
  else
    let s1 := (s.modSlot k (fun x => { x with
      st := st, ranSince := if st = .running then some (x.ranSince.getD s.now) else x.ranSince
      shedAt := if st = .shedding then some s.now else none })).raise Reg.camIrqStat k
    let s2 := s1.modWindows (windowUses s k) (fun w => w.outage s.now (!st.serves || (s.task .counting).held))
    sageEval (if s.enc.slot = k ∧ st ≠ .running then stopView (trackShedding s2) else trackShedding s2)

/-! ### The warning dataset (R89, R90, Table 3-4) -/

/-- ego_used in 0.01 m/s. -/
def egoUsed (s : State) : Nat := min 0xFFFF (egoFix s / (10 * fixOne)).toNat

/-- The dataset of a car with its pattern, reasons and flags. -/
def dataset (s : State) (car pattern : Nat) (ow pc nr : List Nat) (flags : Nat) (active : Option Nat) : List Byte :=
  let v := s.car car
  let pair (l : List Nat) : List Byte := bytesBE 1 (report l).1 ++ bytesBE 1 (report l).2
  bytesBE 1 1 ++ bytesBE 1 s.fab.slot ++ bytesBE 1 car ++ bytesBE 1 v.level ++ bytesBE 1 pattern ++ pair ow ++ pair pc ++ pair nr
    ++ bytesBE 1 flags ++ bytesBE 1 (active.getD 0xFF) ++ bytesBE 1 (timeQuality s) ++ bytesBE 2 v.tracks.length ++ bytesBE 2 v.ttc
    ++ bytesBE 2 v.distance ++ bytesBE 2 (egoUsed s) ++ bytesBE 2 0 ++ timeDate v.levelAt

/-- This device's own dataset. -/
def ownDataset (s : State) : List Byte :=
  dataset s s.fab.slot (patternOf s) (owReasons s) (pcReasons s) (nrReasons s)
    (num (inputOn s 3) + (if s.sage.stale then 4 else 0)) (activeSlot s)

/-- The remap of a lost device is in progress: for at most 500 ms from the declaration (R196). (DEDUCED, log 130) -/
def movingNow (s : State) (car : Nat) : Bool := s.tram.moving.any (fun e => e.1 = car && decide (s.now < e.2 + ms 500))

/-- The reasons of a lost car's three services (R195, R196, R39, R43). -/
def lostReasons (s : State) (car : Nat) : List Nat × List Nat × List Nat :=
  let on (c : Bool) (code : Nat) : List Nat := if c then [code] else []
  let ad := s.tram.adopted.filter (fun a => a.lost = car)
  let bs := ad.filter (fun a => a.cls = 2)
  let blind := (lostActive s car).any (fun k => decide ((s.slot k).st ≠ .running)) || s.tram.unplaced.contains (car, 1)
    || (s.task .adopted).held
  (on blind 0x01 ++ on s.sage.stale 0x02 ++ on (movingNow s car) 0x05 ++ on (ad.any (fun a => a.cls = 1)) 0x07,
   on (movingNow s car) 0x05 ++ on (bs.any (fun a => (s.slot a.slot).degraded)) 0x10
     ++ on (bs.any (fun a => !(s.slot a.slot).st.serves) || s.tram.unplaced.contains (car, 2)) 0x11,
   on (movingNow s car) 0x05 ++ nrReasons s)

/-- A survivor's second dataset for a lost car: SURVIVOR set, DRIVING clear, pattern 4 (R90). -/
def survivorDataset (s : State) (car : Nat) : List Byte :=
  let r := lostReasons s car
  dataset s car 4 r.1 r.2.1 r.2.2 (2 + (if s.sage.stale then 4 else 0)) (lostActive s car)

/-- The lost cars that this device publishes for. -/
def lostCars (s : State) : List Nat :=
  (List.range 8).filter (fun c => c ≠ s.fab.slot && (s.tram.adopted.any (fun a => a.lost = c && a.cls = 1)
    || s.tram.unplaced.any (fun u => u.1 = c) || movingNow s c))

end Sys2Proof.Machine
end

