-- ==== Sys2Proof/Machine/Ingress.lean ====
section
/-! DEFINITION. Camera ingress and decoding: frames, packets and access units, the slot state machine, the decoders, and the
shedding allocator (chapter 2). -/
namespace Sys2Proof.Machine

open Sys2Proof

/-! ### Slots and sessions (R59 to R62, Table 2-2) -/

/-- The port that slot k uses now. -/
def slotPort (s : State) (k : Nat) : Nat := (s.fldAt (Reg.camSlotCtrl k) 2 2 + num (s.slot k).onAlt) % 2

/-- A CAM port whose link is up. -/
def portUp (s : State) (p : Nat) : Bool := get (fun _ => false) s.cam.portUp p

/-- Slot k's units in the decoders given up, and what it gathered and queued (R64). -/
def dropUnits (s : State) (k : Nat) : State :=
  let s := s.each (List.range 6) (fun s n =>
    let e := get engineFree s.cam.engines n
    if e.job.any (fun j => j.1 = k) then
      { s with cam := { s.cam with engines := put engineFree s.cam.engines n { e with job := none } } } else s)
  s.modSlot k (fun x => { x with parts := [], first := none, queue := [], resync := true, skipping := false })

/-- The session of slot k ended: no request awaited, nothing received. -/
def endSession (s : State) (k : Nat) : State :=
  (dropUnits s k).modSlot k (fun x => { x with
    asked := none, playAt := none, offer := none, redirected := false, answered401 := false, report := none })

/-- Slot k REJECTED with a code of Table 2-4 (R64). -/
def rejectSlot (s : State) (k code : Nat) : State :=
  slotTo ((endSession s k).modSlot k (fun x => { x with reject := code, waitingSince := none })) k .rejected

/-- A connection attempt of slot k begins with OPTIONS in RTSP/2.0 and is counted (R48, R60); the alternate port serves where the
primary's link is down. (DEDUCED, log 114) -/
def attempt (s : State) (k : Nat) : State :=
  let prim := s.fldAt (Reg.camSlotCtrl k) 2 2
  let alt := !portUp s prim && s.bitAt (Reg.camSlotCtrl k) 3 && portUp s (1 - prim)
  (slotTo ((endSession s k).modSlot k (fun x => { x with
    asked := some .options, askedAt := s.now, waitingSince := none, onAlt := alt, rtsp2 := true })) k .connecting).count (Reg.camSlotRetries k)

/-- An attempt has failed: the back-off runs (Table 2-2, R60). -/
def failAttempt (s : State) (k : Nat) : State := (endSession s k).modSlot k (fun x => { x with waitingSince := some s.now })

/-- Slot k LOST: the back-off runs; one that can go to its alternate port does so at once where its own port's link is down
(R60). -/
def loseSlot (s : State) (k : Nat) (linkDown : Bool) : State :=
  let s1 := slotTo (failAttempt s k) k .lost
  if linkDown && s.bitAt (Reg.camSlotCtrl k) 3 && portUp s (1 - slotPort s k) then attempt s1 k else s1

/-- What the slot descriptor at a DRAM address says (R80). (DESIGN CHOICE, log 155) -/
def slotDescriptor (s : State) (base : Nat) : SlotDesc :=
  let at' (o : Nat) : Byte := s.byte (base + o)
  { url := Config.descUrl at', cred := Config.descCred at', dst := Config.descDst at', port := Config.descPort at'
    ringBase := Config.descRingBase at', ringSize := Config.descRingSize at' }

/-- START of slot k with its descriptor (Table 2-2, R50, R80). A class-A slot in any state but IDLE holds its class, a REJECTED one too.
(DEDUCED, log 113) -/
def startSlot (s : State) (k : Nat) : State :=
  let cls := slotClass s k
  let others := (List.range 12).filter (fun j => j ≠ k && slotClass s j = 1 && decide ((s.slot j).st ≠ .idle))
  if (s.slot k).st ≠ .idle ∨ cls = 0 then s
  else if (cls = 1 ∧ 2 ≤ others.length) ∨ (cls = 2 ∧ ((slotDoor s k).door = 0 ∨ 16 < (slotDoor s k).door)) then rejectSlot s k 0x0F
  else
    let d := slotDescriptor s (addrLocal (s.reg (Reg.camSlotDesc k)).toNat)
    attempt ((if d = (s.slot k).desc then s else clearRing s k).modSlot k (fun x => { x with backoff := 250, desc := d })) k

/-- STOP of slot k: IDLE (Table 2-2). What its ring holds stays in DRAM (R58). -/
def stopSlot (s : State) (k : Nat) : State :=
  let s := slotTo (endSession s k) k .idle
  let x := s.slot k
  s.setSlot k { slotReset k with newFrames := x.newFrames, newGops := x.newGops, ring := x.ring, ringFirst := x.ringFirst, desc := x.desc }

/-- A write of CAM_SLOT_CTRL (Table 2-7): CLASS, DOOR and SIDE only while IDLE; STOP wins over START (Table 2-5). -/
def writeSlotCtrl (s : State) (k v : Nat) : State :=
  let old := (s.reg (Reg.camSlotCtrl k)).toNat
  let src := if (s.slot k).st = .idle then v else old
  let s := s.setReg (Reg.camSlotCtrl k) (BitVec.ofNat 64
    (bits src 1 0 + bits v 4 2 * 4 + bits src 21 16 * 2 ^ 16))
  if v.testBit 9 then stopSlot s k else if v.testBit 8 then startSlot s k else s

/-- CAM_SLOT_CTRL written with START (R59). -/
def execSlotStart (who : Requester) (slot : Fin 12) (val : BitVec 32) (s : State) : Out :=
  .next (s.writeGuard who (Reg.camSlotCtrl slot) (fun s => writeSlotCtrl s slot val.toNat))

/-- CAM_SLOT_CTRL written with STOP (R59). -/
def execSlotStop (who : Requester) (slot : Fin 12) (val : BitVec 32) (s : State) : Out :=
  .next (s.writeGuard who (Reg.camSlotCtrl slot) (fun s => writeSlotCtrl s slot val.toNat))

/-- Another slot holds the stream of an offer (R62). -/
def duplicateStream (s : State) (k : Nat) (o : Sdp) : Bool :=
  (List.range 12).any (fun j => j ≠ k && (s.slot j).offer.any (fun q => q.src = o.src && q.dst = o.dst && q.port = o.port))

/-- The request after an answered one (R48). -/
def nextRequest (m : RtspMethod) : Option RtspMethod :=
  match m with
  | .options => some .describe
  | .describe => some .setup
  | .setup => some .play
  | _ => none

/-- A 2xx answer moves the session on (R48, R62, Table 2-4). -/
def rtspOk (s : State) (k : Nat) (a : RtspAnswer) : State :=
  let x := s.slot k
  let go (s : State) : State := s.modSlot k (fun x => { x with asked := nextRequest a.method, askedAt := s.now })
  match a.method with
  | .describe =>
    match a.sdp with
    | none => rejectSlot s k 0x0A
    | some o => if !o.payloadOk then rejectSlot s k 0x0A else if !o.transportOk then rejectSlot s k 0x0D
                else go s
  | .setup =>
    match a.sdp with
    | none => rejectSlot s k 0x0D
    | some o =>
      if !o.transportOk then rejectSlot s k 0x0D
      else if duplicateStream s k o then rejectSlot s k 0x0E
      else go (s.modSlot k (fun x => { x with
        offer := some o, h265 := o.h265, mcast := o.mcast, ssrc := o.ssrc, timeout := a.timeout.getD 60 }))
  | .play => s.modSlot k (fun x => { x with asked := none, playAt := some s.now, rtpAt := s.now, keptAt := s.now, reportAt := s.now })
  | .options => go (s.modSlot k (fun y => { y with rtsp2 := x.rtsp2 && a.v2 }))
  | _ => s.modSlot k (fun x => { x with asked := none })

/-- An RTSP answer (R48, Tables 2-1, 2-2 and 2-4). The OPTIONS to the server of a redirect goes on in the version of the session.
(DEDUCED, log 160) -/
def rtspAnswer (s : State) (k : Nat) (a : RtspAnswer) : State :=
  let x := s.slot k
  if x.asked ≠ some a.method then s
  else if x.st.serves then
    if 200 ≤ a.status ∧ a.status < 300 then rtspOk s k a else loseSlot s k false
  else if x.st ≠ .connecting then s
  else if a.status = 0 then failAttempt s k
  else if a.status = 505 ∧ x.rtsp2 then s.modSlot k (fun x => { x with rtsp2 := false, askedAt := s.now })
  else
    let s := s.modSlot k (fun x => { x with rtsp2 := x.rtsp2 && a.v2 })
    if 200 ≤ a.status ∧ a.status < 300 then rtspOk s k a
    else if 300 ≤ a.status ∧ a.status < 400 then
      if x.redirected then rejectSlot s k 0x0B
      else s.modSlot k (fun x => { x with redirected := true, asked := some .options, askedAt := s.now })
    else if a.status = 401 then
      if x.answered401 then rejectSlot s k 0x0C
      else s.modSlot k (fun x => { x with answered401 := true, askedAt := s.now })
    else if 400 ≤ a.status ∧ a.status < 500 then rejectSlot s k 0x0B
    else failAttempt s k

/-- An RTSP answer or SDP (R48). -/
def execRtspResponse (slot : Fin 12) (answer : RtspAnswer) (s : State) : Out := .next (rtspAnswer s slot answer)

/-- The server closes the session (R59). -/
def execRtspSessionClosed (slot : Fin 12) (s : State) : Out :=
  let x := s.slot slot
  .next (if x.st.serves then loseSlot s slot false
    else if x.st = .connecting ∧ x.waitingSince.isNone then failAttempt s slot else s)

/-- No answer within 2 s (Table 2-2): the attempt fails, or the keepalive has failed. -/
def execRtspAnswerTimeout (slot : Fin 12) (s : State) : Out :=
  let x := s.slot slot
  if x.asked.isSome ∧ s.past x.askedAt (sec 2) then
    .next (if x.st.serves then loseSlot s slot false else if x.st = .connecting then failAttempt s slot else s)
  else .next s

/-- No IRAP picture within 5 s of PLAY (Table 2-2). -/
def execIrapTimeout (slot : Fin 12) (s : State) : Out :=
  let x := s.slot slot
  .next (if x.st = .connecting ∧ x.playAt.any (fun t => s.past t (sec 5)) then failAttempt s slot else s)

/-- The back-off ends: a new attempt, counted; the next back-off is doubled, up to 8 s (R60). -/
def execConnectBackoffExpiry (slot : Fin 12) (s : State) : Out :=
  let x := s.slot slot
  if x.waitingSince.any (fun t => s.past t (ms x.backoff)) ∧ (x.st = .connecting ∨ x.st = .lost) then
    .next ((attempt s slot).modSlot slot (fun y => { y with backoff := min 8000 (2 * x.backoff) }))
  else .next s

/-- Half the session timeout has passed: GET_PARAMETER (R48). -/
def execRtspKeepalive (slot : Fin 12) (s : State) : Out :=
  let x := s.slot slot
  if x.playAt.isSome ∧ x.asked.isNone ∧ s.past x.keptAt (ms (500 * x.timeout)) then
    .next (s.modSlot slot (fun x => { x with asked := some .getParameter, askedAt := s.now, keptAt := s.now }))
  else .next s

/-- LOST_TIMEOUT as it acts (R61, R81). -/
def lostTimeout (s : State) (k : Nat) : Nat :=
  let v := if s.reg (Reg.camSlotCfg k) = 0 then 0 else s.fldAt (Reg.camSlotCfg k) 15 0
  min 5000 (Nat.max 100 v)

/-- No RTP packet for the lost timeout (R61). -/
def execSlotLostTimeout (slot : Fin 12) (s : State) : Out :=
  let x := s.slot slot
  .next (if x.st.serves && s.past x.rtpAt (ms (lostTimeout s slot)) then loseSlot s slot false else s)

/-- Every 5 s a receiver report goes out (Table 2-1). -/
def execRtcpReceiverReport (slot : Fin 12) (s : State) : Out :=
  let x := s.slot slot
  .next (if x.playAt.isSome && s.past x.reportAt (sec 5) then s.modSlot slot (fun x => { x with reportAt := s.now }) else s)

/-- The link of a CAM port goes down or up (Table 2-2, R60, Table 2-5). -/
def portLink (s : State) (p : Nat) (up : Bool) : State :=
  if portUp s p = up then s
  else
    let s := { s with cam := { s.cam with portUp := put (fun _ => false) s.cam.portUp p up } }.raise Reg.camIrqStat (15 + p)
    if up then s
    else
      let on := (List.range 12).filter (fun k => slotPort s k = p)
      s.each on (fun s k =>
        if (s.slot k).st.serves then loseSlot s k true
        else if (s.slot k).st = .connecting ∧ (s.slot k).waitingSince.isNone then failAttempt s k else s)

/-- A CAM link change; a link comes up only with EN set and the port's domain ON (R79). -/
def execCamLinkChange (port : Fin 2) (up : Bool) (s : State) : Out :=
  if up && !(s.bitAt (Reg.camPortCtrl port) 0 && decide ((s.dom (165 + port)).st = .on)) then .next s
  else .next (portLink s port up)

/-- A write of CAM_PORT_CTRL: with EN clear the port receives nothing (R79). -/
def writePortCtrl (s : State) (p v : Nat) : State :=
  let s := s.setReg (Reg.camPortCtrl p) (BitVec.ofNat 64 (v % 2 ^ 17))
  if v.testBit 0 then s else portLink s p false

/-- CAM_PORT_CTRL written (R79). -/
def execCamPortEnable (who : Requester) (port : Fin 2) (val : BitVec 32) (s : State) : Out :=
  .next (s.writeGuard who (Reg.camPortCtrl port) (fun s => writePortCtrl s port val.toNat))

/-! ### Access units (R49, R52 to R57, R66 to R73) -/

/-- The size of a unit in bits. -/
def AUnit.bits (u : AUnit) : Nat := 8 * u.data.length

/-- The charge of a unit: max(P, S / 4) (R66). -/
def charge (u : AUnit) : Nat := Nat.max (codedPixels u.sps) (u.bits / 4)

/-- The depth of slot k's bucket, in pixels × 10⁹ (R68). -/
def bucketDepth (s : State) (x : Slot) : Int := (x.fill * s.fldAt Reg.camPoolCfg 31 16 * 1_000_000 : Nat)

/-- The bucket filled up to now (R68), in pixels × 10⁹. -/
def bucketNow (s : State) (x : Slot) : Int := min (bucketDepth s x) (x.bucket + (x.fill * (s.now - x.filledAt) : Nat))

/-- The bucket settled up to now, less an amount, and filling at a rate from here on. -/
def Slot.settle (s : State) (x : Slot) (less : Nat) (fill : Nat) : Slot :=
  { x with bucket := bucketNow s x - (less * 1_000_000_000 : Nat), filledAt := s.now, fill := fill }

/-- A unit of class B skipped (R70). -/
def skipFrame (s : State) (k : Nat) (rest : Bool) : State :=
  (s.modSlot k (fun x => { x with skipping := x.skipping || rest, newFrames := x.newFrames + 1 })).count (Reg.camSlotSkipFrames k)

/-- A GOP of class C skipped from here on (R69). -/
def skipGop (s : State) (k : Nat) : State :=
  if (s.slot k).skipping then s
  else (s.modSlot k (fun x => { x with skipping := true, newGops := x.newGops + 1 })).count (Reg.camSlotSkipGops k)

/-- A unit queued for decode. -/
def takeUnit (s : State) (k : Nat) (u : AUnit) : State := s.modSlot k (fun x => { x with queue := x.queue ++ [u], skipping := false })

/-- A class-C unit (R69, R73, Table 2-5): at an IRAP picture the allotted rate takes effect and the GOP is admitted or skipped. -/
def gopUnit (s : State) (k : Nat) (u : AUnit) : State :=
  let full := decide (4 ≤ (s.slot k).queue.length)
  let stop := s.bitAt Reg.camShedForce 0 && (s.slot k).st.serves
  if u.irap then
    let s := s.modSlot k (fun x => { x.settle s 0 x.rate with skipping := false })
    if full || stop || (decide ((s.slot k).st = .shedding) && decide (bucketNow s (s.slot k) < 0)) then skipGop s k else takeUnit s k u
  else if (s.slot k).skipping then s
  else if full || stop then skipGop s k
  else takeUnit s k u

/-- A class-B unit (R70, R73): each is judged as it arrives. (DEDUCED, log 161) -/
def frameUnit (s : State) (k : Nat) (u : AUnit) : State :=
  let x := s.slot k
  if x.skipping ∧ !u.irap then skipFrame s k true
  else if 4 ≤ x.queue.length ∨ (x.st = .shedding ∧ bucketNow s x < (charge u * 1_000_000_000 : Nat)) then skipFrame s k (!u.nonRef)
  else takeUnit s k u

/-- A pool slot's unit under the rule of its class (R69, R70, R73). (DEDUCED, log 116) -/
def poolUnit (s : State) (k : Nat) (u : AUnit) : State :=
  let s := if 4 ≤ (s.slot k).queue.length then s.count (Reg.camSlotQDrop k) else s
  if slotClass s k = 3 then gopUnit s k u else frameUnit s k u

/-- A class-A unit: above 4 bits per pixel it is discarded (R53); a third waiting one displaces the oldest (R54). (DEDUCED, log 115) -/
def classAUnit (s : State) (k : Nat) (u : AUnit) : State :=
  let x := s.slot k
  if 4 * codedPixels u.sps < u.bits then
    (s.modSlot k (fun x => { x with resync := true })).count (Reg.camSlotAuOversize k)
  else if 2 ≤ x.queue.length then
    (s.modSlot k (fun x => { x with queue := x.queue.drop 1 ++ [u] })).count (Reg.camSlotQDrop k)
  else s.modSlot k (fun x => { x with queue := x.queue ++ [u] })

/-- The code of Table 2-4 that a parameter set earns, the lowest first (R63, R65). -/
def spsCode (p : Sps) : Option Nat :=
  if p.codedW < 64 ∨ p.cropW < 64 then some 0x01
  else if 4096 < p.codedW ∨ 4096 < p.cropW then some 0x02
  else if p.codedH < 64 ∨ p.cropH < 64 then some 0x03
  else if 2304 < p.codedH ∨ 2304 < p.cropH then some 0x04
  else if p.cropW % 8 ≠ 0 ∨ p.cropH % 8 ≠ 0 then some 0x05
  else if !p.profileOk then some 0x06
  else if p.bitDepth ≠ 8 then some 0x07
  else if !p.chroma420 then some 0x08
  else if p.field then some 0x09
  else none

/-- A complete unit as the bitstream ring keeps it (R58, R143). -/
def ringUnit (s : State) (k : Nat) (u : AUnit) : RingUnit :=
  { time := u.pathStart, stamp := ptpNs s - (s.now - u.pathStart), ts := u.ts, h265 := (s.slot k).h265, irap := u.irap, shed := false
    data := u.data }

/-- A pool slot's unit queued for decode, or marked shed in the ring (R143). -/
def poolUnitKept (s : State) (k : Nat) (u : AUnit) : State :=
  let s' := poolUnit s k u
  if (s.slot k).queue.length < (s'.slot k).queue.length then s' else markShed s' k

/-- A complete access unit of slot k: kept in the ring (R58), its parameter set checked (R59, R64), measured (R66), then queued or shed;
while the slot resynchronises, only an IRAP picture is taken (R57). -/
def unitArrived (s : State) (k : Nat) (u : AUnit) : State :=
  let u := { u with sps := u.sps.or (s.slot k).spsIn }
  let s := (keepUnit s k (ringUnit s k u)).modSlot k (fun x => { x with spsIn := u.sps })
  match u.sps.bind spsCode with
  | some c => rejectSlot s k c
  | none =>
    let s := s.modSlot k (fun x => { x with units := x.units + 1, charges := x.charges + charge u })
    if (s.slot k).resync ∧ !u.irap then s
    else
      let s := s.modSlot k (fun x => { x with resync := false })
      if slotClass s k = 1 then classAUnit s k u else poolUnitKept s k u

/-- How far sequence number q lies ahead of p. -/
def ahead (p q : BitVec 16) : Nat := (q - p).toNat

/-- The gathered packets of slot k, with their times of arrival, in sequence from `first`. -/
def inOrder (x : Slot) : List (Nat × RtpPacket) :=
  match x.first with
  | none => x.parts
  | some f => sortBy (fun a b => decide (ahead f a.2.seq ≤ ahead f b.2.seq)) x.parts

/-- The contiguous run from `first` of one timestamp that ends in the marker packet: a complete unit's packets (R49). -/
def completeRun (f : BitVec 16) (l : List (Nat × RtpPacket)) : Option (List (Nat × RtpPacket)) :=
  match l with
  | [] => none
  | p :: t =>
    if p.2.seq ≠ f then none
    else if p.2.marker then some [p]
    else match completeRun (f + 1) t with
      | some r => if r.all (fun q => q.2.ts = p.2.ts) then some (p :: r) else none
      | none => none

/-- Since when the unit at the head of gathered packets is held (R57), which is where its alarm path starts (R33): the arrival of its
marker packet or, where that is missing, of the first packet with a new timestamp. -/
def heldFrom (l : List (Nat × RtpPacket)) : Option Nat :=
  match l with
  | [] => none
  | (_, p) :: _ =>
    match l.find? (fun e => e.2.marker && decide (e.2.ts = p.ts)) with
    | some e => some e.1
    | none => ((l.filter (fun e => decide (e.2.ts ≠ p.ts))).map (fun e => e.1)).min?

/-- The time of a picture of RTP timestamp ts after a sender report: 90 000 a second (R55, RFC 6184 and RFC 7798). -/
def captureTime (report : Nat × BitVec 32) (ts : BitVec 32) : Nat :=
  ((report.1 : Int) + (ts - report.2).toInt * 1_000_000_000 / 90_000).toNat

/-- The unit that a complete run makes. -/
def unitOf (x : Slot) (r : List (Nat × RtpPacket)) (m : Nat × RtpPacket) (now : Nat) : AUnit :=
  { ts := m.2.ts, data := r.flatMap (fun p => p.2.data), irap := m.2.irap, nonRef := m.2.nonRef, sps := m.2.sps
    pathStart := m.1, capture := x.report.map (fun c => captureTime c m.2.ts), doneAt := now }

/-- Complete units at the head of what slot k has gathered are taken, in order (R33, R49). -/
def takeUnits (fuel : Nat) (s : State) (k : Nat) : State :=
  match fuel with
  | 0 => s
  | n + 1 =>
    let x := s.slot k
    let l := inOrder x
    match x.first.bind (fun f => completeRun f l) with
    | none => s
    | some r =>
      match r.getLast? with
      | none => s
      | some m =>
        let s := unitArrived (s.setSlot k { x with parts := l.drop r.length, first := some (m.2.seq + 1) }) k (unitOf x r m s.now)
        takeUnits n (logReasons (pumpClips s)) k

/-- An RTP packet of slot k (R49): one outside the session, of another payload type, or of another SSRC than negotiated is dropped and
counted; a new SSRC of a slot in service is a resynchronisation (Table 2-5). (DEDUCED, log 162) -/
def rtpPacket (s : State) (port k : Nat) (p : RtpPacket) : State :=
  let x := s.slot k
  let live := x.playAt.isSome && (x.st.serves || decide (x.st = .connecting)) && decide (slotPort s k = port)
  if !live || !x.offer.any (fun o => o.pt = p.pt) || (decide (x.ssrc ≠ p.ssrc) && !x.st.serves) then s.count (Reg.camProtoDrop port)
  else
    let s := if x.ssrc = p.ssrc then s else (s.modSlot k (fun x => { x with ssrc := p.ssrc, resync := true, parts := [], first := none }))
    let s := s.modSlot k (fun x => { x with rtpAt := s.now, first := some (x.first.getD p.seq) })
    let x := s.slot k
    if x.parts.any (fun q => q.2.seq = p.seq) ∨ 32768 ≤ ahead (x.first.getD p.seq) p.seq then s
    else takeUnits (x.parts.length + 1) (s.setSlot k { x with parts := x.parts ++ [(s.now, p)] }) k

/-- REORDER as it acts, in 100 µs (R81). -/
def reorderWait (s : State) (k : Nat) : Nat := min (if slotClass s k = 1 then 3 else 200) (s.fldAt (Reg.camSlotCfg k) 23 16)

/-- The reorder wait ends: the unit is discarded and counted, and the slot resynchronises (R57). -/
def execReorderWaitExpiry (slot : Fin 12) (s : State) : Out :=
  let k : Nat := slot
  let x := s.slot k
  let l := inOrder x
  match l with
  | [] => .next s
  | (_, p) :: _ =>
    if (heldFrom l).any (fun t => s.past t (us (100 * reorderWait s k))) then
      let gone := (l.takeWhile (fun q => q.2.ts = p.ts)).map (fun q => q.2)
      let rest := l.drop gone.length
      let last := (gone.getLast?.getD p).seq
      let next := if (gone.getLast?.getD p).marker then last + 1 else (rest.head?.map (fun q => q.2.seq)).getD (last + 1)
      let missing := ahead (x.first.getD p.seq) next - gone.length
      let s := (s.setSlot k { x with parts := rest, first := some next, resync := true }).count (Reg.camSlotAuLost k)
      .next (takeUnits (rest.length + 1) (s.countBy (Reg.camSlotPktLost k) missing) k)
    else .next s

/-- The tags of a frame that a port accepts: none, or one 802.1Q tag of its VID (Table 2-1). -/
def tagsOk (tags : List (BitVec 16 × BitVec 12)) (vid : Nat) : Bool :=
  match tags with
  | [] => true
  | [t] => decide (t.1 = 0x8100) && decide (t.2.toNat = vid)
  | _ => false

/-- What a frame that has passed its checks does (Table 2-1). -/
def camKind (s : State) (port : Nat) (k : CamKind) : State :=
  match k with
  | .rtp slot p => rtpPacket s port slot p
  | .rtcpSr slot ntp rtp => s.modSlot slot (fun x => { x with report := some (ntp, rtp) })
  | .icmpUnreachable slot => if (s.slot slot).st = .connecting ∧ (s.slot slot).waitingSince.isNone then failAttempt s slot else s
  | .fragment => s.count (Reg.camFragDrop port)
  | .ipOptions => s.count (Reg.camProtoDrop port)
  | .unsupported => s.count (Reg.camProtoDrop port)
  | _ => s

/-- A whole frame on CAM0 or CAM1 (R63, R47, Table 2-5): length, then FCS, then tags; one whose tags lie outside Table 2-1 is counted in
CAM_VLAN_DROP and, as all traffic outside that table, in CAM_PROTO_DROP. (DEDUCED, log 163) -/
def execCamFrameReceived (port : Fin 2) (frame : CamFrame) (s : State) : Out :=
  let p : Nat := port
  if !portUp s p then .next s
  else if frame.len ≤ 63 then .next (s.count (Reg.camRunt p))
  else if 9217 ≤ frame.len then .next (s.count (Reg.camGiant p))
  else if !frame.fcsOk then .next (s.count (Reg.camFcsErr p))
  else if frame.kind = .pause then .next s
  else if !tagsOk frame.tags (s.fldAt (Reg.camPortCtrl p) 13 2) then .next ((s.count (Reg.camVlanDrop p)).count (Reg.camProtoDrop p))
  else
    let s := { s with cam := { s.cam with rxFrames := put (fun _ => 0) s.cam.rxFrames p (satAdd 64 (get (fun _ => 0) s.cam.rxFrames p) 1) } }
    .next (camKind s p frame.kind)

/-! ### The decoders (R51 to R55, R63 to R65, R76, R77) -/

def State.decEngine (s : State) (n : Nat) : DecEngine := get engineFree s.cam.engines n
def State.setDecEngine (s : State) (n : Nat) (e : DecEngine) : State :=
  { s with cam := { s.cam with engines := put engineFree s.cam.engines n e } }

/-- Engine n serves the class of slot k: class A on the engine of DEC_RESERVE, the pool on DEC1 to DEC5 less that one (R51,
R77). -/
def engineServes (s : State) (n k : Nat) : Bool :=
  if slotClass s k = 1 then n = decReserve s else decide (1 ≤ n) && decide (n ≠ decReserve s)

/-- Whether a unit of slot k is in a decoder. -/
def decoding (s : State) (k : Nat) : Bool := (List.range 6).any (fun n => (s.decEngine n).job.any (fun j => j.1 = k))

/-- Slot k goes before slot j where their units completed at the same moment: the class-A slot of the running direction first, and between
two that are alike the lower number (R54). (DESIGN CHOICE, log 164) -/
def goesFirst (s : State) (k j : Nat) : Bool :=
  let mine (i : Nat) : Bool := slotClass s i = 1 && runDirection s == some (slotDir s i)
  if mine k == mine j then decide (k < j) else mine k

/-- Slot k is next in order of completion among the slots of its part; at the same moment the slot of the running direction goes
first (R51, R54). -/
def nextInOrder (s : State) (k : Nat) (u : AUnit) : Bool :=
  (List.range 12).all (fun j =>
    j = k || decide ((slotClass s j = 1) ≠ (slotClass s k = 1)) || decoding s j ||
      match (s.slot j).queue with
      | [] => true
      | v :: _ => decide (u.doneAt < v.doneAt) || (decide (u.doneAt = v.doneAt) && goesFirst s k j))

/-- A free decoder takes the next waiting unit, after the check of a new parameter set (R51, R64); a pool slot's bucket loses its charge
(R68). -/
def execDecodeStart (engine : Fin 6) (slot : Fin 12) (s : State) : Out :=
  let n : Nat := engine
  let k : Nat := slot
  match (s.slot k).queue with
  | [] => .next s
  | u :: rest =>
    if (s.decEngine n).job.isSome || decoding s k || !engineServes s n k || !nextInOrder s k u
        || decide ((s.dom (126 + n)).st ≠ .on) then .next s
    else
      match u.sps.bind spsCode with
      | some c => .next (rejectSlot s k c)
      | none =>
        let pays := if slotClass s k = 1 then 0 else charge u
        let s := s.modSlot k (fun x => { x.settle s pays x.fill with queue := rest, sps := u.sps.or x.sps })
        .next (s.setDecEngine n { s.decEngine n with job := some (k, u), since := s.now })

/-- Slot k resynchronises: waiting units up to the next IRAP picture are dropped (R57, R76). -/
def resyncSlot (s : State) (k : Nat) : State :=
  s.modSlot k (fun x =>
    let q := x.queue.dropWhile (fun u => !u.irap)
    { x with queue := q, resync := q.isEmpty })

/-- A picture of slot k reaches ENC0 when the view is on and shows it: it is encoded, or dropped where ENC0 is busy; the view
starts and resumes at an IRAP picture of the decoded stream (R112, R113). ENC0 makes one IRAP picture per second, and one where it starts
or resumes. (DEDUCED, log 165) -/
def viewPicture (s : State) (k : Nat) (irap : Bool) : State :=
  let on := s.bitAt Reg.vehViewCtrl 0 && inputOn s 3 && decide (activeSlot s = some k) && decide (s.tram.stage < 2)
    && decide (s.hld.phase ≠ .armed) && decide ((s.slot k).st = .running)
  if !on then (if s.enc.slot = k then stopView s else s)
  else if s.enc.busy then (s.count Reg.encDrop).raise Reg.encIrqStat 1
  else if !s.enc.running && !irap then s
  else
    let s1 := if s.enc.running then s else s.raise Reg.encIrqStat 3
    let first := !s1.enc.running || s.past s1.enc.irapAt (sec 1)
    { s1 with enc := { s1.enc with
      running := true, busy := true, slot := k, size := s.bitAt Reg.vehViewCtrl 1
      rate := min 160 (Nat.max 20 (s.fldAt Reg.vehViewCtrl 15 8))
      irap := first, irapAt := if first then s.now else s1.enc.irapAt
      boxes := (s.car s.fab.slot).tracks.map (fun t => (t.id, trackLevel s t)), level := ownLevel s } }

/-- The line stride of a picture: its width rounded up to a multiple of 128 bytes (R55). -/
def strideOf (width : Nat) : Nat := (width + 127) / 128 * 128

/-- Slot k has come to RUNNING: this device's own is reported to the set, where a survivor may serve it (R197). -/
def cameToRun (s : State) (k : Nat) : State := if (adoptedAt s k).isNone then reportRunning s k else s

/-- CC0 answers the completion of a class-A picture on the decoder of DEC_RESERVE with the doorbell of DMA engine 0, for the urgent copy
(R371, R375, R471); the copies of adopted class-A slots are those of DMA engines 4 and 5 (R491). (DEDUCED, log 201) -/
def doorbell (s : State) (n k : Nat) : State :=
  if slotClass s k ≠ 1 ∨ n ≠ decReserve s then s
  else if (adoptedAt s k).isNone then sendSignal s 0x038 0 0 (ownEid s 0x020) 63
  else sendSignal (sendSignal s 0x038 0 0 (ownEid s 0x024) 63) 0x038 0 0 (ownEid s 0x025) 63

/-- A decoder finishes a unit: the picture with its descriptor, whose samples are free (R55); the first IRAP picture makes a CONNECTING slot RUNNING
(Table 2-2). -/
def execDecodeComplete (engine : Fin 6) (s : State) : Out :=
  let n : Nat := engine
  match (s.decEngine n).job with
  | none => .next s
  | some (k, u) =>
    let s := ((s.setDecEngine n { s.decEngine n with job := none }).count (Reg.decFrames n)).irq (if n = decReserve s then 8 else 9)
    let x := s.slot k
    let pic := x.sps.map (fun p => ({
      slot := k, width := p.cropW, height := p.cropH, ts := u.ts, pathStart := u.pathStart, capture := u.capture, irap := u.irap
      concealedNone := true, stride := strideOf p.cropW, draw := s.freeCtr } : Picture))
    let s := s.draw
    let s := { s with cam := { s.cam with pics := put (fun _ => none) s.cam.pics k pic } }
    let s := s.modSlot k (fun x => { x with decoded := x.decoded.filter (fun t => decide (s.now < t + sec 1)) ++ [s.now] })
    let s := s.when (x.st = .connecting && u.irap) (fun s => cameToRun (slotTo (s.modSlot k (fun x => { x with backoff := 250 })) k .running) k)
    .next (doorbell (viewPicture s k u.irap) n k)

/-- A bitstream error: the picture is not delivered, and the slot resynchronises (R76). -/
def execDecoderBitstreamError (engine : Fin 6) (s : State) : Out :=
  let n : Nat := engine
  match (s.decEngine n).job with
  | none => .next s
  | some (k, _) =>
    let s := if n = decReserve s then s else s.irq 9
    .next (resyncSlot ((s.setDecEngine n { s.decEngine n with job := none }).count (Reg.decErr n)) k)

/-- The bound of R52 for a unit on engine n, in ns: given at 700 MHz, and longer by 700 MHz over its island's frequency below that
(R405). -/
def decodeBound (s : State) (n k : Nat) (u : AUnit) : Nat :=
  (Nat.max (4 * codedPixels (s.slot k).sps) u.bits + us 20) * 28 / Nat.max 1 (min 28 (s.island (156 + n)).eff)

/-- Sample o of the NV12 picture last decoded for slot k (R55). -/
def pictureByte (s : State) (k o : Nat) : Option Byte :=
  (get (fun _ => none) s.cam.pics k).map (fun p => Config.nv12 p.draw o)

/-- DEC1 takes over class A, and the VC2 enable moves with it (R77). -/
def moveReserve (s : State) : State :=
  let s := s.setReg Reg.decReserve 1
  if s.bitAt (Reg.fabVc2En 2) 0 then (s.setFldAt (Reg.fabVc2En 2) 0 0 0).setFldAt (Reg.fabVc2En 2) 1 1 1 else s

/-- The watchdog of a decoder trips: the unit is lost and the engine reset; the third failed reset of DEC0 within 10 s makes DEC1
the class-A engine (R77). -/
def execDecoderWatchdog (engine : Fin 6) (resetFailed : Bool) (s : State) : Out :=
  let n : Nat := engine
  let e := s.decEngine n
  match e.job with
  | none => .next s
  | some (k, u) =>
    if !s.past e.since (min (4 * decodeBound s n k u) (ms 50) + 1) then .next s
    else
      let trips := (e.trips.filter (fun t => decide (s.now < t + sec 10))) ++ (if resetFailed then [s.now] else [])
      let s := (s.setDecEngine n { e with job := none, trips := trips }).count (Reg.decResets n)
      let s := resyncSlot (s.count (Reg.camSlotAuLost k)) k
      .next (if n = 0 ∧ decReserve s = 0 ∧ 3 ≤ trips.length then moveReserve s else s)

/-! ### Shedding (R66 to R74) -/

/-- The length of an epoch in ns: EPOCH of CAM_POOL_CFG; 0 acts as 1. -/
def epochNs (s : State) : Nat := ms (10 * Nat.max 1 (s.fldAt Reg.camPoolCfg 15 8))

/-- The pool's decode rate less the headroom, in pixels per second: 250 Mpixel/s for an engine at 700 MHz (R52, R67). -/
def poolCap (s : State) : Nat :=
  let pool := (List.range 6).filter (fun n => decide (1 ≤ n) && decide (n ≠ decReserve s))
  (pool.map (fun n => 250_000_000 * min 28 (s.island (156 + n)).eff / 28)).foldl (· + ·) 0 * (64 - s.fldAt Reg.camPoolCfg 3 0) / 64

/-- The sum of f over a list of slots. -/
def sumOf (l : List Nat) (f : Nat → Nat) : Nat := (l.map f).foldl (· + ·) 0

/-- The slots of a class in RUNNING or SHEDDING. -/
def servingOf (s : State) (cls : Nat) : List Nat := (List.range 12).filter (fun k => slotClass s k = cls && (s.slot k).st.serves)

/-- The rate that the allocator gives slot k (R67). -/
def allotted (s : State) (k : Nat) : Nat :=
  let bs := servingOf s 2
  let cs := servingOf s 3
  let dem (j : Nat) : Nat := (s.slot j).demand
  let cap := poolCap s
  let db := sumOf bs dem
  let dc := sumOf cs dem
  let allowed := if s.bitAt Reg.camShedForce 0 then 0 else dc
  let floor (j : Nat) : Nat := min 10 (s.slot j).fps * codedPixels (s.slot j).sps
  let fb := sumOf bs floor
  if slotClass s k = 3 then
    if db + allowed ≤ cap then (if allowed = dc then dem k else 0)
    else if db ≤ cap then dem k * (cap - db) / dc else 0
  else if db ≤ cap then dem k
  else if fb ≤ cap then floor k + (dem k - floor k) * (cap - fb) / (db - fb)
  else floor k * cap / fb

/-- Slot k's demand measured over the epoch that ends (R66). -/
def measure (s : State) (k : Nat) : State :=
  s.modSlot k (fun x => { x with
    demand := x.charges * 1_000_000_000 / epochNs s, fps := x.units * 1_000_000_000 / epochNs s, units := 0, charges := 0 })

/-- Slot k goes SHEDDING, with a full bucket (R68). -/
def startShedding (s : State) (k : Nat) : State :=
  slotTo (s.modSlot k (fun y => { y with bucket := bucketDepth s { y with fill := y.rate }, filledAt := s.now, equalSince := none })) k .shedding

/-- Slot k takes its rate, and enters or leaves SHEDDING (Table 2-2, R68); while a class-C slot decodes an admitted GOP its bucket fills at
the old rate up to the next IRAP picture (Table 2-5). -/
def takeRate (s : State) (k rate : Nat) : State :=
  let x := s.slot k
  let fill := if slotClass s k = 3 ∧ !x.skipping then x.fill else rate
  let s1 := s.setSlot k { x.settle s 0 fill with rate := rate }
  if x.st = .running ∧ rate < x.demand then startShedding s1 k
  else if x.st = .shedding then
    if rate < x.demand then s1.modSlot k (fun y => { y with equalSince := none })
    else match x.equalSince with
      | some t => if s.past t (epochNs s) then slotTo s1 k .running else s1
      | none => s1.modSlot k (fun y => { y with equalSince := some s.now })
  else s1

/-- Rosemary arms: class-C slots stop decoding at the next unit and go SHEDDING; their rings keep filling (Table 2-5). -/
def stopClassC (s : State) : State :=
  s.each (servingOf s 3) (fun s k =>
    let s := if (s.slot k).queue.isEmpty then s else skipGop s k
    let s := s.modSlot k (fun x => { x with queue := [] })
    if (s.slot k).st = .running then startShedding s k else s)

/-- Narration is shed while the pool has no room for it or any pool slot is SHEDDING, and admitted after one whole epoch in which
neither holds (R484). -/
def narrationAdmission (s : State) : State :=
  let room := poolCap s - sumOf (servingOf s 2 ++ servingOf s 3) (fun j => (s.slot j).demand)
  { s with tram := { s.tram with narrShed := anyShedding s || decide (room < Config.narrationDemand) } }

/-- A shedding epoch (R66 to R68, R484). -/
def execShedEpoch (s : State) : Out :=
  if !s.past s.cam.epochAt (epochNs s) then .next s
  else
    let s := s.each (List.range 12) measure
    let pool := servingOf s 2 ++ servingOf s 3
    let rates := pool.map (fun k => (k, allotted s k))
    let s := s.each rates (fun s r => takeRate s r.1 r.2)
    .next (narrationAdmission { s with cam := { s.cam with epochAt := s.now } })

/-- A class-B slot's decoded rate over 1 s against 10 frames/s, in every state from the end of its first second of RUNNING until STOP
(R71). (DEDUCED, log 166) -/
def execSlotRateWindow (slot : Fin 12) (s : State) : Out :=
  let k : Nat := slot
  let x := s.slot k
  if slotClass s k ≠ 2 ∨ !x.ranSince.any (fun t => s.past t (sec 1)) then .next s
  else if (x.decoded.filter (fun t => decide (s.now < t + sec 1))).length < 10 then
    .next ((s.modSlot k (fun x => { x with degraded := true, slowAt := some s.now })).modWindows (windowUses s k) (fun w => w.flag 0))
  else match x.slowAt with
    | some t => .next (if s.past t (sec 1) then s.modSlot k (fun x => { x with degraded := false, slowAt := none }) else s)
    | none => .next s

/-- The number of a slot's state (Table 2-8). -/
def SlotSt.code (x : SlotSt) : Nat :=
  match x with
  | .idle => 0
  | .connecting => 1
  | .running => 2
  | .shedding => 3
  | .rejected => 4
  | .lost => 5

/-- Saturated to n bits. -/
def sat (n x : Nat) : Nat := min (2 ^ n - 1) x

/-- A degradation record of 208 bytes (Table 3-6). (DEDUCED, log 120) -/
def degradationBytes (s : State) (kind began : Nat) : List Byte :=
  let entry (k : Nat) : List Byte :=
    let x := s.slot k
    bytesBE 1 (slotClass s k) ++ bytesBE 1 x.st.code ++ bytesBE 1 (num x.degraded) ++ bytesBE 1 0
      ++ bytesBE 4 (sat 32 (x.demand / 1000)) ++ bytesBE 4 (sat 32 (x.rate / 1000)) ++ bytesBE 2 (sat 16 x.newFrames)
      ++ bytesBE 2 (sat 16 x.newGops)
  bytesBE 1 1 ++ bytesBE 1 s.fab.slot ++ bytesBE 1 kind ++ bytesBE 1 0 ++ bytesBE 4 s.veh.degSeq
    ++ timeDate (ptpNs s - (s.now - began)) ++ (List.range 12).flatMap entry

/-- A degradation record queued (R74, R92). -/
def sendDegradation (s : State) (kind began : Nat) : State :=
  let s1 := queueRecord s 30 (degradationBytes s kind began)
  let s2 := s1.each (List.range 12) (fun s k => s.modSlot k (fun x => { x with newFrames := 0, newGops := 0 }))
  sendRecords { s2 with
    veh := { s2.veh with degSeq := (s2.veh.degSeq + 1) % 2 ^ 32 }
    cam := { s2.cam with recordAt := if kind = 2 then none else some s.now } }

/-- The first record after 2 s of SHEDDING of any one slot, which SHED_2S shows; a repeat every 10 s while shedding lasts; and a closing
one once no slot has been SHEDDING for 2 s (R74, Table 2-6). -/
def execDegradationRecord (s : State) : Out :=
  let long := (List.range 12).any (fun k => (s.slot k).shedAt.any (fun t => s.past t (sec 2)))
  match s.cam.recordAt, s.cam.shedSince, s.cam.calmSince with
  | none, _, _ => .next (if long then sendDegradation (s.raise Reg.camIrqStat 13) 0 s.cam.shedBegan else s)
  | some r, some _, _ => .next (if s.past r (sec 10) then sendDegradation s 1 s.cam.shedBegan else s)
  | some _, none, some c => .next (if s.past c (sec 2) then sendDegradation s 2 s.cam.shedBegan else s)
  | _, _, _ => .next s

end Sys2Proof.Machine
end

