-- ==== Sys2Proof/Machine/Adapt.lean ====
section
/-! DEFINITION. On-device adaptation: the sample store, the training step, and the weights in memory (R347 to R351). -/
namespace Sys2Proof.Machine

open Sys2Proof

def State.modAdapt (s : State) (f : Adapt → Adapt) : State := { s with adapt := f s.adapt }

/-! ### The sample store (R349) -/

/-- A crossing gives a sample: at least 6 frames, a slot in order throughout, at most 4 KiB. -/
def Crossing.qualifies (c : Crossing) : Bool := decide (6 ≤ c.frames) && c.quiet && decide (c.data.length ≤ 4096)

/-- A sample stored: the oldest of 16 384 makes room, and every tenth is held out. (DESIGN CHOICE, log 196) -/
def storeSample (a : Adapt) (data : List Byte) : Adapt :=
  { a with
    samples := (if 16_384 ≤ a.samples.length then a.samples.drop 1 else a.samples) ++ [(data, decide (a.taken % 10 = 9))]
    taken := a.taken + 1 }

/-- The samples of confirmed crossings. -/
def takeSamples (s : State) (l : List Crossing) : State :=
  s.modAdapt (fun a => (l.filter Crossing.qualifies).foldl (fun a c => storeSample a c.data) a)

/-! ### One step on a weight tensor (R350, Table 9-5) -/

/-- The bits of a square root, from bit n - 1 down. -/
def sqrtBits (x : Nat) : Nat → Nat → Nat
  | 0, r => r
  | n + 1, r => if (r + 2 ^ n) * (r + 2 ^ n) ≤ x then sqrtBits x n (r + 2 ^ n) else sqrtBits x n r

/-- The square root of a binary32 number that is not negative, rounded by rne. -/
def fSqrt (x : Nat) : Nat :=
  if fNan 32 x ∨ fInf 32 x then x
  else
    let m := (toFix 32 x).natAbs * 2 ^ 161
    let r := sqrtBits m 220 0
    fRound 32 (2 * r + (if r * r = m then 0 else 1) : Nat) 156 false

/-- b1 = 0.9, b2 = 0.999, eps = 10⁻⁶, and 127, 256, 32 767 as FP32. -/
def fB1 : Nat := 0x3F66_6666
def fB2 : Nat := 0x3F7F_BE77
def fEps : Nat := 0x3586_37BD
def f127 : Nat := fOfInt 32 127
def f256 : Nat := fOfInt 32 256
def f32767 : Nat := fOfInt 32 32_767

/-- The largest magnitude of a list of FP32 numbers. -/
def topMag (l : List Nat) : Nat := l.foldl (fun a x => fMax 32 a (x % 2 ^ 31)) 0

/-- A tensor coded with its scale max / top; one that is all zero keeps the scale it had (R350). (DEDUCED, log 48) -/
def codeTensor (l : List Nat) (top old : Nat) : Nat × List Int :=
  let m := topMag l
  if fZero 32 m then (old, l.map (fun _ => 0))
  else
    let sc := fDiv 32 m top
    (sc, l.map (fun x => fRne 32 (fDiv 32 x sc)))

/-- A weight tensor before any step: the shipped weights, no momentum. -/
def untrained (h : HeadTensor) : Trained :=
  { w8 := h.shipped, w16 := h.shipped.map (fun w => w * 256), m8 := h.shipped.map (fun _ => 0), v16 := h.shipped.map (fun _ => 0)
    sG := 0, sM := 0, sV := 0 }

/-- The change d of weight i. -/
def stepOf (p : AdaptParams) (sM sV : Nat) (m v : Int) : Nat :=
  fDiv 32 (fMul 32 (fMul 32 p.lr.toNat (fOfInt 32 m)) sM) (fAdd 32 (fSqrt (fMul 32 (fOfInt 32 v) sV)) fEps)

/-- One step of adaptation on a weight tensor. -/
def adaptStep (p : AdaptParams) (h : HeadTensor) (t : Trained) (g : List Nat) : Trained :=
  let (sG, g8) := codeTensor g f127 t.sG
  let real (c : Int) (sc : Nat) : Nat := fMul 32 (fOfInt 32 c) sc
  let mr := (t.m8.zip g8).map (fun x =>
    fAdd 32 (fMul 32 (fMul 32 fB1 (fOfInt 32 x.1)) t.sM) (fMul 32 (fMul 32 (fSub 32 fOne32 fB1) (fOfInt 32 x.2)) sG))
  let (sM, m8) := codeTensor mr f127 t.sM
  let vr := (t.v16.zip g8).map (fun x =>
    fAdd 32 (fMul 32 (fMul 32 fB2 (fOfInt 32 x.1)) t.sV)
      (fMul 32 (fSub 32 fOne32 fB2) (fMul 32 (real x.2 sG) (real x.2 sG))))
  let (sV, v16) := codeTensor vr f32767 t.sV
  let w16 := (t.w16.zip (h.shipped.zip (m8.zip v16))).zipIdx.map (fun x =>
    let ((w, w0, m, v), i) := x
    let sc := fDiv 32 ((h.scales[i / h.perChannel]?).getD 0).toNat f256
    clamp (w - fRne 32 (fDiv 32 (stepOf p sM sV m v) sc)) ((w0 - p.dmax) * 256) ((w0 + p.dmax) * 256))
  { w8 := w16.map (fun w => clamp (rneDiv w 256) (-127) 127), w16 := w16, m8 := m8, v16 := v16, sG := sG, sM := sM, sV := sV }
where
  /-- 1.0. -/
  fOne32 : Nat := 0x3F80_0000

/-- The tensors that a night starts from: the accepted ones, or the shipped ones. -/
def startTensors (s : State) (p : Package) : List Trained :=
  if s.adapt.deltas.isEmpty then p.heads.map untrained else s.adapt.deltas

/-- The night's steps, at most as many as the package allows. -/
def night (p : Package) (start : List Trained) (gradients : List Gradient) : List Trained :=
  (gradients.take p.adapt.steps).foldl (fun l x =>
    match p.heads[x.tensor]?, l[x.tensor]? with
    | some h, some t => l.set x.tensor (adaptStep p.adapt h t (x.g.map BitVec.toNat))
    | _, _ => l) start

/-! ### Weights in memory (R350, R351) -/

/-- The weights that the heads run with, written where they lie. -/
def writeHeads (s : State) (p : Package) (l : List Trained) : State :=
  s.each p.heads.zipIdx (fun s x =>
    putData s (addrLocal x.1.addr) (((l[x.2]?).getD (untrained x.1)).w8.map (fun w => BitVec.ofInt 8 w)))

/-- Weights come into effect: the accepted tensors, none for the shipped ones. -/
def useWeights (s : State) (l : List Trained) : State :=
  let s := s.modAdapt (fun a => { a with waiting := none, deltas := l })
  match s.pkgs.counting with
  | some p => writeHeads s p l
  | none => s

/-- Accepted adaptation weights take effect once no window is open (R351). -/
def takeWeights (s : State) : State :=
  match s.adapt.waiting with
  | some l => if s.tram.windows.isEmpty then useWeights s l else s
  | none => s

end Sys2Proof.Machine
end

