-- ==== Sys2Proof/Machine/Quant.lean ====
section
/-! DEFINITION. The requantisation units: layer records and scale slots in memory, the rescaling of an output, escapes and
side lists, and the commit (chapter 9). -/
namespace Sys2Proof.Machine

open Sys2Proof

/-! ### Layer records and scale slots (R334, R335): fields at their offsets, in the slice -/

/-- n bytes at offset o of the record at global address q. -/
def recLoad (s : State) (q o n : Nat) : Nat := s.load (addrLocal q + o) n
/-- n bytes written at offset o of the record. -/
def recStore (s : State) (q o n x : Nat) : State := putData s (addrLocal q + o) (bytesOf n x)

def recFlags (s : State) (q : Nat) : Nat := recLoad s q 1 1
def recFloat (s : State) (q : Nat) : Bool := (recFlags s q).testBit 0
def recEscOut (s : State) (q : Nat) : Bool := (recFlags s q).testBit 1
def recWide (s : State) (q : Nat) : Bool := (recFlags s q).testBit 3
def recAct (s : State) (q : Nat) : Nat := bits (recFlags s q) 5 4
def recCout (s : State) (q : Nat) : Nat := recLoad s q 2 2
def recZpOut (s : State) (q : Nat) : Int := sext (recLoad s q 4 2) 16
def recStatus (s : State) (q : Nat) : Nat := recLoad s q 40 4
/-- [47:0] of a 64-bit address field. -/
def recAddr (s : State) (q o : Nat) : Nat := recLoad s q o 8 % 2 ^ 48
/-- The address of scale slot n of the record's table. -/
def slotAddr (s : State) (q n : Nat) : Nat := recAddr s q 56 + 128 * n
def inSlot (s : State) (q : Nat) : Nat := slotAddr s q (recLoad s q 6 1)
def outSlot (s : State) (q : Nat) : Nat := slotAddr s q (recLoad s q 7 1)
/-- The channel entry and the statistics entry of channel ch, as offsets in the record. -/
def chanOff (ch : Nat) : Nat := 128 + 16 * ch
def statOff (s : State) (q ch : Nat) : Nat := 128 + 16 * recCout s q + 8 * ch
/-- The length of a record. -/
def recLen (s : State) (q : Nat) : Nat := 128 + 24 * recCout s q

/-- Bit i of a record's status set. -/
def recRaise (s : State) (q i : Nat) : State := recStore s q 40 4 (recStatus s q ||| 2 ^ i)
/-- A 32-bit word of a record higher by one. -/
def recCount (s : State) (q o : Nat) : State := recStore s q o 4 (satAdd 32 (recLoad s q o 4) 1)

/-! ### Rescaling (R331, R332) -/

/-- The code range of an output type (Table 9-1). -/
def codeRange (ty : Nat) (esc : Bool) : Int × Int :=
  match ty with
  | 0 => (if esc then -127 else -128, 127)
  | 1 => (0, 255)
  | 2 => (-8, 7)
  | _ => (-32768, 32767)

/-- The FP32 value of x / 2^k, one rounding. -/
def fp32Of (x : Int) (k : Nat) : Nat := fRound 32 (x * 2 ^ 149) (149 + k) false

/-- f and v of R331 for channel ch: `raw` is the INT32 accumulator, or the FP32 encoding where `isF`. -/
def rescale (s : State) (q ch : Nat) (isF : Bool) (raw corr : Int) : Nat × Int :=
  let bias := recLoad s q (chanOff ch + 4) 4
  let m := recLoad s q (chanOff ch + 8) 4
  let sh := recLoad s q (chanOff ch + 12) 1 % 64
  if isF then
    let f := fMul 32 (fAdd 32 raw.toNat bias) m
    (f, fRne 32 f)
  else
    let t := raw + sext bias 32
    if recFloat s q then
      let f := fMul 32 (fAdd 32 (fOfInt 32 t) (fp32Of corr 8)) m
      (f, fRne 32 f)
    else
      let x := (t * 256 + corr) * m
      (fp32Of x (sh + 8), rneDiv x (2 ^ (sh + 8)))

/-- The layer's activation function, in codes relative to the zero point. -/
def activate (s : State) (q : Nat) (v : Int) : Int :=
  match recAct s q with
  | 1 => max v 0
  | 2 => clamp v 0 (sext (recLoad s q 12 2) 16)
  | _ => v

/-- Entry k of the side list of tile n at a list base. -/
def sideEntry (base n k : Nat) : Nat := addrLocal base + 256 * n + 4 * k

/-- The first free entry of the side list of tile n (R340). -/
def freeEntry (s : State) (base n : Nat) : Option Nat :=
  (List.range 64).find? (fun k => decide (s.load (sideEntry base n k) 4 = 0xFFFF_FFFF))

/-- The FP16 value that the side list of the byte at offset `off` of a tensor holds, if it has an entry (R341). -/
def sideValue (s : State) (base off : Nat) : Option Nat :=
  ((List.range 64).map (fun k => s.load (sideEntry base (off / 16384) k) 4)).findSome? (fun e =>
    if e ≠ 0xFFFF_FFFF ∧ bits e 13 0 = off % 16384 then some (bits e 31 16) else none)

/-- A clip of channel ch: counted, and marked in a wide record (R345). -/
def clipOut (s : State) (c q ch : Nat) (stats : Bool) : State :=
  let s := s.count (Reg.qntClips c)
  if stats then
    let s := recCount (recCount s q (statOff s q ch + 4)) q 44
    s.when (recWide s q) (fun s => recRaise s q 2)
  else s

/-- One output of channel ch through the QU of cluster c: the code to be written, and the state (R331, R332). `off` is
the output's byte offset from OUT.BASE. (DEDUCED, log 44) -/
def quOut (s : State) (c q ch ty : Nat) (isF stats : Bool) (raw corr : Int) (off : Nat) : State × Nat :=
  let (f, v) := rescale s q ch isF raw corr
  let v := activate s q v
  let sOut := recLoad s (outSlot s q) 0 4
  let s := s.when stats (fun s =>
    let o := statOff s q ch
    recStore s q o 4 (Nat.max (recLoad s q o 4) (Nat.min v.natAbs (2 ^ 32 - 1))))
  if ty = 4 then
    let y := fMul 32 f sOut
    let lim := fWiden 0x7BFF
    if !fNan 32 y && fLt 32 lim (y % 2 ^ 31) then
      (clipOut s c q ch stats, 0x7BFF + (if fNeg 32 y then 0x8000 else 0))
    else (s, fNarrow y)
  else
    let esc := recEscOut s q
    let (lo, hi) := codeRange ty esc
    let x := v + recZpOut s q
    if lo ≤ x ∧ x ≤ hi then (s, wrap 16 x)
    else
      match (if esc then freeEntry s (recAddr s q 24) (off / 16384) else none) with
      | some k =>
        let s := putData s (sideEntry (recAddr s q 24) (off / 16384) k)
          (bytesOf 4 (off % 16384 + fNarrow (fMul 32 f sOut) * 65536))
        let s := (s.count (Reg.qntEscapes c)).when stats (fun s => recCount s q 48)
        (s, 0x80)
      | none =>
        let s := clipOut s c q ch stats
        let s := s.when esc (fun s =>
          ((s.count (Reg.qntOverflows c)).raise (Reg.qntIrqStat c) 3).when stats (fun s => recRaise s q 1))
        (s, wrap 16 (clamp x lo hi))

/-- Tymor follows the re-runs (R345, R346): each is logged with its layer; of the alarm partition's the fourth layer of a frame, and any
further one, is denied. (DEDUCED, log 195) -/
def noteRerun (s : State) (c layer : Nat) : State :=
  if 2 ≤ c then s.logRule 345 layer
  else if s.tram.reruns.contains layer then s
  else
    { s with tram := { s.tram with reruns := s.tram.reruns ++ [layer] } }.logRule (if s.tram.reruns.length < 3 then 345 else 346) layer

/-- At the completion of an instruction with STATS, RERUN is set where the clips exceed the limit or OVERFLOW is set (R343). -/
def checkRerun (s : State) (c q : Nat) : State :=
  let limit := recLoad s q 16 8 * s.fldAt (Reg.qntClipLimit c) 15 0 / 2 ^ 24
  if (recLoad s q 44 4 > limit ∨ (recStatus s q).testBit 1) ∧ ¬(recStatus s q).testBit 0 then
    let s := ((recRaise s q 0).count (Reg.qntRerunTrig c)).raise (Reg.qntIrqStat c) 2
    noteRerun (s.setReg (Reg.qntLastRerun c) (BitVec.ofNat 64 (recLoad s q 14 2 + 65536 * recLoad s (outSlot s q) 17 1))) c
      (recLoad s q 14 2)
  else s

/-! ### The commit (R337, R338, R353 to R355) -/

/-- A record and its mirrors. (DEDUCED, log 46) -/
def withMirrors (s : State) (q : Nat) : List Nat :=
  q :: ((List.range 7).map (fun k => recAddr s q (64 + 8 * k))).filter (fun m => decide (m ≠ 0))

/-- The largest maxcode of a record and its mirrors, as FP32; a wide record's is divided by 16 (R344). -/
def frameCodes (s : State) (q : Nat) : Nat :=
  let fm := (withMirrors s q).foldl (fun a r =>
    (List.range (recCout s r)).foldl (fun a ch => Nat.max a (recLoad s r (statOff s r ch) 4)) a) 0
  fp32Of fm (if recWide s q then 4 else 0)

/-- The first loop: the frame maximum of the record's output slot, which is touched. (DEDUCED, log 45) -/
def touchSlot (s : State) (q : Nat) : State :=
  let t := outSlot s q
  let x := fMul 32 (frameCodes s q) (recLoad s t 0 4)
  let s := recStore s t 24 4 (fMax 32 (recLoad s t 24 4) x)
  recStore s t 19 1 (recLoad s t 19 1 ||| 4)

/-- The FP32 encodings of 1.0 and 2.0. -/
def fOne : Nat := 0x3F80_0000
def fTwo : Nat := 0x4000_0000

/-- K and H of a slot, with the defaults of QNT_CFG and the limits of Table 9-6. -/
def slotK (s : State) (c t : Nat) : Nat :=
  let k := recLoad s t 16 1
  Nat.min 16 (if k = 0 then s.fldAt (Reg.qntCfg c) 4 0 else k)
def slotH (s : State) (c t : Nat) : Nat :=
  let h := recLoad s t 12 4
  let h := if fZero 32 h then fp32Of (128 + s.fldAt (Reg.qntCfg c) 15 8 : Nat) 7 else h
  fMin 32 (fMax 32 h fOne) fTwo

/-- The scale of slot t has stayed at smax: at the hundredth commit AT_MAX is set and logged (R355). -/
def countAtMax (s : State) (c t : Nat) : State :=
  let x := s.qu c
  let n := if recLoad s t 0 4 = recLoad s t 8 4 then get (fun _ => 0) x.atMax t + 1 else 0
  let s := s.setQu c { x with atMax := put (fun _ => 0) x.atMax t (Nat.min n 100) }
  if n = 100 then (s.raise (Reg.qntIrqStat c) 4).logRule 355 t else s

/-- The second loop for slot t: the ring, and the new scale (R337); a NaN or an infinite scale is not taken (R354). -/
def updateSlot (s : State) (c : Nat) (recs : List Nat) (t : Nat) : State :=
  let head := recLoad s t 17 1 % 16
  let s := recStore s t (28 + 4 * head) 4 (recLoad s t 24 4)
  let s := recStore s t 17 1 ((head + 1) % 16)
  let fill := Nat.min (recLoad s t 18 1 + 1) 16
  let s := recStore s t 18 1 fill
  let run := (List.range (Nat.min fill (slotK s c t))).foldl (fun a i =>
    fMax 32 a (recLoad s t (28 + 4 * ((head + 16 - i) % 16)) 4)) 0
  let limit (s : State) : State := s.each (recs.filter (fun r => inSlot s r = t || outSlot s r = t)) (fun s r => recRaise s r 3)
  let s :=
    if fLt 32 0 run then
      let x := fDiv 32 (fMul 32 run (slotH s c t)) (fOfInt 32 (recLoad s t 20 2 : Nat))
      let y := fMin 32 (fMax 32 x (recLoad s t 4 4)) (recLoad s t 8 4)
      if fNan 32 x || fInf 32 y || fNan 32 y then limit s
      else (recStore s t 0 4 y).when (decide (y ≠ x)) limit
    else s
  let s := recStore s t 24 4 0
  let s := recStore s t 19 1 (recLoad s t 19 1 &&& 0xFB)
  countAtMax s c t

/-- M, SH and whether SCALE_LIMIT is set, for a rescale factor rr in FP32 (R337). -/
def multiplier (rr : Nat) : Nat × Nat × Bool :=
  if fNan 32 rr then ((Config.intOfNan rr).toNat % 2 ^ 32, 0, true)
  else if fInf 32 rr then (2 ^ 32 - 1, 0, true)
  else
    let x := (toFix 32 rr).natAbs
    let e : Int := (Nat.log2 x : Int) - 149
    let sh := 31 - e
    if x = 0 ∨ 63 < sh then ((rneDiv x (2 ^ 86)).toNat, 63, true)
    else if sh < 0 then (2 ^ 32 - 1, 0, true)
    else (bits rr 22 0 * 256 + 2 ^ 31, sh.toNat, false)

/-- The third loop for one primary record: new entries, written to it and its mirrors, and its figures cleared. -/
def updateRecord (s : State) (q : Nat) : State :=
  let ms := withMirrors s q
  let sIn := recLoad s (inSlot s q) 0 4
  let sOut := recLoad s (outSlot s q) 0 4
  let s := s.each (List.range (recCout s q)) (fun s ch =>
    let rr := fDiv 32 (fMul 32 sIn (recLoad s q (chanOff ch) 4)) sOut
    let (m, sh, lim) := if recFloat s q then (rr, recLoad s q (chanOff ch + 12) 1, false) else multiplier rr
    let s := s.when lim (fun s => recRaise s q 3)
    s.each ms (fun s r =>
      let s := recStore (recStore s r (chanOff ch + 8) 4 m) r (chanOff ch + 12) 1 sh
      recStore s r (statOff s r ch) 8 0))
  let act := wrap 16 (fRne 32 (fDiv 32 (recLoad s q 8 4) sOut))
  let status := recStatus s q &&& 0xFFFF_FFF8
  let s := s.each ms (fun s r =>
    let s := recStore s r 12 2 act
    let s := recStore s r 40 4 status
    let s := recStore s r 44 8 0
    s.when (recEscOut s r) (fun s =>
      s.each (List.range ((recLoad s r 16 8 + 16383) / 16384 * 64)) (fun s k =>
        putData s (addrLocal (recAddr s r 24) + 4 * k) (bytesOf 4 0xFFFF_FFFF))))
  s

/-- The commit of a list of primary records. -/
def runCommit (s : State) (c : Nat) (recs : List Nat) : State :=
  let s := s.each recs touchSlot
  let slots := (recs.map (outSlot s)).eraseDups.filter (fun t => !(recLoad s t 19 1).testBit 0)
  let s := s.each slots (fun s t => updateSlot s c recs t)
  s.each recs updateRecord

/-- Whether n bytes at a local address can be read: bank groups open, no uncorrectable word. -/
def readable (s : State) (a n : Nat) : Bool :=
  (List.range ((n + 127) / 128)).all (fun k =>
    match targetOf s (a + 128 * k) with
    | .sram c g => groupOpen s c g
    | .dram ch => channelUp s ch
    | _ => false) && !s.anyPoison a n

/-- The records that a running, parked or suspended instruction names in its QUT with RQ set. -/
def startedRecords (s : State) : List Nat :=
  (List.range 8).flatMap (fun c =>
    let x := s.tar c
    ((match x.run with
      | some r => [r]
      | none => []) ++ x.ctxs.map TCtx.run).filterMap (fun r =>
        if r.ins.fields.testBit 8 then some (bits (r.d / 2 ^ 896) 47 0) else none))

/-- Whether the commit at the head waits on an instruction that has started (R338). -/
def commitWaits (s : State) (recs : List Nat) : Bool :=
  (recs.flatMap (withMirrors s)).any (startedRecords s).contains

/-- A write of QNT_COMMIT (R338, Table 9-6): with GO, a commit of 1 to 256 records is requested. -/
def writeCommit (s : State) (c : Nat) (v : Nat) : State :=
  let n := bits v 8 0
  let s := s.setFldAt (Reg.qntCommit c) 8 0 n
  if v.testBit 31 then
    if 1 ≤ n ∧ n ≤ 256 then
      let base := (s.reg (Reg.qntCommitList c)).toNat / 8 * 8
      let recs := (List.range n).map (fun i => s.load (addrLocal base + 8 * i) 8 % 2 ^ 48)
      let x := s.qu c
      s.setQu c { x with commits := x.commits ++ [recs], done := if x.commits.isEmpty then 0 else x.done }
    else s.raise (Reg.qntIrqStat c) 1
  else s

/-- Tymor requests the commit of the records whose list and COUNT it has given QUc (R339, R466). (DEDUCED, log 47) -/
def commitOf (s : State) (c : Nat) : State :=
  let n := s.fldAt (Reg.qntCommit c) 8 0
  if 1 ≤ n ∧ n ≤ 256 then writeCommit s c (n + 2 ^ 31) else s

/-- The frame of a warning package is over: its records are committed on the units of the alarm partition, and the next frame's re-runs are
counted afresh (R339, R346). -/
def commitWarning (s : State) : State :=
  let s := { s with tram := { s.tram with reruns := [] } }
  if s.pkgs.warning.isSome then s.each [0, 1] commitOf else s

/-- QU_COMMIT_REQUEST (R338). -/
def execQuCommitRequest (who : Requester) (qu : Fin 8) (val : BitVec 32) (s : State) : Out :=
  .next (s.writeGuard who (Reg.qntCommit qu) (fun s => writeCommit s qu val.toNat))

/-- QU_COMMIT (R337, R354): once no listed instruction that has started is left, the commit runs; a read error abandons it. -/
def execQuCommit (qu : Fin 8) (readError : Bool) (s : State) : Out :=
  let x := s.qu qu
  match x.commits with
  | [] => .next s
  | recs :: rest =>
    if commitWaits s recs then .next s
    else if readError || !(recs.flatMap (withMirrors s)).all (fun r => readable s (addrLocal r) (recLen s r)) then
      .next ((s.setQu qu { x with commits := rest }).raise (Reg.qntIrqStat qu) 1)
    else
      let s := runCommit s qu recs
      let y := s.qu qu
      let s := s.setQu qu { y with commits := rest, done := recs.length }
      .next ((s.raise (Reg.qntIrqStat qu) 0).count (Reg.qntCommits qu))

end Sys2Proof.Machine
end

