-- ==== Sys2Proof/Machine/Tram.lean ====
section
/-! DEFINITION. Passenger counting, message data, narration and the vehicle port (chapters 1 and 3). -/
namespace Sys2Proof.Machine

open Sys2Proof

def State.modVeh (s : State) (f : Veh → Veh) : State := { s with veh := f s.veh }
def State.modTram (s : State) (f : Tram → Tram) : State := { s with tram := f s.tram }

/-! ### Door releases and count windows (R23 to R25, R43, R88) -/

/-- The discrete release of a door's side. -/
def discreteRel (s : State) (d : DoorId) : Bool := inputOn s (num d.right)

/-- There are vehicle-state values to go by: VEH is up and a telegram has been accepted since it came up (R117). (DEDUCED, log 158) -/
def vehKnown (s : State) : Bool := s.veh.linkUp && s.veh.fresh

/-- The VEH release of a door (R88). -/
def vehRel (s : State) (d : DoorId) : Bool := vehKnown s && (if d.right then s.veh.doorR else s.veh.doorL).getLsbD (d.door - 1)

/-- Release is active on a door from either source. -/
def released (s : State) (d : DoorId) : Bool := discreteRel s d || vehRel s d

/-- The two sources of a door differ. -/
def sourcesDiffer (s : State) (d : DoorId) : Bool := vehKnown s && (discreteRel s d != vehRel s d)

/-- The door and car to which slot k is bound, if it is a class-B slot. -/
def boundTo (s : State) (k : Nat) : Option (DoorId × Nat) :=
  if slotClass s k = 2 then
    some (slotDoor s k, match adoptedAt s k with
      | some a => a.lost
      | none => s.fab.slot)
  else none

/-- A count window opens (R23): out of service from the start where its slot is, or its task is held. (DEDUCED, log 136) -/
def openWindow (s : State) (d : DoorId) (car : Nat) (k : Option Nat) : State :=
  let serving := k.all (fun k => (s.slot k).st.serves) && k.isSome && !(s.task .counting).held
  let w : Window := {
    door := d, car := car, seq := s.tram.nextWindow, opened := ptpNs s, openedAt := s.now
    flags := if k.any (fun k => (s.slot k).degraded) then 1 else 0
    ending := none, outTotal := 0, outSince := if serving then none else some s.now
    differs := if sourcesDiffer s d then some s.now else none, stepped := false, draw := s.freeCtr }
  let n := (s.tram.nextWindow + 1) % 2 ^ 32
  (s.draw.modTram (fun t => { t with windows := t.windows ++ [w], nextWindow := n })).setReg (Reg.sysScratch 0) (BitVec.ofNat 64 n)

/-- Windows open for the bound doors whose release has begun and that have none open (R23). -/
def openWindows (s : State) (began : DoorId → Bool) : State :=
  s.each (List.range 12) (fun s k =>
    match boundTo s k with
    | some (d, car) =>
      if began d && !s.tram.windows.any (fun w => w.door = d && w.car = car) then openWindow s d car (some k) else s
    | none => s)

/-- Every open window follows the releases: the end that the later source shows, and a difference between them (R23, R25). -/
def followDoors (s : State) : State :=
  let s1 := s.modWindows (fun _ => true) (fun w => { w with
    ending := if released s w.door then none else some (w.ending.getD s.now)
    differs := if sourcesDiffer s w.door then some (w.differs.getD s.now) else none })
  logReasons (s1.modTram (fun t => { t with releaseDiffers := t.releaseDiffers.filter (fun d => sourcesDiffer s d) }))

/-- time_quality of a window's record: that at the close, with bit 7 set for a step while it was open too (Table 3-9). -/
def closeQuality (s : State) (w : Window) : Nat := timeQuality s % 128 + (if s.thy.stepAt.isSome || w.stepped then 128 else 0)

/-- A count record (Table 3-5). -/
def countRecord (s : State) (w : Window) : List Byte :=
  bytesBE 1 1 ++ bytesBE 1 w.car ++ bytesBE 1 s.fab.slot ++ bytesBE 1 w.door.door ++ bytesBE 1 (num w.door.right)
    ++ bytesBE 1 w.flags.toNat ++ bytesBE 1 (closeQuality s w) ++ bytesBE 1 0 ++ bytesBE 4 w.seq ++ timeDate w.opened
    ++ timeDate (ptpNs s) ++ bytesBE 2 (min 0xFFFF (Config.crossings 0 w.draw)) ++ bytesBE 2 (min 0xFFFF (Config.crossings 1 w.draw))

/-- A window closes: its record is queued and sent (R23, R25, R92). -/
def closeWindow (s : State) (w : Window) : State :=
  let s1 := s.modTram (fun t => { t with windows := t.windows.filter (fun v => v.seq ≠ w.seq) })
  takeWeights (sendRecords (queueRecord s1 20 (countRecord s w)))

/-- The windows of a door that satisfy p, each closed. -/
def closeDoor (s : State) (d : DoorId) (p : Window → Bool) : State :=
  s.each (s.tram.windows.filter (fun w => decide (w.door = d) && p w)) closeWindow

/-- Release has been over for 3.0 s (R23); the crossings that the counting service has confirmed give their samples (R349). -/
def execCountWindowClose (close : WindowEnd) (s : State) : Out :=
  .next (closeDoor (takeSamples s close.samples) close.door (fun w => w.ending.any (fun t => s.past t (sec 3))))

/-- A window open for 10 min closes with LONG; another opens at once where release is active and a class-B slot is bound to the door
(R23, R24); confirmed crossings give their samples (R349). -/
def execCountWindowLong (close : WindowEnd) (s : State) : Out :=
  let door := close.door
  let due := s.tram.windows.filter (fun w => decide (w.door = door) && s.past w.openedAt (sec 600))
  .next ((takeSamples s close.samples).each due (fun s w =>
    let s1 := closeWindow s (w.flag 3)
    match (List.range 12).find? (fun k => decide (boundTo s1 k = some (door, w.car))) with
    | some k => if released s1 door then openWindow s1 door w.car (some k) else s1
    | none => s1))

/-- Out of service for more than 1.0 s in total: NO_VIDEO (R43). -/
def execNoVideoTimeout (door : DoorId) (s : State) : Out :=
  .next (s.modWindows (fun w => decide (w.door = door)
    && decide (sec 1 < w.outTotal + (match w.outSince with | some t => s.now - t | none => 0))) (fun w => w.flag 4))

/-- The sources of a door have differed for more than 500 ms: DISAGREE and reason 0x12 (R25, Table 1-4). -/
def execDoorReleaseDisagree (door : DoorId) (s : State) : Out :=
  let late (w : Window) : Bool := decide (w.door = door) && w.differs.any (fun t => decide (t + ms 500 < s.now))
  if s.tram.windows.any late then
    .next (logReasons ((s.modWindows late (fun w => w.flag 2)).modTram (fun t => { t with
      releaseDiffers := if t.releaseDiffers.contains door then t.releaseDiffers else t.releaseDiffers ++ [door] })))
  else .next s

/-! ### Inputs (R14, R95, R121) -/

/-- CAB_ACTIVE and REVERSE held against VEH, while there are values of it (R14, R88). (DEDUCED, log 158) -/
def followCab (s : State) : State :=
  let c := vehKnown s && (inputOn s 3 != s.veh.flags.testBit 1)
  let r := vehKnown s && (inputOn s 2 != s.veh.flags.testBit 2)
  sageEval (s.modVeh (fun v => { v with
    differs := if c then some (v.differs.getD s.now) else none, disagree := v.disagree && c
    differsRev := if r then some (v.differsRev.getD s.now) else none, disagreeRev := v.disagreeRev && r }))

/-- 500 ms of disagreement: logged, and reason 0x09 (R14). -/
def execCabDisagreeTimeout (reverse : Bool) (s : State) : Out :=
  let since := if reverse then s.veh.differsRev else s.veh.differs
  let had := if reverse then s.veh.disagreeRev else s.veh.disagree
  if since.any (fun t => decide (t + ms 500 < s.now)) && !had then
    .next (sageEval ((s.modVeh (fun v => if reverse then { v with disagreeRev := true } else { v with disagree := true })).logRule 14 (num reverse)))
  else .next s

/-- The slots of the car's own classes B and C (R26). -/
def saloonSlots (s : State) : BitVec 12 :=
  BitVec.ofNat 12 (((List.range 12).filter (fun k => (slotClass s k = 2 || slotClass s k = 3) && (adoptedAt s k).isNone)).map (fun k => 2 ^ k)).sum

/-! ### The vehicle port (R82, R83, R86, R117) -/

/-- A frame on VEH outside vehicle state and PTP (R82, R83). A frame of a length outside Table 3-1 has a counter of its own and is counted
there alone. (DEDUCED, log 159) -/
def execVehFrameReceived (frame : VehFrame) (s : State) : Out :=
  let tagOk := match frame.tags with
    | [] => true
    | [t] => decide (t.1 = 0x8100) && decide (t.2.toNat = s.fldAt Reg.vehPortCtrl 13 2)
    | _ => false
  if !s.veh.linkUp then .next s
  else if frame.len < 64 then .next (s.count Reg.vehRunt)
  else if 1522 < frame.len then .next (s.count Reg.vehGiant)
  else if frame.kind = .pause then .next s
  else if !tagOk then .next (s.count Reg.vehProtoDrop)
  else match frame.kind with
    | .trdpBadHeader => .next (s.count Reg.vehTrdpDrop)
    | .unsupported => .next (s.count Reg.vehProtoDrop)
    | _ => .next s

/-- The granule that Tymor writes into the vehicle area (R479), in the model's layout: flags, run_dir, speed, the door bits,
the time of acceptance. (DEDUCED, log 129) -/
def vehicleArea (s : State) : List Byte :=
  bytesOf 1 s.veh.flags ++ bytesOf 1 s.veh.runDir ++ bytesOf 2 s.veh.speed ++ bytesOf 2 s.veh.doorL.toNat
    ++ bytesOf 2 s.veh.doorR.toNat ++ bytesOf 8 s.now ++ List.replicate 16 0

/-- The control core that does the work of core n: itself, or the first other one where Tymor has put it in reset (R500). -/
def workCore (s : State) (n : Nat) : Nat :=
  let down (k : Nat) : Bool := (s.dom (133 + k)).inReset && decide ((s.dom (133 + k)).st = .on)
  (([n] ++ List.range 4).find? (fun k => !down k)).getD n

/-- Tymor sends the vehicle area to Sage from CC1, tagged with counter 2 (R474, R479, R500). -/
def sendVehicleArea (s : State) : State :=
  let (q, s1) := takeSeq s (0x038 + workCore s 1) 0
  s1.inject (sealPacket { plainPacket (ownEid s 0x03C) (ownEid s (0x038 + workCore s 1)) 0 0 0x2000 (vehicleArea s) with
    seq := BitVec.ofNat 16 q, cc := 2, ccEn := true })

/-- A vehicle-state telegram: checked (R83, R86), taken where its sequence counter is new, and passed to Sage (R479). A PD telegram of
another ComId is discarded (R82). -/
def execVehicleStateTelegram (t : Telegram) (s : State) : Out :=
  if !s.veh.linkUp then .next s
  else if !t.fcsOk then .next (s.count Reg.vehTrdpDrop)
  else if t.comId.toNat ≠ comIdOf s 0 then .next s
  else if decide (t.len ≠ 16) || decide (t.version ≠ 1) || decide (t.src.toNat ≠ (s.reg Reg.vehVsSrc).toNat)
      || decide (2 < t.runDir.toNat) then .next (s.count Reg.vehTrdpDrop)
  else if s.veh.seq = some t.seq then .next s
  else
    let valid := t.flags.getLsbD 0
    let oldL := if vehKnown s then s.veh.doorL else 0
    let oldR := if vehKnown s then s.veh.doorR else 0
    let s1 := s.modVeh (fun v => { v with
      seq := some t.seq, flags := t.flags.toNat, runDir := t.runDir.toNat, speed := if valid then t.speed.toNat else v.speed, doorL := t.doorL
      doorR := t.doorR, fresh := true, acceptedAt := some s.now, speedAt := if valid then some s.now else v.speedAt
      stillSince := if valid && decide (t.speed = 0) then some (v.stillSince.getD s.now) else none })
    let began (d : DoorId) : Bool :=
      if d.right then t.doorR.getLsbD (d.door - 1) && !oldR.getLsbD (d.door - 1) else t.doorL.getLsbD (d.door - 1) && !oldL.getLsbD (d.door - 1)
    .next (sendVehicleArea (followCab (followDoors (openWindows (s1.irq 11) began))))

/-- The link of VEH: the time is logged; on link up records and segments go out in order, with fresh waits (R117, Table 3-9). -/
def vehLink (s : State) (up : Bool) : State :=
  if s.veh.linkUp = up then s
  else
    let s1 := ((s.modVeh (fun v => { v with
      linkUp := up, fresh := false, records := v.records.map (fun r => { r with tries := 0, sentAt := none }) })).logRule 117 s.now).irq 11
    let s2 := followCab (followDoors s1)
    if up then
      let s3 := sendRecords s2
      s3.each s3.tram.incidents (fun s i =>
        (s.each i.held (fun s b => sendTelegram s 40 i.car b)).modTram (fun t => { t with
          incidents := t.incidents.map (fun x => if x.id = i.id then { x with held := [] } else x) }))
    else s2

/-- A VEH link change; it comes up only with EN set and the port's domain ON (R117, R119). -/
def execVehLinkChange (up : Bool) (s : State) : Out :=
  if up && !(s.bitAt Reg.vehPortCtrl 0 && decide ((s.dom 167).st = .on)) then .next s else .next (vehLink s up)

/-- Every 10 ms the warning dataset goes out, and one for each lost car that this device serves (R22, R89, R90). -/
def execWarningDatasetCycle (s : State) : Out :=
  let due := match s.veh.warnAt with
    | some t => s.past t (ms 9)
    | none => true
  if s.veh.linkUp && due then
    let s1 := sendTelegram (s.modVeh (fun v => { v with warnAt := some s.now })) 10 s.fab.slot (ownDataset s)
    .next (s1.each (lostCars s) (fun t c => sendTelegram t 10 c (survivorDataset s c)))
  else .next s

/-! ### Message data (R92 to R94) -/

/-- An Mp removes its record from the queue, and the next may go out (R92). -/
def execMdReply (record : Nat) (s : State) : Out :=
  if s.veh.linkUp ∧ s.veh.records.any (fun r => r.id = record && r.sentAt.isSome) then
    .next (sendRecords (s.modVeh (fun v => { v with records := v.records.filter (fun r => r.id ≠ record) })))
  else .next s

/-- A record without its Mp is sent again (R92). -/
def execMdResendTimer (record : Nat) (s : State) : Out :=
  match s.veh.records.find? (fun r => r.id = record) with
  | none => .next s
  | some r =>
    if s.veh.linkUp ∧ r.sentAt.any (fun t => s.past t (resendWait r.tries)) then
      .next (sendTelegram (s.modVeh (fun v => { v with records := v.records.map (fun x =>
        if x.id = record then { x with tries := x.tries + 1, sentAt := some s.now } else x) })) r.kind s.fab.slot r.data)
    else .next s

/-- The cars whose cameras this device serves. (DEDUCED, log 131) -/
def servesCar (s : State) (car : Nat) : Bool := car = s.fab.slot || s.tram.adopted.any (fun a => a.lost = car)

/-! ### Clips and narration (R26 to R28, R93, R487, R488) -/

/-- Incidents that are done with: closed clip, nothing left to narrate, send or store. (DEDUCED, log 134) -/
def pruneIncidents (s : State) : State :=
  s.modTram (fun t => { t with incidents := t.incidents.filter (fun i =>
    i.clipOpen || i.waits || (clipOn s i.id).isSome || (i.narrate && !i.ended) || !i.held.isEmpty) })

/-- 15 s after its last trigger a clip closes (R27). -/
def execClipPostTriggerEnd (incident : BitVec 32) (s : State) : Out :=
  match s.tram.incidents.find? (fun i => i.id = incident.toNat) with
  | none => .next s
  | some i =>
    if i.clipOpen ∧ i.endAt ≤ s.now then
      let s1 := modIncident s i.id (fun x => { x with clipOpen := false, waits := x.waits && clipUnfinished s { x with clipOpen := false } })
      .next (pruneIncidents (logReasons (pumpClips s1)))
    else .next s

/-- The order of service of an incident's trigger kind (R487). -/
def kindRank (i : Incident) : Nat := if i.triggers.getLsbD 0 then 0 else if i.triggers.getLsbD 1 then 1 else 2

/-- The incident that is served next. -/
def nextIncident (s : State) : Option Incident :=
  let ready := s.tram.incidents.filter (fun i => i.narrate && !i.started && !i.ended && !i.clipOpen)
  (sortBy (fun a b => decide (kindRank a < kindRank b) || (decide (kindRank a = kindRank b) && decide (a.trigger ≤ b.trigger))) ready).head?

/-- The incident whose account is being generated. -/
def narrating (s : State) : Option Incident := s.tram.incidents.find? (fun i => i.started && !i.ended)

/-- Generation of the next incident starts, when narration is admitted (R487). -/
def execNarrationStart (s : State) : Out :=
  if narrationShed s || s.pkgs.narration.isNone || !s.tram.started || (narrating s).isSome then .next s
  else match nextIncident s with
    | some i => .next (modIncident (s.modTram (fun t => { t with busyAt := s.now })) i.id (fun x => { x with started := true, segAt := s.now }))
    | none => .next s

/-- How many bytes a UTF-8 character has by its first byte. -/
def charLength (b : Byte) : Nat :=
  if b.toNat < 0xC0 then 1 else if b.toNat < 0xE0 then 2 else if b.toNat < 0xF0 then 3 else 4

/-- How many of the first n bytes of text make whole characters (R93): a character begun less than four bytes before and not complete
among them is left for the next segment. -/
def wholeChars (l : List Byte) (n : Nat) : Nat :=
  match [1, 2, 3].find? (fun k => decide (k ≤ n) && (l[n - k]?).any (fun b => decide (0xC0 ≤ b.toNat) && decide (k < charLength b))) with
  | some k => n - k
  | none => n

/-- One narration segment: sent, or held with its incident while VEH is down (R93, Table 3-7). (DEDUCED, log 133) -/
def sendSegment (s : State) (id n : Nat) (final truncated : Bool) : State :=
  match s.tram.incidents.find? (fun i => i.id = id) with
  | none => s
  | some i =>
    let data := bytesBE 1 1 ++ bytesBE 1 s.fab.slot ++ bytesBE 1 i.triggers.toNat
      ++ bytesBE 1 (num final + 2 * num truncated + 4 * num i.noClip) ++ bytesBE 4 i.id ++ bytesBE 2 i.segment ++ bytesBE 2 n
      ++ bytesBE 4 i.request.toNat ++ timeDate i.trigger ++ i.text.take n
    let s1 := modIncident s id (fun x => { x with
      text := x.text.drop n, segment := x.segment + 1, segAt := s.now
      held := if s.veh.linkUp then x.held else x.held ++ [data] })
    if s.veh.linkUp then sendTelegram s1 40 i.car data else s1

/-- Whole segments of 1024 bytes go out, and at the end of the account the rest with FINAL. -/
def sendReady (fuel : Nat) (s : State) (id : Nat) (final truncated : Bool) : State :=
  match fuel with
  | 0 => s
  | f + 1 =>
    match s.tram.incidents.find? (fun i => i.id = id) with
    | none => s
    | some i =>
      if 1024 < i.text.length ∨ (i.text.length = 1024 ∧ !final) then
        sendReady f (sendSegment s id (wholeChars i.text 1024) false false) id final truncated
      else if final then sendSegment s id i.text.length true truncated
      else s

/-- An account ends: FINAL with what is left, and the incident is done (R28, R93). -/
def endAccount (s : State) (i : Incident) (truncated : Bool) : State :=
  pruneIncidents (modIncident (sendReady (i.text.length + 2) s i.id true truncated) i.id (fun x => { x with ended := true }))

/-- A token of the account in progress, at most 400; it is a frame of the narration package, whose records Tymor commits on the units of
its clusters (R28, R339, R488). -/
def execNarrationToken (text : List Byte) (last : Bool) (s : State) : Out :=
  match narrating s with
  | none => .next s
  | some i =>
    if narrationShed s then .next s
    else
      let j := { i with tokens := i.tokens + 1, text := i.text ++ text }
      let s1 := modIncident ((s.each (narrationClusters s) commitOf).modTram (fun t => { t with busyAt := s.now })) i.id (fun _ => j)
      .next (if last ∨ j.tokens = 400 then endAccount s1 j (!last) else sendReady (j.text.length + 1) s1 i.id false false)

/-- 500 ms after the last segment, what text there is goes out (R93). -/
def execNarrationSegmentTimer (s : State) : Out :=
  match narrating s with
  | none => .next s
  | some i =>
    let n := wholeChars i.text (min 1024 i.text.length)
    .next (if s.past i.segAt (ms 500) ∧ n ≠ 0 then sendSegment s i.id n false false else s)

/-! ### Cab view, MAINT and HOST (R112 to R115) -/

/-- ENC0 has encoded a picture and sent it as RTP (R112, Table 3-13); the picture is of the kind, IRAP or not, that ENC0 was encoding. -/
def execEncPictureDone (bytes : Nat) (irap : Bool) (s : State) : Out :=
  if !s.enc.busy || irap != s.enc.irap then .next s
  else
    let s1 := ({ s with enc := { s.enc with busy := false, bytes := satAdd 64 s.enc.bytes bytes, waitIrap := false } }.count Reg.encFrames).raise
      Reg.encIrqStat 0
    .next (s1.when irap (fun s => s.count Reg.encIrap))

/-- Ego speed stays valid and zero, and has been for t ns (R348, R514). -/
def stillFor (s : State) (t : Nat) : Bool :=
  let cycle := if s.bitAt Reg.vehVsCfg 0 then ms 100 else ms 10
  s.veh.stillSince.any (fun x => s.past x t) && s.veh.speedAt.any (fun x => !s.past x (3 * cycle))

end Sys2Proof.Machine
end

