-- ==== Sys2Proof/Machine/FabMgr.lean ====
section
/-! DEFINITION. The fabric manager after inauguration: heartbeats received and missed, the remap plan, and the move of a lost
device's jobs (R78, R192 to R199, R491). -/
namespace Sys2Proof.Machine

open Sys2Proof

/-! ### The remap plan (R198, Table 5-10) -/

/-- The generation of the plan: of the set that inauguration is about to complete, or has completed. -/
def planGen (s : State) : Nat := if s.fab.inaug = .learning then (s.fab.gen + 1) % 2 ^ 32 else s.fab.gen

/-- The local address of the plan. -/
def planBase (s : State) : Nat := addrLocal (s.reg Reg.fabPlanBase).toNat

/-- The copy at FAB_PLAN_BASE is a plan of this generation with a good CRC. -/
def planValid (s : State) : Bool :=
  let b := planBase s
  decide (s.load b 4 = 0x504D_5256) && decide (s.load (b + 4) 1 = 1) && decide (s.load (b + 8) 4 = planGen s)
    && decide (s.load (b + 864) 4 = (crc32 (s.bytes b 864)).toNat)

/-- The address of job j of slot k in the plan. -/
def jobAt (s : State) (k j : Nat) : Nat := planBase s + 96 + 96 * k + 8 * j
def jobClass (s : State) (k j : Nat) : Nat := s.load (jobAt s k j) 1
def jobBinding (s : State) (k j : Nat) : Nat := s.load (jobAt s k j + 1) 1

/-- The candidates of a job, first and second, as device and stream slot. -/
def candidates (s : State) (k j : Nat) : List (Nat × Nat) :=
  [(s.load (jobAt s k j + 2) 1, s.load (jobAt s k j + 3) 1), (s.load (jobAt s k j + 4) 1, s.load (jobAt s k j + 5) 1)]

/-- At slot 0, the devices of the set by slot: each one's ID, and whether its ITARD_FWD port faces the slot-0 end (orient). -/
def setDevices (s : State) : List (Word × Bool) :=
  (Config.deviceId, s.fab.facing) :: (((s.port (if s.fab.facing then 1 else 0)).chain).getD []).map (fun e => (e.1, decide (e.2 = 0)))

/-- What slot k has reported of its stream slots. -/
def reportOf (s : State) (k : Nat) : SlotUse := (get (fun _ => none) s.fab.reports k).getD []

/-- A place on device d for a job of a class, where others of the same lost device have been named: a stream slot that is unused and not
named, and for class A within the two of R50. -/
def placeOn (s : State) (named : List (Nat × Nat × Nat)) (d cls : Nat) : Option Nat :=
  let use := reportOf s d
  let ofA := (use.filter (fun u => u.1 = 1)).length + (named.filter (fun n => n.1 = d && n.2.2 = 1)).length
  if cls = 1 ∧ 2 ≤ ofA then none
  else (List.range use.length).find? (fun k => (use.getD k (0, 0)).1 = 0 && !named.any (fun n => n.1 = d && n.2.1 = k))

/-- The candidate devices for the jobs of slot k, nearest first: towards slot 0, for slot 0 towards slot 1. -/
def candidateDevs (s : State) (k : Nat) : List (Option Nat) :=
  [1, 2].map (fun n => if k = 0 then (if n < s.fab.setSize then some n else none) else if n ≤ k then some (k - n) else none)

/-- One job of slot k placed: the places named so far, and the jobs with their candidates. -/
def planJob (s : State) (k : Nat) (acc : List (Nat × Nat × Nat) × List (Nat × List (Option (Nat × Nat)))) (j : Nat) :
    List (Nat × Nat × Nat) × List (Nat × List (Option (Nat × Nat))) :=
  let cls := ((reportOf s k).getD j (0, 0)).1
  let r := (candidateDevs s k).foldl (fun (r : List (Nat × Nat × Nat) × List (Option (Nat × Nat))) d =>
    match d.bind (fun d => (placeOn s r.1 d cls).map (fun x => (d, x))) with
    | some (d, x) => (r.1 ++ [(d, x, cls)], r.2 ++ [some (d, x)])
    | none => (r.1, r.2 ++ [none])) (acc.1, [])
  (r.1, acc.2 ++ [(j, r.2)])

/-- The jobs of slot k with their candidates, in class order A, B, C. -/
def planJobs (s : State) (k : Nat) : List (Nat × List (Option (Nat × Nat))) :=
  let use := reportOf s k
  let order := [1, 2, 3].flatMap (fun c => (List.range use.length).filter (fun j => (use.getD j (0, 0)).1 = c))
  (order.foldl (planJob s k) ([], [])).2

/-- The eight bytes of job j of slot k. -/
def jobBytes (s : State) (k : Nat) (l : List (Nat × List (Option (Nat × Nat)))) (j : Nat) : List Byte :=
  match l.find? (fun e => e.1 = j) with
  | none => bytesOf 8 0
  | some e =>
    let u := (reportOf s k).getD j (0, 0)
    let place (o : Option (Nat × Nat)) : List Byte := match o with
      | some (d, x) => bytesOf 1 d ++ bytesOf 1 x
      | none => [0xFF, 0xFF]
    bytesOf 1 u.1 ++ bytesOf 1 u.2 ++ e.2.flatMap place ++ bytesOf 2 0

/-- The plan that slot 0 computes from the reports of the set (Table 5-10). (DEDUCED, log 66) -/
def makePlan (s : State) : List Byte :=
  let devs := setDevices s
  let orient := ((List.range devs.length).map (fun k => num (devs.getD k (0, false)).2 * 2 ^ k)).sum
  let head := bytesOf 4 0x504D_5256 ++ bytesOf 1 1 ++ bytesOf 1 s.fab.setSize ++ bytesOf 2 0 ++ bytesOf 4 (planGen s) ++ bytesOf 1 orient
    ++ bytesOf 19 0 ++ (List.range 8).flatMap (fun k => bytesOf 8 (devs.getD k (0, false)).1.toNat)
  let jobs := (List.range 8).flatMap (fun k =>
    let l := planJobs s k
    (List.range 12).flatMap (jobBytes s k l))
  let body := head ++ jobs
  body ++ bytesOf 4 (crc32 body).toNat ++ bytesOf 28 0

/-- Every slot of the set has reported its stream slots. -/
def allReported (s : State) : Bool := (List.range s.fab.setSize).all (fun k => (get (fun _ => none) s.fab.reports k).isSome)

/-- A stream slot's descriptor as message 6 gives it: job, URL length, then the parts in their order, little-endian (R198). -/
def descBytes (s : State) (j : Nat) (d : SlotDesc) : List Byte :=
  bytesOf 1 6 ++ bytesOf 1 s.fab.slot ++ bytesOf 2 j ++ bytesOf 4 d.url.length ++ bytesOf 8 d.cred ++ bytesOf 4 d.dst.toNat
    ++ bytesOf 4 d.port.toNat ++ bytesOf 8 d.ringBase ++ bytesOf 8 d.ringSize ++ d.url

/-- The descriptor of message 6. -/
def descOf (l : List Byte) : SlotDesc :=
  let b (i n : Nat) : Nat := ofBytes ((l.drop i).take n)
  { url := (l.drop 40).take (b 4 4), cred := b 8 8, dst := BitVec.ofNat 32 (b 16 4), port := BitVec.ofNat 16 (b 20 4), ringBase := b 24 8
    ringSize := b 32 8 }

/-- The descriptors of this device's used stream slots sent to both candidates of each (R198). -/
def sendDescs (s : State) : State :=
  s.each ((List.range 12).filter (fun j => jobClass s s.fab.slot j ≠ 0)) (fun s j =>
    let d := slotDescriptor s (addrLocal (s.reg (Reg.camSlotDesc j)).toNat)
    s.each ((candidates s s.fab.slot j).filter (fun c => c.1 < 8)) (fun s c => sendRemap s c.1 (descBytes s j d)))

/-- The plan computed at slot 0 once every slot has reported, kept, and sent whole to the set (Table 5-12). -/
def issuePlan (s : State) : State :=
  if s.fab.slot = 0 ∧ 1 < s.fab.setSize ∧ allReported s then
    let l := makePlan s
    sendDescs (tellSet (putData s (planBase s) l) l)
  else s

/-- This device asks the slot-0 manager for the plan again (R198). -/
def askPlan (s : State) : State :=
  let s1 := { s with fab := { s.fab with planAsked := true } }
  if s.fab.slot = 0 then issuePlan s1 else sendRemap s1 0 (bytesOf 1 2)

/-! ### The view of the set (R192, R193) -/

def setView (s : State) (k v : Nat) : State := { s with fab := { s.fab with view := put (fun _ => 0) s.fab.view k v } }

/-- The state of slot k, sent to the whole reachable set, in the model's layout (R193). (DESIGN CHOICE, log 15) -/
def sendNotice (s : State) (k v : Nat) : State := tellSet s (bytesOf 1 1 ++ bytesOf 1 k ++ bytesOf 1 v)

/-- Slot k is beyond slot m as seen from this device. -/
def further (s : State) (m k : Nat) : Bool := if s.fab.slot < m then decide (m < k) else decide (k < m)

/-- Slot k noted LOST, and what lies beyond it UNREACHABLE (R193). -/
def noteLost (s : State) (k : Nat) : State :=
  let s1 := (setView s k 1).raise Reg.fabEvtStat 6
  s1.each ((List.range s1.fab.setSize).filter (fun m => further s1 k m && decide (viewOf s1 m = 0))) (fun s m => setView s m 2)

/-! ### Moving the jobs (R78, R194 to R196) -/

/-- The slot whose partition applies the plan for k: towards slot 0, for slot 0 towards slot 1, past devices that are lost
themselves (R194, Table 5-11). -/
def anchor (s : State) (k : Nat) : Option Nat :=
  let way := if k = 0 then (List.range 8).drop 1 else ((List.range k).reverse)
  (way.filter (fun m => decide (m < s.fab.setSize))).find? (fun m => decide (viewOf s m ≠ 1))

/-- This device's manager applies the plan for slot k: it is the lowest survivor of the partition that holds the anchor. -/
def applies (s : State) (k : Nat) : Bool :=
  (anchor s k).any (fun m => survives s m) && (List.range s.fab.slot).all (fun m => !survives s m)

/-- The stream slot that a candidate names is IDLE: of this device as it stands, of another as the jobs placed there tell, until it answers
that it is not. (DEDUCED, log 67) -/
def candidateFree (s : State) (c : Nat × Nat) : Bool :=
  decide (c.1 < 8) && decide (c.2 < 12) && survives s c.1 &&
    (if c.1 = s.fab.slot then decide ((s.slot c.2).st = .idle) && (adoptedAt s c.2).isNone
      else !s.tram.placed.any (fun p => p.dev = c.1 && p.slot = c.2))

/-- The task that serves a class: adopted detection, counting, or none for class C (R196, R491). -/
def taskFor (cls : Nat) : Option TaskId := if cls = 1 then some .adopted else if cls = 2 then some .counting else none

/-- A job taken into stream slot k of this device and started, with the descriptor that its own device sent (R78, R196, R198), on CAM0 with
CAM1 as the alternate; its service task is loaded, and a window opens for its door where release is active (Table 1-8).
(DEDUCED, log 69; DESIGN CHOICE, log 178) -/
def adopt (s : State) (lost j k : Nat) : State :=
  let cls := jobClass s lost j
  let b := jobBinding s lost j
  let s1 := s.modTram (fun t => { t with
    adopted := t.adopted ++ [{ lost := lost, job := j, cls := cls, binding := b, slot := k }], busyAt := s.now })
  let s1 := match taskFor cls with
    | some x => loadTask s1 x
    | none => s1
  let s2 := writeSlotCtrl s1 k (cls + 8 + 0x100 + (if cls = 1 then 16 * (b % 2) else if cls = 2 then b % 64 * 2 ^ 16 else 0))
  let s3 := match get (fun _ => none) s.fab.descs (lost * 16 + j) with
    | some d => s2.modSlot k (fun x => { x with desc := d })
    | none => s2
  if cls = 2 ∧ released s3 (slotDoor s3 k) then openWindow s3 (slotDoor s3 k) lost (some k) else s3

/-- This device serves job j of a lost slot already (Table 5-11). -/
def hasJob (s : State) (lost j : Nat) : Bool := s.tram.adopted.any (fun a => a.lost = lost && a.job = j)

/-- A job goes to the first free place of a list, or stays unplaced; one that this device serves already stays where it is (R195,
Table 5-11). (DEDUCED, log 68) -/
def placeAmong (s : State) (lost j : Nat) (l : List (Nat × Nat)) : State :=
  if hasJob s lost j then s
  else match l.find? (candidateFree s) with
    | some (d, k) =>
      if d = s.fab.slot then adopt s lost j k
      else
        let s1 := s.modTram (fun t => { t with
          placed := t.placed ++ [{ dev := d, slot := k, lost := lost, job := j, at' := s.now, started := false }] })
        sendRemap s1 d (bytesOf 1 3 ++ bytesOf 1 lost ++ bytesOf 1 j ++ bytesOf 1 k)
    | none => s.modTram (fun t => { t with unplaced := t.unplaced ++ [(lost, jobClass s lost j)] })

/-- One job of the lost slot among its candidates (R195). -/
def placeJob (s : State) (lost j : Nat) : State := placeAmong s lost j (candidates s lost j)

/-- Reason 0x05 ends for the lost slots whose jobs have all been started (R196). -/
def endMoving (s : State) (l : List Nat) : State :=
  s.modTram (fun t => { t with moving := t.moving.filter (fun e => !l.contains e.1 || t.placed.any (fun p => p.lost = e.1 && !p.started)) })

/-- The plan applied for every lost slot that it is still due for (R194, R195); without a valid copy it is asked for (R198). (DEDUCED, log 66) -/
def applyPlan (s : State) : State :=
  let due := (List.range s.fab.setSize).filter (fun k => decide (viewOf s k = 1) && applies s k && !s.fab.applied.contains k)
  if due.isEmpty then s
  else if !planValid s then askPlan s
  else
    let s1 := s.each due (fun s k =>
      (List.range 12).foldl (fun s j => if jobClass s k j = 0 then s else placeJob s k j) s)
    endMoving { s1 with fab := { s1.fab with applied := s1.fab.applied ++ due } } due

/-- Jobs that went to slot k in the interval in which k is lost too go to their next candidate (Table 5-11). -/
def placeAgain (s : State) (k : Nat) : State :=
  let due := s.tram.placed.filter (fun p => p.dev = k && decide (s.now ≤ p.at' + ms 11))
  (s.modTram (fun t => { t with placed := t.placed.filter (fun p => !due.contains p) })).each due (fun s p => placeJob s p.lost p.job)

/-- The jobs of slot k, just noted LOST: reason 0x05 begins for its services where this manager moves them (R42, R194). -/
def moveJobs (s : State) (k : Nat) : State :=
  applyPlan (placeAgain (s.modTram (fun t => { t with moving := if applies s k then t.moving ++ [(k, s.now)] else t.moving })) k)

/-- Slot k declared LOST by a notice (R193, R194). -/
def declareLost (s : State) (k : Nat) : State := moveJobs (noteLost s k) k

/-! ### Heartbeats (R192, R193, R197) -/

/-- A LOST device rejoins at its old slot (R197); what lay beyond it can be reached again, and this device reports its RUNNING slots, since
others may serve them. (DEDUCED, log 64) -/
def rejoin (s : State) (k : Nat) : State :=
  let s1 := (setView s k 0).raise Reg.fabEvtStat 7
  let s2 := s1.each ((List.range s1.fab.setSize).filter (fun m => further s1 k m && decide (viewOf s1 m = 2))) (fun s m => setView s m 0)
  let s3 := { s2 with fab := { s2.fab with applied := s2.fab.applied.filter (fun m => m ≠ k) } }.modTram (fun t => { t with
    unplaced := t.unplaced.filter (fun u => u.1 ≠ k), placed := t.placed.filter (fun p => p.lost ≠ k)
    moving := t.moving.filter (fun e => e.1 ≠ k) })
  s3.each ((List.range 12).filter (fun j => decide ((s.slot j).st = .running) && (adoptedAt s j).isNone)) reportRunning

/-- A heartbeat of the adjacent neighbour, with this generation and its device ID: its interval starts again, its port carries every virtual
channel, and it is ALIVE; the set is told of one that was LOST (R193, R197, R206). (DEDUCED, log 63) -/
def takeHeartbeat (s : State) (f : Nat) (p : Packet) : State :=
  let x := s.port f
  let id := ofBytes (p.payload.take 8)
  let slot := ofBytes ((p.payload.drop 8).take 4)
  let gen := ofBytes ((p.payload.drop 12).take 4)
  if s.fab.inaug = .settled ∧ x.neighbour = some slot ∧ gen = s.fab.gen ∧ id = x.mateId.toNat then
    let s1 := s.setPort f { x with hbAt := some s.now, missed := 0, vc3Only := false }
    if viewOf s1 slot = 1 then sendNotice (rejoin s1 slot) slot 0
    else if viewOf s1 slot = 3 then setView s1 slot 0
    else s1
  else s

/-- HEARTBEAT on port f (R192). -/
def execHeartbeat (port : Fin 2) (p : Packet) (s : State) : Out := .next (atManager 8 s port p (fun s q => takeHeartbeat s port q))

/-- An interval of 11 ms without a heartbeat; after the third the neighbour is PARTITIONED where its warning dataset has been
heard within 30 ms, and LOST otherwise (R193). (DEDUCED, log 65) -/
def execHeartbeatMissed (port : Fin 2) (warningSeen : Bool) (s : State) : Out :=
  let x := s.port port
  match x.neighbour, x.hbAt with
  | some k, some t =>
    if s.fab.inaug = .settled ∧ x.missed < 3 ∧ s.past t (ms (11 * (x.missed + 1))) then
      let s1 := s.setPort port { x with missed := x.missed + 1 }
      if x.missed + 1 < 3 ∨ viewOf s k ≠ 0 then .next s1
      else if warningSeen then .next (sendNotice ((setView s1 k 3).raise Reg.fabEvtStat 6) k 3)
      else .next (moveJobs (sendNotice (noteLost s1 k) k 1) k)
    else .next s
  | _, _ => .next s

/-! ### REMAP (R193, R195, R197, R198) -/

/-- A rejoined device reports its stream slot RUNNING: the survivor stops the adopted one, and its open windows close with
INTERRUPTED (R197). (DEDUCED, log 70) -/
def handBack (s : State) (lost j : Nat) : State :=
  match s.tram.adopted.find? (fun a => a.lost = lost && a.job = j) with
  | none => s
  | some a =>
    let s1 := s.each (s.tram.windows.filter (fun w => windowUses s a.slot w)) (fun s w => closeWindow s (w.flag 1))
    (stopSlot s1 a.slot).modTram (fun t => { t with adopted := t.adopted.filter (fun b => b.slot ≠ a.slot) })

/-- A notice that slot k has come to state v (R193, R197); a loss during inauguration restarts it without k (Table 5-11). -/
def takeNotice (s : State) (k v : Nat) : State :=
  if k = s.fab.slot ∨ s.fab.setSize ≤ k ∨ viewOf s k = v then s
  else match v with
    | 0 => if viewOf s k = 1 then rejoin s k else setView s k 0
    | 1 => if inaugRuns s then restartWithout s k else declareLost s k
    | 3 => (setView s k 3).raise Reg.fabEvtStat 6
    | _ => s

/-- A job that slot d was asked to take and found not IDLE: it goes to the candidate after that one (R195). -/
def refusedJob (s : State) (d lost j : Nat) : State :=
  match s.tram.placed.find? (fun p => p.dev = d && p.lost = lost && p.job = j) with
  | none => s
  | some p =>
    let rest := ((candidates s lost j).dropWhile (fun c => c ≠ (p.dev, p.slot))).drop 1
    endMoving (placeAmong (s.modTram (fun t => { t with placed := t.placed.erase p })) lost j rest) [lost]

/-- A job that slot d has started (R196). -/
def startedJob (s : State) (d lost j : Nat) : State :=
  endMoving (s.modTram (fun t => { t with
    placed := t.placed.map (fun p => if p.dev = d ∧ p.lost = lost ∧ p.job = j then { p with started := true } else p) })) [lost]

/-- A job for this device (R195, R196): taken where its slot is IDLE, left where it is served already, and answered. -/
def takeJob (s : State) (from' lost j k : Nat) : State :=
  if !planValid s then askPlan s
  else if hasJob s lost j then sendRemap s from' (bytesOf 1 8 ++ bytesOf 1 lost ++ bytesOf 1 j)
  else if candidateFree s (s.fab.slot, k) then sendRemap (adopt s lost j k) from' (bytesOf 1 8 ++ bytesOf 1 lost ++ bytesOf 1 j)
  else sendRemap s from' (bytesOf 1 7 ++ bytesOf 1 lost ++ bytesOf 1 j)

/-- What a REMAP packet for this device does. A plan is kept at FAB_PLAN_BASE, and the descriptors go to its candidates. The manager's other
messages, in the model's layout: 1 a notice, 2 a plan request, 3 a job for this device, 4 a report of a slot RUNNING, 5 a report of stream
slots for the plan, 6 a descriptor, 7 and 8 the answers to a job. (DESIGN CHOICE, log 15) -/
def takeRemap (s : State) (p : Packet) : State :=
  let b (i : Nat) : Nat := ofBytes ((p.payload.drop i).take 1)
  let src := slotOf p.src
  if p.payload.length = 896 ∧ ofBytes (p.payload.take 4) = 0x504D_5256 then
    let s1 := putData { s with fab := { s.fab with planAsked := false } } (planBase s) p.payload
    if planValid s1 then applyPlan (sendDescs s1) else askPlan s1
  else match b 0 with
    | 1 => takeNotice s (b 1) (b 2)
    | 2 => if s.fab.slot = 0 ∧ planValid s then sendRemap s src (s.bytes (planBase s) 896) else s
    | 3 => if b 1 < 8 ∧ b 2 < 12 ∧ b 3 < 12 then takeJob s src (b 1) (b 2) (b 3) else s
    | 4 => handBack s (b 1) (b 2)
    | 5 =>
      let l := (List.range 12).map (fun k => (b (2 + 2 * k), b (3 + 2 * k)))
      if s.fab.slot = 0 then issuePlan { s with fab := { s.fab with reports := put (fun _ => none) s.fab.reports (b 1) (some l) } } else s
    | 6 => { s with fab := { s.fab with descs := put (fun _ => none) s.fab.descs (b 1 * 16 + b 2) (some (descOf p.payload)) } }
    | 7 => refusedJob s src (b 1) (b 2)
    | 8 => startedJob s src (b 1) (b 2)
    | _ => s

/-- REMAP on port f: for this device, or on its way to another (R198). -/
def execRemap (port : Fin 2) (p : Packet) (s : State) : Out := .next (atManager 10 s port p takeRemap)

/-! ### The end of inauguration (R204) -/

/-- Inauguration completes: FAB_GEN rises, flows restart at SEQ 0, heartbeats start, the ports carry every virtual channel, and LEARN is
clear (Table 5-12, R178, R203); a device without the plan of this generation asks for it (R198). -/
def execInaugComplete (s : State) : Out :=
  if s.fab.inaug = .learning ∧ s.past s.fab.inaugAt (ms 100) then
    let s := learnEnds { s with fab := { s.fab with
      gen := (s.fab.gen + 1) % 2 ^ 32, inaug := .settled, flowOut := [], hbSentAt := none
      boxes := (s.fab.boxes.map (fun (e : Nat × Mailbox) => (e.1, ({ e.2 with flows := [] } : Mailbox)))).filter
        (fun (e : Nat × Mailbox) => decide (e.2 ≠ boxReset e.1)) } }
    let s := s.each [0, 1] (fun s f => s.modPort f (fun x =>
      if x.st = ItdState.up then { x with vc3Only := false, hbAt := some s.now, missed := 0 } else x))
    let s := s.raise Reg.fabEvtStat 9
    .next (if 1 < s.fab.setSize ∧ !planValid s then askPlan s else s)
  else .next s

end Sys2Proof.Machine
end

