-- ==== Sys2Proof/Machine/Warm.lean ====
section
/-! DEFINITION. Requests for a WARM reset, and the safe state that the cab block takes by its own hardware path (R503 to R505). -/
namespace Sys2Proof.Machine

open Sys2Proof

/-- The hardware path of the cab block: both outputs released, SAFE_CUT open, the general outputs released (R108, R446, R505,
R551). (DEDUCED, log 88) -/
def hardwareSafe (s : State) : State := (sageSafe s).modCab (fun c => { c with balls := 0, ballsFree := true })

/-- What a request with a cause bit, and with the domain for DOMAIN, adds to SYS_RST_CAUSE (Table 15-1). -/
def causeWord (bit dom : Nat) : Word := BitVec.ofNat 64 (2 ^ bit + if bit = 4 then dom * 256 else 0)

/-- A WARM reset requested (R504, R505): the first request counts and sets its cause; one that comes before the reset releases
adds its cause bit (Table 15-9). -/
def requestWarm (s : State) (bit dom : Nat) : State :=
  if s.sys.porHeld then s
  else match s.sys.warmAt with
    | some _ => s.setReg Reg.sysRstCause (s.reg Reg.sysRstCause ||| causeWord bit dom)
    | none =>
      let s := s.setReg Reg.sysRstCause (causeWord bit dom)
      let s := s.setReg Reg.sysRstCount (BitVec.ofNat 64 (satAdd 16 (s.reg Reg.sysRstCount).toNat 1))
      hardwareSafe { s with sys := { s.sys with warmAt := some s.now } }

end Sys2Proof.Machine
end

