-- ==== Sys2Proof/Machine/Power.lean ====
section
/-! DEFINITION. The power domains and their sequencers: targets and refusals, the courses of shut-down, wake and reversal,
admission, groups, forced transitions and faults (chapter 12). -/
namespace Sys2Proof.Machine

open Sys2Proof

/-! ### What each domain is (Table 12-1) -/

/-- A domain of Table 12-1. -/
def isDomain (d : Nat) : Bool := decide (d < 177)

/-- The islands of a domain. -/
def domainIslands (d : Nat) : List Nat :=
  if d < 120 then [d]
  else if d < 126 then (List.range 6).map (fun i => 120 + 6 * (d - 120) + i)
  else if d < 161 then [d + 30]
  else if d < 165 then [d + 38, d + 42]
  else if d < 173 then [d + 26]
  else if d = 173 then [207]
  else if d = 174 then [209]
  else if d = 175 then [210]
  else [213]

/-- RET_CAP: a core, a Q0 or a bank group. -/
def retCapable (d : Nat) : Bool := decide (d < 24) || (decide (d < 56) && d % 4 = 0) || (decide (56 ≤ d) && decide (d < 120))

/-- The parent: Q0 for the other quadrants and the QU of its array. -/
def parentOf (d : Nat) : Option Nat :=
  if 24 ≤ d ∧ d < 56 ∧ d % 4 ≠ 0 then some (d - d % 4) else if 153 ≤ d ∧ d < 161 then some (24 + 4 * (d - 153)) else none

/-- The children of a domain. -/
def childrenOf (d : Nat) : List Nat :=
  if 24 ≤ d ∧ d < 56 ∧ d % 4 = 0 then [d + 1, d + 2, d + 3, 153 + (d - 24) / 4] else []

/-- A bank group of an INTERLEAVED slice (R433). -/
def interleavedGroup (s : State) (d : Nat) : Bool := decide (56 ≤ d) && decide (d < 120) && !linearMap s ((d - 56) / 8)

/-- The eight domains of the slice that a bank group's domain lies in. -/
def sliceDomains (d : Nat) : List Nat := (List.range 8).map (fun g => 56 + (d - 56) / 8 * 8 + g)

/-- ALARM: an island of the domain is in the alarm set. -/
def domainAlarm (s : State) (d : Nat) : Bool := (domainIslands d).any (inAlarm s)

def State.modPwr (s : State) (f : Pwr → Pwr) : State := { s with pwr := f s.pwr }

/-! ### Domain resets (R418) -/

/-- The endpoints of a domain. -/
def domainEndpoints (d : Nat) : List Nat := (List.range 0x98).filter (fun i => endpointDomain i = some d)

/-- The registers and logic of the block that the domain holds at their reset values; memory arrays are not touched. (DEDUCED, log 85) -/
def resetUnit (s : State) (d : Nat) : State :=
  if d < 24 then
    let s := s.resetRegs (Reg.pxc d 0) (Reg.pxc (d + 1) 0)
    { s with thr := s.thr.filter (fun e => e.1 / 4 ≠ d), cores := erase s.cores d }
  else if d < 56 then
    if d % 4 = 0 then
      let c := (d - 24) / 4
      (s.resetRegs (Reg.tar c 0) (Reg.tar (c + 1) 0)).modTar c (fun x =>
        { tarReset c with tmValid := x.tmValid, table := x.table, ctxs := x.ctxs })
    else s
  else if d < 120 then { s with memb := { s.memb with ready := erase s.memb.ready (d - 56) } }
  else if 126 ≤ d ∧ d < 132 then
    let n := d - 126
    { s.resetRegs (Reg.dec (0x100 * n)) (Reg.dec (0x100 * n + 0x100)) with cam := { s.cam with engines := erase s.cam.engines n } }
  else if d = 132 then { s.resetRegs (Reg.enc 0) (Reg.enc 0x1_0000) with enc := encReset }
  else if 133 ≤ d ∧ d < 137 then setCtlCore s (d - 133) (ctlCoreReset (d - 133))
  else if 137 ≤ d ∧ d < 145 then
    let c := d - 137
    ((s.resetRegs (Reg.dma c 0) (Reg.dma c 0x30)).resetRegs (Reg.dma c 0x50) (Reg.dma c 0x70)).setEngine false c (engineReset c)
  else if 145 ≤ d ∧ d < 153 then
    let c := d - 145
    ((s.resetRegs (Reg.dma c 0x30) (Reg.dma c 0x50)).resetRegs (Reg.dma c 0x70) (Reg.dma c 0x80)).setEngine true c (engineReset c)
  else if 153 ≤ d ∧ d < 161 then (s.resetRegs (Reg.qnt (d - 153) 0) (Reg.qnt (d - 152) 0)).setQu (d - 153) (quReset (d - 153))
  else if d = 165 ∨ d = 166 then
    (portLink s (d - 165) false).resetRegs (Reg.cam (0x100 * (d - 165))) (Reg.cam (0x100 * (d - 165) + 0x100))
  else if d = 167 then (vehLink s false).resetRegs (Reg.veh 0) (Reg.veh 0x1_0000)
  else if d = 168 then { s with sys := { s.sys with maintUp := false } }
  else if d = 169 ∨ d = 170 then
    (portDown s (d - 169)).resetRegs (Reg.itd (0x100 * (d - 169))) (Reg.itd (0x100 * (d - 169) + 0x100))
  else if d = 171 then
    let s := (releaseClips s).resetRegs (Reg.bay 0) (Reg.bay 0x1_0000)
    { s with bay := { bayReset with
        rawPresent := s.bay.rawPresent, presentAt := s.bay.presentAt, rawLatch := s.bay.rawLatch, latchAt := s.bay.latchAt, tail := s.bay.tail } }
  else if d = 172 then { s with sys := { s.sys with hostUp := false } }
  else s

/-- A domain reset: the block, and zero in the completion counters of the domain's endpoints. -/
def resetDomain (s : State) (d : Nat) : State :=
  (resetUnit s d).each (domainEndpoints d) (fun s i => s.setCcSet (ccKey i) (ccReset i))

/-- The arrays of the domain have lost their supply: TM_VALID clears (R328). -/
def loseArrays (s : State) (d : Nat) : State :=
  let s := s.modDom d (fun x => { x with cold := true })
  if 24 ≤ d ∧ d < 56 ∧ d % 4 = 0 then s.modTar ((d - 24) / 4) (fun x => { x with tmValid := false }) else s

/-- At the release of a reset that kept the arrays, the block sets INIT_DONE or READY (R418). -/
def keptArrays (s : State) (d : Nat) : State :=
  if d < 24 then s.setCore d { s.core d with initDone := true }
  else if 24 ≤ d ∧ d < 56 ∧ d % 4 = 0 then s.modTar ((d - 24) / 4) (fun x => { x with initDone := true })
  else if 56 ≤ d ∧ d < 120 then { s with memb := { s.memb with ready := put (fun _ => false) s.memb.ready (d - 56) true } }
  else s

/-! ### Islands (R407) -/

/-- The sequencer stops the islands of the domain and holds them; a change pending is kept as the setting. -/
def holdIslands (s : State) (d : Nat) : State :=
  let l := domainIslands d
  let s := pruneChanges s (fun i => l.contains i)
  s.each l (fun s i => s.modIsland i (fun x => { x with held := true, stored := variableIsland i && decide (wantedEff s i ≠ x.eff) }))

/-- The islands of the domain restart at the effective frequency of their settings; in the alarm set that counts as an alarm
pause (R402). -/
def restartIslands (s : State) (d : Nat) : State :=
  let l := domainIslands d
  let s := s.each l (fun s i => s.modIsland i (fun x =>
    { x with held := false, idle := false, dead := false, stored := false
             eff := if variableIsland i then wantedEff s i else x.eff
             throttled := variableIsland i && decide (wantedEff s i < uncapped s i) }))
  let s := s.each (clustersOf l) followQu
  let s := s.each (l.filter quIsland) (fun s i => followQu s (i - 183))
  let s := raiseBelowFloor s l
  if l.any (inAlarm s) then endAlarmPause s else s

/-! ### Admission (R430, R431) -/

/-- Domains in PRECHARGE or CLOSE, and the places there are. -/
def wakingNow (s : State) : Nat :=
  ((List.range 177).filter (fun d => let x := s.dom d; decide (x.step = .precharge) || decide (x.step = .close))).length
def maxWake (s : State) : Nat := Nat.min 16 (Nat.max 1 (s.fldAt Reg.pwrCfg 4 0))

/-- The parent, if there is one, is ON. -/
def parentOn (s : State) (d : Nat) : Bool :=
  match parentOf d with
  | none => true
  | some p => decide ((s.dom p).st = .on)

/-- The place of a domain in the order of requests, where it is OFF and to be woken: one that its reset set to ON without a request comes in
domain-number order (R430, R439). -/
def wakeOrder (s : State) (d : Nat) : Option Nat :=
  let x := s.dom d
  x.queued.or (if x.st = .off ∧ x.target = 1 ∧ x.fault = 0 then some d else none)

/-- The domain that is admitted next: the alarm set first, then the order of requests (R430). -/
def nextAdmitted (s : State) : Option Nat :=
  let w := (List.range 177).filterMap (fun d => match wakeOrder s d with
    | some n => if parentOn s d then some (if domainAlarm s d then 0 else 1, n, d) else none
    | none => none)
  (w.foldl (fun (m : Option (Nat × Nat × Nat)) e => match m with
    | none => some e
    | some b => if e.1 < b.1 ∨ (e.1 = b.1 ∧ e.2.1 < b.2.1) then some e else m) none).map (fun e => e.2.2)

/-- While no place is free, every domain that waits for one shows WAKE_QUEUED (R430). -/
def markQueued (s : State) : State :=
  if wakingNow s < maxWake s then s
  else s.each ((List.range 177).filter (fun d => parentOn s d)) (fun s d => s.modDom d (fun x => { x with queued := wakeOrder s d }))

/-- A domain admitted: WAKING, step PRECHARGE (Table 12-4). -/
def admitWake (s : State) (d : Nat) : State :=
  markQueued (s.modDom d (fun x => { x with st := .waking, step := .precharge, queued := none, depWait := false, since := s.now }))

/-- Waiting domains admitted while a place is free, at most n. -/
def admitAll (n : Nat) (s : State) : State :=
  match n with
  | 0 => s
  | n + 1 => if wakingNow s < maxWake s then match nextAdmitted s with
      | some d => admitAll n (admitWake s d)
      | none => s
    else s

/-! ### The course towards the target (R425 to R432) -/

/-- Every child is OFF. -/
def childrenOff (s : State) (d : Nat) : Bool := (childrenOf d).all (fun k => decide ((s.dom k).st = .off))

/-- A domain in ON, OFF or RETAINED takes the shortest course towards its target; a FAULTED one stays OFF (R425, R431, R437). -/
def takeCourse (s : State) (d : Nat) : State :=
  let x := s.dom d
  match x.st with
  | .on =>
    if x.target = 1 then s.modDom d (fun x => { x with depWait := false })
    else if childrenOff s d then
      s.modDom d (fun x => { x with st := .draining, step := .drain, depWait := false, lowered := false, forced := false, since := s.now })
    else s.modDom d (fun x => { x with depWait := true })
  | .off =>
    if x.target = 0 ∨ x.fault ≠ 0 then s.modDom d (fun x => { x with depWait := false, queued := none })
    else
      let s := s.modDom d (fun x => { x with depWait := !parentOn s d, queued := x.queued.or (some s.pwr.nextQueue) })
      s.modPwr (fun p => { p with nextQueue := p.nextQueue + 1 })
  | .retained =>
    if x.target = 1 then s.modDom d (fun x => { x with st := .waking, step := .raise, since := s.now })
    else if x.target = 0 then s.modDom d (fun x => { x with st := .draining, step := .switch, lowered := false, since := s.now })
    else s
  | _ => s

/-- The members of the last group write that have reached its target leave the group; the last raises GROUP_DONE (R432). -/
def checkGroup (s : State) : State :=
  let reached (d : Nat) : Bool :=
    decide ((s.dom d).st = if s.pwr.groupTarget = 0 then .off else if s.pwr.groupTarget = 1 then .on else .retained)
  if s.pwr.group.isEmpty then s
  else
    let s := s.modPwr (fun p => { p with group := p.group.filter (fun d => !reached d) })
    s.when s.pwr.group.isEmpty (fun s => s.raise Reg.pwrIrqStat 1)

/-- A domain has come to rest in a state that stands for target t: DONE where that is its target (R425); its parent and its
children go on with their courses, and so does it. -/
def atRest (s : State) (d t : Nat) : State :=
  let s := s.count Reg.pwrTransitions
  let s := s.when (decide ((s.dom d).target = t)) (fun s => s.raise Reg.pwrIrqStat 0)
  let s := checkGroup s
  let s := s.each (childrenOf d ++ (parentOf d).toList) takeCourse
  admitAll 16 (takeCourse s d)

/-- The domain is ON: reset and isolation released (R418, Table 12-4). -/
def reachOn (s : State) (d : Nat) : State :=
  let x := s.dom d
  let s := s.when (x.inReset && !x.cold) (fun s => keptArrays s d)
  let s := s.modDom d (fun x => { x with
    st := .on, step := .none, swClosed := true, isolated := false, inReset := false, lowered := false, forced := false, cold := false })
  atRest (deliverAll s) d 1

/-- The entries in the crossings into a domain that is forced down are discarded (R436). -/
def discardEntries (s : State) (d : Nat) : State := s.each (domainEndpoints d) discardCrossing

/-- The domain is OFF. -/
def reachOff (s : State) (d : Nat) : State :=
  let s := (loseArrays s d).modDom d (fun x => { x with
    st := .off, step := .none, swClosed := false, isolated := true, inReset := true, lowered := false, forced := false })
  atRest s d 0

/-- The domain is RETAINED. -/
def reachRetained (s : State) (d : Nat) : State :=
  atRest (s.modDom d (fun x => { x with st := .retained, step := .none })) d 2

/-- A reversal counted and flagged (R427). (DEDUCED, log 83) -/
def reversal (s : State) (d : Nat) (viaOff : Bool) : State :=
  let s := s.modDom d (fun x => { x with reversed := true, revViaOff := x.revViaOff || viaOff })
  (s.count Reg.pwrReversals).raise Reg.pwrIrqStat 9

/-- A reversal with the switches closed: the steps taken are undone (R426). -/
def reverseCourse (s : State) (d : Nat) : State :=
  (reversal s d false).modDom d (fun x => { x with step := .reversing, since := s.now })

/-- The switches of the domain open, and it discharges; a target of ON or RETAINED is then reached through OFF (R426, R429). -/
def openSwitches (s : State) (d : Nat) : State :=
  let x := s.dom d
  let s := s.modDom d (fun x => { x with
    st := .draining, step := .discharge, swClosed := false, since := s.now, retLost := x.retLost || decide (x.target = 2) })
  s.when (decide (x.target = 1) && !x.forced && decide (x.fault = 0)) (fun s => reversal s d true)

/-- A new target takes effect on a domain (R425 to R429). -/
def setTarget (s : State) (d t : Nat) : State :=
  let x := s.dom d
  let s := s.modDom d (fun x => { x with target := t })
  if x.target = t then s
  else match x.st with
    | .draining =>
      if x.step = .drain then (if t = 1 then reverseCourse s d else s)
      else if x.step = .discharge ∧ x.fault = 0 then
        (if t = 1 then reversal s d true else if t = 2 then s.modDom d (fun x => { x with retLost := true }) else s)
      else s
    | .waking => s
    | _ => takeCourse s d

/-! ### Forced transitions (R436) -/

/-- A forced shut-down begins: the drain is skipped, and what waits in the crossings is discarded. -/
def beginForced (s : State) (d : Nat) : State :=
  let s := discardEntries s d
  let x := s.dom d
  if x.st = .off ∨ x.step = .discharge then s
  else if x.st = .retained then
    s.modDom d (fun x => { x with st := .draining, step := .switch, lowered := false, forced := true, since := s.now })
  else s.modDom d (fun x => { x with st := .draining, step := .clkStop, lowered := false, forced := true, queued := none, since := s.now })

/-- A domain taken forced to OFF at once, as a commit or a reset takes it. (DEDUCED, log 84) -/
def forceOff (s : State) (d : Nat) : State :=
  if (s.dom d).st = .off then s
  else
    let s := loseArrays (resetDomain (holdIslands (discardEntries s d) d) d) d
    s.modDom d (fun x => { x with st := .off, step := .none, swClosed := false, isolated := true, inReset := true
                                  lowered := false, forced := false, queued := none, depWait := false })

/-! ### Writes (R419, R432, R433) -/

/-- The refusal code of Table 12-5 for target t of domain d, written together with the domains `sel`; 0 for none. The lowest
code that applies is recorded. (DEDUCED, log 82) -/
def refusal (s : State) (d t : Nat) (override : Bool) (sel : List Nat) : Nat :=
  let down := decide (t = 0) || decide (t = 2)
  if domLocked d && down then 1
  else if decide (t = 2) && !retCapable d then 2
  else if interleavedGroup s d && !(sliceDomains d).all (fun g => sel.contains g) then 3
  else if down && domainAlarm s d && !override then 4
  else if decide ((s.dom d).fault ≠ 0) && decide (t ≠ 0) then 5
  else if t = 3 then 6
  else if s.pwr.commit then 7
  else 0

/-- A refused write recorded (R433). -/
def refuseWrite (s : State) (d code : Nat) : State :=
  (s.setReg Reg.pwrLastRefuse (BitVec.ofNat 64 (d + 256 * code))).raise Reg.pwrIrqStat 3

/-- CLEAR: FAULTED and FAULT of an OFF domain cleared (Table 12-10). -/
def clearFault (s : State) (d : Nat) : State :=
  if (s.dom d).st = .off then s.modDom d (fun x => { x with fault := 0 }) else s

/-- CYCLE: the domain goes forced to OFF, and its target is ON (R436, Table 12-7). A locked domain is not cycled (R419). (DEDUCED, log 81) -/
def cycleDomain (s : State) (d : Nat) : State :=
  if domLocked d then refuseWrite s d 1
  else
    let code := refusal s d 1 true [d]
    if code ≠ 0 then refuseWrite s d code
    else
      let s := beginForced (s.modDom d (fun x => { x with target := 1 })) d
      admitAll 16 (takeCourse s d)

/-- A write of PWR_DOM_CTRL: CLEAR, then CYCLE or the target (Table 12-10). -/
def writeDomCtrl (s : State) (d v : Nat) : State :=
  if !isDomain d then s
  else if s.pwr.commit then refuseWrite s d (refusal s d (bits v 1 0) (v.testBit 8) [d])
  else
    let s := if v.testBit 10 then clearFault s d else s
    if v.testBit 9 then cycleDomain s d
    else
      let t := bits v 1 0
      let code := refusal s d t (v.testBit 8) [d]
      if code ≠ 0 then refuseWrite s d code else admitAll 16 (setTarget s d t)

/-- A target given to every selected domain at once, unless it is refused for one (R432, R433). -/
def groupTarget (s : State) (sel : List Nat) (t : Nat) (override : Bool) : State :=
  match sel.find? (fun d => decide (refusal s d t override sel ≠ 0)) with
  | some d => refuseWrite s d (refusal s d t override sel)
  | none =>
    let s := s.modPwr (fun p => { p with group := sel, groupTarget := t })
    checkGroup (admitAll 16 (s.each sel (fun s d => setTarget s d t)))

/-- The domains that PWR_GROUP_SEL selects. -/
def selectedDomains (s : State) : List Nat := (List.range 177).filter (fun d => s.bitAt (Reg.pwrGroupSel (d / 32)) (d % 32))

/-- PWR_DOM_CTRL written with a TARGET (R425, R433). -/
def execDomainTargetWrite (who : Requester) (domain : Nat) (val : BitVec 32) (s : State) : Out :=
  .next (s.writeGuard who (Reg.pwrDomCtrl domain) (fun s => writeDomCtrl s domain val.toNat))

/-- PWR_GROUP_TARGET written (R432). -/
def execDomainGroupTarget (who : Requester) (val : BitVec 32) (s : State) : Out :=
  .next (s.writeGuard who Reg.pwrGroupTarget (fun s =>
    groupTarget s (selectedDomains s) (bits val.toNat 1 0) (val.toNat.testBit 8)))

/-- PWR_DOM_CTRL written with CYCLE (R436). -/
def execDomainCycle (who : Requester) (domain : Nat) (val : BitVec 32) (s : State) : Out :=
  .next (s.writeGuard who (Reg.pwrDomCtrl domain) (fun s => writeDomCtrl s domain val.toNat))

/-- PWR_DOM_CTRL written with CLEAR (R437). -/
def execDomainClear (who : Requester) (domain : Nat) (val : BitVec 32) (s : State) : Out :=
  .next (s.writeGuard who (Reg.pwrDomCtrl domain) (fun s => writeDomCtrl s domain val.toNat))

/-! ### The sequencer's events (R420 to R422) -/

/-- The drain condition of Table 12-3, as far as it shows in the state. (DEDUCED, log 86) -/
def drainMet (s : State) (d : Nat) : Bool :=
  if d < 24 then
    (List.range 4).all (fun t =>
      let h := s.thread d t
      (decide (h.st = .stopped) || decide (h.st = .halted)) && h.loads.isEmpty)
      && queuedFlits s d = 0 && !s.fab.held.any (sentBy s d)
      && (let x := s.tar (d / 3)
          let mine (i : TInstr) : Bool := decide (i.thread / 4 = d % 3)
          !x.queue.any mine && !(match x.run with | some r => mine r.ins | none => false))
  else if d < 56 then
    let x := s.tar ((d - 24) / 4)
    if d % 4 = 0 then x.run.isNone && x.queue.isEmpty && childrenOff s d else !x.qactive.testBit (d % 4)
  else if d < 120 then true
  else if 126 ≤ d ∧ d < 132 then (s.decEngine (d - 126)).job.isNone
  else if d = 132 then !s.enc.busy
  else if 137 ≤ d ∧ d < 145 then decide ((s.engine false (d - 137)).phase = .idle)
  else if 145 ≤ d ∧ d < 153 then decide ((s.engine true (d - 145)).phase = .idle)
  else if 153 ≤ d ∧ d < 161 then (s.tar (d - 153)).run.isNone
  else if d = 165 ∨ d = 166 then !s.bitAt (Reg.camPortCtrl (d - 165)) 0
  else if d = 167 then !s.bitAt Reg.vehPortCtrl 0
  else if d = 169 ∨ d = 170 then !s.bitAt (Reg.itdCtrl (d - 169)) 0 && (s.port (d - 169)).txq.isEmpty && (s.port (d - 169)).txWait.isEmpty
  else if d = 171 then [BayPhase.empty, .safe, .offline].contains s.bay.phase
  else if d = 172 then !s.sys.hostUp
  else true

/-- In DRAIN with the condition met. -/
def mayLeaveDrain (s : State) (d : Nat) : Bool := decide ((s.dom d).step = .drain) && drainMet s d

/-- The drain has ended: step CLK_STOP. -/
def leaveDrain (s : State) (d : Nat) : State := s.modDom d (fun x => { x with step := .clkStop, since := s.now })

/-- DRAIN_COMPLETE (R422, R432): the eight groups of a slice that a group write takes down leave DRAIN together. -/
def execDrainComplete (domain : Nat) (s : State) : Out :=
  if !isDomain domain then .next s
  else if mayLeaveDrain s domain then
    let together := decide (56 ≤ domain) && decide (domain < 120) && (sliceDomains domain).all (fun g => s.pwr.group.contains g)
    if together then
      .next (if (sliceDomains domain).all (mayLeaveDrain s) then s.each (sliceDomains domain) leaveDrain else s)
    else .next (leaveDrain s domain)
  else .next s

/-- DRAIN_TIMEOUT in ns. -/
def drainTimeout (s : State) : Nat := us (Nat.max 1 (s.fldAt Reg.pwrCfg 31 16))

/-- DRAIN_FAIL (R422): the condition has not held within DRAIN_TIMEOUT; the domain is ON again, and so is its target. -/
def execDrainFail (domain : Nat) (s : State) : Out :=
  if !isDomain domain then .next s
  else
    let x := s.dom domain
    if x.st = .draining ∧ x.step = .drain ∧ s.past x.since (drainTimeout s) ∧ !drainMet s domain then
      let s := s.modDom domain (fun x => { x with st := .on, step := .none, target := 1, drainFail := true })
      .next ((s.raise Reg.pwrIrqStat 2).count Reg.pwrDrainFails)
    else .next s

/-- The next step of a shut-down, or its reversal where ON has been written meanwhile (R426). -/
def stepOr (s : State) (d : Nat) (next : State → State) : State :=
  let x := s.dom d
  if x.target = 1 ∧ !x.forced then reverseCourse s d else next s

/-- An atomic step, the precharge or the clock start ends (Tables 12-2 and 12-4). -/
def endStep (s : State) (d : Nat) : State :=
  let goTo (st : DomStep) (s : State) : State := s.modDom d (fun x => { x with step := st, since := s.now })
  match (s.dom d).step with
  | .clkStop => stepOr (holdIslands s d) d (goTo .isolate)
  | .isolate => stepOr (s.modDom d (fun x => { x with isolated := true })) d (goTo .reset)
  | .reset =>
    let s := (resetDomain s d).modDom d (fun x => { x with inReset := true })
    stepOr s d (fun s => goTo .switch (s.modDom d (fun x => { x with lowered := decide (x.target = 2) && !x.forced })))
  | .switch =>
    if (s.dom d).lowered then
      if (s.dom d).target = 0 then goTo .switch (s.modDom d (fun x => { x with lowered := false }))
      else stepOr s d (fun s => reachRetained s d)
    else openSwitches s d
  | .reversing => reachOn (s.when ((domainIslands d).any (fun i => (s.island i).held)) (fun s => restartIslands s d)) d
  | .precharge => s.modDom d (fun x => { x with step := .close })
  | .clock => goTo .release (restartIslands s d)
  | .release => reachOn s d
  | _ => s

/-- SEQUENCER_STEP_DONE (R420, R421). -/
def execSequencerStepDone (domain : Nat) (s : State) : Out :=
  if !isDomain domain then .next s else .next (endStep s domain)

/-- WAKE_ADMIT (R430): a place is free, and this domain is the next. -/
def execWakeAdmit (domain : Nat) (s : State) : Out :=
  if !isDomain domain then .next s
  else .next (if wakingNow s < maxWake s ∧ nextAdmitted s = some domain then admitWake s domain else s)

/-- SUPPLY_GOOD (R421): the switches are closed, or the retention supply is raised; step CLOCK. -/
def execSupplyGood (domain : Nat) (s : State) : Out :=
  if !isDomain domain then .next s
  else
    let x := s.dom domain
    .next (if x.step = .close ∨ x.step = .raise then
      s.modDom domain (fun x => { x with step := .clock, swClosed := true, since := s.now }) else s)

/-! ### Faults (R437, R438, R499) -/

/-- TARGET ON for a domain, and for all groups of an interleaved slice together (R432). -/
def targetOn (s : State) (d : Nat) : State :=
  if interleavedGroup s d then groupTarget s (sliceDomains d) 1 false else writeDomCtrl s d 1

/-- A faulted domain is OFF: Tymor writes CLEAR followed by TARGET ON once; one that faults again stays OFF and is logged (R499). -/
def tryAgain (s : State) (d : Nat) : State :=
  if (s.dom d).fault = 0 ∨ s.sys.jumpAt.isNone then s
  else if s.pwr.retried.contains d then s.logRule 499 d
  else targetOn (writeDomCtrl (s.modPwr (fun p => { p with retried := p.retried ++ [d] })) d 0x400) d

/-- DISCHARGE_DONE (R420): the domain is below its off threshold. -/
def execDischargeDone (domain : Nat) (s : State) : Out :=
  if !isDomain domain then .next s
  else .next (if (s.dom domain).step = .discharge then tryAgain (reachOff s domain) domain else s)

/-- A fault of Table 12-8 recorded; a locked domain asks for a device reset, and the children of another go forced to OFF. On a domain of
the alarm partition it leads to reason 0x01, until a frame is detected again (R43, R499). (DEDUCED, log 151) -/
def faultDomain (s : State) (d code bit : Nat) : State :=
  let s := s.modDom d (fun x => { x with fault := code, queued := none })
  let s := (s.raise Reg.pwrIrqStat bit).count Reg.pwrSwFaults
  let s := sageEval (s.when (domainAlarm s d) (fun s => s.modSage (fun g => { g with blind := true })))
  if domLocked d then requestWarm s 4 d
  else s.each ((childrenOf d).filter (fun k => decide ((s.dom k).st ≠ .off))) (fun s k =>
    beginForced (s.modDom k (fun x => { x with depWait := true })) k)

/-- SW_OPEN (Table 12-8): supply good not reached 25 µs after admission. -/
def execSwOpen (domain : Nat) (s : State) : Out :=
  if !isDomain domain then .next s
  else
    let x := s.dom domain
    if (x.step = .precharge ∨ x.step = .close) ∧ s.past x.since (us 25) then
      .next (openSwitches (faultDomain s domain 1 4) domain)
    else .next s

/-- STUCK_ON (Table 12-8): not below the off threshold 40 µs after the switches opened; reported OFF. -/
def execStuckOn (domain : Nat) (s : State) : Out :=
  if !isDomain domain then .next s
  else
    let x := s.dom domain
    if x.step = .discharge ∧ s.past x.since (us 40) then .next (tryAgain (reachOff (faultDomain s domain 2 5) domain) domain) else .next s

/-- DROOP (Table 12-8): forced to OFF. -/
def execDroop (domain : Nat) (s : State) : Out :=
  if !isDomain domain then .next s
  else
    let x := s.dom domain
    if x.st = .on ∨ x.st = .waking ∨ x.st = .draining then .next (beginForced (faultDomain s domain 3 6) domain) else .next s

/-- RET_DROOP (Table 12-8): the arrays are lost, and the domain is OFF. -/
def execRetDroop (domain : Nat) (s : State) : Out :=
  if !isDomain domain then .next s
  else if (s.dom domain).st = .retained then
    .next (tryAgain (reachOff ((faultDomain s domain 4 7).modDom domain (fun x => { x with retLost := true })) domain) domain)
  else .next s

/-- ISO (Table 12-8): the clamp's read-back differs from its command; forced to OFF. -/
def execIso (domain : Nat) (s : State) : Out :=
  if !isDomain domain then .next s
  else
    let s := beginForced (faultDomain s domain 5 8) domain
    .next (if (s.dom domain).st = .off then tryAgain s domain else s)

/-- A step that is atomic (R420). (DEDUCED, log 87) -/
def atomicStep (x : DomStep) : Bool := [DomStep.clkStop, .isolate, .reset, .switch, .release].contains x

/-- STEP_LATE (Table 12-8): isolation and reset held, the islands held stopped, the switches opened. -/
def execStepLate (domain : Nat) (s : State) : Out :=
  if !isDomain domain then .next s
  else
    let x := s.dom domain
    if atomicStep x.step ∧ s.past x.since (us 2) then
      let s := resetDomain (holdIslands (faultDomain s domain 6 10) domain) domain
      .next (openSwitches (s.modDom domain (fun x => { x with isolated := true, inReset := true })) domain)
    else .next s

end Sys2Proof.Machine
end

