-- ==== Sys2Proof/Machine/BootRec.lean ====
section
/-! DEFINITION. The boot flash as bytes, and the boot control records in it (R507, R509, Table 15-5). -/
namespace Sys2Proof.Machine

open Sys2Proof

/-- An erased byte. -/
def flashErased (_ : Nat) : Byte := 0xFF

/-- A byte of the flash; n bytes; a byte and bytes set. -/
def State.flashByte (s : State) (a : Nat) : Byte := get flashErased s.sys.flash a
def State.flashBytes (s : State) (a n : Nat) : List Byte := (List.range n).map (fun i => s.flashByte (a + i))
def State.setFlashByte (s : State) (a : Nat) (b : Byte) : State := { s with sys := { s.sys with flash := put flashErased s.sys.flash a b } }
def State.setFlash (s : State) (a : Nat) (l : List Byte) : State :=
  match l with
  | [] => s
  | b :: t => (s.setFlashByte a b).setFlash (a + 1) t

/-- The flash addresses lo to hi - 1 erased. -/
def State.eraseFlash (s : State) (lo hi : Nat) : State :=
  { s with sys := { s.sys with flash := s.sys.flash.filter (fun e => decide (e.1 < lo) || decide (hi ≤ e.1)) } }

def State.modSys (s : State) (f : Sys → Sys) : State := { s with sys := f s.sys }

/-- The flash addresses lo to lo + n - 1 filled with the bytes f 0 to f (n - 1). -/
def State.fillFlash (s : State) (lo n : Nat) (f : Nat → Byte) : State :=
  let new := (List.range n).filterMap (fun i => if f i = 0xFF then none else some (lo + i, f i))
  s.modSys (fun y => { y with
    flash := y.flash.filter (fun e => decide (e.1 < lo)) ++ new ++ y.flash.filter (fun e => decide (lo + n ≤ e.1)) })

/-- A boot control record (Table 15-5). States: 0 EMPTY, 1 VALID, 2 TRIAL, 3 BAD. -/
structure BootRec where
  active : Nat
  stateA : Nat
  stateB : Nat
  trialsA : Nat
  trialsB : Nat
  pkg : Nat
  seq : Nat
  versionA : Nat
  versionB : Nat
  deriving DecidableEq, Repr

/-- What holds where no record is valid (R513). -/
def noRecord : BootRec :=
  { active := 0, stateA := 1, stateB := 1, trialsA := 0, trialsB := 0, pkg := 0, seq := 0, versionA := 0, versionB := 0 }

/-- State and trials of a firmware slot, 0 A or 1 B. -/
def BootRec.state (r : BootRec) (x : Nat) : Nat := if x = 0 then r.stateA else r.stateB
def BootRec.trials (r : BootRec) (x : Nat) : Nat := if x = 0 then r.trialsA else r.trialsB
def BootRec.setState (r : BootRec) (x st : Nat) : BootRec := if x = 0 then { r with stateA := st } else { r with stateB := st }
def BootRec.setTrials (r : BootRec) (x n : Nat) : BootRec := if x = 0 then { r with trialsA := n } else { r with trialsB := n }
def BootRec.setVersion (r : BootRec) (x v : Nat) : BootRec := if x = 0 then { r with versionA := v } else { r with versionB := v }

/-- "VBCR", little-endian. -/
def recMagic : Nat := 0x5243_4256

/-- The 64 bytes of a record, with its CRC. -/
def recordBytes (r : BootRec) : List Byte :=
  let l := bytesOf 4 recMagic ++ bytesOf 1 1 ++ bytesOf 1 r.active ++ bytesOf 1 r.stateA ++ bytesOf 1 r.stateB
    ++ bytesOf 1 r.trialsA ++ bytesOf 1 r.trialsB ++ bytesOf 1 r.pkg ++ bytesOf 5 0 ++ bytesOf 8 r.seq
    ++ bytesOf 4 r.versionA ++ bytesOf 4 r.versionB ++ bytesOf 28 0
  l ++ bytesOf 4 (crc32 l).toNat

/-- The record at place n of the boot control area, if it is one with a good CRC. -/
def recordAt (s : State) (n : Nat) : Option BootRec :=
  let l := s.flashBytes (64 * n) 64
  let u (o k : Nat) : Nat := ofBytes ((l.drop o).take k)
  if u 0 4 = recMagic ∧ u 4 1 = 1 ∧ u 60 4 = (crc32 (l.take 60)).toNat then
    some { active := u 5 1, stateA := u 6 1, stateB := u 7 1, trialsA := u 8 1, trialsB := u 9 1, pkg := u 10 1, seq := u 16 8
           versionA := u 24 4, versionB := u 28 4 }
  else none

/-- The governing record and its place: the good one with the highest seq (R509). -/
def governing (s : State) : Option (Nat × BootRec) :=
  (List.range 128).foldl (fun (m : Option (Nat × BootRec)) n => match recordAt s n, m with
    | some r, some b => if b.2.seq < r.seq then some (n, r) else m
    | some r, none => some (n, r)
    | none, m => m) none

/-- The record in force. -/
def bootRecord (s : State) : BootRec :=
  match governing s with
  | some r => r.2
  | none => noRecord

/-- Place n is erased. -/
def erasedPlace (s : State) (n : Nat) : Bool := (s.flashBytes (64 * n) 64).all (fun b => decide (b = 0xFF))

/-- A record appended with the next seq: after the governing one in its sector, else at the start of the other sector, after
which the full one is erased (R509). (DEDUCED, log 139) -/
def appendRecord (s : State) (r : BootRec) : State :=
  let r := { r with seq := (bootRecord s).seq + 1 }
  match governing s with
  | none => match (List.range 64).find? (erasedPlace s) with
    | some n => s.setFlash (64 * n) (recordBytes r)
    | none => (s.eraseFlash 0 0x1000).setFlash 0 (recordBytes r)
  | some (g, _) =>
    match ((List.range 64).map (fun i => g / 64 * 64 + i)).find? (fun n => decide (g < n) && erasedPlace s n) with
    | some n => s.setFlash (64 * n) (recordBytes r)
    | none =>
      let o := 1 - g / 64
      ((s.eraseFlash (0x1000 * o) (0x1000 * o + 0x1000)).setFlash (0x1000 * o) (recordBytes r)).eraseFlash (0x1000 * (g / 64)) (0x1000 * (g / 64) + 0x1000)

end Sys2Proof.Machine
end

