-- ==== Sys2Proof/Machine/Triggers.lean ====
section
/-! DEFINITION. The triggers of R26 that come from the cab and from VEH, and the retention of clusters 4 to 7 that they end
(R26, R94, R95, R489). -/
namespace Sys2Proof.Machine

open Sys2Proof

/-- The PX cores and the bank groups of a cluster. -/
def clusterCores (c : Nat) : List Nat := [3 * c, 3 * c + 1, 3 * c + 2]
def clusterGroups (c : Nat) : List Nat := (List.range 8).map (fun g => 56 + 8 * c + g)

/-- The PX cores and the slice of a cluster given a target: core by core, and the groups as one group write (R432, R489). -/
def targetCluster (s : State) (c t : Nat) : State :=
  let core (s : State) (d : Nat) : State := if refusal s d t false [d] = 0 then setTarget s d t else s
  groupTarget (admitAll 16 (s.each (clusterCores c) core)) (clusterGroups c) t false

/-- A cluster that Tymor has taken to RETAINED. -/
def clusterRetained (s : State) (c : Nat) : Bool :=
  (clusterCores c ++ clusterGroups c).any (fun d => decide ((s.dom d).target = 2))

/-- A trigger wakes clusters 4 to 7 from RETAINED (R489). -/
def wakeNarration (s : State) : State :=
  ([4, 5, 6, 7].filter (clusterRetained s)).foldl (fun s c => targetCluster s c 1) (s.modTram (fun t => { t with busyAt := s.now }))

/-- A sample of an input at a level, which may complete its run (R95, R96); the debounced state then changes: releases open and end
windows, EMERG_HANDLE triggers a clip, CAB_ACTIVE and REVERSE govern cab and direction. (DEDUCED, log 112) -/
def execCabInputDebounced (input : Fin 8) (level : Bool) (s : State) : Out :=
  let i : Nat := input
  let s := sampleInput s i level
  if inputOn s i = level ∨ !runComplete s i then .next s
  else
    let set (b : BitVec 8) : BitVec 8 := if level then b ||| (1#8 <<< i) else b &&& ~~~(1#8 <<< i)
    let s1 := withPattern s (fun s => s.modCab (fun c => { c with
      inputs := set c.inputs, inAt := put (fun _ => 0) c.inAt i s.now }))
    let s2 := (s1.irq 12)
    let s3 := if i ≤ 1 then followDoors (if level then openWindows s2 (fun d => num d.right = i) else s2) else s2
    let s4 := if i = 4 ∧ level then wakeNarration (trigger s3 1 s3.fab.slot (saloonSlots s3) 0).1 else s3
    let s5 := if i = 3 ∧ !level then stopView s4 else s4
    .next (if i = 2 ∨ i = 3 then followCab (followDirection s5) else s5)

/-- An operator request and its reply (R94); one of another version is dropped (R83), one under another ComId is none (Table 3-2). -/
def execOperatorRequest (head : RequestHead) (carSlot : Byte) (slots : BitVec 16) (requestId : BitVec 32) (s : State) : Out :=
  let reply (s : State) (result incident : Nat) : Out :=
    .next (sendTelegram s 51 s.fab.slot (bytesBE 1 1 ++ bytesBE 1 result ++ bytesBE 2 0 ++ bytesBE 4 requestId.toNat ++ bytesBE 4 incident))
  if !s.veh.linkUp ∨ head.comId.toNat ≠ comIdOf s 50 then .next s
  else if head.version ≠ 1 then .next (s.count Reg.vehTrdpDrop)
  else if !servesCar s carSlot.toNat || decide (slots = 0)
      || (List.range 16).any (fun k => slots.getLsbD k && (decide (12 ≤ k) || slotClass s k = 0)) then reply s 1 0
  else
    let (s1, id) := trigger s 2 carSlot.toNat (slots.setWidth 12) requestId
    let narrated := s1.tram.incidents.any (fun i => i.id = id && i.narrate)
    reply (wakeNarration s1) (if narrationShed s then 3 else if narrated then 0 else 2) id

/-- When clusters 4 to 7 have had no narration or adopted work for 60 s, a cluster of them goes to RETAINED (R489). -/
def execClusterRetain (cluster : Fin 8) (s : State) : Out :=
  let c : Nat := cluster
  let idle := s.past s.tram.busyAt (sec 60) && (narrating s).isNone && s.tram.adopted.isEmpty
  if 4 ≤ c ∧ idle ∧ !clusterRetained s c then .next (targetCluster s c 2) else .next s

end Sys2Proof.Machine
end

