-- ==== Sys2Proof/Machine/Sage.lean ====
section
/-! DEFINITION. The Sage pair at work: object lists, timers, its lockstep and watchdogs, and the status block (chapter 14). -/
namespace Sys2Proof.Machine

open Sys2Proof

/-- Sage runs its code: it has been loaded and is not LATCHED. (DEDUCED, log 125) -/
def sageWorks (s : State) : Bool := decide (s.sage.st = .selftest) || decide (s.sage.st = .safe) || decide (s.sage.st = .run)

/-! ### The status block (R480) -/

/-- The status block in DRAM window 0, where that holds 64 bytes: the sequence number and bytes 1 to 31 of the own dataset. (DEDUCED, log 128) -/
def writeStatus (s : State) : State :=
  let s := sageEval (s.modSage (fun g => { g with statusSeq := (g.statusSeq + 1) % 2 ^ 32, statusAt := s.now, statusStale := false }))
  let base := addrLocal (s.reg (Reg.sgeWinBase 0)).toNat
  match targetOf s base with
  | .dram _ => if 64 ≤ (s.reg (Reg.sgeWinSize 0)).toNat then
      putData s base ((bytesOf 4 s.sage.statusSeq ++ (ownDataset s).drop 1 ++ List.replicate 64 0).take 64) else s
  | _ => s

/-- SAGE_STATUS_BLOCK (R480): every 1 ms. -/
def execSageStatusBlock (s : State) : Out :=
  .next (if sageWorks s ∧ s.past s.sage.statusAt (ms 1) then writeStatus s else s)

/-- SAGE_STATUS_STALE (R480): the sequence number has not changed for 20 ms. (DEDUCED, log 127) -/
def execSageStatusStale (s : State) : Out :=
  .next (if s.past s.sage.statusAt (ms 20) then sageEval (s.modSage (fun g => { g with statusStale := true })) else s)

/-! ### Object lists (R19, R472 to R478, R557, R558) -/

/-- An object entry as Sage uses it (Table 14-6), with its place in the list. -/
structure ListObj where
  index : Nat
  d : Nat
  edge : Int
  deriving DecidableEq, Repr

/-- Where buffer A or B begins. -/
def bufferBase (b : Bool) : Nat := inboxBase + (if b then 0x1000 else 0)

/-- path_start of the list in a buffer. -/
def pathStart (s : State) (b : Bool) : Nat := s.load (bufferBase b + 16) 8

/-- The objects of the list. -/
def listObjects (s : State) (b : Bool) (n : Nat) : List ListObj :=
  (List.range n).map (fun i =>
    let o := bufferBase b + 32 + 32 * i
    { index := i, d := s.load (o + 4) 4, edge := sext (s.load (o + 8) 4) 32 })

/-- The objects that qualify, those in the swept path first, each group by rising d (R476). -/
def qualified (s : State) (l : List ListObj) : List ListObj :=
  let order (a b : ListObj) : Bool := decide (a.d ≤ b.d)
  sortBy order (l.filter (fun o => decide (o.edge ≤ 0))) ++ sortBy order (l.filter (fun o => inNear s o.edge))

/-- The track that an object makes: the package's code names the track and estimates v_o, which is 0 until three frames exist
(R16, R558); an object for which it names none begins a track. (DEDUCED, log 124) -/
def trackOf (old : List Track) (assoc : List Assoc) (o : ListObj) : Track :=
  match assoc[o.index]? with
  | none => { id := 0x1_0000 + o.index, d := o.d, edge := o.edge, vo := 0, frames := 1 }
  | some a =>
    let n := match old.find? (fun t => t.id = a.track) with
      | some t => t.frames + 1
      | none => 1
    { id := a.track, d := o.d, edge := o.edge, vo := if 3 ≤ n then a.vo else 0, frames := n }

/-- The highest level over the tracks (R18). -/
def topLevel (s : State) (l : List Track) : Nat := (l.map (trackLevel s)).foldl Nat.max 0

/-- The level with the hold of R19: level k stands while the frame raises it, or begins less than 1.0 s after the last that
did. -/
def heldLevel (v : CarView) (level start : Nat) : Nat :=
  ([1, 2, 3].filter (fun k => decide (k ≤ level) || (get (fun _ => none) v.raised k).any (fun t => decide (start < t + sec 1)))).foldl Nat.max 0

/-- A car's view after a detected frame. -/
def nextView (s : State) (v : CarView) (tracks : List Track) (start : Nat) : CarView :=
  let level := topLevel s tracks
  let now := heldLevel v level start
  { v with
    tracks := tracks, level := now, levelAt := if now = v.level then v.levelAt else ptpNs s
    raised := [1, 2, 3].foldl (fun r k => if k ≤ level then put (fun _ => none) r k (some start) else r) v.raised
    ttc := ttcField s tracks, distance := distanceField s tracks }

/-- The path of an own frame: SGE_LAST_PATH, SGE_MAX_PATH, and a late one (R478). -/
def measurePath (s : State) (start : Nat) : State :=
  let t := (s.now - start) / 1000
  let w := min 0xFF_FFFF t
  let s := (s.setReg Reg.sgeLastPath (BitVec.ofNat 64 w)).setReg Reg.sgeMaxPath (BitVec.ofNat 64 (Nat.max w (s.reg Reg.sgeMaxPath).toNat))
  if ms 20 < s.now - start then ((s.count Reg.sgeLate).raise Reg.sgeIrqStat 3).modSage (fun g => { g with lateAt := some s.now }) else s

/-- A fault of R41 ends with a detected frame, once it has cleared and a self-test has passed since. -/
def releaseFault (s : State) : State :=
  if s.sage.held && !faultLatched s && !s.cab.extDrive && s.cab.passAt.any (fun t => decide (s.sage.safeSince ≤ t)) then
    s.modSage (fun g => { g with held := false, faulted := false })
  else s

/-- Reason 0x06 ends with a detected frame, once the package is verified, the slot RUNNING and a self-test passed, unless
a start-up failure keeps it (R45, R523). (DEDUCED, log 137) -/
def endStarting (s : State) (k : Nat) : State :=
  if !s.tram.started && decide (s.fldAt Reg.bootStat 15 8 = 0) && s.pkgs.warning.isSome && decide ((s.slot k).st = .running) && s.cab.passAt.isSome then
    ({ s with tram := { s.tram with started := true }, sys := { s.sys with servicesAt := some s.now } }).setFldAt Reg.bootStat 5 3 2
  else s

/-- A detected frame of a car: its tracks and level; for the own car the path, the faults and the pattern too (R41, R45, R557). -/
def detectedFrame (s : State) (car k n start : Nat) (b survivor : Bool) (assoc : List Assoc) : State :=
  let v := s.car car
  let q := qualified s (listObjects s b n)
  let left := q.length - 64
  let s := if left = 0 then s else (s.countBy Reg.sgeTrackDrop left).raise Reg.sgeIrqStat 6
  let view := nextView s v ((q.take 64).map (trackOf v.tracks assoc)) start
  let own := decide (car = s.fab.slot)
  let update (s : State) : State := s.setCar car view
  let s := if own then
      let s := s.modSage (fun g => { g with detectedAt := some s.now, blind := false })
      let s := if survivor then s else measurePath s start
      endStarting (releaseFault (withPattern s update)) k
    else update s
  let s := if v.level < 3 ∧ view.level = 3 then wakeNarration (trigger s 0 car (1#12 <<< k) 0).1 else s
  sageEval s

/-- The other cars whose lists Sage has accepted, of those adopted. -/
def otherCars (s : State) : List Nat :=
  (List.range 8).filter (fun c => c ≠ s.fab.slot && (s.car c).lastPath.isSome && s.tram.adopted.any (fun a => a.lost = c))

/-- What Sage does with a whole list: it drops it, or accepts it and takes a detected frame (R475, R493, R497). -/
def takeList (s : State) (b : Bool) (assoc : List Assoc) : State :=
  let base := bufferBase b
  let n := s.load (base + 2) 1
  let car := s.load (base + 4) 1
  let k := s.load (base + 1) 1
  let start := pathStart s b
  let late := (s.car car).lastPath.any (fun t => decide (start ≤ t))
  let crowd := car ≠ s.fab.slot && !(otherCars s).contains car && decide (2 ≤ (otherCars s).length)
  if s.load base 1 ≠ 1 ∨ 127 < n ∨ late ∨ crowd then (s.count Reg.sgeListDrop).raise Reg.sgeIrqStat 4
  else
    let s := (s.count Reg.sgeFrames).setCar car { s.car car with lastPath := some start }
    let active := if car = s.fab.slot then activeSlot s else lostActive s car
    if active = some k then
      writeStatus (detectedFrame s car k n start b ((s.load (base + 3) 1).testBit 3) assoc)
    else s

/-- SAGE_LIST_TAKE (R475, R473, R498): a buffer whose counter is zero; of two, the older list first. Then the counter is re-armed
and the acceptance signal sent, and Tymor commits the frame's records (R339). -/
def execSageListTake (bufB : Bool) (assoc : List Assoc) (s : State) : Out :=
  let other := !bufB
  if !sageWorks s || decide (ccVal s 0x03C (num bufB) ≠ 0)
      || (decide (ccVal s 0x03C (num other) = 0) && decide (pathStart s other < pathStart s bufB)) then .next s
  else
    let s := takeList s bufB assoc
    let s := ccPut s 0x03C (num bufB) (ccVal s 0x03C (num bufB) + 32)
    let base := bufferBase bufB
    .next (commitWarning (sendSignal s 0x03C 0 2 (BitVec.ofNat 12 (s.load (base + 6) 2)) (s.load (base + 8) 1 % 64)))

/-! ### Timers of the decision (R17, R20, R43, R478) -/

/-- Three cycles of the vehicle-state dataset (R17, R86). -/
def staleAfter (s : State) : Nat := 3 * if s.bitAt Reg.vehVsCfg 0 then ms 100 else ms 10

/-- EGO_SPEED_STALE (R17): three cycles without a valid speed. -/
def execEgoSpeedStale (s : State) : Out :=
  .next (if s.sage.speedAt.any (fun t => s.past t (staleAfter s)) && !s.sage.stale then
    sageEval (s.modSage (fun g => { g with stale := true })) else s)

/-- How long the phase of the pattern lasts (Table 1-3). -/
def phaseTime (s : State) : Option Nat :=
  match patternOf s with
  | 1 => some (if s.sage.high then ms 100 else ms 900)
  | 2 => some (ms 250)
  | _ => none

/-- PATTERN_PHASE_TIMER (R20): the outputs toggle. -/
def execPatternPhaseTimer (s : State) : Out :=
  match phaseTime s with
  | none => .next s
  | some t =>
    if s.past s.sage.phaseAt t then
      .next (awaitPath (drivePair (s.modSage (fun g => { g with high := !g.high, phaseAt := s.now })) (!s.sage.high)) false false)
    else .next s

/-- DETECTION_TIMEOUT (R43): 200 ms without a detected frame of the active slot. -/
def execDetectionTimeout (s : State) : Out :=
  let since := Nat.max (s.sage.detectedAt.getD 0) s.sage.dirAt
  .next (if s.tram.started && (activeSlot s).isSome && !s.sage.blind && s.past since (ms 200) then
    sageEval (s.modSage (fun g => { g with blind := true })) else s)

/-- LATE_CLEAR (R478): 1 s without a late frame. -/
def execLateClear (s : State) : Out :=
  .next (if s.sage.lateAt.any (fun t => s.past t (sec 1)) then sageEval (s.modSage (fun g => { g with lateAt := none })) else s)

/-- SAGE_VEHICLE_AREA (R479): Sage takes the vehicle area when counter 2 reaches zero, and re-arms it. The ego speed is refreshed, as of
the time of acceptance, only by a valid one (R86). (DEDUCED, log 129) -/
def execSageVehicleArea (s : State) : Out :=
  if !sageWorks s || decide (ccVal s 0x03C 2 ≠ 0) then .next s
  else
    let a := inboxBase + 0x2000
    let s := ccPut s 0x03C 2 1
    let flags := s.load a 1
    let valid := flags.testBit 0
    let accepted := s.load (a + 8) 8
    let s := s.modSage (fun g => { g with
      flags := flags, runDir := s.load (a + 1) 1, speed := if valid then s.load (a + 2) 2 else g.speed
      speedAt := if valid then some accepted else g.speedAt
      stale := g.stale && !(valid && !s.past accepted (staleAfter s)) })
    .next (sageEval (followDirection s))

/-! ### Start and restart of Sage (R474, R481, R482, R502) -/

/-- Sage starts: counters armed, inbox mask set, self-test (R474, R502). -/
def startSage (s : State) : State :=
  let s := ccPut (ccPut (ccPut s 0x03C 0 32) 0x03C 1 32) 0x03C 2 1
  let s := (s.setReg (Reg.sgeInboxMask 0) 0x3F03F#64).setReg (Reg.sgeInboxMask 1) 0x0F00_0000#64
  s.modSage (fun g => { g with st := .selftest, kickAt := s.now, beatAt := s.now, hbMissed := false, dir := directionFrom s g.runDir, dirAt := s.now })

/-- The SAGE reset of an event (R481): SGE_IRQ_STAT, the counters, SGE_MAX_PATH and the record of events stay; Sage sets its
windows as they were. -/
def resetSage (s : State) : State :=
  let s := ((s.resetRegs Reg.sgeIrqEn (Reg.sgeWinBase 0)).setReg Reg.sgeLastPath 0).resetRegs Reg.sgeCcSel Reg.sgeFrames
  let s := s.setCcSet 0x03C (ccReset 0x03C)
  s.modSage (fun g => { sageReset with
    events := g.events, faulted := true, held := true, safeSince := s.now, statusSeq := g.statusSeq, statusAt := g.statusAt
    statusStale := g.statusStale })

/-- A lockstep mismatch, or a watchdog expiry: the pair safe, and Sage restarts; the third event within 1 h latches it (R481,
R482). (DEDUCED, log 126) -/
def sageEvent (s : State) (wdog : Bool) : State :=
  let s := (s.count (if wdog then Reg.sgeWdogExp else Reg.sgeLsMismatch)).raise Reg.sgeIrqStat (num wdog)
  let s := sageSafe s
  let s := s.modSage (fun g => { g with events := g.events.filter (fun t => decide (s.now < t + sec 3600)) ++ [s.now] })
  let s := resetSage s
  if 3 ≤ s.sage.events.length then sageEval (s.modSage (fun g => { g with st := .latched }))
  else sageEval ((startSage s).raise Reg.sgeIrqStat 5)

/-- LOCKSTEP_MISMATCH (R481). -/
def execLockstepMismatch (s : State) : Out := .next (if sageWorks s then sageEvent s false else s)

/-- SAGE_WDOG_EXPIRY (R482): 5 ms without a kick. -/
def execSageWdogExpiry (s : State) : Out := .next (if sageWorks s ∧ s.past s.sage.kickAt (ms 5) then sageEvent s true else s)

/-- A write of SGE_WDOG: 0xA5 kicks, any other value is an expiry (R482). -/
def writeSageWdog (s : State) (v : Nat) : State :=
  if v % 256 = 0xA5 then s.modSage (fun g => { g with kickAt := s.now }) else if sageWorks s then sageEvent s true else s

/-- SGE_WDOG written by Sage. -/
def execSgeWdogKick (who : Requester) (val : BitVec 32) (s : State) : Out :=
  .next (s.writeGuard who Reg.sgeWdog (fun s => writeSageWdog s val.toNat))

/-- A write of SGE_HB: BEAT (R483). -/
def writeSageHb (s : State) (v : Nat) : State :=
  if v.testBit 0 then s.modSage (fun g => { g with beatAt := s.now, hbMissed := false }) else s

/-- SGE_HB written by a control core. -/
def execSgeHbBeat (who : Requester) (val : BitVec 32) (s : State) : Out :=
  .next (s.writeGuard who Reg.sgeHb (fun s => writeSageHb s val.toNat))

/-- HB_MISS (R483): 50 ms without a beat; Sage goes on driving the pair. -/
def execHbMiss (s : State) : Out :=
  .next (if sageWorks s ∧ !s.sage.hbMissed ∧ s.past s.sage.beatAt (ms 50) then
    (s.modSage (fun g => { g with hbMissed := true })).raise Reg.sgeIrqStat 2 else s)

/-- SAGE_HB_RESET_REQUEST (R483): 1 s without a beat asks for a device reset. -/
def execSageHbResetRequest (s : State) : Out :=
  .next (if sageWorks s ∧ s.past s.sage.beatAt (sec 1) then requestWarm s 3 0 else s)

/-- A write of SGE_CC_ADD: adds to the selected counter of endpoint 0x03C (R177). -/
def writeSageCcAdd (s : State) (v : BitVec 32) : State :=
  let cc := s.fldAt Reg.sgeCcSel 5 0
  ccPut s 0x03C cc (ccVal s 0x03C cc + v)

/-- SGE_CC_ADD written by Sage. -/
def execSgeCcAdd (who : Requester) (val : BitVec 32) (s : State) : Out :=
  .next (s.writeGuard who Reg.sgeCcAdd (fun s => writeSageCcAdd s val))

end Sys2Proof.Machine
end

