-- ==== Sys2Proof/Machine/PxScalar.lean ====
section
/-! DEFINITION. The scalar instructions of Table 6-3 (class 0b000): each is one syllable. -/
namespace Sys2Proof.Machine

open Sys2Proof

/-! ### Operations on 64 bits (R215, R217) -/

/-- 1 or 0. -/
def flag (b : Bool) : Word := if b then 1 else 0

/-- Shift amounts use the low 6 bits (R215). -/
def shamt (b : Word) : Nat := b.toNat % 64

/-- The high 64 bits of a product of integers. -/
def high (x : Int) : Word := BitVec.ofInt 64 (x / 2 ^ 64)

/-- Signed division towards zero: all ones by zero; −2⁶³ by −1 wraps to −2⁶³ (R217). -/
def divS (a b : Word) : Word := if b = 0 then BitVec.allOnes 64 else BitVec.ofInt 64 (a.toInt.tdiv b.toInt)

/-- Unsigned division: all ones by zero (R217). -/
def divU (a b : Word) : Word := if b = 0 then BitVec.allOnes 64 else a / b

/-- The signed remainder: the dividend by zero (R217). -/
def remS (a b : Word) : Word := if b = 0 then a else BitVec.ofInt 64 (a.toInt.tmod b.toInt)

/-- The unsigned remainder: the dividend by zero (R217). -/
def remU (a b : Word) : Word := if b = 0 then a else a % b

/-- How many of the top bits, from bit n - 1 down, are zero. -/
def leadingZeros (n : Nat) (a : Word) : Nat :=
  match n with
  | 0 => 0
  | n + 1 => if a.getLsbD n then 0 else leadingZeros n a + 1

/-- How many bits from bit i up are zero, looking at n of them. -/
def trailingZeros (n i : Nat) (a : Word) : Nat :=
  match n with
  | 0 => 0
  | n + 1 => if a.getLsbD i then 0 else trailingZeros n (i + 1) a + 1

/-- The bytes of a word in reverse order. -/
def reverseBytes (a : Word) : Word := BitVec.ofNat 64 (ofBytes (bytesOf 8 a.toNat).reverse)

/-- A signed immediate of n bits as a word (R214). -/
def imm {n : Nat} (i : BitVec n) : Word := i.signExtend 64

/-! ### Syllables -/

/-- An S syllable that writes f of two scalar registers (format SR). -/
def sylRR (rd rs1 rs2 : SReg) (f : Word → Word → Word) (th : Thread) : Syl :=
  { emptySyl 0 with reads := [.s rs1, .s rs2], wr := [.s rd (f (th.sreg rs1) (th.sreg rs2))] }

/-- An S syllable that writes f of one scalar register. -/
def sylR (rd rs1 : SReg) (f : Word → Word) (th : Thread) : Syl :=
  { emptySyl 0 with reads := [.s rs1], wr := [.s rd (f (th.sreg rs1))] }

/-- `sins`: 16 bits of rd replaced (format SW). -/
def sylIns (rd : SReg) (q : Nat) (i : BitVec 16) (th : Thread) : Syl :=
  { emptySyl 0 with reads := [.s rd], wr := [.s rd (setFld (th.sreg rd) (16 * q + 15) (16 * q) i.toNat)] }

/-- `mfc` (R210): an unlisted number, or a bit of imm16[15:12], raises cause 0x02. -/
def sylMfc (s : State) (x : Px) (rd : SReg) (i : BitVec 16) (_ : Thread) : Syl :=
  if tcrListed i.toNat then { emptySyl 0 with wr := [.s rd (readTcr s x.core x.thread i.toNat)] }
  else { emptySyl 0 with faults := [(0x02, 0)] }

/-- `mtc` (R209, R210) of the register imm16[11:0]: in task mode one marked M raises cause 0x03. -/
def sylMtc (rs : SReg) (i : BitVec 16) (th : Thread) : Syl :=
  let n := i.toNat % 4096
  { emptySyl 0 with
    reads := [.s rs], wr := if tcrListed n then [.tcr n (th.sreg rs)] else []
    faults := if !tcrListed n then [(0x02, 0)] else if tcrMonitor n && !th.monitor then [(0x03, 0)] else [] }

/-! ### The commands -/

/-- ADD (R215). -/
def execAdd (x : Px) (rd rs1 rs2 : SReg) (s : State) : Out := issue x s (sylRR rd rs1 rs2 (fun a b => a + b))

/-- SUB (R215). -/
def execSub (x : Px) (rd rs1 rs2 : SReg) (s : State) : Out := issue x s (sylRR rd rs1 rs2 (fun a b => a - b))

/-- AND (R215). -/
def execAnd (x : Px) (rd rs1 rs2 : SReg) (s : State) : Out := issue x s (sylRR rd rs1 rs2 (fun a b => a &&& b))

/-- OR (R215). -/
def execOr (x : Px) (rd rs1 rs2 : SReg) (s : State) : Out := issue x s (sylRR rd rs1 rs2 (fun a b => a ||| b))

/-- XOR (R215). -/
def execXor (x : Px) (rd rs1 rs2 : SReg) (s : State) : Out := issue x s (sylRR rd rs1 rs2 (fun a b => a ^^^ b))

/-- SLL (R215). -/
def execSll (x : Px) (rd rs1 rs2 : SReg) (s : State) : Out := issue x s (sylRR rd rs1 rs2 (fun a b => a <<< shamt b))

/-- SRL (R215). -/
def execSrl (x : Px) (rd rs1 rs2 : SReg) (s : State) : Out := issue x s (sylRR rd rs1 rs2 (fun a b => a >>> shamt b))

/-- SRA (R215). -/
def execSra (x : Px) (rd rs1 rs2 : SReg) (s : State) : Out := issue x s (sylRR rd rs1 rs2 (fun a b => a.sshiftRight (shamt b)))

/-- SLT (R215). -/
def execSlt (x : Px) (rd rs1 rs2 : SReg) (s : State) : Out := issue x s (sylRR rd rs1 rs2 (fun a b => flag (a.slt b)))

/-- SLTU (R215). -/
def execSltu (x : Px) (rd rs1 rs2 : SReg) (s : State) : Out := issue x s (sylRR rd rs1 rs2 (fun a b => flag (a.ult b)))

/-- MIN (R215). -/
def execMin (x : Px) (rd rs1 rs2 : SReg) (s : State) : Out := issue x s (sylRR rd rs1 rs2 (fun a b => if a.slt b then a else b))

/-- MAX (R215). -/
def execMax (x : Px) (rd rs1 rs2 : SReg) (s : State) : Out := issue x s (sylRR rd rs1 rs2 (fun a b => if a.slt b then b else a))

/-- MINU (R215). -/
def execMinu (x : Px) (rd rs1 rs2 : SReg) (s : State) : Out := issue x s (sylRR rd rs1 rs2 (fun a b => if a.ult b then a else b))

/-- MAXU (R215). -/
def execMaxu (x : Px) (rd rs1 rs2 : SReg) (s : State) : Out := issue x s (sylRR rd rs1 rs2 (fun a b => if a.ult b then b else a))

/-- ANDN (R215). -/
def execAndn (x : Px) (rd rs1 rs2 : SReg) (s : State) : Out := issue x s (sylRR rd rs1 rs2 (fun a b => a &&& ~~~b))

/-- SEL (R215): rs1 if rd is not zero, else rs2. -/
def execSel (x : Px) (rd rs1 rs2 : SReg) (s : State) : Out :=
  issue x s (fun th =>
    { emptySyl 0 with reads := [.s rd, .s rs1, .s rs2]
                      wr := [.s rd (if th.sreg rd ≠ 0 then th.sreg rs1 else th.sreg rs2)] })

/-- MUL (R215). -/
def execMul (x : Px) (rd rs1 rs2 : SReg) (s : State) : Out := issue x s (sylRR rd rs1 rs2 (fun a b => a * b))

/-- MULH (R215). -/
def execMulh (x : Px) (rd rs1 rs2 : SReg) (s : State) : Out := issue x s (sylRR rd rs1 rs2 (fun a b => high (a.toInt * b.toInt)))

/-- MULHU (R215). -/
def execMulhu (x : Px) (rd rs1 rs2 : SReg) (s : State) : Out := issue x s (sylRR rd rs1 rs2 (fun a b => high (a.toNat * b.toNat)))

/-- MULHSU (R215). -/
def execMulhsu (x : Px) (rd rs1 rs2 : SReg) (s : State) : Out := issue x s (sylRR rd rs1 rs2 (fun a b => high (a.toInt * b.toNat)))

/-- DIV (R217). -/
def execDiv (x : Px) (rd rs1 rs2 : SReg) (s : State) : Out := issue x s (sylRR rd rs1 rs2 (fun a b => divS a b))

/-- DIVU (R217). -/
def execDivu (x : Px) (rd rs1 rs2 : SReg) (s : State) : Out := issue x s (sylRR rd rs1 rs2 (fun a b => divU a b))

/-- REM (R217). -/
def execRem (x : Px) (rd rs1 rs2 : SReg) (s : State) : Out := issue x s (sylRR rd rs1 rs2 (fun a b => remS a b))

/-- REMU (R217). -/
def execRemu (x : Px) (rd rs1 rs2 : SReg) (s : State) : Out := issue x s (sylRR rd rs1 rs2 (fun a b => remU a b))

/-- CLZ (R215). -/
def execClz (x : Px) (rd rs1 : SReg) (s : State) : Out := issue x s (sylR rd rs1 (fun a => BitVec.ofNat 64 (leadingZeros 64 a)))

/-- CTZ (R215). -/
def execCtz (x : Px) (rd rs1 : SReg) (s : State) : Out := issue x s (sylR rd rs1 (fun a => BitVec.ofNat 64 (trailingZeros 64 0 a)))

/-- POPC (R215). -/
def execPopc (x : Px) (rd rs1 : SReg) (s : State) : Out := issue x s (sylR rd rs1 (fun a => BitVec.ofNat 64 (popCount a.toNat 64)))

/-- REV8 (R215). -/
def execRev8 (x : Px) (rd rs1 : SReg) (s : State) : Out := issue x s (sylR rd rs1 (fun a => reverseBytes a))

/-- ROR (R215). -/
def execRor (x : Px) (rd rs1 rs2 : SReg) (s : State) : Out := issue x s (sylRR rd rs1 rs2 (fun a b => a.rotateRight (shamt b)))

/-- ROL (R215). -/
def execRol (x : Px) (rd rs1 rs2 : SReg) (s : State) : Out := issue x s (sylRR rd rs1 rs2 (fun a b => a.rotateLeft (shamt b)))

/-- SEXT_B (R215). -/
def execSextB (x : Px) (rd rs1 : SReg) (s : State) : Out := issue x s (sylR rd rs1 (fun a => (a.setWidth 8).signExtend 64))

/-- SEXT_H (R215). -/
def execSextH (x : Px) (rd rs1 : SReg) (s : State) : Out := issue x s (sylR rd rs1 (fun a => (a.setWidth 16).signExtend 64))

/-- SEXT_W (R215). -/
def execSextW (x : Px) (rd rs1 : SReg) (s : State) : Out := issue x s (sylR rd rs1 (fun a => (a.setWidth 32).signExtend 64))

/-- ZEXT_W (R215). -/
def execZextW (x : Px) (rd rs1 : SReg) (s : State) : Out := issue x s (sylR rd rs1 (fun a => (a.setWidth 32).setWidth 64))

/-- MFC (R210). -/
def execMfc (x : Px) (rd : SReg) (imm16 : BitVec 16) (s : State) : Out := issue x s (sylMfc s x rd imm16)

/-- MTC (R209, R210). -/
def execMtc (x : Px) (rs : SReg) (imm16 : BitVec 16) (s : State) : Out := issue x s (sylMtc rs imm16)

/-- ADDI (R215). -/
def execAddi (x : Px) (rd rs1 : SReg) (imm10 : BitVec 10) (s : State) : Out :=
  issue x s (sylR rd rs1 (fun a => a + imm imm10))

/-- ANDI (R215). -/
def execAndi (x : Px) (rd rs1 : SReg) (imm10 : BitVec 10) (s : State) : Out :=
  issue x s (sylR rd rs1 (fun a => a &&& imm imm10))

/-- ORI (R215). -/
def execOri (x : Px) (rd rs1 : SReg) (imm10 : BitVec 10) (s : State) : Out :=
  issue x s (sylR rd rs1 (fun a => a ||| imm imm10))

/-- XORI (R215). -/
def execXori (x : Px) (rd rs1 : SReg) (imm10 : BitVec 10) (s : State) : Out :=
  issue x s (sylR rd rs1 (fun a => a ^^^ imm imm10))

/-- SLLI (R215). -/
def execSlli (x : Px) (rd rs1 : SReg) (imm10 : BitVec 10) (s : State) : Out :=
  issue x s (sylR rd rs1 (fun a => a <<< (imm10.toNat % 64)))

/-- SRLI (R215). -/
def execSrli (x : Px) (rd rs1 : SReg) (imm10 : BitVec 10) (s : State) : Out :=
  issue x s (sylR rd rs1 (fun a => a >>> (imm10.toNat % 64)))

/-- SRAI (R215). -/
def execSrai (x : Px) (rd rs1 : SReg) (imm10 : BitVec 10) (s : State) : Out :=
  issue x s (sylR rd rs1 (fun a => a.sshiftRight (imm10.toNat % 64)))

/-- SLTI (R215). -/
def execSlti (x : Px) (rd rs1 : SReg) (imm10 : BitVec 10) (s : State) : Out :=
  issue x s (sylR rd rs1 (fun a => flag (a.slt (imm imm10))))

/-- SLTIU (R215). -/
def execSltiu (x : Px) (rd rs1 : SReg) (imm10 : BitVec 10) (s : State) : Out :=
  issue x s (sylR rd rs1 (fun a => flag (a.ult (imm imm10))))

/-- MULI (R215). -/
def execMuli (x : Px) (rd rs1 : SReg) (imm10 : BitVec 10) (s : State) : Out :=
  issue x s (sylR rd rs1 (fun a => a * imm imm10))

/-- SLI (R215). -/
def execSli (x : Px) (rd : SReg) (imm16 : BitVec 16) (s : State) : Out :=
  issue x s (fun _ => { emptySyl 0 with wr := [.s rd (imm imm16)] })

/-- SINS1 (R215). -/
def execSins1 (x : Px) (rd : SReg) (imm16 : BitVec 16) (s : State) : Out := issue x s (sylIns rd 1 imm16)

/-- SINS2 (R215). -/
def execSins2 (x : Px) (rd : SReg) (imm16 : BitVec 16) (s : State) : Out := issue x s (sylIns rd 2 imm16)

/-- SINS3 (R215). -/
def execSins3 (x : Px) (rd : SReg) (imm16 : BitVec 16) (s : State) : Out := issue x s (sylIns rd 3 imm16)

/-- SPC (R215): the bundle address plus a word offset. -/
def execSpc (x : Px) (rd : SReg) (imm16 : BitVec 16) (s : State) : Out :=
  issue x s (fun th => { emptySyl 0 with wr := [.s rd (BitVec.ofNat 64 th.pc + imm imm16 * 4)] })

end Sys2Proof.Machine
end

