-- ==== Sys2Proof/Machine/PxCtl.lean ====
section
/-! DEFINITION. The branch, loop, control and tensor-issue instructions of Table 6-5 and R231 (classes 0b100, 0b101). -/
namespace Sys2Proof.Machine

open Sys2Proof

/-- A target that lies a signed number of words from the bundle (R229). (DEDUCED, log 33) -/
def branchTo (th : Thread) (off : Int) : Nat := wrap 48 (th.pc + off * 4)

/-- A conditional branch (format BC). -/
def sylBranch (rs1 rs2 : SReg) (off : BitVec 10) (cond : Word → Word → Bool) (th : Thread) : Syl :=
  { emptySyl 4 with reads := [.s rs1, .s rs2]
                    ctl := .jump (cond (th.sreg rs1) (th.sreg rs2)) (branchTo th off.toInt) none }

/-- A jump to a register: bits [1:0] must be zero (R229). -/
def sylJumpReg (rs : SReg) (link : Option Nat) (th : Thread) : Syl :=
  let a := (th.sreg rs).toNat % 2 ^ 48
  { emptySyl 4 with reads := [.s rs], ctl := .jump true a link, faults := if a % 4 = 0 then [] else [(0x04, a)] }

/-- A T syllable (R231, R300): reserved bits, modes above 6 and OPs not listed raise cause 0x02. -/
def sylTensor (op : Nat) (rs : SReg) (fields : BitVec 16) (th : Thread) : Syl :=
  let f := fields.toNat
  let bad := decide (bits f 15 10 ≠ 0) || decide (7 ≤ bits f 3 0)
  { emptySyl 5 with reads := [.s rs, .tcr TCTX], res := .tensor op ((th.sreg rs).toNat % 2 ^ 48) f
                    faults := if bad then [(0x02, 0)] else [] }

/-- BEQ (R229). -/
def execBeq (x : Px) (rs1 rs2 : SReg) (off : BitVec 10) (s : State) : Out :=
  issue x s (sylBranch rs1 rs2 off (fun a b => a == b))

/-- BNE (R229). -/
def execBne (x : Px) (rs1 rs2 : SReg) (off : BitVec 10) (s : State) : Out :=
  issue x s (sylBranch rs1 rs2 off (fun a b => a != b))

/-- BLT (R229). -/
def execBlt (x : Px) (rs1 rs2 : SReg) (off : BitVec 10) (s : State) : Out :=
  issue x s (sylBranch rs1 rs2 off (fun a b => a.slt b))

/-- BGE (R229). -/
def execBge (x : Px) (rs1 rs2 : SReg) (off : BitVec 10) (s : State) : Out :=
  issue x s (sylBranch rs1 rs2 off (fun a b => !a.slt b))

/-- BLTU (R229). -/
def execBltu (x : Px) (rs1 rs2 : SReg) (off : BitVec 10) (s : State) : Out :=
  issue x s (sylBranch rs1 rs2 off (fun a b => a.ult b))

/-- BGEU (R229). -/
def execBgeu (x : Px) (rs1 rs2 : SReg) (off : BitVec 10) (s : State) : Out :=
  issue x s (sylBranch rs1 rs2 off (fun a b => !a.ult b))

/-- JMP (R229). -/
def execJmp (x : Px) (off : BitVec 22) (s : State) : Out :=
  issue x s (fun th => { emptySyl 4 with ctl := .jump true (branchTo th off.toInt) none })

/-- CALL (R229): s63 takes the address after the bundle. -/
def execCall (x : Px) (off : BitVec 22) (s : State) : Out :=
  issue x s (fun th => { emptySyl 4 with ctl := .jump true (branchTo th off.toInt) (some 63) })

/-- JR (R229). -/
def execJr (x : Px) (rs : SReg) (s : State) : Out := issue x s (sylJumpReg rs none)

/-- JALR (R229). -/
def execJalr (x : Px) (rd rs : SReg) (s : State) : Out := issue x s (sylJumpReg rs (some rd))

/-- LOOP (R230). -/
def execLoop (x : Px) (l : Fin 2) (rs : SReg) (endoff : BitVec 15) (s : State) : Out :=
  issue x s (fun th => { emptySyl 4 with reads := [.s rs], ctl := .loopSet l (th.sreg rs).toNat endoff.toNat })

/-- LOOPI (R230). -/
def execLoopi (x : Px) (l : Fin 2) (count : BitVec 10) (endoff : BitVec 11) (s : State) : Out :=
  issue x s (fun _ => { emptySyl 4 with ctl := .loopSet l count.toNat endoff.toNat })

/-- TRAP (R229): cause 0x0C with the code in TVAL. -/
def execTrap (x : Px) (code : BitVec 16) (s : State) : Out :=
  issue x s (fun _ => { emptySyl 4 with faults := [(0x0C, code.toNat)] })

/-- BRK (R229): cause 0x0B. -/
def execBrk (x : Px) (s : State) : Out := issue x s (fun _ => { emptySyl 4 with faults := [(0x0B, 0)] })

/-- RFE (R209, R213, R239): in task mode it raises cause 0x03. -/
def execRfe (x : Px) (s : State) : Out :=
  issue x s (fun th => { emptySyl 4 with ctl := .rfe ((th.tcrAt EPC).toNat % 2 ^ 48), faults := if th.monitor then [] else [(0x03, 0)] })

/-- WFI (R241). -/
def execWfi (x : Px) (s : State) : Out := issue x s (fun _ => { emptySyl 4 with ctl := .wfi })

/-- HALT (R209, R229): in task mode it raises cause 0x03. -/
def execHalt (x : Px) (s : State) : Out :=
  issue x s (fun th => { emptySyl 4 with ctl := .halt, faults := if th.monitor then [] else [(0x03, 0)] })

end Sys2Proof.Machine
end

