-- ==== Sys2Proof/Machine/PxThread.lean ====
section
/-! DEFINITION. Starting and stopping threads, their interrupts, and the core's initialisation (R224, R236, R238 to R241,
R243, R248, R249, Tables 6-8 to 6-12). -/
namespace Sys2Proof.Machine

open Sys2Proof

/-- Sets bit i of a thread's IP. -/
def setIp (s : State) (c t i : Nat) : State :=
  s.modThread c t (fun th => th.setTcr IP (setBit (th.tcrAt IP) i true))

/-- START: a STOPPED or HALTED thread runs from PXC_THR_PC, in monitor mode with TSTAT.IE clear and IVEC zero; PART and TRES
stay (R249, R276); before INIT_DONE it is ignored and START_EARLY is set. (DEDUCED, log 20) -/
def startThread (s : State) (c t : Nat) : State :=
  let th := s.thread c t
  if !(s.core c).initDone then s.raise (Reg.pxcIrqStat c) 9
  else if th.st = .stopped ∨ th.st = .halted then
    s.setThread c t th.begun
  else s

/-- The instruction of thread t of core c that waits in the array's queue, parked or not started. -/
def queuedTensor (s : State) (c t : Nat) : Option TInstr :=
  (s.tar (c / 3)).queue.find? (fun i => i.thread = 4 * (c % 3) + t)

/-- It leaves the queue; a parked one keeps TRES (R317, Tables 6-10, 8-8). -/
def leaveQueue (s : State) (c t : Nat) : State :=
  (s.modTar (c / 3) (fun x => { x with queue := x.queue.filter (fun i => i.thread ≠ 4 * (c % 3) + t) })).modThread c t
    (fun th => { th with wait := .none, bundle := [], started := false })

/-- STOP (Table 6-10): at once where nothing of the thread is in flight, or where its tensor instruction waits in the queue;
else at the next boundary. -/
def stopThread (s : State) (c t : Nat) : State :=
  let th := s.thread c t
  if th.st = .run then
    let s := s.setThread c t { th with st := .stopping }
    stopIfDone (s.when (queuedTensor s c t).isSome (fun s => leaveQueue s c t)) c t
  else s

/-- STEP: a STOPPED thread runs one bundle and is STOPPED again. (DEDUCED, log 17) -/
def stepThread (s : State) (c t : Nat) : State :=
  let th := s.thread c t
  if th.st = .stopped then s.setThread c t { th with st := .run, wait := .none, bundle := [], started := false, once := true } else s

/-- A write of PXC_THR_CTRL (Table 6-12): PRIO and VC2 are stored, then START, STOP, DBG and STEP act. -/
def writeThrCtrl (s : State) (c t : Nat) (v : Nat) : State :=
  let s := s.setFldAt (Reg.pxcThrCtrl c t) 3 2 (bits v 3 2)
  let s := s.when (v.testBit 0) (fun s => startThread s c t)
  let s := s.when (v.testBit 1) (fun s => stopThread s c t)
  let s := s.when (v.testBit 4) (fun s => settle 8 (setIp s c t 4) c)
  s.when (v.testBit 5) (fun s => stepThread s c t)

/-- A write of PXC_CORE_CTRL (Table 6-11): EN is stored, ICINV empties the instruction cache. (DEDUCED, log 26) -/
def writeCoreCtrl (s : State) (c : Nat) (v : Nat) : State :=
  let s := s.setFldAt (Reg.pxcCoreCtrl c) 0 0 (bits v 0 0)
  s.when (v.testBit 8) (fun s => s.setCore c { s.core c with icLines := [] })

/-- A write of PXC_SWI: IP.SOFTWARE of the threads named (Table 6-8). -/
def writeSwi (s : State) (c : Nat) (v : Nat) : State :=
  settle 8 (s.each (onesBelow v 4) (fun s t => setIp s c t 0)) c

/-- THR_START (R249). -/
def execThrStart (who : Requester) (core : Fin 24) (thread : Fin 4) (val : BitVec 32) (s : State) : Out :=
  .next (s.writeGuard who (Reg.pxcThrCtrl core thread) (fun s => writeThrCtrl s core thread val.toNat))

/-- THR_STOP (R243). -/
def execThrStop (who : Requester) (core : Fin 24) (thread : Fin 4) (val : BitVec 32) (s : State) : Out :=
  .next (s.writeGuard who (Reg.pxcThrCtrl core thread) (fun s => writeThrCtrl s core thread val.toNat))

/-- THR_STEP (R243, Table 6-12). -/
def execThrStep (who : Requester) (core : Fin 24) (thread : Fin 4) (val : BitVec 32) (s : State) : Out :=
  .next (s.writeGuard who (Reg.pxcThrCtrl core thread) (fun s => writeThrCtrl s core thread val.toNat))

/-- THR_DBG (R238). -/
def execThrDbg (who : Requester) (core : Fin 24) (thread : Fin 4) (val : BitVec 32) (s : State) : Out :=
  .next (s.writeGuard who (Reg.pxcThrCtrl core thread) (fun s => writeThrCtrl s core thread val.toNat))

/-- CORE_ICINV (R236). -/
def execCoreIcinv (who : Requester) (core : Fin 24) (val : BitVec 32) (s : State) : Out :=
  .next (s.writeGuard who (Reg.pxcCoreCtrl core) (fun s => writeCoreCtrl s core val.toNat))

/-- SOFTWARE_INTERRUPT_SET (R238). -/
def execSoftwareInterruptSet (who : Requester) (core : Fin 24) (val : BitVec 32) (s : State) : Out :=
  .next (s.writeGuard who (Reg.pxcSwi core) (fun s => writeSwi s core val.toNat))

/-- TIMECMP_REACHED (R238): TIME has reached TIMECMP, and TIMER becomes pending. -/
def execTimecmpReached (core : Fin 24) (thread : Fin 4) (s : State) : Out :=
  if ((s.thread core thread).tcrAt TIMECMP).toNat ≤ s.now then .next (settle 8 (setIp s core thread 1) core) else .next s

/-- INTERRUPT_ENTRY (R238, R239, R241, R317): at a bundle boundary, or in `ccwait`, `wfi` or an interlock, or while the thread's
tensor instruction waits in the queue, once every outstanding load has returned. -/
def execInterruptEntry (core : Fin 24) (thread : Fin 4) (s : State) : Out :=
  let th := s.thread core thread
  let boundary := match th.wait with
    | .none => true
    | .ccwait _ _ _ _ => true
    | .wfi => true
    | .fence => true
    | .tensor => (queuedTensor s core thread).isSome
    | _ => false
  if th.runs && boundary && th.ie && th.waitingLoads.isEmpty then
    match pendingIrq s th with
    | some i => .next (takeInterrupt (s.when (decide (th.wait = .tensor)) (fun s => leaveQueue s core thread)) core thread i)
    | none => .next s
  else .next s

/-- SCRATCHPAD_INIT_DONE (R248): the domain has reached ON, the scratchpad holds zeros, and INIT_DONE is set. -/
def execScratchpadInitDone (core : Fin 24) (s : State) : Out :=
  if (s.dom core).st = .on ∧ ¬(s.core core).initDone then
    let base := 0x11_0000_0000 + 0x10_0000 * core.val
    let s := s.zeroMem base (base + 0x4_0000)
    .next (s.setCore core { s.core core with initDone := true })
  else .next s

end Sys2Proof.Machine
end

