-- ==== Sys2Proof/Machine/TensorMath.lean ====
section
/-! DEFINITION. What a tensor instruction computes: the descriptor's fields, layouts, weights, padding, and the raw value of
one output (R285 to R297, R301 to R311). -/
namespace Sys2Proof.Machine

open Sys2Proof

/-! ### Descriptors (Tables 8-4, 8-5) -/

/-- Bits [hi:lo] of the field at byte b of a descriptor. -/
def dfld (d b hi lo : Nat) : Nat := bits (d / 2 ^ (8 * b)) hi lo

/-- A tensor reference (Table 8-4). -/
structure TRef where
  base : Nat
  ty : Nat
  layout : Nat
  h : Nat
  w : Nat
  ch : Nat
  zp : Int
  line : Nat
  plane : Nat
  y0 : Nat
  reserved : Bool
  deriving DecidableEq, Repr

/-- The reference at byte o of a descriptor. -/
def tref (d o : Nat) : TRef :=
  { base := dfld d o 47 0, ty := dfld d o 51 48, layout := dfld d o 53 52
    h := dfld d (o + 8) 15 0, w := dfld d (o + 8) 31 16, ch := dfld d (o + 8) 47 32, zp := sext (dfld d (o + 8) 63 48) 16
    line := dfld d (o + 16) 31 0, plane := dfld d (o + 24) 39 0, y0 := dfld d (o + 24) 55 40
    reserved := decide (dfld d o 63 54 ≠ 0) || decide (dfld d (o + 16) 63 32 ≠ 0) || decide (dfld d (o + 24) 63 56 ≠ 0) }

/-- A tensor instruction with its descriptor's fields. -/
structure TOp where
  op : Nat
  mode : Nat
  cbits : Nat
  csign : Bool
  rq : Bool
  stats : Bool
  inn : TRef
  wt : TRef
  out : TRef
  kh : Nat
  kw : Nat
  sy : Nat
  sx : Nat
  dy : Nat
  dx : Nat
  padMode : Nat
  avg : Bool
  avgIncl : Bool
  acc : Bool
  esc : Bool
  wtT : Bool
  padT : Nat
  padB : Nat
  padL : Nat
  padR : Nat
  padVal : Nat
  imgH : Nat
  group : Nat
  tblFirst : Nat
  qut : Nat
  map : Nat
  reserved : Bool
  deriving DecidableEq, Repr

/-- The fields of an instruction; the kernel, strides and dilations of an operation that has none are 1, its paddings 0. -/
def topOf (op fields d : Nat) : TOp :=
  let wt := tref d 32
  let conv := decide (op = 1) || decide (op = 4)
  let pool := decide (op = 3)
  let pad (b : Nat) := if conv || pool then dfld d b 7 0 else 0
  { op := op, mode := bits fields 3 0, cbits := bits fields 6 4, csign := fields.testBit 7, rq := fields.testBit 8
    stats := fields.testBit 9, inn := tref d 0, wt := wt, out := tref d 64
    kh := if conv then wt.h else if pool then dfld d 106 2 0 + 1 else 1
    kw := if conv then wt.w else if pool then dfld d 106 5 3 + 1 else 1
    sy := if conv then dfld d 96 1 0 + 1 else if pool then dfld d 107 2 0 + 1 else 1
    sx := if conv then dfld d 96 3 2 + 1 else if pool then dfld d 107 5 3 + 1 else 1
    dy := if conv then 2 ^ dfld d 96 5 4 else 1, dx := if conv then 2 ^ dfld d 96 7 6 else 1
    padMode := dfld d 97 1 0, avg := dfld d 97 2 2 = 1, avgIncl := dfld d 97 3 3 = 1, acc := dfld d 97 4 4 = 1
    esc := dfld d 97 5 5 = 1, wtT := dfld d 97 6 6 = 1
    padT := pad 98, padB := pad 99, padL := pad 100, padR := pad 101, padVal := dfld d 102 15 0, imgH := dfld d 104 15 0
    group := dfld d 108 2 0, tblFirst := dfld d 110 9 0, qut := dfld d 112 47 0, map := dfld d 120 47 0
    reserved := (tref d 0).reserved || (tref d 32).reserved || (tref d 64).reserved || decide (dfld d 97 7 7 ≠ 0)
      || decide (dfld d 106 7 6 ≠ 0) || decide (dfld d 107 7 6 ≠ 0) || decide (dfld d 108 7 3 ≠ 0) || decide (dfld d 109 7 0 ≠ 0)
      || decide (dfld d 110 15 10 ≠ 0) || decide (dfld d 112 63 48 ≠ 0) || decide (dfld d 120 63 48 ≠ 0) }

/-! ### Layouts (R291, R292) -/

/-- The element size in bits of a type; 0 for the weight-only types. -/
def elemBits (ty : Nat) : Nat :=
  match ty with
  | 0 | 1 => 8
  | 2 => 4
  | 3 | 4 => 16
  | 5 | 6 => 32
  | _ => 0

/-- The channels of a block: 16 in C16, 32 in C32. -/
def blockCh (r : TRef) : Nat := if r.layout = 1 then 32 else 16

/-- A feature map, rather than a matrix in ROW. -/
def TRef.isMap (r : TRef) : Bool := decide (r.layout ≤ 1)

/-- The byte of element (y, x, ch), y being the image row, or the row of a matrix. -/
def elemAddr (r : TRef) (y x ch : Nat) : Nat :=
  let e := elemBits r.ty
  if r.isMap then
    let g := blockCh r
    r.base + ch / g * r.plane + (y - r.y0) * r.line + (x * g + ch % g) * e / 8
  else r.base + y * r.line + ch * e / 8

/-- The code of element (y, x, ch): an integer, or the encoding of a float. -/
def elemCode (s : State) (r : TRef) (y x ch : Nat) : Int :=
  let a := elemAddr r y x ch
  match r.ty with
  | 0 => sext (s.load a 1) 8
  | 1 => (s.load a 1 : Int)
  | 2 => sext (s.load a 1 / 2 ^ (if ch % 2 = 0 then 0 else 4)) 4
  | 3 => sext (s.load a 2) 16
  | 4 => (s.load a 2 : Int)
  | 5 => sext (s.load a 4) 32
  | _ => (s.load a 4 : Int)

/-- Element (y, x, ch) set to a code. -/
def putElem (s : State) (r : TRef) (y x ch : Nat) (v : Nat) : State :=
  let a := elemAddr r y x ch
  if r.ty = 2 then
    let old := s.load a 1
    putData s a (bytesOf 1 (if ch % 2 = 0 then old / 16 * 16 + v % 16 else v % 16 * 16 + old % 16))
  else putData s a (bytesOf (elemBits r.ty / 8) v)

/-! ### Padding (R306) -/

/-- The position in 0 to n - 1 that a position stands for; none for ZERO and CONST padding. -/
def mapPos (mode : Nat) (i : Int) (n : Nat) : Option Nat :=
  if 0 ≤ i ∧ i < n then some i.toNat
  else match mode with
    | 2 => some (if i < 0 then -i else 2 * (n - 1 : Int) - i).toNat
    | 3 => some (clamp i 0 ((n : Int) - 1)).toNat
    | _ => none

/-- The stored position that output row y, column x reads at tap (ky, kx); none in ZERO and CONST padding (R296). -/
def tapPos (o : TOp) (y x ky kx : Nat) : Option (Nat × Nat) :=
  let iy : Int := (y * o.sy + ky * o.dy : Nat) - (o.padT : Int)
  let ix : Int := (x * o.sx + kx * o.dx : Nat) - (o.padL : Int)
  match mapPos o.padMode iy o.imgH, mapPos o.padMode ix o.inn.w with
  | some a, some b => some (a, b)
  | _, _ => none

/-! ### Operand values (R287, R294, R295) -/

/-- The activation that an integer code stands for, less the zero point; an escape code reads as the zero point. -/
def actOf (o : TOp) (code : Int) : Int :=
  if o.esc ∧ code = -128 then 0
  else if o.mode = 4 then
    let b := o.cbits + 1
    let x := wrap b code
    (if o.csign then sext x b else (x : Int)) - o.inn.zp
  else code - o.inn.zp

/-- The activation at tap (ky, kx) of output (y, x), channel ch, in an integer mode: that of the stored code, or of padding. -/
def actAt (s : State) (o : TOp) (y x ky kx ch : Nat) : Int :=
  match tapPos o y x ky kx with
  | some (a, b) => actOf o (elemCode s o.inn a b ch)
  | none =>
    if o.padMode = 1 then
      let v := sext o.padVal 16
      if o.mode = 4 then actOf { o with esc := false } v else v - o.inn.zp
    else 0

/-- The FP32 value of an activation in FP16 mode: FP16, or INT16 less its zero point. -/
def actF (s : State) (o : TOp) (y x ky kx ch : Nat) : Nat :=
  if o.inn.ty = 4 then
    match tapPos o y x ky kx with
    | some (a, b) => fWiden (elemCode s o.inn a b ch).toNat
    | none => if o.padMode = 1 then fWiden o.padVal else 0
  else fOfInt 32 (actAt s o y x ky kx ch)

/-- rows(WT) (Table 8-2); 32 in LOG mode. -/
def rowsOf (o : TOp) : Nat :=
  if o.mode = 6 then 32
  else match o.wt.ty with
    | 2 | 8 => 128
    | 7 => 256
    | _ => 64

/-- Row bytes and block bytes of a weight block (Table 8-2). -/
def rowBytes (o : TOp) : Nat :=
  match o.wt.ty with
  | 2 => 32
  | 7 | 8 => 16
  | 4 => 128
  | _ => 64
def blockBytes (o : TOp) : Nat := rowsOf o * rowBytes o

/-- Input blocks B (R293). -/
def inBlocks (o : TOp) : Nat := if o.op = 3 ∨ o.op = 4 then 1 else (o.inn.ch + rowsOf o - 1) / rowsOf o

/-- The byte of row r of the weight block of output block ob, raster tap t and input block ib (R293). -/
def weightRow (o : TOp) (ob t ib r : Nat) : Nat :=
  o.wt.base + ((ob * (o.kh * o.kw) + t) * inBlocks o + ib) * blockBytes o + r * rowBytes o

/-- The trit of digit j of a ternary byte; a byte above 242 is five zeros (R294). -/
def trit (b j : Nat) : Int := if 242 < b then 0 else (b / 3 ^ j % 3 : Nat) - 1

/-- The codebook that output channel ch uses (R295). -/
def codebookOf (s : State) (o : TOp) (ch : Nat) : Nat := bits (s.load (o.map + 2 * ch) 2) 9 0

/-- The weight of tap t (raster), input channel k and output channel ch: an integer, or an FP16 encoding. -/
def weightAt (s : State) (c : Nat) (o : TOp) (t k ch : Nat) : Int :=
  if o.op = 4 then
    -- one row of g weights per tap and output channel (R309)
    let a := o.wt.base + (t * o.inn.ch + ch) * o.wt.line
    match o.wt.ty with
    | 2 => sext (s.load (a + k / 2) 1 / 2 ^ (if k % 2 = 0 then 0 else 4)) 4
    | 3 => sext (s.load (a + 2 * k) 2) 16
    | 4 => (s.load (a + 2 * k) 2 : Int)
    | 1 => (s.load (a + k) 1 : Int)
    | _ => sext (s.load (a + k) 1) 8
  else
    let row := weightRow o (ch / 64) t (k / rowsOf o) (k % rowsOf o)
    let j := ch % 64
    match o.wt.ty with
    | 2 => sext (s.load (row + j / 2) 1 / 2 ^ (if j % 2 = 0 then 0 else 4)) 4
    | 7 => trit (s.load (row + j / 5) 1) (j % 5)
    | 8 =>
      let code := s.load (row + j / 4) 1 / 2 ^ (2 * (j % 4)) % 4
      sext ((get (fun _ => 0) (s.tar c).table (codebookOf s o ch)).toNat / 2 ^ (8 * code)) 8
    | 4 => (s.load (row + 2 * j) 2 : Int)
    | _ => sext (s.load (row + j) 1) 8

/-- The FP32 value of a weight in FP16 mode. -/
def weightF (s : State) (c : Nat) (o : TOp) (t k ch : Nat) : Nat :=
  if o.wt.ty = 4 then fWiden (weightAt s c o t k ch).toNat else fOfInt 32 (weightAt s c o t k ch)

/-! ### Taps and accumulation (R286 to R290, R296, R297) -/

/-- The taps in the order in which the passes deliver them, as (ky, kx). -/
def taps (o : TOp) : List (Nat × Nat) :=
  (List.range ((o.kh + 6) / 7)).flatMap (fun py => (List.range ((o.kw + 6) / 7)).flatMap (fun px =>
    (List.range (Nat.min 7 (o.kh - 7 * py))).flatMap (fun a =>
      (List.range (Nat.min 7 (o.kw - 7 * px))).map (fun b => (7 * py + a, 7 * px + b)))))

/-- The tap-blocks of an output block in delivery order, as (ky, kx, ib). -/
def tapBlocks (o : TOp) : List (Nat × Nat × Nat) :=
  (taps o).flatMap (fun t => (List.range (inBlocks o)).map (fun ib => (t.1, t.2, ib)))

/-- The pass of a tap. -/
def passOf (t : Nat × Nat × Nat) : Nat × Nat := (t.1 / 7, t.2.1 / 7)

/-- The input channels that a tap-block of output channel ch covers: a block's rows, or a group (R309). -/
def blockChannels (o : TOp) (ib ch : Nat) : List Nat :=
  if o.op = 4 then (List.range (2 ^ o.group)).map (fun i => ch / 2 ^ o.group * 2 ^ o.group + i)
  else ((List.range (rowsOf o)).map (fun r => ib * rowsOf o + r)).filter (fun k => decide (k < o.inn.ch))

/-- The row of the weight that belongs to input channel k. (DEDUCED, log 37) -/
def weightIndex (o : TOp) (k : Nat) : Nat := if o.op = 4 then k % 2 ^ o.group else k

/-- The output position of pixel i: image row and column, or matrix row (R298, R310). -/
def outPos (o : TOp) (i : Nat) : Nat × Nat :=
  if o.out.isMap then (o.out.y0 + i / o.out.w, i % o.out.w) else (i, 0)

/-- The position that pixel i reads at tap (0, 0): for a matrix product, pixel i of IN in raster order. -/
def inPos (o : TOp) (i : Nat) : Nat × Nat :=
  if o.op = 2 then (if o.inn.isMap then (o.inn.y0 + i / o.inn.w, i % o.inn.w) else (i, 0)) else outPos o i

/-- The activation of pixel i at a tap; a matrix product reads its own pixel. -/
def pixAct (s : State) (o : TOp) (i ky kx ch : Nat) : Int :=
  let (y, x) := inPos o i
  if o.op = 2 then actOf o (elemCode s o.inn y x ch) else actAt s o y x ky kx ch

def pixActF (s : State) (o : TOp) (i ky kx ch : Nat) : Nat :=
  let (y, x) := inPos o i
  if o.op = 2 then
    (if o.inn.ty = 4 then fWiden (elemCode s o.inn y x ch).toNat else fOfInt 32 (actOf o (elemCode s o.inn y x ch)))
  else actF s o y x ky kx ch

/-- The INT32 range. -/
def sat32 (x : Int) : Int := clamp x (-(2 ^ 31 : Nat)) ((2 ^ 31 : Nat) - 1)

/-- An integer accumulation: the sum, and how many additions saturated (R287). -/
def addSat (a : Int × Nat) (x : Int) : Int × Nat :=
  (sat32 (a.1 + x), if sat32 (a.1 + x) = a.1 + x then a.2 else a.2 + 1)

/-- The integer accumulator of pixel i and output channel ch (R287, R296). (DEDUCED, log 35) -/
def intAcc (s : State) (c : Nat) (o : TOp) (i ch : Nat) : Int × Nat :=
  (tapBlocks o).foldl (fun a t =>
    addSat a (((blockChannels o t.2.2 ch).map (fun k =>
      pixAct s o i t.1 t.2.1 k * weightAt s c o (t.1 * o.kw + t.2.1) (weightIndex o k) ch)).foldl (· + ·) 0)) (0, 0)

/-- One level of a balanced tree of FP32 sums. -/
def pairSums (l : List Nat) : List Nat :=
  match l with
  | a :: b :: t => fAdd 32 a b :: pairSums t
  | t => t

/-- The balanced tree over 16 products (R288). (DEDUCED, log 36) -/
def tree16 (l : List Nat) : Nat :=
  ((pairSums (pairSums (pairSums (pairSums (l ++ List.replicate (16 - l.length) 0)))))).headD 0

/-- The trees of a tap-block's products, 16 at a time, added in order. -/
def blockSum (fuel : Nat) (l : List Nat) (acc : Nat) : Nat :=
  match fuel with
  | 0 => acc
  | n + 1 => match l with
    | [] => acc
    | l => blockSum n (l.drop 16) (fAdd 32 acc (tree16 (l.take 16)))

/-- The FP32 accumulator of pixel i and output channel ch in FP16 mode (R288). -/
def floatAcc (s : State) (c : Nat) (o : TOp) (i ch : Nat) : Nat :=
  (tapBlocks o).foldl (fun a t =>
    let ps := (blockChannels o t.2.2 ch).map (fun k =>
      fMul 32 (pixActF s o i t.1 t.2.1 k) (weightF s c o (t.1 * o.kw + t.2.1) (weightIndex o k) ch))
    fAdd 32 a (blockSum 16 (ps.drop 16) (tree16 (ps.take 16)))) 0

/-- The second operand of a LOG-mode product, less its zero point (R310). -/
def logB (s : State) (o : TOp) (k n : Nat) : Int :=
  (if o.wtT then elemCode s o.wt n 0 k else elemCode s o.wt k 0 n) - o.wt.zp

/-- The FP32 result of a LOG-mode dot product: the exact sum with an error within the bound of R289, by draw n. -/
def logAcc (s : State) (o : TOp) (i ch n : Nat) : Nat :=
  let ps := (List.range o.inn.ch).map (fun k => pixAct s o i 0 0 k * logB s o k ch)
  let exact : Int := ps.foldl (· + ·) 0
  let size : Nat := (ps.map Int.natAbs).foldl (· + ·) 0
  let m := 6 + inBlocks o - 1
  let e := clamp (Config.logError n) (-(2 ^ 32 : Nat)) (2 ^ 32 : Nat)
  let x : Int := exact * (2 ^ (8 * m + 32) : Nat) + e * ((257 ^ m - 256 ^ m : Nat) : Int) * size
  fRound 32 (x * (2 ^ 149 : Nat)) (8 * m + 32 + 149) false

/-- The codes of the positions of a pooling window that lie inside the image, and how many positions it has (R308). -/
def poolCodes (s : State) (o : TOp) (i ch : Nat) : List Int :=
  let (y, x) := outPos o i
  (taps o).filterMap (fun t => (tapPos { o with padMode := 0 } y x t.1 t.2).map (fun p => elemCode s o.inn p.1 p.2 ch))

/-- The pooled code of pixel i and channel ch (R308). -/
def poolOut (s : State) (o : TOp) (i ch : Nat) : Int :=
  let l := poolCodes s o i ch
  let padded : Nat := o.kh * o.kw - l.length
  match l with
  | [] => o.inn.zp
  | h :: t =>
    if o.avg then
      let sum : Int := l.foldl (· + ·) 0
      if o.avgIncl then rneDiv (sum + (padded : Int) * o.inn.zp) (o.kh * o.kw) else rneDiv sum l.length
    else t.foldl max h

/-- Whether raw outputs are FP32 encodings. -/
def TOp.isF (o : TOp) : Bool := decide (o.op ≠ 3) && (decide (o.mode = 2) || decide (o.mode = 6))

/-- The escape correction of pixel i and output channel ch, and how many escapes had no entry (R341). -/
def escCorr (s : State) (c : Nat) (o : TOp) (i ch : Nat) : Int × Nat :=
  if o.esc then
    let sIn := recLoad s (inSlot s o.qut) 0 4
    let side := recAddr s o.qut 32
    (tapBlocks o).foldl (fun a t =>
      let (y, x) := inPos o i
      let pos := if o.op = 2 then some (y, x) else tapPos o y x t.1 t.2.1
      match pos with
      | none => a
      | some p =>
        (blockChannels o t.2.2 ch).foldl (fun a k =>
          if elemCode s o.inn p.1 p.2 k = -128 then
            match sideValue s side (elemAddr o.inn p.1 p.2 k - o.inn.base) with
            | none => (a.1, a.2 + 1)
            | some v =>
              let e := fDiv 32 (fWiden v) sIn
              let ew := fMul 32 e (fOfInt 32 (weightAt s c o (t.1 * o.kw + t.2.1) k ch))
              (a.1 + fRne 32 (fMul 32 ew (fOfInt 32 256)), a.2)
          else a) a) (0, 0)
  else (0, 0)

end Sys2Proof.Machine
end

