-- ==== Sys2Proof/Machine/Tensor.lean ====
section
/-! DEFINITION. How a tensor array serves its cluster: the operand checks, tiles and steps, outputs, parking, suspension and
resumption, completion and faults (R298 to R328), with the commands that issue a tensor instruction. -/
namespace Sys2Proof.Machine

open Sys2Proof

/-! ### The operand check (R301 to R307, Tables 8-7 and 8-10) -/

/-- The slice of cluster c. -/
def sliceBase (c : Nat) : Nat := 0x10_0000_0000 + 0x100_0000 * c
def inSlice (c a n : Nat) : Bool := decide (sliceBase c ≤ a) && decide (a + n ≤ sliceBase (c + 1))

/-- The bytes that a feature map or matrix spans from its base. -/
def spanOf (r : TRef) : Nat :=
  let e := elemBits r.ty
  if r.isMap then ((r.ch + blockCh r - 1) / blockCh r - 1) * r.plane + (r.h - 1) * r.line + r.w * blockCh r * e / 8
  else (r.h - 1) * r.line + (r.ch * e + 7) / 8

/-- Output channels of the instruction, and its output blocks of 64. -/
def outBlocks (o : TOp) : Nat := if o.op = 5 then 1 else (o.out.ch + 63) / 64

/-- The bytes of the weights. -/
def weightSpan (o : TOp) : Nat :=
  if o.op = 4 then (o.kh * o.kw * o.inn.ch - 1) * o.wt.line + (2 ^ o.group * elemBits o.wt.ty + 7) / 8
  else if o.mode = 6 then spanOf o.wt
  else outBlocks o * (o.kh * o.kw) * inBlocks o * blockBytes o

/-- The ranges that the instruction touches in the slice, with the permissions that they need (R301, R303). -/
def touched (s : State) (o : TOp) : List (Nat × Nat × Nat) :=
  [(o.inn.base, spanOf o.inn, permR)]
    ++ (if o.op = 5 then [] else [(o.out.base, spanOf o.out, if o.acc then permR + permW else permW)])
    ++ (if o.op = 3 ∨ o.op = 5 then [] else [(o.wt.base, weightSpan o, permR)])
    ++ (if o.wt.ty = 8 ∧ o.op ≠ 3 ∧ o.op ≠ 5 then [(o.map, 128 * outBlocks o, permR)] else [])
    ++ (if o.rq ∧ o.op ≠ 5 then [(addrLocal o.qut, recLen s o.qut, if o.stats then permR + permW else permR)] else [])

/-- The types of IN and WT that a mode permits (Table 8-1); depth-wise weights are of IN's type (R309). -/
def typesOk (o : TOp) : Bool :=
  let i := o.inn.ty
  let w := o.wt.ty
  let inOk := match o.mode with
    | 1 => [0, 1, 2].contains i
    | 2 => [3, 4].contains i
    | _ => [0, 1].contains i
  let wtOk := match o.mode with
    | 0 | 4 => decide (w = 0)
    | 1 => decide (w = 2)
    | 2 => if i = 4 then [4, 0, 2, 7, 8].contains w else [0, 2, 7, 8].contains w
    | 3 => decide (w = 7)
    | 5 => decide (w = 8)
    | _ => [0, 1].contains w
  inOk && (if o.op = 3 ∨ o.op = 5 then true else if o.op = 4 then decide (w = i) else wtOk)

/-- The layouts that an operation permits (Table 8-6). -/
def layoutsOk (o : TOp) : Bool :=
  match o.op with
  | 1 => o.inn.isMap && o.out.isMap && decide (o.wt.layout = 3)
  | 2 => decide (o.inn.layout ≤ 2) && decide (o.out.layout ≤ 2) && decide (o.wt.layout = if o.mode = 6 then 2 else 3)
  | 3 => o.inn.isMap && decide (o.out.layout = o.inn.layout) && decide (o.out.ty = o.inn.ty)
  | 4 => o.inn.isMap && o.out.isMap && decide (o.wt.layout = 2)
  | _ => decide (o.inn.layout = 2) && decide (o.inn.ty = 0) && decide (o.inn.h = 1)

/-- The output pixels of a matrix product: rows of IN, or its pixels. -/
def matRows (o : TOp) : Nat := if o.inn.isMap then o.inn.h * o.inn.w else o.inn.h

/-- The output's pixels. -/
def pixels (o : TOp) : Nat := if o.out.isMap then o.out.h * o.out.w else o.out.h

/-- Code 0x02: mode, type, layout, operation and record (Tables 8-1, 8-6, R300, R302, R303, R336, R341). (DEDUCED, log 38) -/
def comboOk (s : State) (o : TOp) : Bool :=
  let modeOk := match o.op with
    | 1 => decide (o.mode ≤ 5)
    | 2 => decide (o.mode ≤ 6)
    | 4 => decide (o.mode ≤ 2)
    | _ => decide (o.mode = 0)
  let raw : Nat := if o.isF then 6 else 5
  let outTy := if o.op = 5 then true
    else if o.rq then decide (o.out.ty ≤ 4) && !o.acc && (decide (o.op ≠ 3) || decide (o.out.ty = o.inn.ty))
    else if o.op = 3 then true else decide (o.out.ty = raw)
  let dims := match o.op with
    | 1 => decide (o.wt.ch = o.inn.ch)
    | 2 => decide (pixels o = matRows o) &&
        (if o.mode = 6 then (if o.wtT then decide (o.wt.h = o.out.ch) && decide (o.wt.ch = o.inn.ch)
                             else decide (o.wt.h = o.inn.ch) && decide (o.wt.ch = o.out.ch))
         else decide (o.wt.ch = o.inn.ch) && decide (o.wt.h = 1) && decide (o.wt.w = 1))
    | 3 => decide (o.out.ch = o.inn.ch)
    | 4 => decide (o.out.ch = o.inn.ch)
    | _ => true
  let escOk := !o.esc || (decide (o.inn.ty = 0) && o.rq && (decide (o.op = 1) || decide (o.op = 2)) && [0, 1, 3, 5].contains o.mode)
  let recOk := !o.rq || decide (o.op = 5) ||
    (decide (recLoad s o.qut 0 1 = 1) && !(recEscOut s o.qut && decide (o.out.ty ≠ 0)) && (!o.isF || recFloat s o.qut))
  modeOk && typesOk o && layoutsOk o && outTy && dims && escOk && recOk
    && (decide (o.mode = 4) || (decide (o.cbits = 0) && !o.csign))

/-- A size within Table 8-7. -/
def sizeOk (r : TRef) : Bool :=
  decide (1 ≤ r.ch) && decide (r.ch ≤ 8192) && decide (1 ≤ r.h)
    && (if r.isMap then decide (r.h ≤ 4096) && decide (1 ≤ r.w) && decide (r.w ≤ 4096) else decide (r.w = 1))

/-- Code 0x01: reserved and unused fields zero, sizes in range, no zero point on weights outside LOG mode. -/
def fieldsOk (o : TOp) (d : Nat) : Bool :=
  !o.reserved && sizeOk o.inn && (decide (o.op = 5) || sizeOk o.out)
    && (if o.op = 3 ∨ o.op = 5 then decide (bits (d / 2 ^ 256) 255 0 = 0) else decide (1 ≤ o.kh) && decide (1 ≤ o.kw))
    && (decide (o.op ≠ 5) || (decide (bits (d / 2 ^ 512) 255 0 = 0) && decide (o.inn.ch % 4 = 0)))
    && (decide (o.mode = 6) || decide (o.op = 3) || decide (o.op = 5) || decide (o.wt.zp = 0))

/-- The extents of the kernel or window (R305). -/
def extY (o : TOp) : Nat := (o.kh - 1) * o.dy + 1
def extX (o : TOp) : Nat := (o.kw - 1) * o.dx + 1

/-- Whether an operation has a window: convolution, pooling, depth-wise. -/
def windowed (o : TOp) : Bool := decide (o.op = 1) || decide (o.op = 3) || decide (o.op = 4)

/-- Code 0x05 (R305, R306). -/
def padsOk (o : TOp) : Bool :=
  !windowed o ||
    (decide (o.padT < extY o) && decide (o.padB < extY o) && decide (o.padL < extX o) && decide (o.padR < extX o)
      && (decide (o.padMode ≠ 2) || decide (o.op = 3) || (decide (o.padT < o.imgH) && decide (o.padB < o.imgH)
            && decide (o.padL < o.inn.w) && decide (o.padR < o.inn.w))))

/-- Code 0x06 (R307). -/
def outOk (o : TOp) : Bool :=
  !windowed o ||
    (decide (extX o ≤ o.inn.w + o.padL + o.padR) && decide (extY o ≤ o.imgH + o.padT + o.padB)
      && decide (o.out.w = (o.inn.w + o.padL + o.padR - extX o) / o.sx + 1)
      && decide (o.out.y0 + o.out.h ≤ (o.imgH + o.padT + o.padB - extY o) / o.sy + 1))

/-- Code 0x07: every row inside the image that the output rows read is stored (R307). -/
def rowsOk (o : TOp) : Bool :=
  !windowed o ||
    (List.range o.out.h).all (fun r => (List.range o.kh).all (fun ky =>
      match mapPos o.padMode (((o.out.y0 + r) * o.sy + ky * o.dy : Nat) - (o.padT : Int)) o.imgH with
      | none => true
      | some y => decide (o.inn.y0 ≤ y) && decide (y < o.inn.y0 + o.inn.h)))

/-- The alignments of a reference. -/
def alignOk (r : TRef) : Bool :=
  decide (r.base % 128 = 0) && (!r.isMap || (decide (r.line % 128 = 0) && decide (r.plane % 128 = 0)
    && decide (r.w * blockCh r * elemBits r.ty / 8 ≤ r.line) && decide (r.h * r.line ≤ r.plane)))

/-- Code 0x08: alignment, and every range, the record's scale-slot table too, in the own slice with its bank groups open (R291, R301,
R334, R336, R363). -/
def placeOk (s : State) (c thread : Nat) (o : TOp) : Bool :=
  let spill := (s.reg (Reg.tarSpill c thread)).toNat
  alignOk o.inn && (decide (o.op = 5) || alignOk o.out)
    && (decide (o.op = 3) || decide (o.op = 5) || decide (o.wt.base % 128 = 0))
    && (decide (o.op ≠ 4) || decide (o.wt.line % 32 = 0))
    && (!o.rq || decide (addrLocal o.qut % 128 = 0))
    && (!o.rq || decide (o.op = 5) || inSlice c (addrLocal (recAddr s o.qut 56)) 0x8000)
    && (touched s o).all (fun t => inSlice c t.1 t.2.1) && inSlice c spill 0x1_0000

/-- The first address that the instruction touches in a bank group that is not ON, if there is one (R363). -/
def closedAt (s : State) (o : TOp) : Option Nat :=
  ((touched s o).flatMap (fun t => (List.range ((t.2.1 + 127) / 128)).map (fun k => t.1 + 128 * k))).find? (fun a =>
    match targetOf s a with
    | .sram c g => !groupOpen s c g
    | _ => false)

/-- Code 0x0A: table memory, codebook range, group size (R295, R309, R311). -/
def tableOk (s : State) (c : Nat) (o : TOp) : Bool :=
  (decide (o.wt.ty ≠ 8) || decide (o.op = 3) || decide (o.op = 5) || (s.tar c).tmValid)
    && (decide (o.op ≠ 5) || decide (o.inn.ch / 4 ≤ 1024 - o.tblFirst))
    && (decide (o.op ≠ 4) || decide (2 ^ o.group ≤ blockCh o.inn))

/-- The core and thread of a cluster's thread number (R315). -/
def coreOf (c thread : Nat) : Nat := 3 * c + thread / 4

/-- The global address of a local one of this device. -/
def ownGlobal (s : State) (a : Nat) : Nat := s.fab.slot * 2 ^ 45 + a

/-- Whether a range of n bytes at a local address lies in the core's own scratchpad. -/
def inOwnScratch (s : State) (core a n : Nat) : Bool :=
  let base := 0x11_0000_0000 + 0x10_0000 * core
  decide (addrSlot a = s.fab.slot) && decide (base ≤ addrLocal a) && decide (addrLocal a + n ≤ base + 0x4_0000)

/-- The code of Table 8-10 with which a fresh instruction fails its check, if it does: the lowest (R303, R320). (DEDUCED, log 39; DEDUCED, log 40) -/
def checkCode (s : State) (c : Nat) (i : TInstr) : Option Nat :=
  let core := coreOf c i.thread
  if i.desc % 64 ≠ 0 ∨ ¬inOwnScratch s core i.desc 128 then some 0x09
  else
    let d := s.load (addrLocal i.desc) 128
    let o := topOf i.op i.fields d
    let lock := s.bitAt (Reg.tarCfg c) 1 && !s.bitAt (Reg.tarPrio c) i.thread
    let quads := (onesBelow (s.fldAt (Reg.tarQmask c) 3 0) 4).all (fun q => decide ((s.dom (24 + 4 * c + q)).st = .on))
    let window := (s.thread core (i.thread % 4)).monitor
      || (touched s o).all (fun t => windowOk s core (i.thread % 4) (ownGlobal s t.1) t.2.1 t.2.2)
    let checks : List (Nat × Bool) :=
      [(0x01, fieldsOk o d), (0x02, comboOk s o), (0x03, decide (o.op = 3) || decide (o.op = 5) || (decide (o.kh ≤ 31) && decide (o.kw ≤ 31))),
       (0x04, decide (o.op = 3) || ((decide (o.sy = 1) || decide (o.dy = 1)) && (decide (o.sx = 1) || decide (o.dx = 1)))),
       (0x05, padsOk o), (0x06, outOk o), (0x07, rowsOk o), (0x08, placeOk s c i.thread o && (closedAt s o).isNone),
       (0x0A, tableOk s c o), (0x0B, !lock), (0x0C, quads), (0x81, window)]
    (checks.find? (fun k => !k.2)).map (fun k => k.1)

/-! ### Faults and the thread's release -/

/-- A tensor instruction stops with a code of Table 8-10: TAR_FAULT, TAR_FAULT_ADDR and IRQ FAULT, and the thread's exception. -/
def tensorFault (s : State) (c : Nat) (i : TInstr) (code tval : Nat) : State :=
  let s := s.setReg (Reg.tarFault c) (BitVec.ofNat 64 (code + i.thread * 256 + i.op * 4096))
  let s := (s.setReg (Reg.tarFaultAddr c) (BitVec.ofNat 64 tval)).raise (Reg.tarIrqStat c) 0
  takeCause s (coreOf c i.thread) (i.thread % 4) (if 0x80 ≤ code then 0x0E else 0x0D) tval

/-- The running instruction stops, and the array is free. -/
def stopRun (s : State) (c : Nat) : State := s.modTar c (fun x => { x with run := none })

/-- A closed bank group is counted and logged as for any access (R363). -/
def checkFailed (s : State) (c : Nat) (i : TInstr) (code : Nat) : State :=
  let s :=
    if code = 0x08 then
      match closedAt s (topOf i.op i.fields (s.load (addrLocal i.desc) 128)) with
      | some a => offAccess s a
      | none => s
    else s
  tensorFault s c i code i.desc

/-! ### Tiles and steps (R298, R299) -/

/-- The pixel cost as a fraction, with the quadrants in use (Table 8-1, R308, R309). -/
def pixelCost (o : TOp) (qmask : Nat) : Nat × Nat :=
  let k := if qmask = 0xF then 1 else if qmask = 0x3 then 2 else 4
  if o.op = 3 then (k * o.kh * o.kw, 1)
  else if o.op = 4 then
    let rate := (match o.mode with | 1 => 8192 | 2 => 1024 | _ => 4096) / (if o.inn.layout = 1 then 32 else 16)
    (k * 64 * 2 ^ o.group, rate)
  else match o.mode with
    | 2 => (k * rowsOf o, 16)
    | 4 => (k * (o.cbits + 1), 4)
    | _ => (k, 1)

/-- Load cycles L (Table 8-2). -/
def loadCycles (o : TOp) : Nat :=
  if o.op = 3 ∨ o.op = 4 then 0 else if o.mode = 6 then 16
  else match o.wt.ty with
    | 8 => 16
    | 4 => 64
    | _ => 32

/-- The tap-blocks of an output block: for pooling, one per window. -/
def blocksOf (o : TOp) : List (Nat × Nat × Nat) := if o.op = 3 then [(0, 0, 0)] else tapBlocks o

/-- The cycles of a step over the tap-blocks `l` with tiles of p pixels (R299). -/
def stepCycles (o : TOp) (qmask p : Nat) (l : List (Nat × Nat × Nat)) : Nat :=
  let (n, d) := pixelCost o qmask
  let changes := ((l.zip (l.drop 1)).filter (fun ab => decide (passOf ab.1 ≠ passOf ab.2))).length
  96 + 16 * changes + l.length * Nat.max ((p * n + d - 1) / d) (loadCycles o)

/-- The steps of s tap-blocks of a tile. -/
def stepsOf (fuel s : Nat) (l : List (Nat × Nat × Nat)) : List (List (Nat × Nat × Nat)) :=
  match fuel with
  | 0 => []
  | n + 1 => match l with
    | [] => []
    | l => l.take s :: stepsOf n s (l.drop s)

/-- The largest tile of at most n pixels whose every step of s tap-blocks, with its reserve, fits the budget. -/
def largestTile (n : Nat) (fits : Nat → Bool) : Option Nat :=
  match n with
  | 0 => none
  | n + 1 => if fits (n + 1) then some (n + 1) else largestTile n fits

/-- The size of a tile: pixels, and tap-blocks a step, from s downward (R298). -/
def sizeTile (o : TOp) (qmask budget s : Nat) : Nat × Nat :=
  match s with
  | 0 => (1, 1)
  | s + 1 =>
    let l := blocksOf o
    let steps := stepsOf l.length (s + 1) l
    match largestTile 256 (fun p => steps.all (fun st => decide (stepCycles o qmask p st + 2 * p ≤ budget))) with
    | some p => if 8 ≤ p ∨ s = 0 then (p, s + 1) else sizeTile o qmask budget s
    | none => sizeTile o qmask budget s

/-- The tile that starts now: at the array clock in force, 2.0 µs a step. (DEDUCED, log 43) -/
def tileNow (s : State) (c : Nat) (o : TOp) (qmask : Nat) : Nat × Nat :=
  sizeTile o qmask (50 * arrayClock s c) (Nat.min 64 (blocksOf o).length)

/-! ### Outputs (R287, R290, R291, R303, R331) -/

/-- Counts the saturations of an accumulation (R287, R325). -/
def countSat (s : State) (c n : Nat) : State :=
  if n = 0 then s else (s.countBy (Reg.tarAccSat c) n).raise (Reg.tarIrqStat c) 2

/-- The raw value of pixel i, channel ch, with its effects on the counters and draws (R287 to R290, Table 8-8). -/
def rawOut (s : State) (c : Nat) (o : TOp) (tainted : Bool) (i ch : Nat) : State × Int :=
  if tainted then
    let x : Nat := Config.undefinedOutput s.freeCtr % 2 ^ 32
    (s.draw, if o.isF then (x : Int) else sext x 32)
  else if o.op = 3 then (s, poolOut s o i ch)
  else if o.mode = 6 then (s.draw, (logAcc s o i ch s.freeCtr : Int))
  else if o.mode = 2 then (s, (floatAcc s c o i ch : Int))
  else
    let (x, n) := intAcc s c o i ch
    (countSat s c n, x)

/-- The output of pixel i, channel ch, written (R291, R303, R331, R341). -/
def writeOut (s : State) (c : Nat) (o : TOp) (tainted : Bool) (i ch : Nat) : State :=
  let (y, x) := outPos o i
  if o.out.ch ≤ ch then putElem s o.out y x ch (if o.rq then wrap 16 (recZpOut s o.qut) else 0)
  else
    let (s, raw) := rawOut s c o tainted i ch
    if o.rq then
      let (corr, miss) := escCorr s c o i ch
      let s := if miss = 0 then s else s.countBy (Reg.qntEscMiss c) miss
      let (s, q) := quOut s c o.qut ch o.out.ty o.isF o.stats raw corr (elemAddr o.out y x ch - o.out.base)
      putElem s o.out y x ch q
    else if o.acc then
      let old := elemCode s o.out y x ch
      if o.isF then putElem s o.out y x ch (fAdd 32 old.toNat raw.toNat)
      else
        let (v, n) := addSat (old, 0) raw
        putElem (countSat s c n) o.out y x ch (wrap 32 v)
    else putElem s o.out y x ch (wrap 32 raw)

/-- The channels of output block ob that are written: those of OUT, and the rest of its last channel block (R291). -/
def blockOuts (o : TOp) (ob : Nat) : List Nat :=
  let g := blockCh o.out
  let top := if o.out.isMap then (o.out.ch + g - 1) / g * g else o.out.ch
  ((List.range 64).map (fun j => 64 * ob + j)).filter (fun ch => decide (ch < top))

/-- The outputs of a tile: n pixels from px of output block ob, one channel block after another. -/
def writeTile (s : State) (c : Nat) (o : TOp) (tainted : Bool) (ob px n : Nat) : State :=
  let g := blockCh o.out
  s.each (List.range (64 / g)) (fun s b =>
    s.each (List.range n) (fun s i =>
      s.each ((blockOuts o ob).filter (fun ch => decide (ch % 64 / g = b))) (fun s ch => writeOut s c o tainted (px + i) ch)))

/-- The bad ternary bytes of the blocks of output block ob are counted (R294, R325). -/
def countTernary (s : State) (c : Nat) (o : TOp) (ob : Nat) : State :=
  if o.wt.ty = 7 ∧ (o.op = 1 ∨ o.op = 2) then
    let bad := ((tapBlocks o).flatMap (fun t => (List.range (rowsOf o)).flatMap (fun r => (List.range 13).filter (fun b =>
      decide (242 < s.load (weightRow o ob (t.1 * o.kw + t.2.1) t.2.2 r + b) 1))))).length
    if bad = 0 then s else (s.countBy (Reg.tarTernBad c) bad).raise (Reg.tarIrqStat c) 3
  else s

/-- `tload`: the codebooks are copied, TM_VALID is set, and the output of a parked or suspended user of the table is
undefined from here on (R311, Table 8-8). -/
def loadTable (s : State) (c : Nat) (o : TOp) : State :=
  s.modTar c (fun x =>
    { x with
      table := (List.range (o.inn.ch / 4)).foldl (fun t k =>
        put (fun _ => 0) t (o.tblFirst + k) (BitVec.ofNat 32 (s.load (o.inn.base + 4 * k) 4))) x.table
      tmValid := true
      ctxs := x.ctxs.map (fun k =>
        if (topOf k.run.ins.op k.run.ins.fields k.run.d).wt.ty = 8 then { k with run := { k.run with tainted := true } } else k) })

/-! ### Parking, suspension and resumption (R316 to R318) -/

/-- The address of a thread's tensor context. -/
def ctxAddr (th : Thread) : Nat := (th.tcrAt TCTX).toNat / 512 * 512

/-- Bytes of a free function written from a local address. -/
def putFree (s : State) (a n : Nat) (f : Nat → Byte) : State := putData s a ((List.range n).map f)

/-- The running instruction r leaves the array at a step boundary: spill and context are written and TRES is set; `none` where
TCTX lies outside the core's scratchpad (Table 6-9). -/
def saveRun (s : State) (c : Nat) (r : TRun) : Option State :=
  let core := coreOf c r.ins.thread
  let t := r.ins.thread % 4
  let a := ctxAddr (s.thread core t)
  if inOwnScratch s core a 512 then
    let id := s.freeCtr
    let s := s.draw
    let s := match r.tile with
      | some (p, _) => putFree s (s.reg (Reg.tarSpill c r.ins.thread)).toNat (Nat.min 0x1_0000 (256 * p)) (Config.spillByte id)
      | none => s
    let s := putFree s (addrLocal a) 512 (Config.ctxByte id)
    let s := s.modTar c (fun x => { x with run := none, ctxs := { id := id, run := r } :: x.ctxs })
    some (s.modThread core t (fun th => th.setTstat 5 true))
  else none

/-- The context that lies at the thread's TCTX, if its check value holds. -/
def findCtx (s : State) (c : Nat) (i : TInstr) : Option TCtx :=
  let core := coreOf c i.thread
  let a := ctxAddr (s.thread core (i.thread % 4))
  if inOwnScratch s core a 512 then
    (s.tar c).ctxs.find? (fun k => s.bytes (addrLocal a) 512 = (List.range 512).map (Config.ctxByte k.id))
  else none

/-- The next instruction to serve: the first of a TAR_PRIO thread, else the first (R315). -/
def nextInstr (s : State) (c : Nat) : Option TInstr :=
  let q := (s.tar c).queue
  match q.find? (fun i => s.bitAt (Reg.tarPrio c) i.thread) with
  | some i => some i
  | none => q.head?

/-- At a step boundary the running instruction is suspended for its thread's interrupt or stop, or parked for a waiting priority
instruction (R316, R317). -/
def stepBoundary (s : State) (c : Nat) : State :=
  let x := s.tar c
  match x.run with
  | none => s
  | some r =>
    let core := coreOf c r.ins.thread
    let t := r.ins.thread % 4
    if wantsStop s core t then
      match saveRun s c r with
      | none => tensorFault (stopRun s c) c r.ins 0x81 (ctxAddr (s.thread core t))
      | some s =>
        let s := s.count (Reg.tarSuspends c)
        let th := s.thread core t
        match (if th.ie then pendingIrq s th else none) with
        | some i => takeInterrupt s core t i
        | none => s.setThread core t { th with st := .stopped, bundle := [], wait := .none, started := false }
    else if !s.bitAt (Reg.tarPrio c) r.ins.thread && x.queue.any (fun i => s.bitAt (Reg.tarPrio c) i.thread) then
      match saveRun s c r with
      | none => tensorFault (stopRun s c) c r.ins 0x81 (ctxAddr (s.thread core t))
      | some s =>
        (s.modTar c (fun x => { x with queue := { r.ins with resume := true } :: x.queue })).count (Reg.tarParks c)
    else s

/-! ### The commands -/

/-- TCONV (R231, R296). -/
def execTconv (x : Px) (rs : SReg) (fields : BitVec 16) (s : State) : Out := issue x s (sylTensor 1 rs fields)

/-- TMM (R231, R310). -/
def execTmm (x : Px) (rs : SReg) (fields : BitVec 16) (s : State) : Out := issue x s (sylTensor 2 rs fields)

/-- TPOOL (R231, R308). -/
def execTpool (x : Px) (rs : SReg) (fields : BitVec 16) (s : State) : Out := issue x s (sylTensor 3 rs fields)

/-- TDW (R231, R309). -/
def execTdw (x : Px) (rs : SReg) (fields : BitVec 16) (s : State) : Out := issue x s (sylTensor 4 rs fields)

/-- TLOAD (R231, R311). -/
def execTload (x : Px) (rs : SReg) (fields : BitVec 16) (s : State) : Out := issue x s (sylTensor 5 rs fields)

/-- Whether a commit that is requested names the record of an instruction that has not started (R338). -/
def heldByCommit (s : State) (i : TInstr) : Bool :=
  let o := topOf i.op i.fields (s.load (addrLocal i.desc) 128)
  o.rq && !i.resume && (List.range 8).any (fun k => (s.qu k).commits.any (fun l => (l.flatMap (withMirrors s)).contains o.qut))

/-- The thread's earlier accesses have completed as for `fence` (R226, R304). -/
def accessesDone (s : State) (core t : Nat) : Bool := (s.thread core t).waitingLoads.isEmpty && (heldStores s core t).isEmpty

/-- TENSOR_START (R303, R304, R315, R338): the array, initialised and free, serves the next instruction whose thread's accesses have
completed; it checks its descriptor, or reads back its context. -/
def execTensorStart (array : Fin 8) (s : State) : Out :=
  let c := array.val
  let x := s.tar c
  match nextInstr s c with
  | none => .next s
  | some i =>
    let core := coreOf c i.thread
    if !x.initDone || x.run.isSome || !accessesDone s core (i.thread % 4) || heldByCommit s i then .next s
    else
      let s := s.setTar c { x with queue := x.queue.erase i }
      if i.resume then
        match findCtx s c i with
        | none => .next (tensorFault s c i 0x0D i.desc)
        | some k =>
          .next (s.modTar c (fun x => { x with run := some { k.run with ins := i }, qactive := k.run.qmask
                                               ctxs := x.ctxs.filter (fun y => y.id ≠ k.id) }))
      else
        match checkCode s c i with
        | some code => .next (checkFailed s c i code)
        | none =>
          let q := s.fldAt (Reg.tarQmask c) 3 0
          .next (s.modTar c (fun x =>
            { x with run := some { ins := i, d := s.load (addrLocal i.desc) 128, qmask := q, ob := 0, px := 0, tile := none, step := 0
                                   tainted := false }
                     qactive := q }))

/-- The words of the slice that a tile reads: activations at its taps, and rows of weights, as address and length. -/
def tileReads (o : TOp) (ob px n : Nat) : List (Nat × Nat) :=
  let chans (t : Nat × Nat × Nat) := if o.op = 3 then blockOuts o ob else blockChannels o t.2.2 (64 * ob)
  (blocksOf o).flatMap (fun t =>
    (List.range n).flatMap (fun i =>
      let (y, x) := inPos o (px + i)
      match (if o.op = 2 then some (y, x) else tapPos o y x t.1 t.2.1) with
      | some p => (chans t).map (fun k => (elemAddr o.inn p.1 p.2 k, (elemBits o.inn.ty + 7) / 8))
      | none => [])
    ++ (if o.mode = 6 then (chans t).map (fun k => (if o.wtT then elemAddr o.wt (64 * ob) 0 k else elemAddr o.wt k 0 (64 * ob), 64))
      else if o.op = 1 ∨ o.op = 2 then
        (List.range (rowsOf o)).map (fun r => (weightRow o ob (t.1 * o.kw + t.2.1) t.2.2 r, rowBytes o))
      else if o.op = 4 then
        (blockOuts o ob).map (fun ch => (o.wt.base + ((t.1 * o.kw + t.2.1) * o.inn.ch + ch) * o.wt.line, 2 ^ o.group))
      else []))

/-- The first poisoned word that a tile reads (R324). (DEDUCED, log 194) -/
def tilePoison (s : State) (o : TOp) (ob px n : Nat) : Option Nat :=
  if s.memb.poison.isEmpty then none
  else ((tileReads o ob px n).find? (fun a => s.anyPoison a.1 a.2)).map (fun a => ((List.range a.2).find? (fun k => s.poisoned (a.1 + k))).elim a.1 (a.1 + ·))

/-- The running instruction stops at uncorrectable slice data, with code 0x84; its partial statistics are gone (R324). -/
def sliceError (s : State) (c : Nat) (r : TRun) (a : Nat) : State :=
  tensorFault (uncorrectable (stopRun s c) (addrLocal a)) c r.ins 0x84 a

/-- The run r of array c takes one block step: TENSOR_STEP_DONE's effect (R302 to R304, R331). -/
def stepRun (s : State) (c : Nat) (r : TRun) (o : TOp) (p sb : Nat) : State :=
  let done := r.step + 1
  if (blocksOf o).length ≤ done * sb then
    let n := Nat.min p (pixels o - r.px)
    match tilePoison s o r.ob r.px n with
    | some a => sliceError s c r (ownGlobal s a)
    | none =>
    let s := writeTile (countTernary s c o r.ob) c o r.tainted r.ob r.px n
    let last := decide (pixels o ≤ r.px + n)
    let r := { r with tile := none, step := 0, px := if last then 0 else r.px + n, ob := if last then r.ob + 1 else r.ob }
    let s := s.modTar c (fun x => { x with run := some r })
    if outBlocks o ≤ r.ob then s else stepBoundary s c
  else
    stepBoundary (s.modTar c (fun x => { x with run := some { r with tile := some (p, sb), step := done } })) c

/-- A block step of the run r, with its tile sized where it has none yet; TCFG loads its table in one (R302, R307). -/
def stepDone (s : State) (c : Nat) (r : TRun) : State :=
  let o := topOf r.ins.op r.ins.fields r.d
  if outBlocks o ≤ r.ob then s
  else
    let s := s.count (Reg.tarSteps c)
    if o.op = 5 then (loadTable s c o).modTar c (fun x => { x with run := some { r with ob := 1 } })
    else
      let tile := r.tile.getD (tileNow s c o r.qmask)
      stepRun s c r o tile.1 tile.2

/-- TENSOR_STEP_DONE (R298, R299, R316 to R319): one step ends; the last step of a tile writes its outputs; then a suspension or a
parking takes place. -/
def execTensorStepDone (array : Fin 8) (s : State) : Out :=
  match (s.tar array.val).run with
  | none => .next s
  | some r => .next (stepDone s array.val r)

/-- TENSOR_COMPLETE (R304, R343): every output has taken effect; RERUN is decided, TRES clears, and the thread goes on. -/
def execTensorComplete (array : Fin 8) (s : State) : Out :=
  let c := array.val
  match (s.tar c).run with
  | none => .next s
  | some r =>
    let o := topOf r.ins.op r.ins.fields r.d
    if outBlocks o ≤ r.ob then
      let s := (stopRun s c).count (Reg.tarInstr c)
      let s := s.when (o.rq && o.stats && decide (o.op ≠ 5)) (fun s => checkRerun s c o.qut)
      let core := coreOf c r.ins.thread
      let t := r.ins.thread % 4
      let s := s.modThread core t (fun th => { th.setTstat 5 false with wait := .none })
      .next (settle 8 (finish s core t true) core)
    else .next s

/-- TENSOR_WATCHDOG (R326): the step has overrun; the instruction stops with code 0x86. -/
def execTensorWatchdog (array : Fin 8) (s : State) : Out :=
  let c := array.val
  match (s.tar c).run with
  | none => .next s
  | some r => .next (tensorFault (((stopRun s c).count (Reg.tarWdog c)).raise (Reg.tarIrqStat c) 4) c r.ins 0x86 r.ins.desc)

/-- TENSOR_SLICE_ERROR (R324): uncorrectable slice data, or a parity error in table memory, stops the running instruction. -/
def execTensorSliceError (array : Fin 8) (tablePe : Bool) (addr : BitVec 48) (s : State) : Out :=
  let c := array.val
  match (s.tar c).run with
  | none => .next s
  | some r =>
    if tablePe then
      .next (tensorFault (((stopRun s c).modTar c (fun x => { x with tmValid := false })).raise (Reg.tarIrqStat c) 1) c r.ins 0x85 addr.toNat)
    else .next (sliceError s c r addr.toNat)

/-- A write of TAR_QMASK: 0xF, 0x3 and 0x1 are accepted, others ignored (Table 8-9). -/
def writeQmask (s : State) (c v : Nat) : State :=
  let q := v % 16
  if q = 0xF ∨ q = 0x3 ∨ q = 0x1 then s.setReg (Reg.tarQmask c) (BitVec.ofNat 64 q) else s

/-- TAR_QMASK_WRITE (R323). -/
def execTarQmaskWrite (who : Requester) (array : Fin 8) (val : BitVec 32) (s : State) : Out :=
  .next (s.writeGuard who (Reg.tarQmask array) (fun s => writeQmask s array val.toNat))

/-- TABLE_MEMORY_INIT_DONE (R327): Q0 has reached ON from OFF; table memory is zero and INIT_DONE is set. -/
def execTableMemoryInitDone (array : Fin 8) (s : State) : Out :=
  if (s.dom (24 + 4 * array.val)).st = .on ∧ ¬(s.tar array).initDone then
    .next (s.modTar array (fun x => { x with initDone := true, tmValid := false, table := [] }))
  else .next s

end Sys2Proof.Machine
end

