-- ==== Sys2Proof/Machine/Policy.lean ====
section
/-! DEFINITION. Tymor's policies: task faults, thermal stages, packages, adaptation (chapters 9 and 14). -/
namespace Sys2Proof.Machine

open Sys2Proof

/-! ### Tasks and control cores (R468, R500) -/

/-- A task fault recorded; the third within 60 s holds the task (R468). -/
def faultTask (s : State) (t : TaskId) : State :=
  let l := (s.task t).faults.filter (fun x => decide (s.now < x + sec 60)) ++ [s.now]
  s.modTram (fun m => { m with tasks := put taskReset m.tasks (taskNo t) { s.task t with faults := l, held := (s.task t).held || decide (3 ≤ l.length) } })

/-- A thread of a task is stopped, and started again from its initial state: at once, or at the boundary where it stops. -/
def restartThread (s : State) (c t : Nat) : State :=
  let s := stopThread s c t
  let th := s.thread c t
  if th.st = .stopped ∨ th.st = .halted then startThread (s.setThread c t { th with pc := th.entry }) c t
  else s.setThread c t { th with again := decide (th.st = .stopping) }

/-- The threads that a task uses. -/
def taskThreads (s : State) (t : TaskId) : List (Nat × Nat) :=
  ((taskCores s t).flatMap (fun c => (List.range 4).map (fun k => (c, k)))).filter (fun x => decide ((s.thread x.1 x.2).st ≠ .stopped))

/-- A task fault (R468): logged with cause, PC and TVAL; every thread of the task is stopped, and the task restarted unless it is held; a
held counting task takes its doors out of service, and a narration fault ends the account. (DEDUCED, log 202) -/
def taskFault (s : State) (task : TaskId) (cause pc tval : Nat) : State :=
  let s := ((s.logRule 468 (taskNo task * 256 + cause)).logRule 468 pc).logRule 468 tval
  let s := faultTask s task
  let s := s.each (taskThreads s task) (fun s x => if (s.task task).held then stopThread s x.1 x.2 else restartThread s x.1 x.2)
  let s := match task with
    | .counting => s.when (s.task .counting).held (fun s => s.modWindows (fun _ => true) (fun w => w.outage s.now true))
    | .narration => match narrating s with
      | some i => endAccount s i false
      | none => s
    | _ => s
  sageEval s

/-- TASK_FAULT (R467, R468, Table 14-3): causes BREAK and STEP are those of debug, once a debug-unlock certificate has been accepted. -/
def execTaskFault (task : TaskId) (cause : Byte) (pc tval : BitVec 64) (s : State) : Out :=
  if s.sys.debugUnlocked && (decide (cause = 0x0B) || decide (cause = 0x11)) then .next s
  else .next (taskFault s task cause.toNat pc.toNat tval.toNat)

/-- A frame of the alarm path is abandoned (R469): logged as FRAME_ABANDON, and its records committed in place of Sage's acceptance signal.
Waits that time out with it, within a frame's time of 33 ms, belong to the same frame. (DEDUCED, log 203) -/
def abandonFrame (s : State) : State :=
  if s.tram.abandonedAt.any (fun t => !s.past t (ms 33)) then s
  else commitWarning ((s.modTram (fun t => { t with abandonedAt := some s.now })).logRule 469 s.now)

/-- What Tymor does on a timeout of a `ccwait` of PX core c (R469): the alarm task abandons its frame, another task has a fault. -/
def waitTimedOut (s : State) (c pc : Nat) : State :=
  match taskOn s c with
  | some .alarm => abandonFrame s
  | some t => taskFault s t 0 pc 0
  | none => s

/-- CCWAIT_TIMEOUT (R224, R469): rt core cycles have passed with the counter not zero; the waiting bundle takes effect with rd 1, and Tymor
deals with the timeout. (DEDUCED, log 32) -/
def execCcwaitTimeout (core : Fin 24) (thread : Fin 4) (s : State) : Out :=
  let th := s.thread core thread
  match th.wait with
  | .ccwait _ cc rt since =>
    let cycles := (s.now - since) * (s.island core).eff * 25 * 101
    if th.runs && decide (rt ≠ 0) && decide (rt * 100_000 ≤ cycles) && decide (ccVal s core cc ≠ 0) then
      .next (waitTimedOut (settle 8 (commit s core thread true) core) core th.pc)
    else .next s
  | _ => .next s

/-- CC_UNRESPONSIVE (R500): the core's work is moved, and the core is put in reset; a fault of CC0 is one of its domain. -/
def execCcUnresponsive (cc : Fin 4) (s : State) : Out :=
  let c : Nat := cc
  if c = 0 then .next s
  else .next ((resetDomain s (133 + c)).modDom (133 + c) (fun x => { x with inReset := true }) |>.logRule 500 c)

/-! ### Adaptation (R347 to R351, R490) -/

/-- The minute of the day in PTP time. -/
def ptpMinute (s : State) : Nat := ptpNs s / 60_000_000_000 % 1440

/-- PTP time lies in the package's window; one that ends before it starts runs over midnight. -/
def inAdaptWindow (s : State) (p : Package) : Bool :=
  let m := ptpMinute s
  if p.adaptStart ≤ p.adaptEnd then decide (p.adaptStart ≤ m) && decide (m < p.adaptEnd)
  else decide (p.adaptStart ≤ m) || decide (m < p.adaptEnd)

/-- The conditions of R348, and no thermal stage (R486). -/
def adaptConditions (s : State) : Bool :=
  stillFor s (sec 900) && !inputOn s 3 && !s.veh.flags.testBit 1 && s.tram.windows.isEmpty && decide (s.hld.phase ≠ .armed)
    && decide (s.tram.stage = 0) && (match s.pkgs.counting with
      | some p => p.adaptPermit && inAdaptWindow s p
      | none => false)

/-- The record of a night (R490): the stop cause (0 a condition of R348, 1 its end), steps run, validation and held-out errors, whether the
weights were accepted. -/
def logNight (s : State) (cause steps validation heldOut : Nat) (accepted : Bool) : State :=
  ((((s.logRule 490 cause).logRule 490 steps).logRule 490 validation).logRule 490 heldOut).logRule 490 (num accepted)

/-- The run stops: the unfinished step is discarded, the accepted deltas stay, and the night is logged (R348, R490). -/
def stopAdaptation (s : State) : State :=
  if s.adapt.running then logNight (s.modAdapt (fun a => { a with running := false })) 0 0 0 0 false else s

/-- ADAPTATION_START (R348). -/
def execAdaptationStart (s : State) : Out :=
  .next (if adaptConditions s ∧ !s.adapt.running then s.modAdapt (fun a => { a with running := true }) else s)

/-- ADAPTATION_STOP (R348): a condition has ceased to hold. -/
def execAdaptationStop (s : State) : Out := .next (if adaptConditions s then s else stopAdaptation s)

/-- The two conditions of R351, and the room of the delta store: w16, m8 and v16 of every weight in 256 KiB (Table 9-5). -/
def nightOk (p : Package) (v h : ErrorPair) : Bool :=
  decide (v.adapted ≤ v.against + p.adapt.tol) && decide (h.adapted ≤ h.against)
    && decide (6 * (p.heads.map (fun h => h.shipped.length)).sum ≤ 0x4_0000)

/-- ADAPTATION_END (R350, R351, R490): the night's steps are run on their gradients, and the weights accepted, or discarded and counted. (DEDUCED, log 48) -/
def execAdaptationEnd (gradients : List Gradient) (validation heldOut : ErrorPair) (s : State) : Out :=
  match s.adapt.running, s.pkgs.counting with
  | true, some p =>
    let ok := nightOk p validation heldOut
    let s := logNight (s.modAdapt (fun a => { a with running := false })) 1 (min gradients.length p.adapt.steps) validation.adapted heldOut.adapted ok
    if ok then .next (takeWeights (s.modAdapt (fun a => { a with waiting := some (night p (startTensors s p) gradients) })))
    else .next (s.modAdapt (fun a => { a with rejections := a.rejections + 1 }))
  | _, _ => .next s

/-- DELTA_RESET (R351): a maintenance command resets every delta to zero. -/
def execDeltaReset (authenticated : Bool) (s : State) : Out :=
  .next (if authenticated && s.sys.maintUp then useWeights s [] else s)

/-- WEIGHT_HASH_CHECK (R347): a mismatch puts obstacle warning back to reason 0x06 until the package is verified again. -/
def execWeightHashCheck (hashOk : Bool) (s : State) : Out :=
  .next (if s.pkgs.warning.isSome && !hashOk then sageEval ((s.modAdapt (fun a => { a with hashBad := true })).logRule 347 0) else s)

/-! ### Temperature (R486, Table 14-8) -/

/-- The stage that the device temperature calls for. -/
def stageOf (s : State) : Nat := ((List.range 5).filter (fun n => decide (1 ≤ n) && tempAtLeast s (stageTh s n))).foldl Nat.max 0

/-- The islands that stage 1 caps, with their caps: PX12–PX23 at 800 MHz, TA4–TA7 at 700 MHz. -/
def cappedIslands : List (Nat × Nat) := (List.range 12).map (fun i => (12 + i, 32)) ++ (List.range 16).map (fun i => (40 + i, 28))

/-- FREQ of islands written by Tymor, as one group change. -/
def setFreqs (s : State) (l : List (Nat × Nat)) : State :=
  requestChange (s.each l (fun s e => s.setFldAt (Reg.clkIslCtrl e.1) 6 0 e.2)) (l.map (fun e => e.1)) true

/-- The quadrants that stage 3 takes OFF: Q1 to Q3 of TA4 to TA7. -/
def stageQuadrants : List Nat := [4, 5, 6, 7].flatMap (fun c => [25 + 4 * c, 26 + 4 * c, 27 + 4 * c])

/-- A target that Tymor writes to domains one by one. -/
def targetEach (s : State) (l : List Nat) (t : Nat) : State :=
  admitAll 16 (s.each l (fun s d => if refusal s d t false [d] = 0 then setTarget s d t else s))

/-- FORCE_C written by Tymor; while Rosemary is ARMED it is the value to be restored (R444, R486). (DEDUCED, log 80) -/
def forceC (s : State) (b : Bool) : State :=
  if s.hld.phase = .armed then s.modTram (fun t => { t with forceBefore := some b }) else s.setFldAt Reg.camShedForce 0 0 (num b)

/-- The actions of a stage entered, or undone. -/
def stageAction (s : State) (n : Nat) (enter : Bool) : State :=
  if n = 1 then
    if enter then
      let l := cappedIslands.map (fun e => (e.1, s.fldAt (Reg.clkIslCtrl e.1) 6 0))
      setFreqs (stopAdaptation (s.modTram (fun t => { t with stageFreqs := l })))
        (cappedIslands.map (fun e => (e.1, Nat.min e.2 (s.fldAt (Reg.clkIslCtrl e.1) 6 0))))
    else setFreqs (s.modTram (fun t => { t with stageFreqs := [] })) s.tram.stageFreqs
  else if n = 2 then (if enter then stopView (forceC s true) else forceC s false)
  else if n = 3 then targetEach s stageQuadrants (if enter then 0 else 1)
  else s

/-- THERMAL_STAGE_ENTER (R486): the highest stage whose threshold is reached, lower ones on the way. -/
def execThermalStageEnter (temps : List Int) (s : State) : Out :=
  let s := checkWarn (sampleTemps s temps)
  let new := stageOf s
  let enter (s : State) (n : Nat) : State := stageAction (s.modTram (fun t => { t with stage := n, coolSince := none })) n true
  .next (sageEval (s.each ((List.range 5).filter (fun n => decide (s.tram.stage < n) && decide (n ≤ new))) enter))

/-- THERMAL_STAGE_LEAVE (R486): one stage, once the temperature has stayed 5 °C below its threshold for 10 s. -/
def execThermalStageLeave (temps : List Int) (s : State) : Out :=
  let s := checkWarn (sampleTemps s temps)
  let n := s.tram.stage
  if 1 ≤ n ∧ s.tram.coolSince.any (fun t => s.past t (sec 10)) then
    .next (sageEval (stageAction (noteCool (s.modTram (fun t => { t with stage := n - 1, coolSince := none }))) n false))
  else .next s

/-! ### Packages (R494 to R496, R515) -/

/-- "XPKG", little-endian. -/
def pkgMagic : Nat := 0x474B_5058

/-- The number of a kind (Table 14-9) and the largest size of its packages (R494). -/
def kindNo (k : PkgKind) : Nat :=
  match k with
  | .warning => 1
  | .counting => 2
  | .narration => 3
def kindLimit (k : PkgKind) : Nat :=
  match k with
  | .warning => 0x80_0000
  | .counting => 0x40_0000
  | .narration => 0x180_0000

/-- The rollback floor of a kind. -/
def kindFloor (s : State) (k : PkgKind) : Nat :=
  match k with
  | .warning => s.sys.floorWarning
  | .counting => s.sys.floorCounting
  | .narration => s.sys.floorNarration

/-- An FP32 number from a / 10 to b / 10. -/
def between (x : BitVec 32) (a b : Nat) : Bool :=
  let v := toFix 32 x.toNat * 10
  !fNan 32 x.toNat && !fInf 32 x.toNat && decide ((a : Int) * fixOne ≤ v) && decide (v ≤ (b : Int) * fixOne)

/-- Every threshold within Table 1-2, and T_warn < T_caution < T_notice. -/
def thresholdsOk (t : Thresholds) : Bool :=
  between t.tWarn 20 60 && between t.tCaution 40 120 && between t.tNotice 80 200 && between t.wNear 5 20 && between t.ceiling 50 300
    && fLt 32 t.tWarn.toNat t.tCaution.toNat && fLt 32 t.tCaution.toNat t.tNotice.toNat

/-- What R495 asks of a warning package beside the rest. -/
def warningOk (p : Package) : Bool :=
  !p.adaptPermit && thresholdsOk p.thresholds && decide (p.taMask = 3) && decide (p.pxMask = 0x3F) && decide (p.detectUs ≤ 11_000)

/-- The steps of R495 in order, with the verdicts of the security engine: the manifest, the signature, the rollback floor and the firmware,
the section table, the sections, the size, and what a warning package must have. -/
def verifySteps (s : State) (p : Package) (sigOk tableHashOk sectionsOk : Bool) : List Bool :=
  [decide (p.magic.toNat = pkgMagic) && decide (p.version = 1) && decide (p.silicon = 0xB0),
   s.sys.secReady && s.sys.provisioned && decide (p.signer.toNat < 4) && sigOk,
   decide (kindFloor s p.kind ≤ p.pkgVersion) && decide (p.minFirmware ≤ (s.reg Reg.bootImgVer).toNat), tableHashOk,
   sectionsOk && decide (1 ≤ p.sections) && decide (p.sections ≤ 32), decide (p.totalLen ≤ kindLimit p.kind),
   decide (p.kind ≠ .warning) || warningOk p]

/-- The verification of R495. -/
def verified (s : State) (p : Package) (sigOk tableHashOk sectionsOk : Bool) : Bool := (verifySteps s p sigOk tableHashOk sectionsOk).all id

/-- The package in force of a kind. -/
def inForce (s : State) (k : PkgKind) : Option Package :=
  match k with
  | .warning => s.pkgs.warning
  | .counting => s.pkgs.counting
  | .narration => s.pkgs.narration

/-- Where the loader puts the image of a package: narration's from slice 4 on, within slices 4 to 7 (R356, R488). -/
def writeImage (s : State) (p : Package) : State :=
  let narration := decide (p.kind = .narration)
  s.each p.image (fun s x =>
    if narration && decide (0x400_0000 < x.1 + x.2.length) then s
    else putData s ((if narration then 0x10_0400_0000 else 0) + x.1) x.2)

/-- The task of a kind of package (Table 14-2). -/
def taskOfKind (k : PkgKind) : TaskId :=
  match k with
  | .warning => .alarm
  | .counting => .counting
  | .narration => .narration

/-- A package comes into force: its image in memory, its task loaded (R356, R501). -/
def loadPackage (s : State) (p : Package) : State :=
  let s := loadTask (writeImage s p) (taskOfKind p.kind)
  { s with pkgs := match p.kind with
    | .warning => { s.pkgs with warning := some p }
    | .counting => { s.pkgs with counting := some p }
    | .narration => { s.pkgs with narration := some p } }

/-- The COPY and PENDING bits of a kind in a record's pkg byte set (Table 15-5); narration has none. -/
def setPkgBits (r : BootRec) (k : PkgKind) (copyB pending : Bool) : BootRec :=
  match k with
  | .warning => { r with pkg := r.pkg / 4 * 4 + num copyB + 2 * num pending }
  | .counting => { r with pkg := r.pkg % 4 + 4 * num copyB + 8 * num pending }
  | .narration => r

/-- The COPY bit of a kind. -/
def copyBit (r : BootRec) (k : PkgKind) : Bool := r.pkg.testBit (if k = .counting then 2 else 0)

/-- A record appended where it differs from the one in force. -/
def recordIfNew (s : State) (r : BootRec) : State := if r = bootRecord s then s else appendRecord s r

/-- The save that has been restored, if its item i was good. -/
def restoredSave (s : State) (i : Nat) : Option Save :=
  match s.hld.restoredFrom with
  | some k => if s.hld.restored.testBit i then some (get saveReset s.hld.saves k) else none
  | none => none

/-- The deltas that a restore brings for a package: those saved with the same package (R357). -/
def restoredDeltas (s : State) (p : Package) : List Trained :=
  match restoredSave s 7 with
  | some x => if x.countHash = p.hash then x.deltas else []
  | none => []

/-- The scale and the ring, with its head and fill, of every slot of a table, from a saved copy of it (R357). -/
def takeScales (s : State) (table : Nat) (saved : List Byte) : State :=
  s.each (List.range 256) (fun s n =>
    let part (o k : Nat) (s : State) : State := putData s (addrLocal table + 128 * n + o) ((saved.drop (128 * n + o)).take k)
    part 28 64 (part 17 2 (part 0 4 s)))

/-- The slot tables that a restore brings for a package: those saved with the same package (R357). -/
def restoreSlots (s : State) (p : Package) : State :=
  match (restoredSave s 6).bind (fun x => x.slotTables.find? (fun e => e.1 = p.hash)) with
  | some e => s.each (p.slotTables.zip e.2) (fun s x => takeScales s x.1 x.2)
  | none => s

/-- The reservations of the alarm partition (Table 14-4), which Tymor applies before any class-A slot starts (R470). -/
def reserve (s : State) : State :=
  let s := s.each [0, 1] (fun s c =>
    (((s.setFldAt (Reg.tarCfg c) 1 1 1).setReg (Reg.tarPrio c) 0xFFF).setReg (Reg.tarQmask c) 0xF).setFldAt (Reg.memSliceCfg c) 1 1 1)
  let s := s.each ((List.range 6).flatMap (fun c => (List.range 4).map (fun t => (c, t)))) (fun s x =>
    s.setFldAt (Reg.pxcThrCtrl x.1 x.2) 3 2 3)
  let s := (s.setReg (Reg.memSliceWmask 0 1) 0x0102_0200).setReg (Reg.memSliceWmask 1 1) 0x0101_0100
  let s := ((s.setReg (Reg.fabVc2En 0) 0x3F).setReg (Reg.fabVc2En 1) 0x1000_0303).setReg (Reg.fabVc2En 2) (oneBit (decReserve s))
  recap s

/-- A package verified at start-up comes into force, its copy named, with the scales, rings and deltas saved with it (R357); the warning package brings Sage with it (R502, R515). -/
def startPackage (s : State) (p : Package) (copyB : Bool) : State :=
  let s := recordIfNew (loadPackage s p) (setPkgBits (bootRecord s) p.kind copyB false)
  let s := restoreSlots s p
  let s := if p.kind = .counting then useWeights s (restoredDeltas s p) else s
  let s := if p.kind = .warning then reserve s else s
  if p.kind = .warning ∧ s.sage.st = .reset then startSage s else s

/-- Where a copy of a package lies in the flash (Table 15-3). -/
def pkgBase (k : PkgKind) (copyB : Bool) : Nat :=
  match k with
  | .warning => if copyB then 0x110_0000 else 0x90_0000
  | .counting => if copyB then 0x1D0_0000 else 0x190_0000
  | .narration => 0x210_0000

/-- A verified upload has been written to the copy not in force, narration's to the single one, and waits with its PENDING bit set (R496,
R515). The bytes of a package are not the model's: they are free. -/
def waitPackage (s : State) (p : Package) : State :=
  let r := bootRecord s
  let k := s.freeCtr
  let s := s.draw.fillFlash (pkgBase p.kind (!copyBit r p.kind)) p.totalLen (fun i => Config.flashByte (k * 2 ^ 26 + i))
  let s := { s with pkgs := { s.pkgs with waiting := s.pkgs.waiting.filter (fun q => q.kind ≠ p.kind) ++ [p] } }
  recordIfNew s (setPkgBits r p.kind (copyBit r p.kind) true)

/-- PACKAGE_VERIFY (R347, R495, R515): a failure is logged with the step that failed; at start-up a good copy comes into force; a good warning package
ends a weight mismatch; later a good copy, uploaded through an authenticated session on MAINT, waits. -/
def execPackageVerify (pkg : Package) (copy : PackageCopy) (sigOk tableHashOk sectionsOk : Bool) (s : State) : Out :=
  if !verified s pkg sigOk tableHashOk sectionsOk then .next (s.logRule 495 (16 * kindNo pkg.kind + (verifySteps s pkg sigOk tableHashOk sectionsOk).idxOf false))
  else match inForce s pkg.kind with
    | none => .next (sageEval (startPackage s pkg copy.copyB))
    | some q =>
      if pkg.kind = .warning ∧ s.adapt.hashBad ∧ q = pkg then .next (sageEval (s.modAdapt (fun a => { a with hashBad := false })))
      else .next (if copy.authenticated && s.sys.maintUp then waitPackage s pkg else s)

/-- PACKAGE_ACTIVATE (R357, R496, R498): a counting package once no window is open and no adaptation runs, a narration package once
no account is being generated; a warning package only at the next start. (DEDUCED, log 138) -/
def execPackageActivate (kind : PkgKind) (s : State) : Out :=
  match s.pkgs.waiting.find? (fun p => p.kind = kind), kind with
  | none, _ => .next s
  | some _, .warning => .next s
  | some p, .counting =>
    if s.tram.windows.isEmpty ∧ s.hld.phase ≠ .armed ∧ !s.adapt.running then
      let r := bootRecord s
      let s := loadPackage { s with pkgs := { s.pkgs with waiting := s.pkgs.waiting.filter (fun q => q.kind ≠ kind) } } p
      let s := useWeights s []
      .next (sageEval (recordIfNew s (setPkgBits r .counting (!copyBit r .counting) false)))
    else .next s
  | some p, .narration =>
    if (narrating s).isNone ∧ s.hld.phase ≠ .armed then
      .next (sageEval (loadPackage { s with pkgs := { s.pkgs with waiting := s.pkgs.waiting.filter (fun q => q.kind ≠ kind) } } p))
    else .next s

end Sys2Proof.Machine
end

