-- ==== Sys2Proof/Machine/Bay.lean ====
section
/-! DEFINITION. The Bay cartridge: presence and latch, authentication, mounting, the life ledger, writes and extents, removal,
and faults (chapter 4). -/
namespace Sys2Proof.Machine

open Sys2Proof

/-! ### Phases -/

/-- A journal tail that no mounted cartridge takes is discarded and logged (R157). -/
def dropTail (s : State) : State :=
  match s.bay.tail with
  | some t => (s.modBay (fun b => { b with tail := none })).logRule 157 t.serial.toNat
  | none => s

/-- The cartridge goes OFFLINE with a cause (Table 4-11): its commands are given up, its clips follow R151. A removal in progress governs.
(DEDUCED, log 174) -/
def goOffline (s : State) (cause : Nat) : State :=
  let s := (s.modBay (fun b => { b with cause := cause, recovering := none })).raise Reg.bayIrqStat 7
  if s.bay.phase = .removing then s
  else sageEval (dropTail ((releaseClips (keepCounted s)).modBay (fun b => { b with
    phase := .offline, io := [], entries := [], pendingAt := none })))

/-- What is known of a cartridge, forgotten. -/
def forgetCartridge (b : Bay) : Bay :=
  { bayReset with
    phase := b.phase, present := b.present, latched := b.latched, rawPresent := b.rawPresent, presentAt := b.presentAt
    rawLatch := b.rawLatch, latchAt := b.latchAt, safe := b.safe, tail := b.tail }

/-- Insertion begins: PHASE IDENTIFYING, with EN set and the security engine ready (R145, R156). -/
def startInsertion (s : State) : State :=
  if s.bay.present && s.bay.latched && s.bitAt Reg.bayCtrl 0 && s.sys.secReady then
    s.modBay (fun b => { forgetCartridge b with phase := .identifying, safe := false })
  else s

/-- PHASE SAFE; with the latch closed again, a new insertion (R148, Table 4-10). -/
def reachSafe (s : State) : State :=
  let again := s.bay.again
  let s := sageEval (dropTail ((releaseClips s).modBay (fun b => { b with
    phase := .safe, safe := true, removeAt := none, again := false, io := [], entries := [], pendingAt := none }))
    |>.raise Reg.bayIrqStat 3)
  if again then startInsertion s else s

/-- The last block of the cartridge (R148): the closing entries of every open clip, of the ledger and of the session, in one block. -/
def closingBlock (s : State) : State :=
  let s := if 31 < s.bay.entries.length + 2 * s.bay.clips.length + 2 then writeBlock s else s
  let s := s.each s.bay.clips (fun s c => closeClipBy queueEntry s c.id 8)
  let s := queueEntry s 0x10 0 0 s.fab.slot 0 (ledgerBody (countedLedger s))
  writeBlock (queueEntry s 0x21 0 0 s.fab.slot 0 [4, 0])

/-- A removal goes on once no write is outstanding: the closing block is formed; a RETIRED cartridge takes none (R148, Table 4-5). -/
def goOnRemoving (s : State) : State :=
  if s.bay.phase = .removing ∧ s.bay.step = 0 ∧ s.bay.io.isEmpty then
    (if s.bay.life = 4 then s else closingBlock s).modBay (fun b => { b with step := 1 })
  else s

/-- The removal sequence begins at a time, of two the earlier; an insertion in progress just stops (R148, Table 4-10). -/
def startRemoval (s : State) (t : Nat) : State :=
  match s.bay.phase with
  | .mounted => sageEval (goOnRemoving (s.modBay (fun b => { b with phase := .removing, removeAt := some t, step := 0, again := false })))
  | .removing => s.modBay (fun b => { b with removeAt := some (min t (b.removeAt.getD t)) })
  | .identifying => reachSafe s
  | .mounting => reachSafe s
  | .offline => reachSafe s
  | _ => s

/-- A surprise removal: every command is abandoned (R150). -/
def surpriseRemoval (s : State) : State :=
  let s := (s.count Reg.baySurprise).raise Reg.bayIrqStat 6
  sageEval (dropTail ((releaseClips (keepCounted s)).modBay (fun b => { forgetCartridge b with phase := .empty })))

/-- The debounced presence changes (R145, R150). -/
def presenceChange (s : State) (present : Bool) : State :=
  let s := (s.modBay (fun b => { b with present := present, safe := b.safe && !present })).raise Reg.bayIrqStat 0
  if present then startInsertion s
  else if s.bay.latched || decide (s.bay.phase ≠ .safe) then surpriseRemoval s
  else s.modBay (fun b => { forgetCartridge b with phase := .empty })

/-- BAY_PRESENT_CHANGE (R126): a sample of BAY_PRESENT_N, asserted where `present`, which may complete its run of 50 ms, or of 2 ms for a
release. (DEDUCED, log 175) -/
def execBayPresentChange (present : Bool) (s : State) : Out :=
  let s := if s.bay.rawPresent = present then s else s.modBay (fun b => { b with rawPresent := present, presentAt := s.now })
  .next (if s.bay.present ≠ present ∧ s.past s.bay.presentAt (if present then ms 50 else ms 2) then presenceChange s present else s)

/-- The debounced latch changes; a removal begins at the raw edge (R145, R148). -/
def latchChange (s : State) (closed : Bool) : State :=
  let s := (s.modBay (fun b => { b with latched := closed, again := b.again || closed })).raise Reg.bayIrqStat 1
  if closed then (if s.bay.phase = .empty ∨ s.bay.phase = .safe then startInsertion (s.modBay (fun b => { b with again := false })) else s)
  else startRemoval s s.bay.latchAt

/-- BAY_LATCH_CHANGE (R126): a sample of BAY_LATCH, which may complete its run of 5 ms. (DEDUCED, log 175) -/
def execBayLatchChange (closed : Bool) (s : State) : Out :=
  let s := if s.bay.rawLatch = closed then s else s.modBay (fun b => { b with rawLatch := closed, latchAt := s.now })
  .next (if s.bay.latched ≠ closed ∧ s.past s.bay.latchAt (ms 5) then latchChange s closed else s)

/-- A write of BAY_CTRL (Table 4-12): EN, ARCHIVE_EN, and EJECT, timed from a raw latch edge that came before it (Table 4-10). -/
def writeBayCtrl (s : State) (v : Nat) : State :=
  let s := s.setReg Reg.bayCtrl (BitVec.ofNat 64 (v % 4))
  if v.testBit 8 then startRemoval s (if s.bay.latched && !s.bay.rawLatch then s.bay.latchAt else s.now) else pumpClips s

/-- BAY_EJECT (R148). -/
def execBayEject (who : Requester) (val : BitVec 32) (s : State) : Out :=
  .next (s.writeGuard who Reg.bayCtrl (fun s => writeBayCtrl s val.toNat))

/-! ### Authentication (R127 to R129) -/

/-- The NVMe serial number that a cartridge of a serial must show: 16 upper-case hexadecimal digits and four spaces (Table 4-2). -/
def snOf (serial : BitVec 64) : List Byte :=
  ((List.range 16).map (fun i =>
    let d := serial.toNat / 16 ^ (15 - i) % 16
    BitVec.ofNat 8 (if d < 10 then 0x30 + d else 0x37 + d))) ++ List.replicate 4 0x20

/-- RETIRED with cause AUTH for the rest of the insertion: nothing is read or written, but commands issued complete. (DEDUCED, log 140) -/
def retireAuth (s : State) : State :=
  let s := dropTail ((releaseClips s).modBay (fun b => { b with life := 4, retire := 4, retiring := none, entries := [], pendingAt := none }))
  sageEval (s.raise Reg.bayIrqStat 4)

/-- A failed attempt: counted, the serial it claimed logged; the third retires the cartridge (R128). -/
def authFails (s : State) (serial : BitVec 64) : State :=
  let s := ((s.count Reg.bayAuthFail).raise Reg.bayIrqStat 5).logRule 128 serial.toNat
  let s := s.modBay (fun b => { b with fails := b.fails + 1, failedAt := some s.now, certOk := false, authAt := none })
  if 3 ≤ s.bay.fails then retireAuth s else s

/-- An authentication is in progress: at insertion, or again under R129. -/
def authenticating (s : State) : Bool :=
  s.bay.authAt.isNone && s.bay.failedAt.isNone && decide (s.bay.retire ≠ 4)
    && (decide (s.bay.phase = .identifying) || decide (s.bay.phase = .mounted))

/-- BAY_CERT_READ_DONE (R127). -/
def execBayCertReadDone (cert : CartCert) (sigOk : Bool) (s : State) : Out :=
  if !authenticating s then .next s
  else
    let fresh := decide (s.bay.phase = .identifying)
    let ok := s.sys.provisioned && sigOk && decide (cert.issuer.toNat < 4) && decide (cert.version = 1) && decide (cert.ratedGb = 600_000)
      && decide (cert.ratedYears = 10) && (fresh || decide (cert.serial = s.bay.serial))
    if ok then .next (s.modBay (fun b => { b with certOk := true, serial := cert.serial, mfg := cert.mfgTime }))
    else .next (authFails s cert.serial)

/-- BAY_CHALLENGE_DONE (R127): the element's ledger is known. At an insertion the SN check is still to come; again under R129 it is made
here, against the serial number that Identify gave. -/
def execBayChallengeDone (ledger : Ledger) (sigOk : Bool) (s : State) : Out :=
  if !authenticating s || !s.bay.certOk then .next s
  else if !sigOk then .next (authFails s s.bay.serial)
  else if s.bay.phase = .identifying then .next (s.modBay (fun b => { b with authAt := some s.now, element := ledger }))
  else if s.bay.sn = snOf s.bay.serial then .next (pumpClips (s.modBay (fun b => { b with authAt := some s.now, fails := 0 })))
  else .next (authFails s s.bay.serial)

/-- BAY_AUTH_RETRY (R128): 100 ms after a failed attempt the next begins. -/
def execBayAuthRetry (s : State) : Out :=
  .next (if s.bay.retire ≠ 4 ∧ s.bay.recovering.isNone ∧ s.bay.failedAt.any (fun t => s.past t (ms 100)) then
    s.modBay (fun b => { b with failedAt := none, certOk := false }) else s)

/-- BAY_REAUTH_TIMER (R129, Table 4-10): 24 h of insertion; skipped during removal. -/
def execBayReauthTimer (s : State) : Out :=
  .next (if s.bay.phase = .mounted ∧ s.bay.retire ≠ 4 ∧ s.bay.authAt.any (fun t => s.past t (sec 86_400)) then
    s.modBay (fun b => { b with authAt := none, certOk := false, fails := 0, failedAt := none }) else s)

/-! ### Mounting (R124, R133, R145 to R147, R151, R157) -/

/-- BAY_LINK_TRAINED (R124, R145): Gen3 × 1 at least; the domain of the port is ON. -/
def execBayLinkTrained (gen lanes : Nat) (s : State) : Out :=
  if s.bay.phase = .identifying ∧ s.bay.authAt.isSome ∧ (s.dom 171).st = .on then
    if 3 ≤ gen ∧ 1 ≤ lanes then .next (s.modBay (fun b => { b with phase := .mounting, linkAt := some s.now, step := 0 }))
    else .next (goOffline s 1)
  else .next s

/-- BAY_CONTROLLER_READY (R124, R145). -/
def execBayControllerReady (subsetOk : Bool) (s : State) : Out :=
  if s.bay.phase = .mounting ∧ s.bay.step = 0 then
    .next (if subsetOk then s.modBay (fun b => { b with step := 1 }) else goOffline s 2)
  else .next s

/-- BAY_READY_TIMEOUT (R124): CSTS.RDY has not come within 1 s. -/
def execBayReadyTimeout (s : State) : Out :=
  .next (if s.bay.phase = .mounting ∧ s.bay.step = 0 ∧ s.bay.linkAt.any (fun t => s.past t (sec 1)) then goOffline s 2 else s)

/-- The field-wise maximum of two records (R133). -/
def maxLedger (a b : Ledger) : Ledger :=
  { state := Nat.max a.state b.state, gb := Nat.max a.gb b.gb, lastTime := Nat.max a.lastTime b.lastTime
    updates := Nat.max a.updates b.updates }

/-- The reconciled record goes to the element, by a LEDGER_ADD, where the element's is lower, unless that is RETIRED; and into the VT12
copy, as of the cartridge mounted last (R131, R133, R135). -/
def reconcile (s : State) : State :=
  let e := s.bay.element
  let l := match ledgerEntry s s.bay.serial with
    | some x => maxLedger e x
    | none => e
  let lower := (decide (e.state < l.state) || decide (e.gb < l.gb) || decide (e.lastTime < l.lastTime)) && decide (e.state ≠ 4)
  let l := if lower then { l with updates := Nat.max l.updates (e.updates + 1) } else l
  mountEntry (s.modBay (fun b => { b with ledger := l, element := if lower then { l with updates := e.updates + 1 } else e })) s.bay.serial l

/-- A medium formatted: both header copies with a new salt, and an empty journal (R140, Table 4-5). (DESIGN CHOICE, log 168) -/
def formatMedium (s : State) : State :=
  let k := s.freeCtr
  let s := s.draw.modBay (fun b => { b with
    header := {
      serial := b.serial, salt := (List.range 16).map (fun i => Config.salt k i), formatTime := ptpNs s / 1_000_000_000, seq := 0, tailHint := 0
      extentCount := extentCount }
    headerAt := 1, hadHeader := true, blockSeq := 0, blockPos := 0, entrySeq := 0, extents := [] })
  writeHeader (writeHeader s 0) 0

/-- The journal read and its end found (R146): the place of the next block, block_seq, entry_seq, the extents in use; and its entries. -/
def readJournal (s : State) (d : CartIdent) (at' : Nat) (hdr : BayHeader) : State × List JEntry :=
  let blocks := goodBlocks (bayKeys s.sys.clipRoot hdr.salt hdr.serial) d.journal
  let (pos, last) := journalEnd blocks journalBlocks hdr.tailHint 0
  let l := entriesUpTo blocks last
  (s.modBay (fun b => { b with
    header := hdr, headerAt := at', hadHeader := true, blockSeq := last, blockPos := pos
    entrySeq := l.foldl (fun (m : Nat) (e : JEntry) => Nat.max m e.seq) 0, extents := extentsOf l }), l)

/-- The journal tail of this cartridge is written ahead of every new entry, and what its increment had below 10⁹ bytes is counted again;
another cartridge's is discarded and logged (R157). -/
def takeTail (s : State) : State × List JEntry :=
  match s.bay.tail with
  | some t =>
    if t.serial = s.bay.serial then
      (s.modBay (fun b => { b with
        tail := none, entries := t.entries ++ b.entries, pendingAt := if t.entries.isEmpty then b.pendingAt else some s.now
        bytes := b.bytes + t.increment % 1_000_000_000
        entrySeq := t.entries.foldl (fun (m : Nat) (e : JEntry) => Nat.max m e.seq) b.entrySeq }), t.entries)
    else (dropTail s, [])
  | none => (s, [])

/-- Every CLIP_OPEN with no CLIP_CLOSE, on the medium or in the journal tail, is closed: with SUPPLY after a save of this cartridge, else
with TORN (R146, R157). (DEDUCED, log 176) -/
def closeTorn (s : State) (l : List JEntry) : State :=
  let mine := s.bay.tail.any (fun t => t.serial = s.bay.serial)
  let (s, tail) := takeTail s
  s.each (openEntries (l ++ tail)) (fun s e => addEntry s 0x03 (if mine then 64 else 32) e.incident e.car e.slots [ptpNs s, 0, 0])

/-- Clips that wait are written, with CONTINUED, where the rings still hold data of them (R151). -/
def continueClips (s : State) : State :=
  s.each (s.tram.incidents.filter (fun i => i.waits)) (fun s i =>
    if clipUnfinished s i then openClip s i 4 else modIncident s i.id (fun x => { x with waits := false }))

/-- The cartridge is MOUNTED: ledger reconciled, life state computed, the journal mounted or the medium formatted; a RETIRED one takes no
entry (R133 to R135, R145 to R147). (DEDUCED, log 141) -/
def mountCartridge (s : State) (d : CartIdent) (found : Option (Nat × BayHeader)) : State :=
  let s := reconcile (s.modBay (fun b => { b with
    smart := d.smart, hadHeader := found.isSome, mountAt := s.now, ledgerAt := s.now, hourAt := s.now }))
  let old := s.bay.ledger.state
  let (s, entries) := match found with
    | some (a, h) => readJournal s d a h
    | none => (if lifeState s = 4 then s else formatMedium s, [])
  let st := lifeState s
  let cause := if st = 4 then retireCause s else 0
  let s := (((s.modBay (fun b => { b with phase := .mounted, life := st, retire := cause, fails := 0 })).raise Reg.bayIrqStat 4).raise
    Reg.bayIrqStat 2)
  let s := if st = old then s else addLedger s st
  if st = 4 then sageEval (dropTail s)
  else
    let s := addEntry (closeTorn s entries) 0x20 0 0 s.fab.slot 0 [3, 0]
    let s := s.when (decide (st ≠ old)) (fun s => addEntry s 0x11 0 0 s.fab.slot 0 [old, st, 0])
    sageEval (pumpClips (continueClips s))

/-- BAY_IDENTIFY_DONE (R124, R127, R145, R147). -/
def execBayIdentifyDone (ident : CartIdent) (s : State) : Out :=
  if s.bay.phase ≠ .mounting ∨ s.bay.step ≠ 1 then .next s
  else
    let s := s.modBay (fun b => { b with sn := ident.sn })
    let found := governingHeader s.sys.clipRoot s.bay.serial ident.copyA ident.copyB
    if ident.sn ≠ snOf s.bay.serial then .next (authFails (s.modBay (fun b => { b with phase := .identifying, step := 0 })) s.bay.serial)
    else if !ident.nvmeOk then .next (goOffline s 2)
    else if !ident.lba4096 then .next (goOffline s 3)
    else if ident.nsze < 244_140_625 then .next (goOffline s 4)
    else if s.bay.element.state ≠ 1 ∧ found.isNone then .next (goOffline s 6)
    else .next (mountCartridge s ident found)

/-! ### Writes (R132, R141, R153) -/

/-- The oldest outstanding write of a class taken off the queue. -/
def takeOff (l : List BayIo) (what : BayWrite) : List BayIo :=
  match l with
  | [] => []
  | w :: t => if w.what = what then t else w :: takeOff t what

/-- NVME_WRITE_COMPLETE (R132): the oldest outstanding write of a class, of so many bytes. Its bytes are counted, of every class; each 10 GB
updates the ledger; clip data and a removal go on. -/
def execNvmeWriteComplete (what : BayWrite) (bytes : Nat) (s : State) : Out :=
  match s.bay.io.find? (fun w => w.what = what) with
  | none => .next s
  | some w =>
    if bytes ≠ w.data.length then .next s else
    let s := s.modBay (fun b => { b with io := takeOff b.io what, bytes := b.bytes + w.data.length })
    let s := if 10_000_000_000 ≤ s.bay.bytes ∧ s.bay.phase = .mounted ∧ !s.pwr.commit then ledgerUpdate s else s
    .next (sageEval (goOnRemoving (pumpClips s)))

/-- The extent of a clip abandoned (R153): what it held is taken from the rings again, into a new extent. (DEDUCED, log 172) -/
def abandonExtent (s : State) (id : Nat) : State :=
  if (clipOn s id).any (fun c => c.extent.isSome) then
    (modClip s id (fun c => { c with data := c.data.take c.extStart, cursor := c.extCursor, extent := none, units := 0 })).modBay (fun b => { b with
      abandoned := b.abandoned.filter (fun t => decide (s.now < t + sec 3600)) ++ [s.now] })
  else s

/-- What a write given up leaves: an incident's extent or the archive's is abandoned, and the entries of a block wait again. -/
def giveUpWrite (s : State) (w : BayIo) : State :=
  match w.what with
  | .incident id => abandonExtent s id.toNat
  | .archive => abandonExtent s 0
  | .journal => s.modBay (fun b => { b with entries := w.entries ++ b.entries, pendingAt := some (b.pendingAt.getD s.now) })
  | .header => s

/-- NVME_WRITE_FAIL (R153): the oldest outstanding write of a class fails, and is retried; where the retry fails too, it is given up and
counted; eight abandoned extents within 1 h take the cartridge OFFLINE. -/
def execNvmeWriteFail (what : BayWrite) (retryFailed : Bool) (s : State) : Out :=
  match s.bay.io.find? (fun w => w.what = what) with
  | none => .next s
  | some w =>
    if !retryFailed then .next s
    else
      let s := (giveUpWrite (s.modBay (fun b => { b with io := takeOff b.io what })) w).count Reg.bayWrErr
      .next (if 8 ≤ s.bay.abandoned.length then goOffline s 5 else sageEval (goOnRemoving (pumpClips s)))

/-- JOURNAL_BLOCK_TIMER (R141): 200 ms after the first pending entry. -/
def execJournalBlockTimer (s : State) : Out :=
  .next (if bayIssues s ∧ s.bay.pendingAt.any (fun t => s.past t (ms 200)) then writeBlock s else s)

/-- BAY_HOURLY (R132, R134): once an hour while mounted. -/
def execBayHourly (smart : Byte) (s : State) : Out :=
  .next (if bayReadable s ∧ s.past s.bay.hourAt (sec 3600) then
    sageEval (ledgerUpdate (s.modBay (fun b => { b with smart := smart.toNat, hourAt := s.now }))) else s)

/-! ### Removal (R148, R149) -/

/-- NVME_FLUSH_COMPLETE (R148): the closing block and all before it are durable. -/
def execNvmeFlushComplete (s : State) : Out :=
  .next (if s.bay.phase = .removing ∧ s.bay.step = 1 ∧ s.bay.io.isEmpty then s.modBay (fun b => { b with step := 2 }) else s)

/-- The update of the removal (R132, R134, R148): both copies equal, and the life state that follows; nothing is written to the medium. -/
def removalUpdate (s : State) : State :=
  let c := s.modBay (fun b => { b with ledger := countedLedger s })
  let st := lifeState c
  let s := if st = s.bay.life then s else (s.modBay (fun b => { b with life := st, retire := if st = 4 then retireCause c else b.retire })).raise
    Reg.bayIrqStat 4
  addLedger s st

/-- LEDGER_ADD_DONE (R132, R148): both copies are equal; a RETIRED element takes none. -/
def execLedgerAddDone (s : State) : Out :=
  .next (if s.bay.phase = .removing ∧ s.bay.step = 2 then
    (if s.bay.life = 4 then s else removalUpdate s).modBay (fun b => { b with step := 3 }) else s)

/-- NVME_SHUTDOWN_COMPLETE (R148): the link goes down; PHASE SAFE. -/
def execNvmeShutdownComplete (s : State) : Out :=
  .next (if s.bay.phase = .removing ∧ (s.bay.step = 3 ∨ (s.bay.life = 4 ∧ s.bay.step ≠ 0)) then reachSafe s else s)

/-- BAY_REMOVE_DEADLINE (R149): 250 ms after the latch edge nothing further is commanded. What a LEDGER_ADD did not take stands in the
VT12 copy, from which R133 recovers it. -/
def execBayRemoveDeadline (s : State) : Out :=
  .next (if s.bay.phase = .removing ∧ s.bay.removeAt.any (fun t => s.past t (ms 250)) then
    reachSafe (((if s.bay.step = 3 then s else keepCounted s).count Reg.bayLateRemove).raise Reg.bayIrqStat 8) else s)

/-! ### Faults (R154, R155) -/

/-- BAY_LINK_DOWN (R154, R538). -/
def execBayLinkDown (cause : BayLinkFault) (s : State) : Out :=
  let code : Nat := match cause with
    | .linkDown => 0
    | .fatalStatus => 1
    | .powerFault => 2
  .next (if s.bay.phase = .mounting ∨ s.bay.phase = .mounted then
    (s.modBay (fun b => { b with recovering := some 0, linkAt := none, failedAt := none })).logRule 154 code else s)

/-- BAY_RECOVERY_ATTEMPT (R129, R154): three attempts of a link retrain and a controller reset, 100 ms apart; then authentication, whose
failure is retried under R128. -/
def execBayRecoveryAttempt (result : BayRecovery) (s : State) : Out :=
  match s.bay.recovering with
  | none => .next s
  | some n =>
    if s.bay.failedAt.any (fun t => !s.past t (ms 100)) then .next s
    else
      let good := s.modBay (fun b => { b with recovering := none, linkAt := some s.now, authAt := some s.now, failedAt := none, fails := 0 })
      let failed (s : State) : State := s.modBay (fun b => { b with recovering := some (n + 1), failedAt := some s.now })
      match result with
      | .ok => .next (pumpClips good)
      | .linkFail => .next (if 2 ≤ n then goOffline s 1 else failed s)
      | .controllerFail => .next (if 2 ≤ n then goOffline s 2 else failed s)
      | .authFail => .next (authFails good s.bay.serial)

/-- NVME_READ_COMPLETE (R155): a read error of an export is counted, and the export goes on. -/
def execNvmeReadComplete (readError : Bool) (s : State) : Out :=
  .next (if s.bay.exporting.isSome ∧ readError then s.count Reg.bayRdErr else s)

/-- The journal tail for the save: the mounted cartridge's serial, the bytes counted and not in a ledger, and the entries that are not on
the medium, those of outstanding blocks first (R157, Table 13-4). -/
def journalTail (s : State) : Option JTail :=
  if s.bay.phase = .mounted ∨ s.bay.phase = .removing then
    some { serial := s.bay.serial, increment := s.bay.bytes, entries := s.bay.io.flatMap (fun w => w.entries) ++ s.bay.entries }
  else none

end Sys2Proof.Machine
end

