-- ==== Sys2Proof/Machine/Rosemary.lean ====
section
/-! DEFINITION. Rosemary: the supply, ride-through, save, restore, and the MRAM (chapter 13). -/
namespace Sys2Proof.Machine

open Sys2Proof

/-! ### Supply conditions (R441, R459, R460) -/

/-- ARM, RETURN and CRIT codes. -/
def armCode (s : State) : Nat := s.fldAt Reg.hldTh 11 0
def returnCode (s : State) : Nat := s.fldAt Reg.hldTh 27 16
def critCode (s : State) : Nat := s.fldAt Reg.hldThCrit 11 0

/-- Samples converted: the latest and the lowest code, and how long each condition has been met. -/
def takeSample (s : State) (x : SupplySample) : State :=
  let run (old : Nat) (met : Bool) : Nat := if met then old + x.count else 0
  if x.count = 0 then s
  else s.modHld (fun h => { h with
    code := Nat.min 0xFFF x.code, lowest := Nat.min h.lowest x.code
    runs := {
      arm := run h.runs.arm (decide (x.code < armCode s)), fail := run h.runs.fail x.failLow
      back := run h.runs.back ((h.senseFault || decide (returnCode s < x.code)) && (h.failNFault || !x.failLow))
      crit := run h.runs.crit (decide (x.code < critCode s)), dead := run h.runs.dead (decide (x.code < 1311) && !x.failLow)
      high := run h.runs.high (!x.failLow) } })

/-- The ARM condition: HOLD_SENSE low for 4 samples unless it is at fault, or SUPPLY_FAIL_N low for 2 unless that is (Table 13-1). -/
def armHolds (s : State) : Bool :=
  (!s.hld.senseFault && decide (4 ≤ s.hld.runs.arm)) || (!s.hld.failNFault && decide (2 ≤ s.hld.runs.fail))

/-- The BACK condition: 16 samples. -/
def backHolds (s : State) : Bool := decide (16 ≤ s.hld.runs.back)

/-- The BACK condition has held for 10 ms, 1000 samples, without a break (R447, R461). (DEDUCED, log 177) -/
def backHeld (s : State) : Bool := decide (1016 ≤ s.hld.runs.back)

/-- The CRIT condition, of 2 samples, which does not apply with HOLD_SENSE at fault. -/
def critHolds (s : State) : Bool := !s.hld.senseFault && decide (2 ≤ s.hld.runs.crit)

/-! ### The MRAM (R451 to R453) -/

def State.save (s : State) (k : Nat) : Save := get saveReset s.hld.saves k
def State.setSave (s : State) (k : Nat) (x : Save) : State := s.modHld (fun h => { h with saves := put saveReset h.saves k x })

/-- The area of the newest VALID save. -/
def newestValid (s : State) : Option Nat :=
  match decide ((s.save 0).state = 2), decide ((s.save 1).state = 2) with
  | true, true => if (s.save 0).seq < (s.save 1).seq then some 1 else some 0
  | true, false => some 0
  | false, true => some 1
  | false, false => none

/-- The area that a save writes (R451). -/
def saveTarget (s : State) : Nat :=
  match newestValid s with
  | some k => 1 - k
  | none => 0

/-- mV of a HOLD_SENSE code (R441). -/
def senseMv (code : Nat) : Nat := code * 1250 / 4096

/-- Bytes of the staging image (R448). -/
def stageLen (s : State) : Nat := Nat.min 786_432 (s.fldAt Reg.hldStageLen 19 0)
/-- Where the staging image lies. -/
def stageBase (s : State) : Nat := addrLocal (s.reg Reg.hldStageBase).toNat

/-- The hash of the package in force of a kind; zero for none. -/
def hashInForce (s : State) (k : PkgKind) : BitVec 256 :=
  match inForce s k with
  | some p => p.hash
  | none => 0

/-- A counter of Rosemary's endpoint has reached zero: 0 Tymor, 1 Sage (R449). -/
def stageReady (s : State) (k : Nat) : Bool := decide (ccVal s 0x03E k = 0)

/-- Item i in the directory of an image: its offset and its length (Table 13-5). -/
def itemOf (image : List Byte) (i : Nat) : Nat × Nat := (numAt image (112 + 8 * i) 4, bits (numAt image (116 + 8 * i) 4) 19 0)

/-- The items of which Rosemary cannot read some part of the staging image: their bits (R458). -/
def unreadable (s : State) (image : List Byte) : Nat :=
  ((List.range 16).map (fun i => if s.anyPoison (stageBase s + (itemOf image i).1) (itemOf image i).2 then 2 ^ i else 0)).sum

/-- Item 6: the scale-slot tables of the packages in force, each package's with its hash (R357). -/
def slotsOf (s : State) : List (BitVec 256 × List (List Byte)) :=
  ([s.pkgs.warning, s.pkgs.counting, s.pkgs.narration].filterMap id).map (fun p =>
    (p.hash, p.slotTables.map (fun a => s.bytes (addrLocal a) 0x8000)))

/-- What a save begins to write (R446 to R453); FRESH marks the items that Sage (item 0) and Tymor (items 1 to 8) have brought up to
date since the arm. (DEDUCED, log 143) -/
def saveOf (s : State) (flags : Nat) : Save :=
  let armed := decide (s.hld.phase = .armed)
  let partially := !stageReady s 0 || !stageReady s 1
  let image := s.bytes (stageBase s) (stageLen s)
  { state := 1, seq := Nat.max (s.save 0).seq (s.save 1).seq + 1
    flags := flags + num partially + (if s.bitAt Reg.hldCtrl 1 then 16 else 0)
    ptp := ptpNs s, quality := timeQuality s, slot := s.fab.slot, gen := s.fab.gen
    warnHash := hashInForce s .warning, countHash := hashInForce s .counting
    fresh := BitVec.ofNat 16 (if armed then num (stageReady s 1) + (if stageReady s 0 then 0x1FE else 0) else 0)
    bad := BitVec.ofNat 16 (unreadable s image), vCommit := senseMv s.hld.code, vDone := 0, image := image
    windows := s.tram.windows, records := s.veh.records, incidents := s.tram.incidents.filter (fun i => i.narrate && !i.ended)
    tail := journalTail s, deltas := s.adapt.deltas, slotTables := slotsOf s, thyme := some s.thy }

/-- The 256 bytes of a save header: the fields that Rosemary owns, and the directory of the image with FRESH and BAD (Table 13-5). -/
def saveHeader (x : Save) : List Byte :=
  let items := x.image.drop 256
  let entry (i : Nat) : Nat :=
    (itemOf x.image i).1 + 2 ^ 32 * (itemOf x.image i).2 + (if x.fresh.getLsbD i then 2 ^ 52 else 0) + (if x.bad.getLsbD i then 2 ^ 53 else 0)
  let head := ascii "RSAV" ++ bytesOf 1 1 ++ bytesOf 1 x.state ++ bytesOf 2 x.flags ++ bytesOf 8 x.seq ++ bytesOf 8 Config.deviceId.toNat
    ++ bytesOf 8 x.ptp ++ bytesOf 1 x.quality ++ bytesOf 1 x.slot ++ bytesOf 2 0 ++ bytesOf 4 x.gen ++ bytesOf 32 x.warnHash.toNat
    ++ bytesOf 32 x.countHash.toNat ++ bytesOf 4 items.length ++ bytesOf 4 (crc32 items).toNat
    ++ (List.range 16).flatMap (fun i => bytesOf 8 (entry i)) ++ bytesOf 2 x.vCommit ++ bytesOf 2 x.vDone ++ bytesOf 8 0
  head ++ bytesOf 4 (crc32 head).toNat

/-! ### Arm, disarm, commit (R442 to R446) -/

/-- Tymor's image of the ledger table takes the bytes written (R132): the save writes it to the MRAM. -/
def stageLedger (s : State) : State :=
  if s.bay.phase = .mounted ∨ s.bay.phase = .removing then putImage s (withEntry (ledgerTable s) s.bay.serial (countedLedger s))
  else putImage s (ledgerTable s)

/-- The commit: the safe state by the hardware path, every domain that is not locked forced OFF, the header WRITING and the image
copied (R132, R445, R446). -/
def commitSave (s : State) (flags : Nat) : State :=
  let k := saveTarget s
  let x := saveOf s flags
  let s := (stageLedger s).setSave k x
  let s := s.modHld (fun h => { h with
    phase := .saving, commitAt := s.now, writing := k, partialSave := x.flags.testBit 0, byTrip := flags.testBit 6 })
  let s := hardwareSafe ((s.raise Reg.hldIrqStat 2).count Reg.hldCommits)
  let s := s.modPwr (fun p => { p with commit := true })
  sageEval (s.each ((List.range 177).filter (fun d => !domLocked d)) forceOff)

/-- Tymor, from CC3 (R500), and Sage have brought their items up to date and signal it to Rosemary's counters 0 and 1 (R449). -/
def signalStaged (s : State) : State :=
  let signal (s : State) (src cc : Nat) : State :=
    let (q, s) := takeSeq s src 0
    s.inject (sealPacket { plainPacket (ownEid s 0x03E) (ownEid s src) 6 0 0 [] with seq := BitVec.ofNat 16 q, cc := BitVec.ofNat 6 cc, ccEn := true })
  signal (signal s (0x038 + workCore s 3) 0) 0x03C 1

/-- The arm actions (Table 13-2, R449); a window of 0 commits at once (R445). -/
def arm (s : State) : State :=
  let before := s.bitAt Reg.camShedForce 0
  let s := (s.modHld (fun h => { h with phase := .armed, armedAt := s.now, forceSet := !before, forceWritten := false }))
  let s := (s.raise Reg.hldIrqStat 0).count Reg.hldArms
  let s := (s.modTram (fun t => { t with forceBefore := some before })).setFldAt Reg.camShedForce 0 0 1
  let s := signalStaged (ccPut (ccPut (stopClassC s) 0x03E 0 1) 0x03E 1 1)
  let s := sageEval (stopAdaptation (stopView (recap (pumpClips s))))
  if s.fldAt Reg.hldCfg 6 0 = 0 then commitSave s 2 else s

/-- Disarm: FORCE_C as it was, unless firmware has written it; the cap lifted; archive goes on (R444). -/
def disarm (s : State) : State :=
  let s := match s.tram.forceBefore with
    | some b => if s.hld.forceWritten then s else s.setFldAt Reg.camShedForce 0 0 (num b)
    | none => s
  let s := (s.modTram (fun t => { t with forceBefore := none })).modHld (fun h => { h with phase := .idle, forceSet := false })
  sageEval (pumpClips (recap ((s.raise Reg.hldIrqStat 1).count Reg.hldRideThroughs)))

/-- SUPPLY_ARM (R442). -/
def execSupplyArm (sample : SupplySample) (s : State) : Out :=
  let s := takeSample s sample
  .next (if s.hld.phase = .idle ∧ armHolds s then arm s else s)

/-- SUPPLY_BACK (R444). -/
def execSupplyBack (sample : SupplySample) (s : State) : Out :=
  let s := takeSample s sample
  .next (if s.hld.phase = .armed ∧ backHolds s then disarm s else s)

/-- SUPPLY_CRIT (R445). -/
def execSupplyCrit (sample : SupplySample) (s : State) : Out :=
  let s := takeSample s sample
  .next (if s.hld.phase = .armed ∧ critHolds s then commitSave s 4 else s)

/-- The ride-through window in ns (R442, R455). -/
def windowNs (s : State) : Nat := 100_000 * Nat.min 100 (s.fldAt Reg.hldCfg 6 0)

/-- RIDE_THROUGH_WINDOW_END (R445, Table 13-7), with the supply sample of that moment: BACK in the same sample governs. -/
def execRideThroughWindowEnd (code : Nat) (failLow : Bool) (s : State) : Out :=
  let s := takeSample s ⟨code, failLow, 1⟩
  .next (if s.hld.phase = .armed ∧ s.past s.hld.armedAt (windowNs s) then (if backHolds s then disarm s else commitSave s 2) else s)

/-- SAVE_DONE (R446, R453, R551): the header VALID, the ledger written, the locked domains but Rosemary's OFF; SAVED. After a
thermal trip every domain is OFF and THERMTRIP_N low. -/
def execSaveDone (badItems : BitVec 16) (rewrite : Bool) (vDone : BitVec 16) (s : State) : Out :=
  if s.hld.phase ≠ .saving then .next s
  else
    let k := s.hld.writing
    let x := s.save k
    let s := writeLedger s
    let s := s.setSave k { x with state := 2, bad := x.bad ||| badItems, vDone := vDone.toNat, flags := x.flags + (if rewrite then 32 else 0) }
    let s := s.setReg Reg.hldLastV (BitVec.ofNat 64 (x.vCommit + 0x1_0000 * vDone.toNat))
    let s := if ms 6 < s.now - s.hld.commitAt then s.count Reg.hldLate else s
    let s := s.modHld (fun h => { h with phase := .saved })
    let s := s.each ((List.range 177).filter (fun d => domLocked d && (decide (d ≠ 174) || s.hld.byTrip))) forceOff
    .next (if s.hld.byTrip then { s with sys := { s.sys with tripPin := true } } else s)

/-- SUPPLY_RETURN_RESET (R447, R463): not after a thermal trip. -/
def execSupplyReturnReset (sample : SupplySample) (s : State) : Out :=
  let s := takeSample s sample
  .next (if s.hld.phase = .saved ∧ !s.hld.byTrip ∧ backHeld s then requestWarm s 5 0 else s)

/-- ROSEMARY_IDLE (R461): EN set and BACK held. -/
def execRosemaryIdle (sample : SupplySample) (s : State) : Out :=
  let s := takeSample s sample
  .next (if s.hld.phase = .disabled ∧ s.bitAt Reg.hldCtrl 0 ∧ backHeld s then s.modHld (fun h => { h with phase := .idle }) else s)

/-! ### Restore (R46, R157, R357, R462, R506, R519) -/

/-- RESTORE: the newest unconsumed VALID save to the staging image, and its good items (R462). -/
def restore (s : State) : State :=
  match newestValid s with
  | none => s.modHld (fun h => { h with restoring := some 2, restored := 0, busyAt := s.now })
  | some k =>
    let x := s.save k
    let good := 0x1FF - (x.bad.toNat &&& 0x1FF)
    (putData s (stageBase s) (saveHeader x ++ x.image.drop 256)).modHld (fun h => { h with restoring := some k, restored := good, busyAt := s.now })

/-- A window restored (R46): INTERRUPTED; it goes on where its release is active, else it closes. -/
def restoreWindow (s : State) (w : Window) : State :=
  let serving := (List.range 12).any (fun k => windowUses s k w && (s.slot k).st.serves)
  let w := { w.flag 1 with
    openedAt := s.now, ending := none, outSince := if serving then none else some s.now
    differs := if sourcesDiffer s w.door then some s.now else none }
  let s := s.modTram (fun t => { t with windows := t.windows ++ [w], nextWindow := Nat.max t.nextWindow (w.seq + 1) })
  if released s w.door then s else closeWindow s w

/-- An incident restored: it awaits narration, its clip kept as journalled (R46). -/
def restoreIncident (s : State) (i : Incident) : State :=
  let i := { i with clipOpen := false, waits := false, cursor := [], started := false, tokens := 0, text := [], segment := 0, held := [] }
  s.modTram (fun t => { t with incidents := t.incidents ++ [i], nextIncident := Nat.max t.nextIncident (i.id + 1) })

/-- A restored journal tail waits for its cartridge where one is seated; with none, it is discarded and logged (R157). -/
def offerTail (s : State) (t : Option JTail) : State :=
  let s := s.modBay (fun b => { b with tail := t })
  if s.bay.rawPresent && decide (s.bay.phase ≠ .offline) && decide (s.bay.phase ≠ .safe) then
    (if s.bay.phase = .mounted then (if bayWritable s then closeTorn s [] else dropTail s) else s)
  else dropTail s

/-- What Tymor takes from the good items of a save; after two failed starts nothing (R46, R157, R519). (DEDUCED, log 147) -/
def useSave (s : State) (k : Nat) : State :=
  let x := s.save k
  let ok (i : Nat) : Bool := s.hld.restored.testBit i
  if 2 ≤ s.sys.failedStarts then
    ({ s with sys := { s.sys with failedStarts := 0 } }.setSave k { x with state := 3 }).logRule 519 k
  else
    let s := s.modHld (fun h => { h with restoredFrom := some k })
    let s := if ok 2 then s.modVeh (fun v => { v with
        records := x.records.map (fun r => { r with tries := 0, sentAt := none }) ++ v.records
        nextRecord := x.records.foldl (fun (m : Nat) (r : MdRecord) => Nat.max m (r.id + 1)) v.nextRecord }) else s
    let s := if ok 1 then s.each x.windows restoreWindow else s
    let s := if ok 3 then s.each x.incidents restoreIncident else s
    let s := if ok 4 then offerTail s x.tail else s
    let badItems := onesBelow x.bad.toNat 9
    s.each badItems (fun s i => s.logRule 458 i)

/-- RESTORE_DONE (R462): the copy is complete, the governing ledger area beside it, and Tymor takes its items. -/
def execRestoreDone (s : State) : Out :=
  match s.hld.restoring with
  | none => .next s
  | some k =>
    let s := s.modHld (fun h => { h with restoring := none })
    let s := match newestLedger s with
      | some j => putData s (ledgerSrc s) (areaBytes (s.ledgerArea j).seq (s.ledgerArea j).entries)
      | none => s
    let s := s.raise Reg.hldIrqStat 6
    .next (if k < 2 then sageEval (useSave s k) else s)

/-- CONSUME: the restored save is CONSUMED (R462). -/
def consume (s : State) : State :=
  match s.hld.restoredFrom with
  | some k => s.setSave k { s.save k with state := 3 }
  | none => s

/-- TEST_SAVE: a real save in IDLE, with BY_TEST (R463, Table 13-7). (DEDUCED, log 148) -/
def testSave (s : State) : State := if s.hld.phase = .idle then commitSave s 8 else s

/-- A write of HLD_CTRL: EN, RT_CAP and the four actions (Table 13-8). -/
def writeHldCtrl (s : State) (v : Nat) : State :=
  let s := s.setReg Reg.hldCtrl (BitVec.ofNat 64 (v % 4))
  let s := if s.hld.phase = .idle ∧ !v.testBit 0 then s.modHld (fun h => { h with phase := .disabled }) else s
  let s := if s.hld.phase = .armed then recap s else s
  let s := if v.testBit 8 then ledgerGo s else s
  let s := if v.testBit 9 then restore s else s
  let s := if v.testBit 10 then consume s else s
  if v.testBit 11 then testSave s else s

/-- LEDGER_GO (R452). -/
def execLedgerGo (who : Requester) (val : BitVec 32) (s : State) : Out :=
  .next (s.writeGuard who Reg.hldCtrl (fun s => writeHldCtrl s val.toNat))

/-- RESTORE (R462). -/
def execRestore (who : Requester) (val : BitVec 32) (s : State) : Out :=
  .next (s.writeGuard who Reg.hldCtrl (fun s => writeHldCtrl s val.toNat))

/-- CONSUME (R462). -/
def execConsume (who : Requester) (val : BitVec 32) (s : State) : Out :=
  .next (s.writeGuard who Reg.hldCtrl (fun s => writeHldCtrl s val.toNat))

/-- TEST_SAVE (R463). -/
def execTestSave (who : Requester) (val : BitVec 32) (s : State) : Out :=
  .next (s.writeGuard who Reg.hldCtrl (fun s => writeHldCtrl s val.toNat))

/-! ### Faults of the supply signals, thresholds (R455, R459, R460) -/

/-- SENSE_FAULT (R459): below 0.4 V for 1 ms with SUPPLY_FAIL_N high; it stands until the next reset. -/
def execSenseFault (sample : SupplySample) (s : State) : Out :=
  let s := takeSample s sample
  .next (if 100 ≤ s.hld.runs.dead ∧ !s.hld.senseFault then
    ((s.modHld (fun h => { h with senseFault := true })).raise Reg.hldIrqStat 3).count Reg.hldSenseFaults else s)

/-- FAIL_N_FAULT (R460): low at start with HOLD_SENSE above RETURN; it ends once SUPPLY_FAIL_N has been high for 10 ms. (DEDUCED, log 146) -/
def execFailNFault (sample : SupplySample) (s : State) : Out :=
  let s := takeSample s sample
  .next (if s.hld.phase = .disabled ∧ 1 ≤ s.hld.runs.fail ∧ returnCode s < s.hld.code ∧ !s.hld.failNFault then
      (s.modHld (fun h => { h with failNFault := true })).raise Reg.hldIrqStat 4
    else if 1000 ≤ s.hld.runs.high then s.modHld (fun h => { h with failNFault := false }) else s)

/-- A threshold write ignored (R455). -/
def thReject (s : State) : State := s.raise Reg.hldIrqStat 7

/-- A write of HLD_TH: CRIT < ARM < RETURN, or it is ignored (R455). -/
def writeHldTh (s : State) (v : Nat) : State :=
  let a := bits v 11 0
  if critCode s < a ∧ a < bits v 27 16 then s.setReg Reg.hldTh (BitVec.ofNat 64 (a + 0x1_0000 * bits v 27 16)) else thReject s

/-- A write of HLD_TH_CRIT: at least 1911; one not below ARM is ignored (R455). (DEDUCED, log 145) -/
def writeHldThCrit (s : State) (v : Nat) : State :=
  let c := Nat.max 1911 (bits v 11 0)
  if c < armCode s then s.setReg Reg.hldThCrit (BitVec.ofNat 64 c) else thReject s

/-- HLD_TH_WRITE (R455). -/
def execHldThWrite (who : Requester) (crit : Bool) (val : BitVec 32) (s : State) : Out :=
  .next (s.writeGuard who (if crit then Reg.hldThCrit else Reg.hldTh) (fun s =>
    if crit then writeHldThCrit s val.toNat else writeHldTh s val.toNat))

end Sys2Proof.Machine
end

