-- ==== Sys2Proof/Machine/Restart.lean ====
section
/-! DEFINITION. The resets of the device, the system watchdog, the thermal trip, and the start of the DRAM (R383, R384, R503 to R506,
R518, R519, R523, R551, R554). -/
namespace Sys2Proof.Machine

open Sys2Proof

/-! ### The flash in a reset (R505) -/

/-- What a flash command changes: the page, the sector or the block, as address and length. -/
def flashSpan (cmd addr : Nat) : Nat × Nat :=
  if cmd = 1 then (addr / 256 * 256, 256) else if cmd = 2 then (addr / 0x1000 * 0x1000, 0x1000)
  else if cmd = 3 then (addr / 0x1_0000 * 0x1_0000, 0x1_0000) else (0, 0)

/-- A change of the flash from lo on, n bytes: the sealed and the signed records that it touches are valid no longer (R510, R512). The
valid provisioning record of n acceptances lies in copy (n - 1) mod 2. (DEDUCED, log 101) -/
def spoilRecords (s : State) (lo n : Nat) : State :=
  let hits (a len : Nat) : Bool := decide (lo < a + len) && decide (a < lo + n)
  s.modSys (fun y => { y with
    provisioned := y.provisioned && !hits (0x2000 + 0x1000 * ((y.provCount + 1) % 2)) 0x1000
    commA := if hits 0x390_0000 0x10_0000 then none else y.commA
    commB := if hits 0x3A0_0000 0x10_0000 then none else y.commB })

/-- A program or erase cut off, or failed, leaves its page, sector or block undefined. (DEDUCED, log 89) -/
def cutFlash (s : State) : State :=
  match s.sys.xspi with
  | none => s
  | some (cmd, addr, _, _) =>
    let (lo, n) := flashSpan cmd addr
    if n = 0 then s.modSys (fun y => { y with xspi := none })
    else
      let k := s.freeCtr
      let s := (s.draw.fillFlash lo n (fun i => Config.flashByte (k * 0x1_0000 + i))).modSys (fun y => { y with xspi := none })
      spoilRecords s lo n

/-! ### The resets (R503 to R506) -/

/-- A failed start: a reset with cause WDOG, SAGE or DOMAIN within 60 s of a start with an unconsumed save (R519). (DEDUCED, log 92) -/
def failedStart (s : State) : Bool :=
  let c := (s.reg Reg.sysRstCause).toNat
  (c.testBit 2 || c.testBit 3 || c.testBit 4) && decide (s.now ≤ sec 60) && (newestValid s).isSome

/-- An area left in state WRITING is reported (R457). (DEDUCED, log 91) -/
def reportTorn (s : State) : State :=
  s.each ((List.range 2).filter (fun k => decide ((s.save k).state = 1))) (fun s _ => (s.raise Reg.hldIrqStat 8).count Reg.hldTorn)

/-- What every reset leaves: the machine of State.reset, with the fuses, the flash, the MRAM and the level of the Bay's pins as they
were, and with the commands that wait (R504). (DEDUCED, log 93) -/
def keepAcross (s : State) : State :=
  let s := cutFlash s
  { State.reset with
    pending := s.pending, freeCtr := s.freeCtr, log := s.log
    hld := { hldReset with saves := s.hld.saves, ledgers := s.hld.ledgers }
    bay := { bayReset with rawPresent := s.bay.rawPresent, rawLatch := s.bay.rawLatch }
    sys := { sysReset with
      flash := s.sys.flash, provisioned := s.sys.provisioned, clipRoot := s.sys.clipRoot, provCount := s.sys.provCount, floorWarning := s.sys.floorWarning
      floorCounting := s.sys.floorCounting, floorNarration := s.sys.floorNarration, floorFirmware := s.sys.floorFirmware
      revoke := s.sys.revoke, commA := s.sys.commA, commB := s.sys.commB } }

/-- A COLD reset with its cause (R504, R506). -/
def coldReset (s : State) (cause : Word) : State :=
  let t := reportTorn ((keepAcross s).setReg Reg.sysRstCause cause)
  if (newestValid t).isNone then t.logRule 506 0 else t

/-- A WARM reset: the sticky registers stay, a boot ROM that has given up does not try again (R522), and the series of windows and incidents go on from SYS_SCRATCH (R504, R506). (DEDUCED, log 95) -/
def warmReset (s : State) : State :=
  let sticky := [Reg.sysRstCause, Reg.sysRstCount] ++ (List.range 8).map Reg.sysScratch
  let t := (keepAcross s).each sticky (fun t a => t.setReg a (s.reg a))
  let t := t.modTram (fun m => { m with
    nextWindow := (s.reg (Reg.sysScratch 0)).toNat, nextIncident := Nat.max 1 (s.reg (Reg.sysScratch 1)).toNat })
  let t := if s.sys.romFailAt.isSome then t.setReg Reg.bootStat 0x118 else t
  reportTorn (t.modSys (fun y => { y with
    romFailAt := s.sys.romFailAt, tripAgain := s.sys.tripAgain, failedStarts := if failedStart s then s.sys.failedStarts + 1 else 0, tripped := s.sys.tripped, tripPin := s.sys.tripPin }))

/-- POWER_ON_RESET (R554): asserted, a COLD reset holds; released, time zero of Table 15-6, unless REF_CLK is absent. -/
def execPowerOnReset (release : Bool) (s : State) : Out :=
  if release then .next (if s.sys.porHeld && s.clk.refOk then coldReset s 1 else s)
  else .next ((coldReset s 1).modSys (fun y => { y with porHeld := true }))

/-- RESET_N_PIN (R503): low for 1 µs or more. It releases THERMTRIP_N, which the first hot sample asserts again (Table 16-10). -/
def execResetNPin (lowNs : Nat) (s : State) : Out :=
  .next (if 1000 ≤ lowNs ∧ !s.sys.porHeld then (coldReset s 2).modSys (fun y => { y with tripAgain := s.sys.tripped || s.sys.tripAgain }) else s)

/-- A write of SYS_RST_CTRL. -/
def writeRstCtrl (s : State) (v : Nat) : State := if v.testBit 0 then requestWarm s 6 0 else s

/-- SOFT_RESET (R503). -/
def execSoftReset (who : Requester) (val : BitVec 32) (s : State) : Out :=
  .next (s.writeGuard who Reg.sysRstCtrl (fun s => writeRstCtrl s val.toNat))

/-- WARM_RESET (R505): the internal reset is released 1.0 ms after the request; held while Rosemary saves. (DEDUCED, log 94) -/
def execWarmReset (s : State) : Out :=
  .next (if s.sys.warmAt.any (fun t => s.past t (ms 1)) && decide (s.hld.phase ≠ .saving) then warmReset s else s)

/-! ### The system watchdog (R518) -/

/-- TIMEOUT in ns. -/
def wdogTimeout (s : State) : Nat := ms (s.fldAt Reg.sysWdogCfg 13 0)

/-- A write of SYS_WDOG: 0x3C kicks it; any other value counts as an expiry. (DEDUCED, log 96) -/
def writeWdog (s : State) (v : Nat) : State :=
  if !s.sys.wdogArmed then s
  else if v % 256 = 0x3C then s.modSys (fun y => { y with wdogAt := s.now })
  else requestWarm s 2 0

/-- A write of SYS_WDOG_CFG: TIMEOUT within 100 to 10 000 ms, and a new interval. -/
def writeWdogCfg (s : State) (v : Nat) : State :=
  (s.setReg Reg.sysWdogCfg (BitVec.ofNat 64 (Nat.min 10_000 (Nat.max 100 (v % 16384))))).modSys (fun y => { y with wdogAt := s.now })

/-- SYS_WDOG_KICK (R518). -/
def execSysWdogKick (who : Requester) (val : BitVec 32) (s : State) : Out :=
  .next (s.writeGuard who Reg.sysWdog (fun s => writeWdog s val.toNat))

/-- SYS_WDOG_CFG_WRITE (R518, R520). -/
def execSysWdogCfgWrite (who : Requester) (val : BitVec 32) (s : State) : Out :=
  .next (s.writeGuard who Reg.sysWdogCfg (fun s => writeWdogCfg s val.toNat))

/-- SYSTEM_WDOG_EXPIRY (R518). -/
def execSystemWdogExpiry (s : State) : Out :=
  .next (if s.sys.wdogArmed && s.past s.sys.wdogAt (wdogTimeout s) then requestWarm s 2 0 else s)

/-! ### The DRAM (R383, R384, R523) -/

/-- A failure code of the firmware set (Table 15-10). (DEDUCED, log 97) -/
def startFail (s : State) (code : Nat) : State :=
  (s.setFldAt Reg.bootStat 15 8 code).modSys (fun y => { y with failAt := some s.now })

/-- DDR_TRAINING_DONE (R384, R523): TRAINED, with the refresh interval of the DRAM's temperature; a second failure is code 0x02.
A SPEED that Table 10-3 does not have fails (R366, R378). -/
def execDdrTrainingDone (ok : Bool) (s : State) : Out :=
  if s.sys.jumpAt.isNone || s.sys.failAt.isSome || decide (s.memb.trained ≠ 0) then .next s
  else if ok && decide (s.fldAt Reg.memDdrCfg 5 4 ≠ 3) then
    .next { s.draw with memb := { s.memb with trained := 0xF, refresh := Config.refreshInterval s.freeCtr % 256 } }
  else
    let s := s.modSys (fun y => { y with ddrFails := y.ddrFails + 1 })
    .next (if 2 ≤ s.sys.ddrFails then startFail s 2 else s)

/-- The sequence number of a copy of the commissioning record. -/
def commSeq (c : Option (Nat × List Setting)) : Nat :=
  match c with
  | some x => x.1 + 1
  | none => 0

/-- The commissioning record that governs (R512). -/
def commissioned (s : State) : List Setting :=
  match (if commSeq s.sys.commB < commSeq s.sys.commA then s.sys.commA else s.sys.commB) with
  | some x => x.2
  | none => []

/-- The registers that a commissioning record may set (R512): stream slots, VEH, the cab end, debounce times, HLD_CFG and ARCHIVE_MASK. -/
def commissionable (a : Nat) : Bool :=
  (List.range 12).any (fun k => a = Reg.camSlotCtrl k || a = Reg.camSlotCfg k || a = Reg.camSlotDesc k)
    || [Reg.vehComidBase, Reg.vehVsCfg, Reg.vehVsSrc, Reg.vehMdDst, Reg.vehPdDst, Reg.vehCabCfg, Reg.vehViewDst, Reg.cabInDeb 0, Reg.cabInDeb 1,
      Reg.hldCfg, Reg.bayCfg].contains a

/-- Tymor puts the commissioned settings into their registers: the fields that a write stores. (DEDUCED, log 205) -/
def commission (s : State) : State :=
  sageEval (followDirection (s.each ((commissioned s).filter (fun x => commissionable x.reg)) (fun s x =>
    match regAt x.reg with
    | some r => s.plainWrite x.reg r x.value
    | none => s)))

/-- A failure code without a reset: 0x03 without a valid provisioning record, 0x04 without a commissioning record; with both the operator's
settings are taken (R512, R523). -/
def checkRecords (s : State) : State :=
  if !s.sys.provisioned then s.setFldAt Reg.bootStat 15 8 3
  else if s.sys.commA.isNone && s.sys.commB.isNone then s.setFldAt Reg.bootStat 15 8 4
  else commission s

/-- DDR_ECC_INIT_DONE (R384): the check bytes are valid; then the firmware looks for its records (Table 15-6). -/
def execDdrEccInitDone (s : State) : Out :=
  if s.memb.trained = 0xF ∧ !s.memb.eccDone then
    .next (checkRecords { s with memb := { s.memb with
      eccDone := true, poison := s.memb.poison.filter (fun e => decide (0x10_0000_0000 ≤ e.1 * 8)) } })
  else .next s

/-- DDR_TRAINING_LOST (R383): the channel stops serving; every service has reason 0x06, and Tymor requests a reset. -/
def execDdrTrainingLost (channel : Fin 4) (s : State) : Out :=
  if s.memb.trained.getLsbD channel then
    let s := { s with memb := { s.memb with trained := s.memb.trained &&& ~~~(1#4 <<< (channel : Nat)) } }
    let s := (s.raise Reg.memIrqStat 3).modTram (fun t => { t with started := false })
    .next (requestWarm (sageEval s) 6 0)
  else .next s

/-- START_FAIL_RESET (R523): code 0x05 where the security engine is not READY 10 ms after the jump; 60 s after a code 0x02 or 0x05 the
firmware requests a reset. -/
def execStartFailReset (s : State) : Out :=
  match s.sys.failAt, s.sys.jumpAt with
  | some t, _ => .next (if s.past t (sec 60) then requestWarm s 6 0 else s)
  | none, some t => .next (if !s.sys.secReady && s.past t (ms 10) then startFail s 5 else s)
  | none, none => .next s

/-! ### The thermal trip (R551) -/

/-- A valid sensor that read 120 °C or above in the last sample and reads it in this one; after a RESET_N during a trip the first sample is
enough (Table 16-10). (DEDUCED, log 78) -/
def tripHolds (s : State) (temps : List Int) : Bool :=
  ((List.range 12).zip temps).any (fun e =>
    get (fun _ => false) s.clk.valid e.1 && !get (fun _ => false) s.clk.bad e.1
      && (s.sys.tripAgain || decide (480 ≤ get (fun _ => (0 : Int)) s.clk.temps e.1)) && decide (480 ≤ e.2) && decide (e.2 ≤ 600))

/-- Every domain is OFF, and THERMTRIP_N is driven low. -/
def tripOff (s : State) : State :=
  (s.each (List.range 177) forceOff).modSys (fun y => { y with tripPin := true })

/-- THERMAL_TRIP (R551, Table 16-10): the safe state, then the save, and THERMTRIP_N at SAVED. -/
def execThermalTrip (temps : List Int) (s : State) : Out :=
  let trip := tripHolds s temps && !s.sys.tripped
  let s := (checkWarn (sampleTemps s temps)).modSys (fun y => { y with tripAgain := false })
  if !trip then .next s
  else
    let s := (hardwareSafe s).modSys (fun y => { y with tripped := true })
    match s.hld.phase with
    | .idle | .armed => .next (commitSave s 64)
    | .saving => .next (s.modHld (fun h => { h with byTrip := true }))
    | .saved => .next (tripOff (s.modHld (fun h => { h with byTrip := true })))
    | .disabled => .next (tripOff s)

end Sys2Proof.Machine
end

