-- ==== Sys2Proof/Machine/Boot.lean ====
section
/-! DEFINITION. Image selection by the boot ROM, the flash controller, firmware uploads and trials, and the records of the operator
(R507 to R515, R522). -/
namespace Sys2Proof.Machine

open Sys2Proof

/-! ### Firmware slots (R507, R508) -/

/-- Where a firmware slot lies in the flash; the most bytes of a body. -/
def fwSlotBase (x : Nat) : Nat := if x = 0 then 0x10_0000 else 0x50_0000
def fwBodyMax : Nat := 4_194_048

/-- The header fields of Table 15-4 that a reader of 256 bytes uses: `u` gives the n bytes at an offset. -/
structure FwHeader where
  magic : Nat
  version : Nat
  silicon : Nat
  key : Nat
  image : Nat
  body : Nat
  entry : Nat
  ddr : Nat
  deriving DecidableEq, Repr

/-- The header at the start of the bytes. -/
def fwHeader (l : List Byte) : FwHeader :=
  let u (o n : Nat) : Nat := ofBytes ((l.drop o).take n)
  { magic := u 0 4, version := u 4 1, silicon := u 5 1, key := u 6 1, image := u 8 4, body := u 12 4, entry := u 16 4, ddr := u 20 4 }

/-- "VFWI", little-endian. -/
def fwMagic : Nat := 0x4957_4656

/-- The checks of R513 that need no key: magic, version, silicon, the key's revoke bit, the floor, the length of the body. -/
def headerOk (s : State) (h : FwHeader) : Bool :=
  decide (h.magic = fwMagic) && decide (h.version = 1) && decide (h.silicon = 0xB0) && decide (h.key < 4)
    && !s.sys.revoke.testBit h.key && decide (s.sys.floorFirmware ≤ h.image) && decide (1 ≤ h.body) && decide (h.body ≤ fwBodyMax)

/-! ### Boot (R513, R516, R522) -/

/-- Every bank group of slice 0 is ON and READY. -/
def sliceUp (s : State) : Bool := (List.range 8).all (fun g => groupUp s 0 g)

/-- The ROM brings slice 0 ON with one group write and sets its map to INTERLEAVED. -/
def bringSlice (s : State) : State :=
  let s := (List.range 6).foldl (fun s i => s.setReg (Reg.pwrGroupSel i) (if i = 1 then 0xFF00_0000#64 else 0)) s
  let s := groupTarget s (selectedDomains s) 1 false
  s.setFldAt (Reg.memSliceCfg 0) 0 0 0

/-- Header and body of slot x read into slice 0, at most the largest body (R513). -/
def copyImage (s : State) (x : Nat) : State :=
  let h := fwHeader (s.flashBytes (fwSlotBase x) 256)
  putData s 0x10_0000_0000 (s.flashBytes (fwSlotBase x) (256 + min h.body fwBodyMax))

/-- The jump into slot x: BOOT_STAT, the version, the time, MEM_DDR_CFG; the watchdog is armed (R513, R518). A `ddr_cfg` that names no
supported configuration is code 0x02 (R523). -/
def jump (s : State) (x : Nat) (first : Nat) (trial : Bool) (trials : Nat) : State :=
  let h := fwHeader (s.flashBytes (fwSlotBase x) 256)
  let s := s.setReg Reg.bootStat (BitVec.ofNat 64 (x + 2 * num trial + 4 * num (decide (x ≠ first)) + 8 + 0x1_0000 * (trials % 256)))
  let s := s.setReg Reg.bootImgVer (BitVec.ofNat 64 h.image)
  let s := s.setReg Reg.bootJumpTime (BitVec.ofNat 64 (Nat.min 0xFF_FFFF (s.now / 1000)))
  let s := s.setReg Reg.memDdrCfg (BitVec.ofNat 64 h.ddr &&& 0x37#64)
  let s := s.modSys (fun y => { y with jumpAt := some s.now, wdogArmed := true, wdogAt := s.now })
  if s.fldAt Reg.memDdrCfg 5 4 = 3 then startFail s 2 else s

/-- One turn of R513's loop over slot x: the state after it, and whether the ROM has jumped. (DEDUCED, log 98) -/
def trySlot (s : State) (x first : Nat) (c : ImageCheck) : State × Bool :=
  let r := bootRecord s
  let st := r.state x
  if st = 0 ∨ st = 3 then (s, false)
  else if st = 2 ∧ 3 ≤ r.trials x then (appendRecord s (r.setState x 3), false)
  else
    let r1 := if st = 2 then r.setTrials x (r.trials x + 1) else r
    let s := if st = 2 then appendRecord s r1 else s
    let h := fwHeader (s.flashBytes (fwSlotBase x) 256)
    let s := copyImage s x
    if headerOk s h && (c.ok1 || c.ok2) then (jump s x first (decide (st = 2)) (r1.trials x), true)
    else if st = 1 then (appendRecord s (r1.setState x 3), false)
    else (s, false)

/-- The slot that the ROM takes first. -/
def firstSlot (r : BootRec) : Nat :=
  let a := if r.active = 0 then 0 else 1
  if r.state (1 - a) = 2 then 1 - a else a

/-- R513: the two slots in turn; with neither, STAGE FAIL with code 0x01 (R522). -/
def selectImage (s : State) (a b : ImageCheck) : State :=
  let f := firstSlot (bootRecord s)
  let check (x : Nat) : ImageCheck := if x = 0 then a else b
  let (s1, j1) := trySlot s f f (check f)
  if j1 then s1
  else
    let (s2, j2) := trySlot s1 (1 - f) f (check (1 - f))
    if j2 then s2 else (s2.setReg Reg.bootStat 0x118#64).modSys (fun y => { y with romFailAt := some s2.now })

/-- 1 s after the boot ROM has given up, its xSPI pins are at high impedance (R522). -/
def xspiReleased (s : State) : Bool := s.sys.romFailAt.any (fun t => s.past t (sec 1))

/-- BOOT_IMAGE_SELECT (R513): CC0 runs the boot ROM from the time its domain is ON; until slice 0 is READY it brings it up. -/
def execBootImageSelect (a b : ImageCheck) (s : State) : Out :=
  if s.fldAt Reg.bootStat 5 3 ≠ 0 ∨ s.sys.jumpAt.isSome ∨ (s.dom 133).st ≠ .on then .next s
  else if sliceUp s then .next (selectImage s a b)
  else .next (bringSlice s)

/-! ### The flash controller (R514, Table 15-11) -/

/-- A write of BOOT_XSPI_CMD: the command of the lowest bit set starts, unless one is in progress or its limits are passed. (PRESUMED, log 90) -/
def writeXspiCmd (s : State) (v : Nat) : State :=
  let addr := s.fldAt Reg.bootXspiAddr 25 0
  let len := s.fldAt Reg.bootXspiLen 31 0
  let fits (cmd : Nat) : Bool :=
    if cmd = 0 then decide (1 ≤ len) && decide (len ≤ 2 ^ 26) else if cmd = 1 then decide (1 ≤ len) && decide (addr % 256 + len ≤ 256) else true
  match s.sys.xspi, (List.range 4).find? (fun i => v.testBit i) with
  | none, some cmd =>
    if fits cmd then s.modSys (fun y => { y with xspi := some (cmd, addr, addrLocal (s.reg Reg.bootXspiDst).toNat, len) }) else s
  | _, _ => s

/-- XSPI_READ (R514). -/
def execXspiRead (who : Requester) (val : BitVec 32) (s : State) : Out :=
  .next (s.writeGuard who Reg.bootXspiCmd (fun s => writeXspiCmd s val.toNat))

/-- XSPI_PROGRAM (R514). -/
def execXspiProgram (who : Requester) (val : BitVec 32) (s : State) : Out :=
  .next (s.writeGuard who Reg.bootXspiCmd (fun s => writeXspiCmd s val.toNat))

/-- XSPI_ERASE_4K (R514). -/
def execXspiErase4k (who : Requester) (val : BitVec 32) (s : State) : Out :=
  .next (s.writeGuard who Reg.bootXspiCmd (fun s => writeXspiCmd s val.toNat))

/-- XSPI_ERASE_64K (R514). -/
def execXspiErase64k (who : Requester) (val : BitVec 32) (s : State) : Out :=
  .next (s.writeGuard who Reg.bootXspiCmd (fun s => writeXspiCmd s val.toNat))

/-- What a flash command has done once it is complete. -/
def xspiEffect (s : State) (cmd addr dst len : Nat) : State :=
  if cmd = 0 then putData s dst ((List.range len).map (fun i => s.flashByte ((addr + i) % 2 ^ 26)))
  else if cmd = 1 then
    let new := (List.range len).map (fun i => s.flashByte (addr + i) &&& s.byte (dst + i))
    spoilRecords (s.setFlash addr new) addr len
  else
    let (lo, n) := flashSpan cmd addr
    spoilRecords (s.eraseFlash lo (lo + n)) lo n

/-- XSPI_DONE (R514): DONE, or ERR, after which what the command was to write is undefined. -/
def execXspiDone (err : Bool) (s : State) : Out :=
  match s.sys.xspi with
  | none => .next s
  | some (cmd, addr, dst, len) =>
    if err then
      let k := s.freeCtr
      let s := if cmd = 0 then putData s.draw dst ((List.range len).map (fun i => Config.flashByte (k * 2 ^ 26 + i))) else s
      .next ((cutFlash s).raise Reg.bootXspiStat 2)
    else .next (((xspiEffect s cmd addr dst len).modSys (fun y => { y with xspi := none })).raise Reg.bootXspiStat 1)

/-! ### Firmware uploads and trials (R514) -/

/-- The image as a whole, its length the header's: the checks of R513 on an upload. (DEDUCED, log 102) -/
def uploadOk (s : State) (image : List Byte) : Bool :=
  let h := fwHeader image
  headerOk s h && decide (image.length = 256 + h.body)

/-- FIRMWARE_UPLOAD (R514): verified in DRAM, then written to the slot that is not active, TRIAL with trials 0. -/
def execFirmwareUpload (authenticated : Bool) (image : List Byte) (ok : Bool) (s : State) : Out :=
  if s.sys.maintUp && authenticated && s.sys.provisioned && s.sys.jumpAt.isSome && ok && uploadOk s image then
    let r := bootRecord s
    let x := if r.active = 0 then 1 else 0
    let s := (s.eraseFlash (fwSlotBase x) (fwSlotBase x + 0x40_0000)).setFlash (fwSlotBase x) image
    .next (appendRecord s (((r.setState x 2).setTrials x 0).setVersion x (fwHeader image).image))
  else .next s

/-- The slot whose trial has not begun with this start, if there is one. -/
def trialWaits (s : State) : Option Nat :=
  let r := bootRecord s
  [0, 1].find? (fun x => decide (r.state x = 2) && (decide (r.trials x = 0) || decide (s.fldAt Reg.bootStat 0 0 ≠ x)))

/-- TRIAL_RESET (R514): ego speed valid and zero for 60 s, CAB_ACTIVE inactive, no count window open. -/
def execTrialReset (s : State) : Out :=
  .next (if s.sys.jumpAt.isSome && (trialWaits s).isSome && stillFor s (sec 60) && !inputOn s 3 && s.tram.windows.isEmpty then
    requestWarm s 6 0 else s)

/-- A task held under R468. (DEDUCED, log 151) -/
def taskHeld (s : State) : Bool := [TaskId.alarm, .adopted, .counting, .narration].any (fun t => (s.task t).held)

/-- TRIAL_CONFIRM (R514): 10 min after start-up with no reset and no task held. -/
def execTrialConfirm (s : State) : Out :=
  let x := s.fldAt Reg.bootStat 0 0
  let r := bootRecord s
  if s.bitAt Reg.bootStat 1 && decide (r.state x = 2) && s.sys.servicesAt.any (fun t => s.past t (sec 600)) && !taskHeld s then
    .next (appendRecord s { r.setState x 1 with active := x })
  else .next s

/-! ### The records of the operator (R510 to R512) -/

/-- PROVISIONING_BUNDLE (R510, R511): the new record in the copy that does not hold the valid one, one more counter bit burnt, floors
raised. -/
def execProvisioningBundle (b : Bundle) (signedOk wrappedOk authenticated : Bool) (s : State) : Out :=
  if s.sys.maintUp && s.sys.secReady && signedOk && wrappedOk && (!s.sys.provisioned || authenticated) && decide (s.sys.provCount < 64) then
    let k := s.freeCtr
    let s := s.draw.fillFlash (0x2000 + 0x1000 * (s.sys.provCount % 2)) 0x1000 (fun i => Config.sealedByte (k * 0x10_0000 + i))
    .next (s.modSys (fun y => { y with
      provisioned := true, clipRoot := b.clipRoot, provCount := y.provCount + 1
      floorWarning := Nat.max y.floorWarning b.floorWarning, floorCounting := Nat.max y.floorCounting b.floorCounting
      floorNarration := Nat.max y.floorNarration b.floorNarration
      floorFirmware := Nat.max y.floorFirmware (Nat.min 64 b.floorFirmware) }))
  else .next s

/-- COMMISSIONING_WRITE (R512): a new record into the copy that is not in force. -/
def execCommissioningWrite (authenticated : Bool) (record : List Setting) (s : State) : Out :=
  if s.sys.maintUp && authenticated && s.sys.provisioned && decide (record.length < 0x1_0000) then
    let toB := decide (commSeq s.sys.commB < commSeq s.sys.commA)
    let seq := Nat.max (commSeq s.sys.commA) (commSeq s.sys.commB)
    let k := s.freeCtr
    let s := s.draw.fillFlash (if toB then 0x3A0_0000 else 0x390_0000) 0x10_0000 (fun i => Config.sealedByte (k * 0x10_0000 + i))
    .next (s.modSys (fun y => if toB then { y with commB := some (seq, record) } else { y with commA := some (seq, record) }))
  else .next s

end Sys2Proof.Machine
end

