-- ==== Sys2Proof/Machine/Dma.lean ====
section
/-! DEFINITION. The DMA and halo engines, the scrubbers and the SRAM tier's own events (R362, R370 to R375, R379 to R385). -/
namespace Sys2Proof.Machine

open Sys2Proof

/-! ### A descriptor (Table 10-4) -/

/-- The local index of the engine of cluster c. -/
def engineIndex (halo : Bool) (c : Nat) : Nat := (if halo then 0x028 else 0x020) + c

/-- A register of the engine pair of cluster c, the DMA engine's or the halo engine's. -/
def ringBaseReg (halo : Bool) (c : Nat) : Nat := if halo then Reg.haloRingBase c else Reg.dmaRingBase c
def tailReg (halo : Bool) (c : Nat) : Nat := if halo then Reg.haloTail c else Reg.dmaTail c

/-- The local address of the ring entry at the engine's head. -/
def entryAt (s : State) (halo : Bool) (c : Nat) : Nat :=
  addrLocal (s.reg (ringBaseReg halo c)).toNat + 64 * (s.engine halo c).head

def dOp (s : State) (e : Nat) : Nat := s.load e 1
def dFlag (s : State) (e i : Nat) : Bool := (s.load (e + 1) 1).testBit i
def dSrc (s : State) (e : Nat) : Nat := s.load (e + 8) 6
def dDst (s : State) (e : Nat) : Nat := s.load (e + 16) 6
def dLine (s : State) (e : Nat) : Nat := s.load (e + 24) 4
def dLines (s : State) (e : Nat) : Nat := s.load (e + 28) 4
def dSrcStride (s : State) (e : Nat) : Nat := s.load (e + 32) 4
def dDstStride (s : State) (e : Nat) : Nat := s.load (e + 36) 4

/-- The slice that a local address lies in. -/
def sliceOf (s : State) (a : Nat) : Option Nat :=
  match targetOf s a with
  | .sram c _ => some c
  | _ => none

/-- A global address of this device. -/
def ownSlot (s : State) (a : Nat) : Bool := decide (addrSlot a = s.fab.slot)

/-- Whether a global address lies in the engine's own slice. -/
def inOwn (s : State) (c a : Nat) : Bool := ownSlot s a && decide (sliceOf s (addrLocal a) = some c)

/-- Whether the destination is one that R373 confirms through a counter set: DRAM or another slice of this device. -/
def counted (s : State) (c a : Nat) : Bool :=
  ownSlot s a && match targetOf s (addrLocal a) with
  | .dram _ => true
  | .sram k _ => decide (k ≠ c)
  | _ => false

/-- The last byte that a descriptor writes. -/
def dLast (s : State) (e : Nat) : Nat :=
  dDst s e + (if dOp s e = 1 then (dLines s e - 1) * dDstStride s e else 0) + (dLine s e - 1)

/-- URGENT where the engine honours it: clusters 0 and 1 only (R375). -/
def dUrgent (s : State) (c e : Nat) : Bool := decide (c < 2) && dFlag s e 1

/-- The code of Table 10-6 that the descriptor's fields earn before anything moves, the lowest first. -/
def dFault (s : State) (halo : Bool) (c e : Nat) : Option Nat :=
  let op := dOp s e
  let src := if op = 2 then 0 else dSrc s e
  let two := decide (op = 1)
  let viaFabric := !inOwn s c (dDst s e)
  let odd := decide (src % 8 ≠ 0) || decide (dDst s e % 8 ≠ 0) || decide (dLine s e % 8 ≠ 0)
    || (two && (decide (dSrcStride s e % 8 ≠ 0) || decide (dDstStride s e % 8 ≠ 0)))
    || (viaFabric && (decide (dDst s e % 32 ≠ 0) || decide (dLine s e % 32 ≠ 0) || (two && decide (dDstStride s e % 32 ≠ 0))))
  if odd || decide (2 ^ 32 - 8 < dLine s e * dLines s e)
      || (if two then decide (dLines s e = 0) || decide (65535 < dLines s e) else decide (dLines s e ≠ 1)) then some 0x01
  else if 2 < op ∨ dFlag s e 6 ∨ dFlag s e 7 ∨ s.load (e + 7) 1 ≠ 0 ∨ s.load (e + 48) 16 ≠ 0 then some 0x02
  else if halo && (decide (op = 2) || !inOwn s c (dSrc s e) || inOwn s c (dDst s e) || !ownSlot s (dDst s e)
      || (sliceOf s (addrLocal (dDst s e))).isNone) then some 0x02
  else if dFlag s e 2 && viaFabric && !(counted s c (dDst s e) && counted s c (dLast s e)) then some 0x06
  else none

/-! ### Moving data -/

/-- What stops a read of n bytes at global address a: the code, and the state with the error reported (R363, R380). -/
def readStop (s : State) (a n : Nat) : Option (Nat × State) :=
  if !ownSlot s a then some (0x03, s)
  else
    let l := addrLocal a
    let shut (b : Nat) : Option (Nat × State) := match targetOf s b with
      | .dram ch => if channelUp s ch then none else some (0x04, s)
      | .sram k g => if groupOpen s k g then none else some (0x03, offAccess s b)
      | .scratch k => if decide ((s.dom k).st = .on) then none else some (0x04, s)
      | _ => some (0x03, s)
    match shut l, shut (l + n - 1) with
    | some x, _ => some x
    | none, some x => some x
    | none, none => if s.anyPoison l n then some (0x04, uncorrectable s l) else none

/-- What stops a write of n bytes at global address a by the engine (R363, R365, R160). -/
def writeStop (s : State) (halo : Bool) (c a : Nat) : Option (Nat × State) :=
  if !ownSlot s a then (if addrSlot a < s.fab.setSize then none else some (0x05, s.count Reg.fabNoroute))
  else
    match targetOf s (addrLocal a) with
    | .dram ch => if channelUp s ch then none else some (0x05, s)
    | .sram k g =>
      if !groupOpen s k g then some (0x03, offAccess s (addrLocal a))
      else if !mayWriteSlice s (engineIndex halo c) k then some (0x05, guardDenied s (addrLocal a)) else none
    | .scratch k => if decide ((s.dom k).st = .on) then none else some (0x05, s)
    | _ => some (0x03, s)

/-- How many of n bytes from a fit into one packet or one block: up to the next 256-byte unit, or 128-byte block of the SRAM
tier (R360, R374). -/
def chunkLen (s : State) (a n : Nat) : Nat :=
  let u := if ownSlot s a && (sliceOf s (addrLocal a)).isSome then 128 else 256
  min n (u - a % u)

/-- n bytes written at global address a: through the engine's port, or as a WRITE packet, tagged as the flags say (R373). -/
def engineWrite (s : State) (halo : Bool) (c e a : Nat) (data : List Byte) : State :=
  if inOwn s c a then putData s (addrLocal a) data
  else
    let vc := if dUrgent s c e && vc2Enabled s (engineIndex halo c) then 2 else 0
    let cc := (if halo then 56 else 48) + c
    if dFlag s e 2 then
      match (targetOf s (addrLocal a)).index with
      | some i => sendWrite (ccPut s i cc (ccVal s i cc + 1)) (engineIndex halo c) 0 vc a data (some cc)
      | none => s
    else sendWrite s (engineIndex halo c) 0 vc a data (if dFlag s e 4 then some (s.load (e + 3) 1 % 64) else none)

/-- n bytes from src to dst, or of the pattern where src is none, from offset o of the line; stops at the first error. -/
def moveLine (fuel : Nat) (s : State) (halo : Bool) (c e : Nat) (src : Option Nat) (dst o n : Nat) : State × Option Nat :=
  match fuel with
  | 0 => (s, none)
  | f + 1 =>
    if n ≤ o then (s, none)
    else
      let k := chunkLen s (dst + o) (n - o)
      let stop := match src with
        | some a => readStop s (a + o) k
        | none => none
      match stop, writeStop s halo c (dst + o) with
      | some (x, s'), _ => (s', some x)
      | none, some (x, s') => (s', some x)
      | none, none =>
        let data := match src with
          | some a => s.bytes (addrLocal (a + o)) k
          | none => (List.range k).map (fun i => s.byte (e + 40 + (o + i) % 8))
        let s1 := engineWrite s halo c e (dst + o) data
        let x := s1.engine halo c
        moveLine f (s1.setEngine halo c { x with bytes := satAdd 64 x.bytes k }) halo c e src dst (o + k) n

/-- The lines of a descriptor in order, from line l. -/
def moveLines (fuel : Nat) (s : State) (halo : Bool) (c e l : Nat) : State × Option Nat :=
  match fuel with
  | 0 => (s, none)
  | f + 1 =>
    let op := dOp s e
    let src := if op = 2 then none else some (dSrc s e + l * (if op = 1 then dSrcStride s e else 0))
    match moveLine (dLine s e / 8 + 1) s halo c e src (dDst s e + l * (if op = 1 then dDstStride s e else 0)) 0 (dLine s e) with
    | (s, some x) => (s, some x)
    | (s, none) => moveLines f s halo c e (l + 1)

/-! ### The course of a descriptor (R371, R372, R382) -/

/-- An engine that finds VALID clear, or has no ring, sleeps until the next wake (R371). -/
def lookNext (s : State) (halo : Bool) (c : Nat) : State :=
  let x := s.engine halo c
  if x.phase = .idle ∧ (x.size = 0 ∨ !dFlag s (entryAt s halo c) 0) then s.setEngine halo c { x with awake := false } else s

/-- Status written with VALID cleared, and the next entry taken. -/
def retire (s : State) (halo : Bool) (c status : Nat) : State :=
  let e := entryAt s halo c
  let s := putData s (e + 1) (bytesOf 1 (s.load (e + 1) 1 / 2 * 2) ++ bytesOf 1 status)
  let x := s.engine halo c
  lookNext (s.setEngine halo c { x with phase := .idle, head := (x.head + 1) % x.size }) halo c

/-- A descriptor ends with an error: status, HALTED and ERR; no NOTIFY (R382). -/
def engineFail (s : State) (halo : Bool) (c code : Nat) : State :=
  let s := retire s halo c (0x80 + code)
  ((s.setEngine halo c { s.engine halo c with halted := true, lastErr := code }).raise (Reg.dmaIrqStat c) (if halo then 3 else 1)).count
    (Reg.dmaErrors c)

/-- The sets whose counter confirms the descriptor. -/
def confirmSets (s : State) (c e : Nat) : List Nat :=
  if dFlag s e 2 then ([dDst s e, dLast s e].filter (counted s c)).filterMap (fun a => (targetOf s (addrLocal a)).index) else []

/-- The descriptor's writes have been confirmed, or have left (R372, R373). -/
def confirmed (s : State) (halo : Bool) (c : Nat) : Bool :=
  (confirmSets s c (entryAt s halo c)).all (fun i => decide (ccVal s i ((if halo then 56 else 48) + c) = 0))

/-- URGENT descriptors in progress (Table 10-7). -/
def urgentRunning (s : State) : Nat :=
  ([false, true].flatMap (fun h => (List.range 2).filter (fun c =>
    decide ((s.engine h c).phase ≠ .idle) && dUrgent s c (entryAt s h c)))).length

/-- Whether the engine may start the descriptor at its head now, one whose op `ok` admits. -/
def mayStart (s : State) (halo : Bool) (c : Nat) (ok : Nat → Bool) : Bool :=
  let x := s.engine halo c
  let e := entryAt s halo c
  s.bitAt (Reg.dmaCtrl c) 0 && x.awake && decide (x.phase = .idle) && !x.halted && decide (x.size ≠ 0) && dFlag s e 0 && ok (dOp s e)
    && (!dUrgent s c e || decide (urgentRunning s < 2)) && decide ((s.dom (if halo then 145 + c else 137 + c)).st = .on)

/-- A descriptor run to the point where its last write has been written or has left the engine. (DEDUCED, log 49) -/
def startDescriptor (s : State) (halo : Bool) (c : Nat) (ok : Nat → Bool) : State :=
  if !mayStart s halo c ok then s
  else
    let e := entryAt s halo c
    match dFault s halo c e with
    | some x => engineFail s halo c x
    | none =>
      let s := s.each (confirmSets s c e) (fun s i => ccPut s i ((if halo then 56 else 48) + c) 0)
      match moveLines (dLines s e) s halo c e 0 with
      | (s, some x) => engineFail s halo c x
      | (s, none) => s.setEngine halo c { s.engine halo c with phase := .confirming, sentAt := s.now }

/-- A COPY descriptor of the DMA engine; one with an op that does not exist ends here with its error (R372, Table 10-6). -/
def execDmaCopy (cluster : Fin 8) (s : State) : Out := .next (startDescriptor s false cluster (fun op => op = 0 || decide (2 < op)))

/-- A COPY2D descriptor of the DMA engine (R372). -/
def execDmaCopy2d (cluster : Fin 8) (s : State) : Out := .next (startDescriptor s false cluster (fun op => op = 1))

/-- A FILL descriptor of the DMA engine (R372). -/
def execDmaFill (cluster : Fin 8) (s : State) : Out := .next (startDescriptor s false cluster (fun op => op = 2))

/-- A COPY descriptor of the halo engine, or one of an op that it does not accept (R374). -/
def execHaloCopy (cluster : Fin 8) (s : State) : Out := .next (startDescriptor s true cluster (fun op => decide (op ≠ 1)))

/-- A COPY2D descriptor of the halo engine (R374). -/
def execHaloCopy2d (cluster : Fin 8) (s : State) : Out := .next (startDescriptor s true cluster (fun op => op = 1))

/-- A descriptor completes: status, the SIGNAL of NOTIFY, the interrupt of IRQ (R372). -/
def execDmaDescriptorDone (cluster : Fin 8) (halo : Bool) (s : State) : Out :=
  let c : Nat := cluster
  if (s.engine halo c).phase = .idle ∨ !confirmed s halo c then .next s
  else
    let e := entryAt s halo c
    let s1 := (retire s halo c 1).count (if halo then Reg.haloDescDone c else Reg.dmaDescDone c)
    let s2 := s1.when (dFlag s e 5) (fun t =>
      sendSignal t (engineIndex halo c) 0 (if dUrgent s c e then 2 else 0) (BitVec.ofNat 12 (s.load (e + 4) 2)) (s.load (e + 6) 1 % 64))
    .next (s2.when (dFlag s e 3) (fun t => t.raise (Reg.dmaIrqStat c) (if halo then 2 else 0)))

/-- Confirmation has not come within DMA_CFG.TIMEOUT of the last write: error 0x07 (R382). -/
def execDmaConfirmTimeout (cluster : Fin 8) (halo : Bool) (s : State) : Out :=
  let c : Nat := cluster
  let x := s.engine halo c
  if x.phase = .idle ∨ confirmed s halo c ∨ !s.past x.sentAt (us (s.fldAt (Reg.dmaCfg c) 15 0)) then .next s
  else .next (engineFail s halo c 0x07)

/-- A write of DMA_TAIL or HALO_TAIL: stored, and the engine woken (R371). -/
def writeTail (s : State) (halo : Bool) (c v : Nat) : State :=
  lookNext (wakeEngine (s.setReg (tailReg halo c) (BitVec.ofNat 64 v)) halo c) halo c

/-- The engine is woken by a write of its TAIL register, or by its doorbell (R371). -/
def execDmaWake (cluster : Fin 8) (halo : Bool) (who : Option Requester) (val : BitVec 32) (s : State) : Out :=
  match who with
  | some r => .next (s.writeGuard r (tailReg halo cluster) (fun s => writeTail s halo cluster val.toNat))
  | none => .next (lookNext (wakeEngine s halo cluster) halo cluster)

/-- A write of DMA_CTRL: EN, and RESUME and HALO_RESUME (W1S) (R382). -/
def writeDmaCtrl (s : State) (c v : Nat) : State :=
  let s := s.setFldAt (Reg.dmaCtrl c) 0 0 v
  let s := s.when (v.testBit 8) (fun s => lookNext (s.setEngine false c { s.engine false c with halted := false }) false c)
  s.when (v.testBit 9) (fun s => lookNext (s.setEngine true c { s.engine true c with halted := false }) true c)

/-- RESUME in DMA_CTRL (R382). -/
def execDmaResume (who : Requester) (cluster : Fin 8) (val : BitVec 32) (s : State) : Out :=
  .next (s.writeGuard who (Reg.dmaCtrl cluster) (fun s => writeDmaCtrl s cluster val.toNat))

/-- HALO_RESUME in DMA_CTRL (R382). -/
def execHaloResume (who : Requester) (cluster : Fin 8) (val : BitVec 32) (s : State) : Out :=
  .next (s.writeGuard who (Reg.dmaCtrl cluster) (fun s => writeDmaCtrl s cluster val.toNat))

/-- A write of DMA_RING_SIZE or HALO_RING_SIZE: 16 to 4096, a power of two, the ring in the own slice, and not while BUSY
(Tables 10-7 and 10-10). -/
def writeRingSize (s : State) (halo : Bool) (c v : Nat) : State :=
  let x := s.engine halo c
  let b := addrLocal (s.reg (ringBaseReg halo c)).toNat
  let n := v % 8192
  let ok := [16, 32, 64, 128, 256, 512, 1024, 2048, 4096].contains n && decide (b % 64 = 0) && decide (0x10_0000_0000 + 0x100_0000 * c ≤ b)
    && decide (b + 64 * n ≤ 0x10_0000_0000 + 0x100_0000 * (c + 1))
  if ok && !x.awake && decide (x.phase = .idle) then s.setEngine halo c { x with size := n, head := x.head % n } else s

/-! ### The SRAM tier and the scrubbers -/

/-- A write of MEM_SLICE_CFG: WGUARD, and MAP where it changes only while all eight bank groups are OFF (R362). (DEDUCED, log 51) -/
def writeSliceCfg (s : State) (c v : Nat) : State :=
  let s := s.setFldAt (Reg.memSliceCfg c) 1 1 (bits v 1 1)
  if v.testBit 0 = linearMap s c then s
  else if (List.range 8).all (fun g => decide ((s.dom (56 + 8 * c + g)).st = .off)) then s.setFldAt (Reg.memSliceCfg c) 0 0 v
  else s.raise Reg.memIrqStat 4

/-- MEM_SLICE_CFG written (R362). -/
def execSliceMapWrite (who : Requester) (slice : Fin 8) (val : BitVec 32) (s : State) : Out :=
  .next (s.writeGuard who (Reg.memSliceCfg slice) (fun s => writeSliceCfg s slice val.toNat))

/-- A write of MEM_IRQ_STAT: W1C; clearing [1:0] re-arms MEM_ERR_LOG (Table 10-9). -/
def writeMemIrqStat (s : State) (v : Nat) : State :=
  let s := s.setReg Reg.memIrqStat (s.reg Reg.memIrqStat &&& ~~~(BitVec.ofNat 64 (v % 128)))
  if bits v 1 0 ≠ 0 then s.setFldAt Reg.memErrLog 53 53 0 else s

/-- An uncorrectable word found by a scrubber: left poisoned, logged, counted (R381). (DEDUCED, log 50) -/
def scrubbed (s : State) (counter kind a : Nat) : State :=
  logMemErr (((s.setPoison a true).count counter).raise Reg.memIrqStat 2) a kind true

/-- The scrub pass of scrubber k was last done at this time. -/
def scrubTime (s : State) (k : Nat) : Nat := get (fun _ => 0) s.memb.scrubAt k

/-- A scrub pass counted. -/
def passDone (s : State) (k : Nat) : State :=
  { s with memb := { s.memb with scrubAt := put (fun _ => 0) s.memb.scrubAt k s.now } }.count Reg.memScrubPasses

/-- A bank group's scrub pass, once every SRAM_PERIOD (R381). -/
def execSramScrub (group : Fin 64) (corrected : Nat) (uncorrectable : List Nat) (s : State) : Out :=
  let g : Nat := group
  if groupUp s (g / 8) (g % 8) ∧ s.past (scrubTime s g) (ms (10 * s.fldAt Reg.memScrub 15 0)) then
    let bad := uncorrectable.filter (fun a => targetOf s a = .sram (g / 8) (g % 8))
    .next (passDone (((s.countBy Reg.memSramCe corrected).each bad (fun s a => scrubbed s Reg.memSramUe 0 a))) g)
  else .next s

/-- A DRAM channel's scrub pass, once every DRAM_PERIOD (R381). -/
def execDramScrub (channel : Fin 4) (corrected : Nat) (uncorrectable : List Nat) (s : State) : Out :=
  let ch : Nat := channel
  if channelUp s ch ∧ s.past (scrubTime s (64 + ch)) (sec (3600 * s.fldAt Reg.memScrub 31 16)) then
    let bad := uncorrectable.filter (fun a => targetOf s a = .dram ch)
    .next (passDone (((s.countBy Reg.memDdrCe corrected).each bad (fun s a => scrubbed s Reg.memDdrUe 1 a))) (64 + ch))
  else .next s

/-- A bank group that reached ON after OFF has written zeros to its whole array (R385). -/
def execBankGroupInitDone (group : Fin 64) (s : State) : Out :=
  let g : Nat := group
  if (s.dom (56 + g)).st = .on ∧ !groupUp s (g / 8) (g % 8) then
    let mine (a : Nat) : Bool := decide (targetOf s a = .sram (g / 8) (g % 8))
    .next { s with
      mem := s.mem.filter (fun e => !mine e.1)
      memb := { s.memb with
        poison := s.memb.poison.filter (fun e => !mine (8 * e.1)), ready := put (fun _ => false) s.memb.ready g true } }
  else .next s

end Sys2Proof.Machine
end

