-- ==== Sys2Proof/Machine/PxMem.lean ====
section
/-! DEFINITION. The scalar memory, counter and fence instructions of Table 6-4 (class 0b001). -/
namespace Sys2Proof.Machine

open Sys2Proof

/-- The address rb + off10 × size, modulo 2⁴⁸ (R218, R222). -/
def msAddr (th : Thread) (rb : SReg) (off : BitVec 10) (size : Nat) : Nat :=
  wrap 48 ((th.sreg rb).toNat + off.toInt * size)

/-- A scalar load of n bytes (format MS). -/
def sylLoad (rd rb : SReg) (off : BitVec 10) (n : Nat) (signed : Bool) (th : Thread) : Syl :=
  { emptySyl 1 with reads := [.s rb], mem := .load (.s rd signed) (msAddr th rb off n) n }

/-- A scalar store of n bytes (format MS). -/
def sylStore (rs rb : SReg) (off : BitVec 10) (n : Nat) (th : Thread) : Syl :=
  { emptySyl 1 with reads := [.s rs, .s rb], mem := .store (msAddr th rb off n) n (th.sreg rs).toNat }

/-- An atomic (format MR): its address is rb itself. -/
def sylAmo (op : AmoOp) (rd rb rs : SReg) (th : Thread) : Syl :=
  { emptySyl 1 with reads := [.s rb, .s rs] ++ (if op = .cas then [.s rd] else [])
                    mem := .amo op rd ((th.sreg rb).toNat % 2 ^ 48) (th.sreg rs) (th.sreg rd) }

/-- A counter instruction (format MC). -/
def sylCc (rs : List RName) (op : MemOp) : Syl := { emptySyl 1 with reads := rs, mem := op }

/-- LD_B (R222). -/
def execLdB (x : Px) (rd rb : SReg) (off : BitVec 10) (s : State) : Out := issue x s (sylLoad rd rb off 1 true)

/-- LD_BU (R222). -/
def execLdBu (x : Px) (rd rb : SReg) (off : BitVec 10) (s : State) : Out := issue x s (sylLoad rd rb off 1 false)

/-- LD_H (R222). -/
def execLdH (x : Px) (rd rb : SReg) (off : BitVec 10) (s : State) : Out := issue x s (sylLoad rd rb off 2 true)

/-- LD_HU (R222). -/
def execLdHu (x : Px) (rd rb : SReg) (off : BitVec 10) (s : State) : Out := issue x s (sylLoad rd rb off 2 false)

/-- LD_W (R222). -/
def execLdW (x : Px) (rd rb : SReg) (off : BitVec 10) (s : State) : Out := issue x s (sylLoad rd rb off 4 true)

/-- LD_WU (R222). -/
def execLdWu (x : Px) (rd rb : SReg) (off : BitVec 10) (s : State) : Out := issue x s (sylLoad rd rb off 4 false)

/-- LD_D (R222). -/
def execLdD (x : Px) (rd rb : SReg) (off : BitVec 10) (s : State) : Out := issue x s (sylLoad rd rb off 8 false)

/-- ST_B (R222). -/
def execStB (x : Px) (rs rb : SReg) (off : BitVec 10) (s : State) : Out := issue x s (sylStore rs rb off 1)

/-- ST_H (R222). -/
def execStH (x : Px) (rs rb : SReg) (off : BitVec 10) (s : State) : Out := issue x s (sylStore rs rb off 2)

/-- ST_W (R222). -/
def execStW (x : Px) (rs rb : SReg) (off : BitVec 10) (s : State) : Out := issue x s (sylStore rs rb off 4)

/-- ST_D (R222). -/
def execStD (x : Px) (rs rb : SReg) (off : BitVec 10) (s : State) : Out := issue x s (sylStore rs rb off 8)

/-- AMOADD_D (R222). -/
def execAmoaddD (x : Px) (rd rb rs : SReg) (s : State) : Out := issue x s (sylAmo .add rd rb rs)

/-- AMOSWAP_D (R222). -/
def execAmoswapD (x : Px) (rd rb rs : SReg) (s : State) : Out := issue x s (sylAmo .swap rd rb rs)

/-- AMOCAS_D (R222). -/
def execAmocasD (x : Px) (rd rb rs : SReg) (s : State) : Out := issue x s (sylAmo .cas rd rb rs)

/-- SIG (R222): a SIGNAL to the EID in rs[11:0]. -/
def execSig (x : Px) (rs : SReg) (cc : BitVec 6) (s : State) : Out :=
  issue x s (fun th => sylCc [.s rs] (.signal ((th.sreg rs).toNat % 4096) cc.toNat))

/-- CCADD (R222). -/
def execCcadd (x : Px) (rs : SReg) (cc : BitVec 6) (s : State) : Out :=
  issue x s (fun th => sylCc [.s rs] (.ccadd cc.toNat ((th.sreg rs).setWidth 32)))

/-- CCSET (R222). -/
def execCcset (x : Px) (rs : SReg) (cc : BitVec 6) (s : State) : Out :=
  issue x s (fun th => sylCc [.s rs] (.ccset cc.toNat ((th.sreg rs).setWidth 32)))

/-- CCRD (R222). -/
def execCcrd (x : Px) (rd : SReg) (cc : BitVec 6) (s : State) : Out := issue x s (fun _ => sylCc [] (.ccrd rd cc.toNat))

/-- CCWAIT (R224): rt[31:0] is the timeout in core cycles, 0 for none. -/
def execCcwait (x : Px) (rd rt : SReg) (cc : BitVec 6) (s : State) : Out :=
  issue x s (fun th => sylCc [.s rt] (.ccwait rd cc.toNat ((th.sreg rt).toNat % 2 ^ 32)))

/-- FENCE (R226). -/
def execFence (x : Px) (s : State) : Out := issue x s (fun _ => sylCc [] .fence)

/-- ICINV (R222, R236): FN 0 the line that holds rb, FN 1 the whole cache; any other FN raises cause 0x02. -/
def execIcinv (x : Px) (rb : SReg) (fn : BitVec 4) (s : State) : Out :=
  issue x s (fun th =>
    if fn.toNat ≤ 1 then sylCc [.s rb] (.icinv ((th.sreg rb).toNat % 2 ^ 48) (fn = 1))
    else { emptySyl 1 with faults := [(0x02, 0)] })

/-- LDG (R222): rd to rd + 3 take 32 bytes; rd must be a multiple of 4. -/
def execLdg (x : Px) (rd rb : SReg) (off : BitVec 10) (s : State) : Out :=
  issue x s (fun th =>
    if rd.val % 4 = 0 then { emptySyl 1 with reads := [.s rb], mem := .load (.g rd) (msAddr th rb off 32) 32 }
    else { emptySyl 1 with faults := [(0x02, 0)] })

/-- STG (R222): 32 bytes from rs to rs + 3; rs must be a multiple of 4. -/
def execStg (x : Px) (rs rb : SReg) (off : BitVec 10) (s : State) : Out :=
  issue x s (fun th =>
    if rs.val % 4 = 0 then
      { emptySyl 1 with
        reads := .s rb :: (List.range 4).map (fun k => .s (rs + k))
        mem := .store (msAddr th rb off 32) 32
          ((List.range 4).foldl (fun acc k => acc + (th.sreg (rs + k)).toNat * 2 ^ (64 * k)) 0) }
    else { emptySyl 1 with faults := [(0x02, 0)] })

end Sys2Proof.Machine
end

