-- ==== Sys2Proof/Machine/PxVInt.lean ====
section
/-! DEFINITION. The vector instructions of class 0b010: integer, logic, accumulator and control (Table 7-3, R250 to
R260). Each is one syllable whose operands are read when it arrives. -/
namespace Sys2Proof

/-- The element width code and width of a syllable (Table 7-1). -/
def VOp.ewN (o : VOp) : Nat := o.ew.toNat
def VOp.w (o : VOp) : Nat := 8 * 2 ^ o.ew.toNat

/-- h of `vfwiden`, `vfnarrow`, `pget` and `pset`: FN[2]. -/
def VOp.half (o : VOp) : Nat := o.var.toNat % 2

end Sys2Proof

namespace Sys2Proof.Machine

open Sys2Proof

/-! ### Operands and lanes (R251, R253, Table 7-2) -/

/-- The active elements of a syllable (R251, R253). -/
def vlanes (th : Thread) (o : VOp) : List Nat :=
  (List.range (vcount th o.ewN)).filter (vactive th o.pred o.ewN)

/-- vs1[i], the old vd[i], and b[i]: vs2[i], or with variant 0b01 the low w bits of the scalar. -/
def opA (th : Thread) (o : VOp) (i : Nat) : Nat := lane (th.vreg o.vs1).toNat o.w i
def opD (th : Thread) (o : VOp) (i : Nat) : Nat := lane (th.vreg o.vd).toNat o.w i
def opB (th : Thread) (o : VOp) (i : Nat) : Nat :=
  if o.var = 1 then (th.sreg o.vs2).toNat % 2 ^ o.w else lane (th.vreg o.vs2).toNat o.w i

/-- The lanes of a list, of width w, set to f. -/
def setLanes {m : Nat} (x : BitVec m) (w : Nat) (is : List Nat) (f : Nat → Nat) : BitVec m :=
  is.foldl (fun acc i => setLane acc w i (f i)) x

/-- What says which elements are active: `vl` and the mask (R251, R253). -/
def maskReads (o : VOp) : List RName := .tcr VL :: (if o.pred = 0 then [] else [.p o.pred])

/-- What an operation on vs1[i] reads, and what one on vs1[i] and b[i] does. -/
def unaryReads (o : VOp) : List RName := .v o.vs1 :: maskReads o
def binaryReads (o : VOp) : List RName := (if o.var = 1 then .s o.vs2 else .v o.vs2) :: unaryReads o

/-- A vector syllable of a class with what it reads and writes; fields that break R255 raise cause 0x02. -/
def sylV (cls : Nat) (ok : Bool) (rs : List RName) (wr : List RVal) : Syl :=
  if ok then { emptySyl cls with reads := rs, wr := wr } else { emptySyl cls with faults := [(0x02, 0)] }

/-- The variant selects vector-vector or vector-scalar (R255). (DEDUCED, log 29) -/
def okVar (o : VOp) : Bool := decide (o.var.toNat ≤ 1)

/-- The width code is one of those allowed. -/
def okEw (o : VOp) (l : List Nat) : Bool := l.contains o.ewN

/-- A syllable with the reads rs that writes f of vs1[i], b[i] and vd[i] to each active element. -/
def sylLanesOf (cls : Nat) (o : VOp) (ok : Bool) (rs : List RName) (f : Nat → Nat → Nat → Nat) (th : Thread) : Syl :=
  sylV cls ok rs [.v o.vd (setLanes (th.vreg o.vd) o.w (vlanes th o) (fun i => f (opA th o i) (opB th o i) (opD th o i)))]

/-- A syllable that writes f of vs1[i] and b[i]. -/
def sylLanes (cls : Nat) (o : VOp) (ok : Bool) (f : Nat → Nat → Nat → Nat) (th : Thread) : Syl :=
  sylLanesOf cls o ok (binaryReads o) f th

/-- f of the operands taken as signed integers, wrapped. -/
def signedLanes (o : VOp) (f : Int → Int → Int) (a b _d : Nat) : Nat := wrap o.w (f (sext a o.w) (sext b o.w))

/-- Predicate bits of the elements of a list set to f: every bit of an element's byte lanes (R254). -/
def setPred (x : BitVec 128) (ew : Nat) (is : List Nat) (f : Nat → Bool) : BitVec 128 :=
  setLanes x (2 ^ ew) is (fun i => if f i then 2 ^ 2 ^ ew - 1 else 0)

/-- The predicate register that vd names; bits [21:20] must be zero (Table 7-2). -/
def pdOf (o : VOp) : Nat := o.vd.val % 8
def okPd (o : VOp) : Bool := decide (o.vd.val < 8)

/-- A compare (R254). -/
def sylCompare (cls : Nat) (o : VOp) (ok : Bool) (cond : Nat → Nat → Bool) (th : Thread) : Syl :=
  sylV cls (ok && okPd o) (binaryReads o)
    [.p (pdOf o) (setPred (th.preg (pdOf o)) o.ewN (vlanes th o) (fun i => cond (opA th o i) (opB th o i)))]

/-- Saturated to the signed or unsigned range of w bits. -/
def satS (w : Nat) (x : Int) : Nat := wrap w (clamp x (-(2 ^ (w - 1) : Nat)) ((2 ^ (w - 1) : Nat) - 1))
def satU (w : Nat) (x : Int) : Nat := (clamp x 0 ((2 ^ w : Nat) - 1)).toNat

/-! ### Accumulators (R259) -/

/-- The accumulator lane width for a source of width w: four times it. -/
def accW (o : VOp) : Nat := 4 * o.w

/-- The data operand of R259: signed, or unsigned with variant 0b01. -/
def macData (th : Thread) (o : VOp) (i : Nat) : Int :=
  if o.var = 1 then (opA th o i : Int) else sext (opA th o i) o.w

/-- Coefficient k: the k-th byte, or halfword, of the scalar. -/
def macCoef (th : Thread) (o : VOp) (k : Nat) : Int := sext ((th.sreg o.vs2).toNat / 2 ^ (o.w * k)) o.w

/-- Accumulator n with x i added to the lane of each active element i. -/
def macInto (th : Thread) (o : VOp) (n : Nat) (x : Nat → Int) : BitVec 4096 :=
  setLanes (th.areg n) (accW o) (vlanes th o) (fun i => wrap (accW o) (sext (lane (th.areg n).toNat (accW o) i) (accW o) + x i))

/-- `vmac2` and `vmac4` over m accumulators from n. (DEDUCED, log 30) -/
def sylMac (o : VOp) (ok : Bool) (n m : Nat) (th : Thread) : Syl :=
  sylV 2 (ok && okVar o && okEw o [0, 1]) (.s o.vs2 :: unaryReads o ++ (List.range m).map (fun k => .a (n + k)))
    ((List.range m).map (fun k => .a (n + k) (macInto th o (n + k) (fun i => macData th o i * macCoef th o k))))

/-- The clamped, rounded shift of `vnsra` (Table 7-6). -/
def narrow (w sh : Nat) (uns : Bool) (x : Int) : Nat :=
  if uns then satU w (rneDiv x (2 ^ sh)) else satS w (rneDiv x (2 ^ sh))

/-- `vsetvl` and `vsetvli` (R252). -/
def sylSetVl (o : VOp) (rs : List RName) (x : Nat) : Syl :=
  let n := BitVec.ofNat 64 (Nat.min x (vlmax o.ewN))
  { emptySyl 2 with reads := rs, wr := [.s o.vd n, .tcr VL n] }

/-! ### The commands -/

/-- VADD (R256). -/
def execVadd (x : Px) (o : VOp) (s : State) : Out :=
  issue x s (sylLanes 2 o (okVar o) (signedLanes o (fun a b => a + b)))

/-- VSUB (R256). -/
def execVsub (x : Px) (o : VOp) (s : State) : Out :=
  issue x s (sylLanes 2 o (okVar o) (signedLanes o (fun a b => a - b)))

/-- VAND (R256). -/
def execVand (x : Px) (o : VOp) (s : State) : Out :=
  issue x s (sylLanes 2 o (okVar o) (fun a b _ => a &&& b))

/-- VOR (R256). -/
def execVor (x : Px) (o : VOp) (s : State) : Out :=
  issue x s (sylLanes 2 o (okVar o) (fun a b _ => a ||| b))

/-- VXOR (R256). -/
def execVxor (x : Px) (o : VOp) (s : State) : Out :=
  issue x s (sylLanes 2 o (okVar o) (fun a b _ => a ^^^ b))

/-- VSLL (R256). -/
def execVsll (x : Px) (o : VOp) (s : State) : Out :=
  issue x s (sylLanes 2 o (okVar o) (fun a b _ => a * 2 ^ (b % o.w)))

/-- VSRL (R256). -/
def execVsrl (x : Px) (o : VOp) (s : State) : Out :=
  issue x s (sylLanes 2 o (okVar o) (fun a b _ => a / 2 ^ (b % o.w)))

/-- VSRA (R256). -/
def execVsra (x : Px) (o : VOp) (s : State) : Out :=
  issue x s (sylLanes 2 o (okVar o) (fun a b _ => wrap o.w (sext a o.w / 2 ^ (b % o.w))))

/-- VMIN (R256). -/
def execVmin (x : Px) (o : VOp) (s : State) : Out :=
  issue x s (sylLanes 2 o (okVar o) (signedLanes o min))

/-- VMAX (R256). -/
def execVmax (x : Px) (o : VOp) (s : State) : Out :=
  issue x s (sylLanes 2 o (okVar o) (signedLanes o max))

/-- VMINU (R256). -/
def execVminu (x : Px) (o : VOp) (s : State) : Out :=
  issue x s (sylLanes 2 o (okVar o) (fun a b _ => Nat.min a b))

/-- VMAXU (R256). -/
def execVmaxu (x : Px) (o : VOp) (s : State) : Out :=
  issue x s (sylLanes 2 o (okVar o) (fun a b _ => Nat.max a b))

/-- VSADD (R256). -/
def execVsadd (x : Px) (o : VOp) (s : State) : Out :=
  issue x s (sylLanes 2 o (okVar o) (fun a b _ => satS o.w (sext a o.w + sext b o.w)))

/-- VSADDU (R256). -/
def execVsaddu (x : Px) (o : VOp) (s : State) : Out :=
  issue x s (sylLanes 2 o (okVar o) (fun a b _ => satU o.w (a + b)))

/-- VSSUB (R256). -/
def execVssub (x : Px) (o : VOp) (s : State) : Out :=
  issue x s (sylLanes 2 o (okVar o) (fun a b _ => satS o.w (sext a o.w - sext b o.w)))

/-- VSSUBU (R256). -/
def execVssubu (x : Px) (o : VOp) (s : State) : Out :=
  issue x s (sylLanes 2 o (okVar o) (fun a b _ => satU o.w (a - b)))

/-- VMUL (R256). -/
def execVmul (x : Px) (o : VOp) (s : State) : Out :=
  issue x s (sylLanes 2 o (okVar o) (fun a b _ => a * b))

/-- VMULH (R256). -/
def execVmulh (x : Px) (o : VOp) (s : State) : Out :=
  issue x s (sylLanes 2 o (okVar o) (fun a b _ => wrap o.w (sext a o.w * sext b o.w / 2 ^ o.w)))

/-- VMULHU (R256). -/
def execVmulhu (x : Px) (o : VOp) (s : State) : Out :=
  issue x s (sylLanes 2 o (okVar o) (fun a b _ => a * b / 2 ^ o.w))

/-- VMACC (R256). -/
def execVmacc (x : Px) (o : VOp) (s : State) : Out :=
  issue x s (sylLanesOf 2 o (okVar o) (.v o.vd :: binaryReads o) (fun a b d => d + a * b))

/-- VABSD (R256). -/
def execVabsd (x : Px) (o : VOp) (s : State) : Out :=
  issue x s (sylLanes 2 o (okVar o) (fun a b _ => (sext a o.w - sext b o.w).natAbs))

/-- VSEL (R256: the predicate chooses between vs1 and b for every element below n). -/
def execVsel (x : Px) (o : VOp) (s : State) : Out :=
  issue x s (fun th => sylV 2 (okVar o && decide (o.pred ≠ 0)) (binaryReads o)
    [.v o.vd (setLanes (th.vreg o.vd) o.w (List.range (vcount th o.ewN))
      (fun i => if vactive th o.pred o.ewN i then opA th o i else opB th o i))])

/-- VCMPEQ (R254). -/
def execVcmpeq (x : Px) (o : VOp) (s : State) : Out :=
  issue x s (sylCompare 2 o (okVar o) (fun a b => a == b))

/-- VCMPNE (R254). -/
def execVcmpne (x : Px) (o : VOp) (s : State) : Out :=
  issue x s (sylCompare 2 o (okVar o) (fun a b => a != b))

/-- VCMPLT (R254). -/
def execVcmplt (x : Px) (o : VOp) (s : State) : Out :=
  issue x s (sylCompare 2 o (okVar o) (fun a b => decide (sext a o.w < sext b o.w)))

/-- VCMPLTU (R254). -/
def execVcmpltu (x : Px) (o : VOp) (s : State) : Out :=
  issue x s (sylCompare 2 o (okVar o) (fun a b => decide (a < b)))

/-- VCMPLE (R254). -/
def execVcmple (x : Px) (o : VOp) (s : State) : Out :=
  issue x s (sylCompare 2 o (okVar o) (fun a b => decide (sext a o.w ≤ sext b o.w)))

/-- VCMPLEU (R254). -/
def execVcmpleu (x : Px) (o : VOp) (s : State) : Out :=
  issue x s (sylCompare 2 o (okVar o) (fun a b => decide (a ≤ b)))

/-- VMAC2 (R259: a[n] with n in [18:17], which must be even). -/
def execVmac2 (x : Px) (o : VOp) (s : State) : Out :=
  issue x s (sylMac o (decide (o.vd.val % 4 % 2 = 0)) (o.vd.val % 4) 2)

/-- VMAC4 (R259: [18:17] must be zero). -/
def execVmac4 (x : Px) (o : VOp) (s : State) : Out :=
  issue x s (sylMac o (decide (o.vd.val % 4 = 0)) 0 4)

/-- VWMACC (R256). -/
def execVwmacc (x : Px) (o : VOp) (s : State) : Out :=
  issue x s (fun th => sylV 2 (okVar o && okEw o [0, 1] && decide (o.vd.val < 4)) (.a o.vd :: binaryReads o)
    [.a o.vd (macInto th o o.vd (fun i => sext (opA th o i) o.w * sext (opB th o i) o.w))])

/-- VACC_CLR (R256). -/
def execVaccClr (x : Px) (o : VOp) (s : State) : Out :=
  issue x s (fun _ => sylV 2 (okVar o && decide (o.vd.val < 4)) []
    [.a o.vd (if o.var = 1 then BitVec.allOnes 4096 else 0)])

/-- VACC_GET (R256: n in [8:7], q in [13:12]). -/
def execVaccGet (x : Px) (o : VOp) (s : State) : Out :=
  issue x s (fun th => sylV 2 (okVar o) [.a (o.vs2.val % 4)]
    [.v o.vd (BitVec.ofNat 1024 (lane (th.areg (o.vs2.val % 4)).toNat 1024 (o.vs1.val % 4)))])

/-- VACC_SET (R256: n in [18:17], q in [13:12]). -/
def execVaccSet (x : Px) (o : VOp) (s : State) : Out :=
  issue x s (fun th => sylV 2 (okVar o) [.a (o.vd.val % 4), .v o.vs2]
    [.a (o.vd.val % 4) (setLane (th.areg (o.vd.val % 4)) 1024 (o.vs1.val % 4) (th.vreg o.vs2).toNat)])

/-- VNSRA (R259: an in [13:12], the shift in s[vs2][5:0]). -/
def execVnsra (x : Px) (o : VOp) (s : State) : Out :=
  issue x s (fun th =>
    sylV 2 (okVar o && okEw o [0, 1]) (.a (o.vs1.val % 4) :: .s o.vs2 :: maskReads o)
      [.v o.vd (setLanes (th.vreg o.vd) o.w (vlanes th o) (fun i =>
        narrow o.w ((th.sreg o.vs2).toNat % 64) (decide (o.var = 1))
          (sext (lane (th.areg (o.vs1.val % 4)).toNat (accW o) i) (accW o))))])

/-- VREDSUM (R256). -/
def execVredsum (x : Px) (o : VOp) (s : State) : Out :=
  issue x s (fun th => sylV 2 (okVar o) (unaryReads o)
    [.s o.vd (BitVec.ofInt 64 (((vlanes th o).map (fun i => macData th o i)).foldl (· + ·) 0))])

/-- VSETVL (R252). -/
def execVsetvl (x : Px) (o : VOp) (s : State) : Out :=
  issue x s (fun th => if okVar o then sylSetVl o [.s o.vs1] (th.sreg o.vs1).toNat else { emptySyl 2 with faults := [(0x02, 0)] })

/-- VSETVLI (R252): the immediate is unsigned. -/
def execVsetvli (x : Px) (rd : Fin 32) (imm10 : BitVec 10) (var ew : BitVec 2) (s : State) : Out :=
  issue x s (fun _ => if var.toNat ≤ 1 then sylSetVl ⟨rd, 0, 0, 0, var, ew⟩ [] imm10.toNat else { emptySyl 2 with faults := [(0x02, 0)] })

end Sys2Proof.Machine
end

