-- ==== Sys2Proof/Machine/PxVFloat.lean ====
section
/-! DEFINITION. The vector instructions of class 0b011: search, float, permute and predicate (Table 7-4, R257, R258,
R261 to R265). -/
namespace Sys2Proof.Machine

open Sys2Proof

/-! ### Searches with an index (R261 to R265) -/

/-- The comparison of `vmini` and `vmaxi` by variant (R262, R263): whether a is better than b. -/
def better (o : VOp) (max : Bool) (a b : Nat) : Bool :=
  let lt (x y : Nat) := if o.var = 2 then fLt o.w x y else if o.var = 1 then decide (x < y) else decide (sext x o.w < sext y o.w)
  if max then lt b a else lt a b

/-- A value that a search may not take: a NaN in the float comparison (R263). -/
def searchNan (o : VOp) (a : Nat) : Bool := decide (o.var = 2) && fNan o.w a

/-- The fields that R257 and R262 allow: widths of 8, 16 and 32 bits, floats of 16 and 32. -/
def okSearch (o : VOp) : Bool :=
  okEw o [0, 1, 2] && decide (o.var.toNat ≤ 2) && !(decide (o.var = 2) && decide (o.ewN = 0))

/-- The index lane of an empty lane (R261). -/
def emptyLane : Nat := 0xFFFF_FFFF

/-- Whether element i replaces the best of its lane (R264). -/
def takesLane (th : Thread) (o : VOp) (n : Nat) (max : Bool) (i : Nat) : Bool :=
  !searchNan o (opA th o i) && (decide (lane (th.areg n).toNat 32 i = emptyLane) || better o max (opA th o i) (opD th o i))

/-- The lane form (R264). -/
def sylSearch (o : VOp) (n : AReg) (max : Bool) (th : Thread) : Syl :=
  let is := (vlanes th o).filter (takesLane th o n max)
  sylV 3 (okSearch o) (.a n :: .s o.vs2 :: .v o.vd :: unaryReads o)
    [.v o.vd (setLanes (th.vreg o.vd) o.w is (opA th o)),
     .a n (setLanes (th.areg n) 32 is (fun i => (th.sreg o.vs2).toNat + i))]

/-- The winner among (index, value) pairs: the best value, the lowest index among equals (R265). -/
def searchBest (o : VOp) (max : Bool) (l : List (Nat × Nat)) : Option (Nat × Nat) :=
  l.foldl (fun m x => match m with
    | none => some x
    | some y => if better o max x.2 y.2 then some x
                else if !better o max y.2 x.2 && decide (x.1 < y.1) then some x else some y) none

/-- The reduction form (R265); the vs2 field must be zero. -/
def sylReduce (o : VOp) (n : AReg) (max : Bool) (th : Thread) : Syl :=
  let l := ((vlanes th o).filter (fun i => decide (lane (th.areg n).toNat 32 i ≠ emptyLane) && !searchNan o (opA th o i))).map
    (fun i => (lane (th.areg n).toNat 32 i, opA th o i))
  let r := match searchBest o max l with
    | none => emptyLane * 2 ^ 32
    | some (i, v) => i * 2 ^ 32 + (if o.var = 0 then wrap 32 (sext v o.w) else v)
  sylV 3 (okSearch o && decide (o.vs2 = 0)) (.a n :: unaryReads o) [.s o.vd (BitVec.ofNat 64 r)]

/-! ### Float, permute and predicate syllables -/

/-- A float operation on each active element (R258). (DEDUCED, log 31) -/
def sylFloat (o : VOp) (f : Nat → Nat → Nat → Nat → Nat) (th : Thread) : Syl :=
  sylLanes 3 o (okVar o && okEw o [1, 2]) (f o.w) th

/-- The scalar named in [11:7], as a number. -/
def opS (th : Thread) (o : VOp) : Nat := (th.sreg o.vs2).toNat

/-- A float operation of one operand. -/
def sylFloat1 (o : VOp) (f : Nat → Nat) (th : Thread) : Syl :=
  sylLanesOf 3 o (okVar o && okEw o [1, 2]) (unaryReads o) (fun a _ _ => f a) th

/-- A permutation with the reads rs: f of the element index gives the value, or none to keep the element. -/
def sylPermute (o : VOp) (ok : Bool) (rs : List RName) (th : Thread) (f : Nat → Option Nat) : Syl :=
  sylV 3 (ok && okVar o) (rs ++ maskReads o)
    [.v o.vd (setLanes (th.vreg o.vd) o.w ((vlanes th o).filter (fun i => (f i).isSome)) (fun i => (f i).getD 0))]

/-- Predicate logic over all 128 bits: ps1 in [14:12], ps2 in [9:7]. -/
def sylPred (o : VOp) (f : BitVec 128 → BitVec 128 → BitVec 128) (th : Thread) : Syl :=
  sylV 3 (okVar o && okPd o) [.p (o.vs1.val % 8), .p (o.vs2.val % 8)]
    [.p (pdOf o) (f (th.preg (o.vs1.val % 8)) (th.preg (o.vs2.val % 8)))]

/-- The elements active under ps1, even when it is p0 (R257). -/
def underPs1 (th : Thread) (o : VOp) : List Nat :=
  (List.range (vcount th o.ewN)).filter (fun i => (th.preg (o.vs1.val % 8)).getLsbD (i * 2 ^ o.ewN))

/-! ### The commands -/

/-- VMINI_V (R264). -/
def execVminiV (x : Px) (o : VOp) (n : AReg) (s : State) : Out :=
  issue x s (sylSearch o n false)

/-- VMAXI_V (R264). -/
def execVmaxiV (x : Px) (o : VOp) (n : AReg) (s : State) : Out :=
  issue x s (sylSearch o n true)

/-- VMINI_R (R265). -/
def execVminiR (x : Px) (o : VOp) (n : AReg) (s : State) : Out :=
  issue x s (sylReduce o n false)

/-- VMAXI_R (R265). -/
def execVmaxiR (x : Px) (o : VOp) (n : AReg) (s : State) : Out :=
  issue x s (sylReduce o n true)

/-- VFADD (R258). -/
def execVfadd (x : Px) (o : VOp) (s : State) : Out :=
  issue x s (sylFloat o (fun w a b _ => fAdd w a b))

/-- VFSUB (R258). -/
def execVfsub (x : Px) (o : VOp) (s : State) : Out :=
  issue x s (sylFloat o (fun w a b _ => fSub w a b))

/-- VFMUL (R258). -/
def execVfmul (x : Px) (o : VOp) (s : State) : Out :=
  issue x s (sylFloat o (fun w a b _ => fMul w a b))

/-- VFMA (R258). -/
def execVfma (x : Px) (o : VOp) (s : State) : Out :=
  issue x s (sylLanesOf 3 o (okVar o && okEw o [1, 2]) (.v o.vd :: binaryReads o) (fun a b d => fFma o.w d a b))

/-- VFMIN (R258). -/
def execVfmin (x : Px) (o : VOp) (s : State) : Out :=
  issue x s (sylFloat o (fun w a b _ => fMinMax false w a b))

/-- VFMAX (R258). -/
def execVfmax (x : Px) (o : VOp) (s : State) : Out :=
  issue x s (sylFloat o (fun w a b _ => fMinMax true w a b))

/-- VFCMPEQ (R257). -/
def execVfcmpeq (x : Px) (o : VOp) (s : State) : Out :=
  issue x s (sylCompare 3 o (okVar o && okEw o [1, 2]) (fEq o.w))

/-- VFCMPLT (R257). -/
def execVfcmplt (x : Px) (o : VOp) (s : State) : Out :=
  issue x s (sylCompare 3 o (okVar o && okEw o [1, 2]) (fLt o.w))

/-- VFCMPLE (R257). -/
def execVfcmple (x : Px) (o : VOp) (s : State) : Out :=
  issue x s (sylCompare 3 o (okVar o && okEw o [1, 2]) (fLe o.w))

/-- VCVT_F_X (R257: unsigned with variant 0b01). -/
def execVcvtFX (x : Px) (o : VOp) (s : State) : Out :=
  issue x s (sylFloat1 o (fun a => fOfInt o.w (if o.var = 1 then (a : Int) else sext a o.w)))

/-- VCVT_X_F (R257). -/
def execVcvtXF (x : Px) (o : VOp) (s : State) : Out :=
  issue x s (sylFloat1 o (fun a => wrap o.w (fToInt o.w a)))

/-- VFWIDEN (R257). -/
def execVfwiden (x : Px) (o : VOp) (s : State) : Out :=
  issue x s (fun th => sylV 3 (okVar o && okEw o [1]) (unaryReads o)
    [.v o.vd (setLanes (th.vreg o.vd) 32 ((vlanes th o).filter (fun i => decide (i < 32)))
      (fun i => fWiden (opA th o (i + 32 * o.half))))])

/-- VFNARROW (R257). -/
def execVfnarrow (x : Px) (o : VOp) (s : State) : Out :=
  issue x s (fun th => sylV 3 (okVar o && okEw o [2]) (unaryReads o)
    [.v o.vd (setLanes (th.vreg o.vd) 16 ((vlanes th o).map (fun i => i + 32 * o.half))
      (fun j => fNarrow (opA th o (j - 32 * o.half))))])

/-- VSLIDEUP (R257). -/
def execVslideup (x : Px) (o : VOp) (s : State) : Out :=
  issue x s (fun th => sylPermute o true [.v o.vs1, .s o.vs2] th (fun i => if opS th o ≤ i then some (opA th o (i - opS th o)) else none))

/-- VSLIDEDOWN (R257). -/
def execVslidedown (x : Px) (o : VOp) (s : State) : Out :=
  issue x s (fun th =>
    sylPermute o true [.v o.vs1, .s o.vs2] th (fun i => some (if i + opS th o < vlmax o.ewN then opA th o (i + opS th o) else 0)))

/-- VRGATHER (R257, R267: vd may not be the index vector). -/
def execVrgather (x : Px) (o : VOp) (s : State) : Out :=
  issue x s (fun th =>
    sylPermute o (decide (o.var = 1) || decide (o.vd ≠ o.vs2)) (binaryReads o) th
      (fun i => some (if opB th o i < vlmax o.ewN then opA th o (opB th o i) else 0)))

/-- VBCAST (R257). -/
def execVbcast (x : Px) (o : VOp) (s : State) : Out :=
  issue x s (fun th => sylPermute o true [.s o.vs2] th (fun _ => some (opS th o)))

/-- VEXT (R257). -/
def execVext (x : Px) (o : VOp) (s : State) : Out :=
  issue x s (fun th => sylV 3 (okVar o) [.v o.vs1, .s o.vs2]
    [.s o.vd (if opS th o < vlmax o.ewN then
      (if o.var = 1 then BitVec.ofNat 64 (opA th o (opS th o)) else BitVec.ofInt 64 (sext (opA th o (opS th o)) o.w)) else 0)])

/-- VINS (R257). -/
def execVins (x : Px) (o : VOp) (s : State) : Out :=
  issue x s (fun th => sylV 3 (okVar o) [.s o.vs1, .s o.vs2]
    [.v o.vd (if (th.sreg o.vs1).toNat < vlmax o.ewN then setLane (th.vreg o.vd) o.w (th.sreg o.vs1).toNat (opS th o)
      else th.vreg o.vd)])

/-- VID (R257). -/
def execVid (x : Px) (o : VOp) (s : State) : Out :=
  issue x s (fun th => sylPermute o true [.s o.vs2] th (fun i => some (opS th o + i)))

/-- PAND (R257). -/
def execPand (x : Px) (o : VOp) (s : State) : Out :=
  issue x s (sylPred o (fun a b => a &&& b))

/-- POR (R257). -/
def execPor (x : Px) (o : VOp) (s : State) : Out :=
  issue x s (sylPred o (fun a b => a ||| b))

/-- PXOR (R257). -/
def execPxor (x : Px) (o : VOp) (s : State) : Out :=
  issue x s (sylPred o (fun a b => a ^^^ b))

/-- PANDN (R257). -/
def execPandn (x : Px) (o : VOp) (s : State) : Out :=
  issue x s (sylPred o (fun a b => a &&& ~~~b))

/-- PWHILE (R257). -/
def execPwhile (x : Px) (o : VOp) (s : State) : Out :=
  issue x s (fun th => sylV 3 (okVar o && okPd o) [.s o.vs2, .tcr VL]
    [.p (pdOf o) (setPred (th.preg (pdOf o)) o.ewN (List.range (vlmax o.ewN))
      (fun i => decide (i < Nat.min (opS th o) (vcount th o.ewN))))])

/-- PCOUNT (R257). -/
def execPcount (x : Px) (o : VOp) (s : State) : Out :=
  issue x s (fun th => sylV 3 (okVar o) [.p (o.vs1.val % 8), .tcr VL] [.s o.vd (BitVec.ofNat 64 (underPs1 th o).length)])

/-- PFIRST (R257). -/
def execPfirst (x : Px) (o : VOp) (s : State) : Out :=
  issue x s (fun th => sylV 3 (okVar o) [.p (o.vs1.val % 8), .tcr VL]
    [.s o.vd (match (underPs1 th o).head? with
      | none => BitVec.allOnes 64
      | some i => BitVec.ofNat 64 i)])

/-- PGET (R257). -/
def execPget (x : Px) (o : VOp) (s : State) : Out :=
  issue x s (fun th => sylV 3 (okVar o) [.p (o.vs1.val % 8)]
    [.s o.vd (BitVec.ofNat 64 (lane (th.preg (o.vs1.val % 8)).toNat 64 o.half))])

/-- PSET (R257). -/
def execPset (x : Px) (o : VOp) (s : State) : Out :=
  issue x s (fun th => sylV 3 (okVar o && okPd o) [.s o.vs2]
    [.p (pdOf o) (setLane (th.preg (pdOf o)) 64 o.half (opS th o))])

end Sys2Proof.Machine
end

