-- ==== Sys2Proof/Machine/PxVMem.lean ====
section
/-! DEFINITION. The vector memory instructions of Table 7-5 (R266 to R281); `stopAt` is the element boundary at which an
interrupt or a stop that is already pending is recognised. -/
namespace Sys2Proof.Machine

open Sys2Proof

/-- What a resumable vector memory syllable reads: the base, the stride or index, the data, the predicate, `vl`, `vstart`, and STAG where it
stores (R223). -/
def vmReads (k : VmKind) (o : VOp) : List RName :=
  [.s o.vs1, .tcr VSTART]
    ++ (if k.quarters then [] else [.tcr VL])
    ++ (if o.pred = 0 then [] else [.p o.pred])
    ++ (match k with
        | .lds | .sts => [.s o.vs2]
        | .gather | .scatter => [.v o.vs2]
        | _ => [])
    ++ (match k with
        | .st | .sts | .scatter => [.v o.vd]
        | .sta => [.a (o.vd.val % 4)]
        | _ => [])
    ++ (if k.stores then [.tcr STAG] else [])

/-- A resumable vector memory syllable; its variant must be 0b00, gathers and scatters have no 8-bit form, the accumulator
forms no predicate, and a gather's vd may not be its index vector (R255, R266, R267). -/
def sylVm (k : VmKind) (o : VOp) (stopAt : Option Nat) (_ : Thread) : Syl :=
  let ok := decide (o.var = 0)
    && (match k with
        | .gather => decide (o.ewN ≠ 0) && decide (o.vd ≠ o.vs2)
        | .scatter => decide (o.ewN ≠ 0)
        | .lda | .sta => decide (o.pred = 0)
        | _ => true)
  let vd := if k.quarters then o.vd.val % 4 else o.vd.val
  { emptySyl 1 with reads := vmReads k o, res := .vm k vd o.vs1 o.vs2 o.pred o.ewN stopAt
                    faults := if ok then [] else [(0x02, 0)] }

/-- The address of `pld` and `pst`: s[rb] + off5 × 16, modulo 2⁴⁸. -/
def plAddr (th : Thread) (o : VOp) : Nat := wrap 48 ((th.sreg o.vs1).toNat + sext o.vs2.val 5 * 16)

/-- VLD (R266). -/
def execVld (x : Px) (o : VOp) (stopAt : Option Nat) (s : State) : Out :=
  issue x s (sylVm .ld o stopAt)

/-- VLDS (R266). -/
def execVlds (x : Px) (o : VOp) (stopAt : Option Nat) (s : State) : Out :=
  issue x s (sylVm .lds o stopAt)

/-- VGATHER (R266). -/
def execVgather (x : Px) (o : VOp) (stopAt : Option Nat) (s : State) : Out :=
  issue x s (sylVm .gather o stopAt)

/-- VST (R266). -/
def execVst (x : Px) (o : VOp) (stopAt : Option Nat) (s : State) : Out :=
  issue x s (sylVm .st o stopAt)

/-- VSTS (R266). -/
def execVsts (x : Px) (o : VOp) (stopAt : Option Nat) (s : State) : Out :=
  issue x s (sylVm .sts o stopAt)

/-- VSCATTER (R266). -/
def execVscatter (x : Px) (o : VOp) (stopAt : Option Nat) (s : State) : Out :=
  issue x s (sylVm .scatter o stopAt)

/-- VLDA (R266). -/
def execVlda (x : Px) (o : VOp) (stopAt : Option Nat) (s : State) : Out :=
  issue x s (sylVm .lda o stopAt)

/-- VSTA (R266). -/
def execVsta (x : Px) (o : VOp) (stopAt : Option Nat) (s : State) : Out :=
  issue x s (sylVm .sta o stopAt)

/-- PLD (R266: pd in [19:17]). -/
def execPld (x : Px) (o : VOp) (s : State) : Out :=
  issue x s (fun th =>
    if o.var = 0 then { emptySyl 1 with reads := [.s o.vs1], mem := .load (.p (o.vd.val % 8)) (plAddr th o) 16 }
    else { emptySyl 1 with faults := [(0x02, 0)] })

/-- PST (R266: ps in [19:17]). -/
def execPst (x : Px) (o : VOp) (s : State) : Out :=
  issue x s (fun th =>
    if o.var = 0 then { emptySyl 1 with reads := [.s o.vs1, .p (o.vd.val % 8)]
                                        mem := .store (plAddr th o) 16 (th.preg (o.vd.val % 8)).toNat }
    else { emptySyl 1 with faults := [(0x02, 0)] })

end Sys2Proof.Machine
end

