-- ==== Sys2Proof/Machine/RegView.lean ====
section
/-! DEFINITION. What a read of each register shows: the registers that hold a view of a unit's state, and for the others what is stored
(R8, R10, and the register table of each chapter). -/
namespace Sys2Proof.Machine

open Sys2Proof

/-- A word put together of fields, each as its value and its lowest bit. -/
def pack (l : List (Nat × Nat)) : Word := BitVec.ofNat 64 ((l.map (fun f => f.1 * 2 ^ f.2)).foldl (· + ·) 0)

/-- A bit at place i. -/
def statBit (b : Bool) (i : Nat) : Nat × Nat := (num b, i)

/-- The bitmap of the numbers below n for which p holds. -/
def bitmap (n : Nat) (p : Nat → Bool) : Nat := ((List.range n).map (fun i => num (p i) * 2 ^ i)).foldl (· + ·) 0

/-! ### SYS_, BOOT_, SEC_ and the interrupt controller (Tables 15-11 and 15-12) -/

/-- A software endpoint's mailbox is not empty. -/
def boxPending (s : State) (m : Nat) : Bool := !(s.box m).queue.isEmpty

/-- Status and enables of a block, ANDed. -/
def blockIrq (s : State) (stat en : Nat) : Bool := decide (s.reg stat &&& s.reg en ≠ 0)

/-- The power domains whose outputs drive the line of source n; none for a source of the always-on domain or of several blocks. (DEDUCED, log 184) -/
def irqDomains (s : State) (n : Nat) : List Nat :=
  if n = 3 then [174]
  else if n = 4 then [173]
  else if n = 8 then [126 + decReserve s]
  else if n = 9 then ((List.range 6).filter (fun e => decide (e ≠ decReserve s))).map (126 + ·)
  else if n = 10 then [132]
  else if n = 11 then [167]
  else if n = 13 then [171]
  else if n = 15 then [175]
  else if n = 17 then [172]
  else if n = 18 then [168]
  else if 32 ≤ n ∧ n < 56 then [n - 32]
  else if 56 ≤ n ∧ n < 64 then [24 + 4 * (n - 56)]
  else if 64 ≤ n ∧ n < 72 then [153 + (n - 64)]
  else if 72 ≤ n ∧ n < 80 then [137 + (n - 72), 145 + (n - 72)]
  else []

/-- The line of source n is held low: each domain that drives it is ISOLATED (R424). -/
def irqHeldLow (s : State) (n : Nat) : Bool :=
  !(irqDomains s n).isEmpty && (irqDomains s n).all (fun d => (s.dom d).isolated)

/-- What source n's block asks for (R524). -/
def irqAsked (s : State) (n : Nat) : Bool :=
  if n = 1 then blockIrq s Reg.clkIrqStat Reg.clkIrqEn
  else if n = 2 then blockIrq s Reg.pwrIrqStat Reg.pwrIrqEn
  else if n = 3 then blockIrq s Reg.hldIrqStat Reg.hldIrqEn
  else if n = 4 then blockIrq s Reg.sgeIrqStat Reg.sgeIrqEn
  else if n = 5 then blockIrq s Reg.memIrqStat Reg.memIrqEn
  else if n = 6 then blockIrq s Reg.fabEvtStat Reg.fabEvtEn
  else if n = 7 then blockIrq s Reg.camIrqStat Reg.camIrqEn
  else if n = 10 then blockIrq s Reg.encIrqStat Reg.encIrqEn
  else if n = 13 then blockIrq s Reg.bayIrqStat Reg.bayIrqEn
  else if n = 16 then decide (s.fldAt Reg.bootXspiStat 2 1 ≠ 0)
  else if n = 19 then (List.range 256).any (boxPending s)
  else if 32 ≤ n ∧ n < 56 then blockIrq s (Reg.pxcIrqStat (n - 32)) (Reg.pxcIrqEn (n - 32))
  else if 56 ≤ n ∧ n < 64 then blockIrq s (Reg.tarIrqStat (n - 56)) (Reg.tarIrqEn (n - 56))
  else if 64 ≤ n ∧ n < 72 then blockIrq s (Reg.qntIrqStat (n - 64)) (Reg.qntIrqEn (n - 64))
  else if 72 ≤ n ∧ n < 80 then blockIrq s (Reg.dmaIrqStat (n - 72)) (Reg.dmaIrqEn (n - 72))
  else s.sys.events.contains n

/-- The level of interrupt source n: low while its domain is ISOLATED (R424, R524). -/
def irqLevel (s : State) (n : Nat) : Bool := irqAsked s n && !irqHeldLow s n

/-- Source n is pending: its level is up, and it is not being served (R524). -/
def irqPending (s : State) (n : Nat) : Bool := irqLevel s n && !s.sys.inService.contains n

/-- The source that context x claims: of those enabled and pending with a priority above 0, the highest priority, and at one priority the
lowest number; 0 for none. (PRESUMED, log 105) -/
def claimable (s : State) (x : Nat) : Nat :=
  let prio (n : Nat) : Nat := s.fldAt (Reg.sysIrqPrio n) 2 0
  let on (n : Nat) : Bool := irqPending s n && s.bitAt (Reg.sysIrqEn x (n / 32)) (n % 32) && decide (prio n ≠ 0) && decide (n ≠ 0)
  (((List.range 80).filter on).foldl (fun (m : Nat × Nat) n => if m.1 < prio n then (prio n, n) else m) (0, 0)).2

/-- A claim by context x: the source is in service, and an event that no status register holds is taken. -/
def claimIrq (s : State) (x : Nat) : Word × State :=
  let n := claimable s x
  if n = 0 then (0, s)
  else (BitVec.ofNat 64 n, s.modSys (fun y => { y with inService := y.inService ++ [n], events := y.events.filter (fun e => e ≠ n) }))

/-- A completion by context x: the source may be claimed again, where the context has it enabled. -/
def completeIrq (s : State) (x n : Nat) : State :=
  if s.bitAt (Reg.sysIrqEn x (n / 32)) (n % 32) ∧ n < 80 then s.modSys (fun y => { y with inService := y.inService.filter (fun e => e ≠ n) })
  else s

/-- SYS_. -/
def viewSys (s : State) (o : Nat) : Option Word :=
  if o = 0x10 then some (pack [(s.fldAt Reg.sysWdogCfg 13 0, 0), statBit s.sys.wdogArmed 16])
  else if 0x40 ≤ o ∧ o < 0x60 then some (pack [(bitmap 32 (fun i => boxPending s (32 * ((o - 0x40) / 4) + i)), 0)])
  else if 0x8200 ≤ o ∧ o < 0x820C then some (pack [(bitmap 32 (fun i => irqPending s (32 * ((o - 0x8200) / 4) + i)), 0)])
  else none

/-- BOOT_. -/
def viewBoot (s : State) (o : Nat) : Option Word :=
  if o = 0x118 then some (s.reg Reg.bootXspiStat ||| pack [statBit s.sys.xspi.isSome 0]) else none

/-- SEC_. -/
def viewSec (s : State) (o : Nat) : Option Word :=
  if o = 0 then some (pack [statBit s.sys.secReady 0, statBit s.sys.provisioned 1, statBit (decide (64 ≤ s.sys.provCount)) 2,
    statBit s.sys.debugUnlocked 3, (s.sys.revoke % 16, 4), (s.sys.provCount % 128, 8), (s.sys.floorFirmware % 128, 16)])
  else if o = 8 then some Config.deviceId
  else if o = 0x10 then some (pack [(s.sys.floorWarning % 2 ^ 32, 0)])
  else if o = 0x14 then some (pack [(s.sys.floorCounting % 2 ^ 32, 0)])
  else if o = 0x18 then some (pack [(s.sys.floorNarration % 2 ^ 32, 0)])
  else none

/-! ### CLK_ and PWR_ (Tables 11-6, 11-8, 12-9 to 12-11) -/

/-- CLK_ISL_STAT of island i. (DEDUCED, log 77) -/
def islStat (s : State) (i : Nat) : Word :=
  let x := s.island i
  let w := waitingOf s i
  pack [(if fixedIsland i then 0 else x.eff % 128, 0), statBit (islStopped s i) 8, statBit (pauseOf s i).isSome 9,
    statBit (w.any (fun c => !c.deferred)) 10, statBit (w.any (fun c => c.deferred)) 11, statBit x.throttled 12,
    statBit (variableIsland i && decide (x.eff < islFloor s i)) 13, statBit (fixedIsland i) 14, statBit (inAlarm s i) 15, statBit x.dead 16,
    statBit x.lockFail 17]

/-- CLK_. -/
def viewClk (s : State) (o : Nat) : Option Word :=
  if o = 4 then some (pack [statBit s.clk.refOk 0, statBit s.clk.warn 1, statBit s.clk.hot 2, statBit s.clk.crit 3, statBit (guardActive s) 4,
    (((List.range 183).filter (fun i => (waitingOf s i).isSome)).length % 256, 8)])
  else if o = 0x18 then some (BitVec.ofNat 64 (s.clk.guardEnd.getD 0))
  else if 0x60 ≤ o ∧ o < 0x90 then
    let k := (o - 0x60) / 4
    some (pack [(wrap 12 (get (fun _ => 0) s.clk.temps k), 0), statBit (get (fun _ => false) s.clk.valid k) 16])
  else if o = 0x90 then some (match deviceTemp s with
    | some (t, k) => pack [(wrap 12 t, 0), (k, 16)]
    | none => 0)
  else if 0x1000 ≤ o then
    let i := (o - 0x1000) / 0x10
    if o % 0x10 = 4 then some (islStat s i)
    else if o % 0x10 = 8 then some (pack [(Nat.min 0x3FFF (s.island i).longest, 0), (Nat.min 0xFFFF (s.island i).pauses, 16)])
    else none
  else none

/-- STATE and STEP of PWR_DOM_STAT as numbers. -/
def domStateNo (x : DomState) : Nat :=
  match x with
  | .off => 0
  | .waking => 1
  | .on => 2
  | .draining => 3
  | .retained => 4
def domStepNo (x : DomStep) : Nat :=
  match x with
  | .none => 0
  | .drain => 1
  | .clkStop => 2
  | .isolate => 3
  | .reset => 4
  | .switch => 5
  | .discharge => 6
  | .precharge => 7
  | .close => 8
  | .raise => 9
  | .clock => 10
  | .release => 11
  | .reversing => 12

/-- PWR_DOM_STAT of domain d. -/
def domStat (s : State) (d : Nat) : Word :=
  let x := s.dom d
  pack [(domStateNo x.st, 0), (domStepNo x.step, 3), statBit x.swClosed 7, statBit x.isolated 8, statBit x.inReset 9, statBit x.depWait 10,
    statBit x.queued.isSome 11, statBit x.reversed 12, statBit x.revViaOff 13, statBit x.drainFail 14, statBit x.retLost 15,
    statBit (decide (x.fault ≠ 0)) 16, (x.fault, 17)]

/-- PWR_. -/
def viewPwr (s : State) (o : Nat) : Option Word :=
  if o = 4 then
    let queued := ((List.range 177).filter (fun d => (s.dom d).queued.isSome)).length
    some (pack [(wakingNow s, 0), (queued, 8), statBit (!s.pwr.group.isEmpty) 16, statBit s.pwr.commit 17])
  else if 0x1000 ≤ o then
    let d := (o - 0x1000) / 0x10
    if o % 0x10 = 0 then some (pack [((s.dom d).target, 0)])
    else if o % 0x10 = 4 then some (domStat s d)
    else some (pack [statBit (retCapable d) 0, statBit (domLocked d) 1, statBit (domainAlarm s d) 2, ((parentOf d).getD 0xFF, 8)])
  else none

/-! ### HLD_, THY_ and SGE_ (Tables 13-8, 13-9, 3-10, 14-12, 14-13) -/

/-- PHASE of HLD_STAT. -/
def hldPhaseNo (x : HldPhase) : Nat :=
  match x with
  | .disabled => 0
  | .idle => 1
  | .armed => 2
  | .saving => 3
  | .saved => 4

/-- HLD_. -/
def viewHld (s : State) (o : Nat) : Option Word :=
  if o = 0x10 then
    let left := if s.hld.phase = .armed then (windowNs s - (s.now - s.hld.armedAt)) / 100_000 else 0
    some (pack [(hldPhaseNo s.hld.phase, 0), statBit s.hld.senseFault 3, statBit s.hld.failNFault 4, statBit s.hld.partialSave 5,
      statBit s.hld.forceSet 6, (left, 8)])
  else if o = 0x14 then some (pack [(s.hld.code, 0), (s.hld.lowest, 16)])
  else if o = 0x2C then some (pack [statBit (stageReady s 0) 0, statBit (stageReady s 1) 1])
  else if o = 0x38 then
    some (pack [((s.save 0).state, 0), ((s.save 1).state, 3), ((newestValid s).getD 0, 6), ((newestLedger s).getD 0, 7),
      statBit (newestValid s).isSome 8])
  else if o = 0x3C then some (pack [(s.hld.restored, 0)])
  else if o = 0x40 then some (BitVec.ofNat 64 (match newestValid s with
    | some k => (s.save k).seq
    | none => 0))
  else none

/-- THY_. -/
def viewThy (s : State) (o : Nat) : Option Word :=
  if o = 0 then some (BitVec.ofNat 64 s.now)
  else if o = 8 then some (BitVec.ofNat 64 (s.thy.latched / 1_000_000_000))
  else if o = 0x10 then some (BitVec.ofNat 64 (s.thy.latched % 1_000_000_000))
  else if o = 0x14 then
    let m := match s.thy.mode with
      | .locked => 0
      | .holdover => 1
      | .freerun => 2
    some (pack [(m, 0), statBit (s.thy.stepAt.any (fun t => !s.past t (sec 10))) 2])
  else if o = 0x18 then some (pack [(wrap 32 s.thy.offset, 0)])
  else none

/-- STATE of SGE_STAT. -/
def sageStNo (x : SageSt) : Nat :=
  match x with
  | .reset => 0
  | .selftest => 1
  | .safe => 2
  | .run => 3
  | .latched => 4

/-- SGE_. -/
def viewSge (s : State) (o : Nat) : Option Word :=
  if o = 0 then
    let r := report (owReasons s)
    some (pack [(sageStNo s.sage.st, 0), (r.1, 3), (ownLevel s, 5), (r.2, 8), (patternOf s, 16), ((activeSlot s).getD 0xFF, 24)])
  else if o = 0x5C then some ((ccVal s 0x03C (s.fldAt Reg.sgeCcSel 5 0)).setWidth 64)
  else none

/-! ### MEM_, FAB_ and ITD_ (Tables 10-9, 5-13, 5-15) -/

/-- MEM_. -/
def viewMem (s : State) (o : Nat) : Option Word :=
  if o = 4 then some (pack [(s.memb.trained.toNat, 0), statBit s.memb.eccDone 4, (s.memb.refresh % 256, 8)])
  else if o = 8 then some (BitVec.ofNat 64 (usableDram s))
  else if 0x100 ≤ o ∧ o < 0x200 ∧ o % 0x10 = 4 then
    let c := (o - 0x100) / 0x10
    let d (g : Nat) : Domain := s.dom (56 + 8 * c + g)
    some (pack [(bitmap 8 (fun g => decide ((d g).st = .on)), 0), (bitmap 8 (fun g => decide ((d g).st = .retained)), 8),
      (bitmap 8 (fun g => get (fun _ => false) s.memb.ready (8 * c + g)), 16)])
  else none

/-- FAB_. -/
def viewFab (s : State) (o : Nat) : Option Word :=
  if o = 0 then some 1
  else if o = 4 then some (pack [(s.fab.slot, 0), (s.fab.setSize - 1, 4)])
  else if o = 8 then some (BitVec.ofNat 64 (s.fab.gen % 2 ^ 32))
  else if o = 0xC then some (BitVec.ofNat 64 (viewBits s))
  else if o = 0x24 then
    let n := s.fldAt Reg.fabRtSel 5 0
    some (if n < 36 then (routeAt s n (BitVec.ofNat 12 (s.fldAt Reg.fabRtSel 17 6))).setWidth 64 else 0)
  else if o = 0x64 then some ((ccVal s (selectedCc s).1 (selectedCc s).2).setWidth 64)
  else if o = 0x74 then some (pack [statBit (bit (s.ccSet (ccKey (selectedCc s).1)).under (selectedCc s).2) 0])
  else if o = 0xA4 then some (BitVec.ofNat 64 (s.ccSet (ccKey (selectedCc s).1)).underCount)
  else none

/-- STATE of ITD_STAT. -/
def itdStateNo (x : ItdState) : Nat :=
  match x with
  | .down => 0
  | .training => 1
  | .up => 2
  | .retrain => 3

/-- ITD_. -/
def viewItd (s : State) (o : Nat) : Option Word :=
  let f := o / 0x100
  let x := s.port f
  if o = 0x414 then
    let y := s.learned (BitVec.ofNat 12 (s.fldAt Reg.itdLearnSel 11 0))
    some (pack [(y.st, 0), (y.port, 2), statBit y.suppress 3, (learnAge s y, 4)])
  else if 2 ≤ f then none
  else if o % 0x100 = 4 then
    some (pack [(itdStateNo x.st, 0), statBit x.lock0 2, statBit x.lock1 3, statBit x.aligned 4, statBit x.vc3Only 5, statBit x.inaugFail 6])
  else if o % 0x100 = 8 then some x.peerId
  else none

/-! ### CAM_, DEC_, ENC_, VEH_, CAB_ and BAY_ (Tables 2-6 to 2-8, 3-10 to 3-13, 4-12, 4-13) -/

/-- STATE of CAM_SLOT_STAT. -/
def slotStNo (x : SlotSt) : Nat :=
  match x with
  | .idle => 0
  | .connecting => 1
  | .running => 2
  | .shedding => 3
  | .rejected => 4
  | .lost => 5

/-- CAM_. -/
def viewCam (s : State) (o : Nat) : Option Word :=
  if o = 0x408 then
    let t := match s.cam.shedSince with
      | some t => Nat.min 0xFFFF ((s.now - t) / 1_000_000_000)
      | none => 0
    some (pack [statBit s.cam.shedSince.isSome 0, statBit s.cam.recordAt.isSome 1, (t, 16)])
  else if o < 0x200 then
    let p := o / 0x100
    if o % 0x100 = 4 then some (pack [statBit (portUp s p) 0, statBit (portUp s p) 1])
    else if o % 0x100 = 8 then some (BitVec.ofNat 64 (get (fun _ => 0) s.cam.rxFrames p))
    else none
  else if 0x1000 ≤ o then
    let x := s.slot ((o - 0x1000) / 0x100)
    let r := o % 0x100
    if r = 4 then some (pack [(slotStNo x.st, 0), (if x.st = .rejected then x.reject else 0, 8), statBit x.h265 16, statBit x.rtsp2 17,
      statBit x.mcast 18, statBit x.degraded 19, statBit x.onAlt 20])
    else if r = 0xC then some (match x.sps with
      | some p => pack [(p.cropW % 8192, 0), (p.cropH % 8192, 16)]
      | none => 0)
    else if r = 0x18 then some (BitVec.ofNat 64 (x.demand / 1000))
    else if r = 0x1C then some (BitVec.ofNat 64 (x.rate / 1000))
    else none
  else none

/-- DEC_. -/
def viewDec (s : State) (o : Nat) : Option Word :=
  let n := o / 0x100
  if o % 0x100 = 0 ∧ n < 6 then
    let j := (s.decEngine n).job
    some (pack [statBit j.isSome 0, statBit (decide (1 ≤ n) && decide (n ≠ decReserve s)) 1, statBit (decide (n = decReserve s)) 2,
      (match j with
        | some x => x.1
        | none => 0, 8)])
  else none

/-- ENC_. -/
def viewEnc (s : State) (o : Nat) : Option Word :=
  if o = 0 then some (pack [statBit s.enc.running 0, statBit s.enc.busy 1, statBit s.enc.size 2, (s.enc.slot, 8), (s.enc.rate, 16)])
  else if o = 0x10 then some (BitVec.ofNat 64 s.enc.bytes)
  else none

/-- VEH_. -/
def viewVeh (s : State) (o : Nat) : Option Word :=
  if o = 4 then some (pack [statBit s.veh.linkUp 0])
  else if o = 0x44 then some (pack [(Nat.min 8191 s.veh.records.length, 0)])
  else none

/-- CAB_. -/
def viewCab (s : State) (o : Nat) : Option Word :=
  if o = 0 then some (pack [(s.cab.inputs.toNat, 0), (s.cab.raw.toNat, 8), (s.fldAt Reg.cabInStat 23 16, 16)])
  else if o = 0x4C then
    some (pack [statBit (decide (s.cab.outA.rb = .asserted)) 0, statBit (decide (s.cab.outB.rb = .asserted)) 1, statBit s.cab.outA.fault 2,
      statBit s.cab.outB.fault 3, statBit s.cab.selfTestFail 4, statBit s.cab.extDrive 5])
  else none

/-- PHASE of BAY_STAT. -/
def bayPhaseNo (x : BayPhase) : Nat :=
  match x with
  | .empty => 0
  | .identifying => 1
  | .mounting => 2
  | .mounted => 3
  | .removing => 4
  | .safe => 5
  | .offline => 6

/-- The life fraction in whole per cent (R134). (DEDUCED, log 142) -/
def lifePct (s : State) : Nat :=
  let t := ledgerTime s
  let la := if yearsLater s.bay.mfg 10 ≤ t then 100 else if yearsLater s.bay.mfg 9 ≤ t then 90 else 0
  Nat.max (s.bay.ledger.gb * 100 / 600_000) (Nat.max s.bay.smart la)

/-- BAY_. -/
def viewBay (s : State) (o : Nat) : Option Word :=
  let b := s.bay
  let known := decide (b.life ≠ 0)
  if o = 8 then
    let archiving := (clipOn s 0).isSome
    some (pack [(b.life, 0), (bayPhaseNo b.phase, 3), (b.retire, 6), statBit b.present 9, statBit b.latched 10, statBit (bayWritable s) 11,
      statBit archiving 12, statBit b.safe 13, (b.cause, 16)])
  else if o = 0x10 then some b.serial
  else if o = 0x18 then some (BitVec.ofNat 64 b.ledger.gb)
  else if o = 0x1C then
    some (if known then pack [(Nat.min 255 (lifePct s), 0), (Nat.min 255 b.smart, 8), (Nat.min 0xFFFF ((ledgerTime s - b.mfg) / 86400), 16)] else 0)
  else if o = 0x20 then some (BitVec.ofNat 64 b.mfg)
  else if o = 0x28 then some (BitVec.ofNat 64 (b.entrySeq % 2 ^ 32))
  else if o = 0x2C then some (if b.phase = .mounted then BitVec.ofNat 64 (extentCount - b.extents.length) else 0)
  else none

/-! ### PXC_, TAR_, QNT_ and DMA_ (Tables 6-11, 6-13, 8-9, 8-11, 9-8, 9-9, 10-10) -/

/-- STATE of PXC_THR_STAT. -/
def thrStNo (x : Thread) : Nat :=
  match x.st with
  | .stopped => 0
  | .run => if x.wait = .none then 1 else 2
  | .halted => 3
  | .stopping => 4
  | .stopLater => 4

/-- An atomic of the thread is outstanding. -/
def atomicOut (x : Thread) : Bool :=
  match x.wait with
  | .atomic _ _ _ => true
  | .vmem _ _ => true
  | _ => false

/-- A tensor instruction of the thread is in progress, or suspended. -/
def tensorHeld (x : Thread) : Bool := decide (x.wait = .tensor) || x.tres

/-- PXC_THR_STAT. -/
def thrStat (x : Thread) : Word :=
  pack [(thrStNo x, 0), statBit x.monitor 3, statBit (tensorHeld x) 4, (x.cause, 8), (x.waitingLoads.length + num (atomicOut x), 16)]

/-- PXC_ of core n. -/
def viewPxc (s : State) (n o : Nat) : Option Word :=
  if o = 4 then
    some (pack [statBit (s.core n).initDone 0, (bitmap 4 (fun t => decide ((s.thread n t).st = .run)), 4)])
  else if 0x10 ≤ o ∧ o < 0x110 ∧ (o - 0x10) / 0x40 < 4 ∧ o < 0x100 then
    let x := s.thread n ((o - 0x10) / 0x40)
    let r := (o - 0x10) % 0x40
    if r = 4 then some (thrStat x)
    else if r = 8 then some (if x.st = .stopped ∨ x.st = .halted then BitVec.ofNat 64 x.pc else Config.runningPc s.freeCtr)
    else if r = 0x10 then some (BitVec.ofNat 64 x.bundles)
    else if r = 0x18 then some (Config.stalls (4 * n + (o - 0x10) / 0x40) s.now)
    else none
  else none

/-- TAR_ of cluster c. -/
def viewTar (s : State) (c o : Nat) : Option Word :=
  let x := s.tar c
  if o = 0xC then
    let th := match x.run with
      | some r => r.ins.thread
      | none => 0
    some (pack [statBit x.initDone 0, statBit x.run.isSome 1, statBit x.tmValid 2, (th, 3),
      (bitmap 12 (fun t => x.queue.any (fun i => i.thread = t)), 8), (x.qactive, 20)])
  else if o = 0x108 then some (Config.busyCycles c s.now)
  else none

/-- QNT_ of cluster c. -/
def viewQnt (s : State) (c o : Nat) : Option Word :=
  let x := s.qu c
  if o = 0x14 then
    some (pack [statBit (!x.commits.isEmpty) 0, statBit (match x.commits with
      | r :: _ => commitWaits s r
      | [] => false) 1, (x.done % 512, 2)])
  else none

/-- An engine is BUSY. -/
def engineBusy (x : Engine) : Bool := x.awake || decide (x.phase ≠ .idle)

/-- DMA_ of cluster c. -/
def viewDma (s : State) (c o : Nat) : Option Word :=
  let d := s.engine false c
  let h := s.engine true c
  if o = 4 then some (pack [statBit (engineBusy d) 0, statBit d.halted 1, statBit (engineBusy h) 2, statBit h.halted 3, (d.lastErr, 8), (h.lastErr, 16)])
  else if o = 0x18 then some (BitVec.ofNat 64 d.size)
  else if o = 0x1C then some (BitVec.ofNat 64 d.head)
  else if o = 0x38 then some (BitVec.ofNat 64 h.size)
  else if o = 0x3C then some (BitVec.ofNat 64 h.head)
  else if o = 0x60 then some (BitVec.ofNat 64 d.bytes)
  else none

/-! ### The read -/

/-- The view that a block gives of the register at offset o, where it is not what is stored. -/
def blockView (s : State) (block o : Nat) : Option Word :=
  if block = 0 then viewSys s o
  else if block = 1 then viewBoot s o
  else if block = 2 then viewSec s o
  else if block = 3 then viewClk s o
  else if block = 4 then viewPwr s o
  else if block = 5 then viewHld s o
  else if block = 6 then viewThy s o
  else if block = 7 then viewSge s o
  else if block = 8 then viewMem s o
  else if block = 0x10 then viewFab s o
  else if block = 0x11 then viewItd s o
  else if block = 0x12 then viewCam s o
  else if block = 0x13 then viewDec s o
  else if block = 0x14 then viewEnc s o
  else if block = 0x15 then viewVeh s o
  else if block = 0x16 then viewCab s o
  else if block = 0x17 then viewBay s o
  else if 0x100 ≤ block ∧ block < 0x118 then viewPxc s (block - 0x100) o
  else if 0x140 ≤ block ∧ block < 0x148 then viewTar s (block - 0x140) o
  else if 0x150 ≤ block ∧ block < 0x158 then viewQnt s (block - 0x150) o
  else if 0x160 ≤ block ∧ block < 0x168 then viewDma s (block - 0x160) o
  else none

/-- The registers that a read returns zero of: WO fields and actions (R10). -/
def writeOnly (a : Nat) : Bool :=
  a = Reg.sysRstCtrl || a = Reg.sysWdog || a = Reg.bootXspiCmd || a = Reg.secDebug || a = Reg.clkGroupFreq || a = Reg.pwrGroupTarget
    || a = Reg.sgeWdog || a = Reg.sgeHb || a = Reg.sgeCcAdd || a = Reg.fabCcSet || a = Reg.fabCcAdd || a = Reg.fabRtRemote
    || a = Reg.cabTest

/-- What the register at a shows. -/
def regView (s : State) (a : Nat) : Word :=
  if writeOnly a then 0
  else match blockView s (blockOf a) (a % 0x1_0000) with
    | some v => v
    | none => s.reg a

/-- What a read of the register at a does beside showing it: THY_LOCAL latches the PTP time, an RC field clears, a claim is made, and a
value that is free is drawn. (DEDUCED, log 150) -/
def readEffect (s : State) (a : Nat) (r : RegSpec) : State :=
  if a = Reg.thyLocal then latchPtp s
  else if a = Reg.hldSense then s.modHld (fun h => { h with lowest := 0xFFF })
  else if a = Reg.fabCcUnderEp then
    let k := ccKey (selectedCc s).1
    s.setCcSet k { s.ccSet k with underCount := 0 }
  else if r.rc then s.setReg a 0
  else if 0x100 ≤ blockOf a ∧ blockOf a < 0x118 ∧ (a % 0x1_0000) % 0x40 = 0x18 then s.draw
  else s

/-- A read of the register at a: its value, and the state after it. -/
def readReg (s : State) (a : Nat) : Word × State :=
  match regAt a with
  | none => (0, s)
  | some r =>
    if 0x8804 ≤ a - blockBase 0 ∧ (a - Reg.sysIrqClaim 0) % 0x10 = 0 ∧ blockOf a = 0 then claimIrq s ((a - Reg.sysIrqClaim 0) / 0x10)
    else if a = Reg.fabThrottleCyc then ((countHeld s).reg a, (countHeld s).setReg a 0)
    else (regView s a, readEffect s a r)

/-- The own control space that a physical address names. -/
def ownControl (s : State) (a : Nat) : Bool := decide (addrSlot a = s.fab.slot) && inControl (addrLocal a)

/-- A read of control space by a requester (R7, R8, R10). -/
def readControl (who : Requester) (a size : Nat) (s : State) : State :=
  if fits a size && reaches who a then (readReg s a).2.answer (readReg s a).1 else s.busError

/-- What a control core alone may do beyond control space; another requester gets the access error (R359, R556). -/
def beyondControl (who : Requester) (s : State) (f : Nat → State) : State :=
  match who with
  | .cc n => f n
  | _ => s.busError

/-- REGISTER_READ_CLEAR (R7, R8, R10): the answer of a read, or the access error. A control core reads memory and its own registers by it too
(R376, R377, R465). -/
def execRegisterReadClear (who : Requester) (place : RegPlace) (size : Nat) (s : State) : Out :=
  match place with
  | .csr r => .next (beyondControl who s (fun n => s.answer (readCsr s n r)))
  | .addr v priv => match physical s who v.toNat priv false with
    | .page => .next s.pageFault
    | .access => .next s.busError
    | .pa a => .next (if ownControl s a then readControl who (addrLocal a) size s else beyondControl who s (fun n => ctlAccess s n a size none))

end Sys2Proof.Machine
end

