-- ==== Sys2Proof/Machine/RegWrite.lean ====
section
/-! DEFINITION. What a write of each register does, and the commands of the interrupt controller, of the security engine and of the MAINT
and HOST ports (R7, R8, R10, R114, R115, R495, R524). -/
namespace Sys2Proof.Machine

open Sys2Proof

/-! ### The security engine (R114, R156, R495, R523, R524) -/

/-- A write of SEC_DEBUG: LOCK ends a debug unlock. -/
def writeSecDebug (s : State) (v : Nat) : State := if v.testBit 0 then s.modSys (fun y => { y with debugUnlocked := false }) else s

/-- A write of SEC_RING_TAIL submits the commands up to it. (DEDUCED, log 106) -/
def writeSecTail (s : State) (v : Nat) : State :=
  (s.setReg Reg.secRingTail (BitVec.ofNat 64 (v % 2 ^ 32))).modSys (fun y => { y with secTail := v % 2 ^ 32 })

/-- SEC_DEBUG_LOCK (R114). -/
def execSecDebugLock (who : Requester) (val : BitVec 32) (s : State) : Out :=
  .next (s.writeGuard who Reg.secDebug (fun s => writeSecDebug s val.toNat))

/-- SEC_COMMAND_SUBMIT (R495). -/
def execSecCommandSubmit (who : Requester) (val : BitVec 32) (s : State) : Out :=
  .next (s.writeGuard who Reg.secRingTail (fun s => writeSecTail s val.toNat))

/-- SEC_COMMAND_DONE (R524): one command of the ring is done; source 15. -/
def execSecCommandDone (s : State) : Out :=
  if s.sys.secReady && decide (s.sys.secDone ≠ s.sys.secTail) then
    .next ((s.modSys (fun y => { y with secDone := (y.secDone + 1) % 2 ^ 32 })).irq 15)
  else .next s

/-- SECURITY_ENGINE_READY (R156): within 1 ms of its domain reaching ON; a cartridge found present and latched is then mounted. Coming later
than 10 ms after the jump, it leaves failure code 0x05 (R523). -/
def execSecurityEngineReady (s : State) : Out :=
  if s.sys.secReady || decide ((s.dom 175).st ≠ .on) then .next s
  else
    let late := s.sys.failAt.isNone && s.sys.jumpAt.any (fun t => s.past t (ms 10))
    let s := (if late then startFail s 5 else s).modSys (fun y => { y with secReady := true })
    .next (if s.bay.phase = .empty then startInsertion s else s)

/-- DEBUG_UNLOCK (R114): a certificate accepted by the security engine, whose debug-unlock key is in the provisioning record. -/
def execDebugUnlock (accepted : Bool) (s : State) : Out :=
  .next (if accepted && s.sys.secReady && s.sys.provisioned then s.modSys (fun y => { y with debugUnlocked := true }) else s)

/-! ### The interrupt controller (R524) -/

/-- SYS_IRQ_CLAIM: a read of the claim register of context x. -/
def execSysIrqClaim (who : Requester) (ctx : Fin 8) (s : State) : Out :=
  if reaches who (Reg.sysIrqClaim ctx) then
    let r := claimIrq s ctx
    .next (r.2.answer r.1)
  else .next s.busError

/-- SYS_IRQ_COMPLETE: a write of the source number completes it. -/
def execSysIrqComplete (who : Requester) (ctx : Fin 8) (val : BitVec 32) (s : State) : Out :=
  .next (s.writeGuard who (Reg.sysIrqClaim ctx) (fun s => completeIrq s ctx val.toNat))

/-! ### Writes by block -/

/-- SYS_, BOOT_ and SEC_. -/
def writeSys (s : State) (a v : Nat) : Option State :=
  if a = Reg.sysRstCtrl then some (writeRstCtrl s v)
  else if a = Reg.sysWdog then some (writeWdog s v)
  else if a = Reg.sysWdogCfg then some (writeWdogCfg s v)
  else if Reg.sysIrqThresh 0 ≤ a ∧ a < Reg.sysIrqThresh 8 ∧ a % 8 = 4 then some (completeIrq s ((a - Reg.sysIrqClaim 0) / 0x10) v)
  else if a = Reg.bootXspiCmd then some (writeXspiCmd s v)
  else if a = Reg.secDebug then some (writeSecDebug s v)
  else if a = Reg.secRingTail then some (writeSecTail s v)
  else none

/-- CLK_: a group change, or the setting of one island (R387, R399). -/
def writeClk (s : State) (a v : Nat) : Option State :=
  if a = Reg.clkGroupFreq then
    let ms := (List.range 183).filter (fun i => s.bitAt (Reg.clkGroupSel (i / 32)) (i % 32))
    let s := s.each ms (fun s i =>
      s.setReg (Reg.clkIslCtrl i) (setFld (setFld (s.reg (Reg.clkIslCtrl i)) 6 0 (v % 128)) 8 8 (v / 256 % 2)))
    some (requestChange s ms true)
  else if Reg.clkIslCtrl 0 ≤ a ∧ a % 0x10 = 0 then
    let i := (a - Reg.clkIslCtrl 0) / 0x10
    some (if variableIsland i then requestChange (s.setReg a (BitVec.ofNat 64 v &&& 0x7F037F#64)) [i] false else s)
  else none

/-- The W1C flags of PWR_DOM_STAT. -/
def clearDomFlags (s : State) (d v : Nat) : State :=
  s.modDom d (fun x => { x with
    reversed := x.reversed && !v.testBit 12, revViaOff := x.revViaOff && !v.testBit 13
    drainFail := x.drainFail && !v.testBit 14, retLost := x.retLost && !v.testBit 15 })

/-- PWR_. -/
def writePwr (s : State) (a v : Nat) : Option State :=
  if a = Reg.pwrGroupTarget then some (groupTarget s (selectedDomains s) (bits v 1 0) (v.testBit 8))
  else if Reg.pwrDomCtrl 0 ≤ a ∧ a % 0x10 = 0 then some (writeDomCtrl s ((a - Reg.pwrDomCtrl 0) / 0x10) v)
  else if Reg.pwrDomCtrl 0 ≤ a ∧ a % 0x10 = 4 then some (clearDomFlags s ((a - Reg.pwrDomCtrl 0) / 0x10) v)
  else none

/-- HLD_, SGE_ and MEM_. -/
def writeHldSgeMem (s : State) (a v : Nat) : Option State :=
  if a = Reg.hldCtrl then some (writeHldCtrl s v)
  else if a = Reg.hldTh then some (writeHldTh s v)
  else if a = Reg.hldThCrit then some (writeHldThCrit s v)
  else if a = Reg.sgeWdog then some (writeSageWdog s v)
  else if a = Reg.sgeHb then some (writeSageHb s v)
  else if a = Reg.sgeCcAdd then some (writeSageCcAdd s (BitVec.ofNat 32 v))
  else if a = Reg.memIrqStat then some (writeMemIrqStat s v)
  else if Reg.memSliceCfg 0 ≤ a ∧ a < Reg.memSliceCfg 8 ∧ a % 0x10 = 0 then some (writeSliceCfg s ((a - Reg.memSliceCfg 0) / 0x10) v)
  else none

/-- UNDER of the counter that FAB_CC_SEL selects, W1C (R176). -/
def clearUnder (s : State) (v : Nat) : State :=
  let k := ccKey (selectedCc s).1
  if v.testBit 0 then s.setCcSet k { s.ccSet k with under := setBit (s.ccSet k).under (selectedCc s).2 false } else s

/-- FAB_ and ITD_. -/
def writeFab (s : State) (a v : Nat) : Option State :=
  if a = Reg.fabCtrl then some (writeFabCtrl s v)
  else if a = Reg.fabRtData then some (writeRtData s v)
  else if a = Reg.fabRtRemote then some (writeRtRemote s v)
  else if a = Reg.fabCcSet then some (writeCcSet s (BitVec.ofNat 32 v))
  else if a = Reg.fabCcAdd then some (writeCcAdd s (BitVec.ofNat 32 v))
  else if a = Reg.fabCcStat then some (clearUnder s v)
  else if a = Reg.itdCtrl 0 then some (writeItdCtrl s 0 v)
  else if a = Reg.itdCtrl 1 then some (writeItdCtrl s 1 v)
  else if a = Reg.itdLearnData then some (writeLearn s v)
  else none

/-- A self-test whose read-backs are free. -/
def freeTest (s : State) : SelfTest :=
  let k := s.freeCtr
  { openA := Config.testSeen 0 k, openB := Config.testSeen 1 k, moveA := Config.testSeen 2 k, moveB := Config.testSeen 3 k }

/-- CAM_, VEH_, CAB_ and BAY_. -/
def writePorts (s : State) (a v : Nat) : Option State :=
  if a = Reg.camPortCtrl 0 then some (writePortCtrl s 0 v)
  else if a = Reg.camPortCtrl 1 then some (writePortCtrl s 1 v)
  else if Reg.camSlotCtrl 0 ≤ a ∧ a < Reg.camSlotCtrl 12 ∧ a % 0x100 = 0 then some (writeSlotCtrl s ((a - Reg.camSlotCtrl 0) / 0x100) v)
  else if a = Reg.cabOutCmd then some (writeOutCmd s v)
  else if a = Reg.cabSafeCut then some (writeSafeCut s v)
  else if a = Reg.cabTest then some (writeCabTest s.draw v (freeTest s))
  else if a = Reg.cabGpo then some (writeGpo s v)
  else if a = Reg.bayCtrl then some (writeBayCtrl s v)
  else none

/-- PXC_ of core n. -/
def writePxc (s : State) (n o v : Nat) : Option State :=
  if o = 0 then some (writeCoreCtrl s n v)
  else if o = 0x200 then some (writeSwi s n v)
  else if 0x10 ≤ o ∧ o < 0x100 ∧ (o - 0x10) % 0x40 = 0 then some (writeThrCtrl s n ((o - 0x10) / 0x40) v)
  else if 0x10 ≤ o ∧ o < 0x100 ∧ (o - 0x10) % 0x40 = 8 then
    let t := (o - 0x10) / 0x40
    let x := s.thread n t
    some (if x.st = .stopped ∨ x.st = .halted then s.setThread n t { x with pc := v % 2 ^ 48 } else s)
  else none

/-- TAR_, QNT_ and DMA_ of cluster c. -/
def writeCluster (s : State) (a v : Nat) : Option State :=
  let b := blockOf a
  let o := a % 0x1_0000
  if 0x140 ≤ b ∧ b < 0x148 ∧ o = 8 then some (writeQmask s (b - 0x140) v)
  else if 0x150 ≤ b ∧ b < 0x158 ∧ o = 0x10 then some (writeCommit s (b - 0x150) v)
  else if 0x160 ≤ b ∧ b < 0x168 then
    let c := b - 0x160
    if o = 0 then some (writeDmaCtrl s c v)
    else if o = 0x18 then some (writeRingSize s false c v)
    else if o = 0x20 then some (writeTail s false c v)
    else if o = 0x38 then some (writeRingSize s true c v)
    else if o = 0x40 then some (writeTail s true c v)
    else none
  else none

/-- The registers whose write is an action, or is checked: the state after it. -/
def specialWrite (s : State) (a v : Nat) : Option State :=
  let b := blockOf a
  if b ≤ 2 then writeSys s a v
  else if b = 3 then writeClk s a v
  else if b = 4 then writePwr s a v
  else if b = 5 ∨ b = 7 ∨ b = 8 then writeHldSgeMem s a v
  else if b = 0x10 ∨ b = 0x11 then writeFab s a v
  else if b = 0x12 ∨ (0x14 ≤ b ∧ b ≤ 0x17) then writePorts s a v
  else if 0x100 ≤ b ∧ b < 0x118 then writePxc s (b - 0x100) (a % 0x1_0000) v
  else writeCluster s a v

/-- What follows from a new value of a register that is simply stored: caps anew where HOT_EN, the alarm set or the VC2 enables change
(R404, R408), the write of FORCE_C noted (R444), the VEH port down or the view stopped without EN, the cab end followed, clips that wait
for a slot. -/
def afterWrite (s : State) (a : Nat) : State :=
  if a = Reg.clkCtrl ∨ (Reg.clkAlarm 0 ≤ a ∧ a < Reg.clkAlarm 7) ∨ (Reg.fabVc2En 0 ≤ a ∧ a < Reg.fabVc2En 4) then recap s
  else if a = Reg.clkTh then checkWarn s
  else if a = Reg.camShedForce then (if s.hld.phase = .armed then s.modHld (fun h => { h with forceWritten := true }) else s)
  else if a = Reg.vehPortCtrl then (if s.bitAt Reg.vehPortCtrl 0 then s else vehLink s false)
  else if a = Reg.vehCabCfg then followDirection s
  else if a = Reg.bayCfg then pumpClips s
  else if a = Reg.vehViewCtrl then (if s.bitAt Reg.vehViewCtrl 0 then s else stopView s)
  else s

/-- A write of the register r at a: of its low half alone where it is 32 bits wide. -/
def storeReg (s : State) (a : Nat) (r : RegSpec) (v : Word) : State :=
  (specialWrite s a (if r.wide then v.toNat else v.toNat % 2 ^ 32)).getD (afterWrite (s.plainWrite a r v) a)

/-- A write of the register at a. -/
def writeReg (s : State) (a : Nat) (v : Word) : State :=
  match regAt a with
  | none => s
  | some r => storeReg s a r v

/-- A write of control space by a requester (R7, R8, R10). -/
def writeControl (who : Requester) (a size : Nat) (v : Word) (s : State) : State :=
  if fits a size && mayWrite who a then writeReg (s.answer 0) a v else s.busError

/-- REGISTER_WRITE (R7, R8, R10). A control core writes memory and its own registers by it too (R376, R377, R465). -/
def execRegisterWrite (who : Requester) (place : RegPlace) (size : Nat) (val : BitVec 64) (s : State) : Out :=
  match place with
  | .csr r => .next (beyondControl who s (fun n => writeCsr s n r val))
  | .addr v priv => match physical s who v.toNat priv true with
    | .page => .next s.pageFault
    | .access => .next s.busError
    | .pa a => .next (if ownControl s a then writeControl who (addrLocal a) size val s
        else beyondControl who s (fun n => ctlAccess s n a size (some val.toNat)))

/-! ### MAINT and HOST (R114, R115, R524, R541) -/

/-- MAINT_LINK_CHANGE (R524): source 18. (DEDUCED, log 103) -/
def execMaintLinkChange (up : Bool) (s : State) : Out :=
  if s.sys.maintUp = up || (up && decide ((s.dom 168).st ≠ .on)) then .next s
  else .next ((s.modSys (fun y => { y with maintUp := up })).irq 18)

/-- A register of the cab outputs, which MAINT does not reach (R114). -/
def cabOutputReg (a : Nat) : Bool := decide (Reg.cabOutCmd ≤ a) && decide (a ≤ Reg.cabGpo)

/-- What an authenticated request on MAINT gets from a provisioned device: the log; a register, read by Tymor on the requester's behalf;
a clip of a cartridge that has not failed authentication; debug, where it is unlocked. (DEDUCED, log 167) -/
def maintAnswer (req : MaintReq) (s : State) : Out :=
  match req with
  | .icmpEcho => .next s
  | .readLogs => .next ((s.modSys (fun y => { y with maintLog := s.log })).answer (BitVec.ofNat 64 s.log.length))
  | .debug => .next (if s.sys.debugUnlocked then s.answer 1 else s.busError)
  | .readRegister addr size => .next (if cabOutputReg addr.toNat then s.busError else readControl (.cc 0) addr.toNat size s)
  | .exportClip id => .next (if bayReadable s then s.modBay (fun b => { b with exporting := some id }) else s)

/-- MAINT_REQUEST (R114, R155, R511): ICMP echo is answered always, with no effect here; the rest takes an authenticated session, and a
provisioned device. -/
def execMaintRequest (authenticated : Bool) (req : MaintReq) (s : State) : Out :=
  if s.sys.maintUp && authenticated && s.sys.provisioned then maintAnswer req s else .next s

/-- HOST_LINK_CHANGE (R115, R541): source 17; no service is affected. -/
def execHostLinkChange (up : Bool) (s : State) : Out :=
  if s.sys.hostUp = up || (up && decide ((s.dom 172).st ≠ .on)) then .next s
  else .next ((s.modSys (fun y => { y with hostUp := up })).irq 17)

/-- Where Tymor has placed a window of n bytes: in usable DRAM, the place a free value. -/
def hostPlace (s : State) (free n : Nat) : Nat := free % (usableDram s - n + 1)

/-- The DRAM address and the size of a window of the host. -/
def hostWindow (s : State) (b : HostBar) : Nat × Nat :=
  match b with
  | .bar0 => (hostPlace s Config.hostBar0 (2 ^ 20), 2 ^ 20)
  | .bar2 => (hostPlace s Config.hostBar2 (2 ^ 28), 2 ^ 28)
  | .doorbell => (0, 0)

/-- Bytes of usable, trained DRAM. -/
def dramOpen (s : State) (a n : Nat) : Bool := decide (a + n ≤ usableDram s) && decide (s.memb.trained = 0xF)

/-- HOST_BAR_ACCESS (R115): DRAM through BAR0 or BAR2, or the doorbell, source 17. -/
def execHostBarAccess (bar : HostBar) (offset : Nat) (wr : Option (List Byte)) (len : Nat) (s : State) : Out :=
  if !s.sys.hostUp then .next s
  else if bar = .doorbell then .next (s.irq 17)
  else
    let a := (hostWindow s bar).1 + offset
    let n := match wr with
      | some l => l.length
      | none => len
    if decide (offset + n ≤ (hostWindow s bar).2) && dramOpen s a n then
      match wr with
      | some l => .next (if partialPoison s a n then (uncorrectable s a).busError else (putData s a l).answer 0)
      | none => .next (if s.anyPoison a n then (uncorrectable s a).busError else s.answer (BitVec.ofNat 64 (s.load a n)))
    else .next s.busError

end Sys2Proof.Machine
end

