-- ==== Sys2Proof/Machine/Dispatch.lean ====
section
/-! DEFINITION. The dispatch: one arm per command, each a direct call of its meaning. -/
namespace Sys2Proof.Machine

open Sys2Proof

def exec (i : Instr) (s : State) : Host.Outcome State Fault Refusal :=
  match i with
  | .registerWrite who place size val => Sys2Proof.Machine.execRegisterWrite who place size val s
  | .sageListTake bufB assoc => Sys2Proof.Machine.execSageListTake bufB assoc s
  | .egoSpeedStale => Sys2Proof.Machine.execEgoSpeedStale s
  | .cabDisagreeTimeout reverse => Sys2Proof.Machine.execCabDisagreeTimeout reverse s
  | .patternPhaseTimer => Sys2Proof.Machine.execPatternPhaseTimer s
  | .detectionTimeout => Sys2Proof.Machine.execDetectionTimeout s
  | .noVideoTimeout door => Sys2Proof.Machine.execNoVideoTimeout door s
  | .countWindowClose close => Sys2Proof.Machine.execCountWindowClose close s
  | .countWindowLong close => Sys2Proof.Machine.execCountWindowLong close s
  | .clipPostTriggerEnd incident => Sys2Proof.Machine.execClipPostTriggerEnd incident s
  | .narrationStart => Sys2Proof.Machine.execNarrationStart s
  | .narrationToken text last => Sys2Proof.Machine.execNarrationToken text last s
  | .narrationSegmentTimer => Sys2Proof.Machine.execNarrationSegmentTimer s
  | .camFrameReceived port frame => Sys2Proof.Machine.execCamFrameReceived port frame s
  | .reorderWaitExpiry slot => Sys2Proof.Machine.execReorderWaitExpiry slot s
  | .decodeStart engine slot => Sys2Proof.Machine.execDecodeStart engine slot s
  | .decodeComplete engine => Sys2Proof.Machine.execDecodeComplete engine s
  | .decoderBitstreamError engine => Sys2Proof.Machine.execDecoderBitstreamError engine s
  | .decoderWatchdog engine resetFailed => Sys2Proof.Machine.execDecoderWatchdog engine resetFailed s
  | .slotStart who slot val => Sys2Proof.Machine.execSlotStart who slot val s
  | .slotStop who slot val => Sys2Proof.Machine.execSlotStop who slot val s
  | .rtspResponse slot answer => Sys2Proof.Machine.execRtspResponse slot answer s
  | .rtspSessionClosed slot => Sys2Proof.Machine.execRtspSessionClosed slot s
  | .rtspAnswerTimeout slot => Sys2Proof.Machine.execRtspAnswerTimeout slot s
  | .irapTimeout slot => Sys2Proof.Machine.execIrapTimeout slot s
  | .connectBackoffExpiry slot => Sys2Proof.Machine.execConnectBackoffExpiry slot s
  | .rtspKeepalive slot => Sys2Proof.Machine.execRtspKeepalive slot s
  | .slotLostTimeout slot => Sys2Proof.Machine.execSlotLostTimeout slot s
  | .rtcpReceiverReport slot => Sys2Proof.Machine.execRtcpReceiverReport slot s
  | .camLinkChange port up => Sys2Proof.Machine.execCamLinkChange port up s
  | .camPortEnable who port val => Sys2Proof.Machine.execCamPortEnable who port val s
  | .shedEpoch => Sys2Proof.Machine.execShedEpoch s
  | .slotRateWindow slot => Sys2Proof.Machine.execSlotRateWindow slot s
  | .degradationRecord => Sys2Proof.Machine.execDegradationRecord s
  | .vehFrameReceived frame => Sys2Proof.Machine.execVehFrameReceived frame s
  | .vehicleStateTelegram t => Sys2Proof.Machine.execVehicleStateTelegram t s
  | .warningDatasetCycle => Sys2Proof.Machine.execWarningDatasetCycle s
  | .mdReply record => Sys2Proof.Machine.execMdReply record s
  | .mdResendTimer record => Sys2Proof.Machine.execMdResendTimer record s
  | .operatorRequest head carSlot slots requestId => Sys2Proof.Machine.execOperatorRequest head carSlot slots requestId s
  | .vehLinkChange up => Sys2Proof.Machine.execVehLinkChange up s
  | .cabInputDebounced input level => Sys2Proof.Machine.execCabInputDebounced input level s
  | .inputChatter input => Sys2Proof.Machine.execInputChatter input s
  | .cabOutCommand who val => Sys2Proof.Machine.execCabOutCommand who val s
  | .safeCutWrite who val => Sys2Proof.Machine.execSafeCutWrite who val s
  | .cabSelftest who val result => Sys2Proof.Machine.execCabSelftest who val result s
  | .selftestRepeat result => Sys2Proof.Machine.execSelftestRepeat result s
  | .readbackChange out level => Sys2Proof.Machine.execReadbackChange out level s
  | .readbackMismatchTimeout out => Sys2Proof.Machine.execReadbackMismatchTimeout out s
  | .testPulse out => Sys2Proof.Machine.execTestPulse out s
  | .testPulseEnd out => Sys2Proof.Machine.execTestPulseEnd out s
  | .gpoWrite who val => Sys2Proof.Machine.execGpoWrite who val s
  | .ptpSync source offset interval => Sys2Proof.Machine.execPtpSync source offset interval s
  | .ptpAnnounce source clockClass better => Sys2Proof.Machine.execPtpAnnounce source clockClass better s
  | .ptpSyncTimeout => Sys2Proof.Machine.execPtpSyncTimeout s
  | .holdoverExpiry => Sys2Proof.Machine.execHoldoverExpiry s
  | .masterInterval => Sys2Proof.Machine.execMasterInterval s
  | .timeStepFlagExpiry => Sys2Proof.Machine.execTimeStepFlagExpiry s
  | .encPictureDone bytes irap => Sys2Proof.Machine.execEncPictureDone bytes irap s
  | .maintRequest authenticated req => Sys2Proof.Machine.execMaintRequest authenticated req s
  | .debugUnlock accepted => Sys2Proof.Machine.execDebugUnlock accepted s
  | .hostLinkChange up => Sys2Proof.Machine.execHostLinkChange up s
  | .bayPresentChange present => Sys2Proof.Machine.execBayPresentChange present s
  | .bayLatchChange closed => Sys2Proof.Machine.execBayLatchChange closed s
  | .bayCertReadDone cert sigOk => Sys2Proof.Machine.execBayCertReadDone cert sigOk s
  | .bayChallengeDone ledger sigOk => Sys2Proof.Machine.execBayChallengeDone ledger sigOk s
  | .bayAuthRetry => Sys2Proof.Machine.execBayAuthRetry s
  | .bayLinkTrained gen lanes => Sys2Proof.Machine.execBayLinkTrained gen lanes s
  | .bayControllerReady subsetOk => Sys2Proof.Machine.execBayControllerReady subsetOk s
  | .bayIdentifyDone ident => Sys2Proof.Machine.execBayIdentifyDone ident s
  | .bayReauthTimer => Sys2Proof.Machine.execBayReauthTimer s
  | .bayHourly smart => Sys2Proof.Machine.execBayHourly smart s
  | .nvmeWriteComplete what bytes => Sys2Proof.Machine.execNvmeWriteComplete what bytes s
  | .nvmeWriteFail what retryFailed => Sys2Proof.Machine.execNvmeWriteFail what retryFailed s
  | .journalBlockTimer => Sys2Proof.Machine.execJournalBlockTimer s
  | .nvmeFlushComplete => Sys2Proof.Machine.execNvmeFlushComplete s
  | .ledgerAddDone => Sys2Proof.Machine.execLedgerAddDone s
  | .nvmeShutdownComplete => Sys2Proof.Machine.execNvmeShutdownComplete s
  | .bayEject who val => Sys2Proof.Machine.execBayEject who val s
  | .bayRemoveDeadline => Sys2Proof.Machine.execBayRemoveDeadline s
  | .bayLinkDown cause => Sys2Proof.Machine.execBayLinkDown cause s
  | .bayRecoveryAttempt result => Sys2Proof.Machine.execBayRecoveryAttempt result s
  | .write p => Sys2Proof.Machine.execWrite p s
  | .readReq p => Sys2Proof.Machine.execReadReq p s
  | .readResp p => Sys2Proof.Machine.execReadResp p s
  | .atomic p => Sys2Proof.Machine.execAtomic p s
  | .atomicResp p => Sys2Proof.Machine.execAtomicResp p s
  | .msg p => Sys2Proof.Machine.execMsg p s
  | .signal p => Sys2Proof.Machine.execSignal p s
  | .heartbeat port p => Sys2Proof.Machine.execHeartbeat port p s
  | .inaug port p => Sys2Proof.Machine.execInaug port p s
  | .remap port p => Sys2Proof.Machine.execRemap port p s
  | .mgmt p => Sys2Proof.Machine.execMgmt p s
  | .fabCcSet who val => Sys2Proof.Machine.execFabCcSet who val s
  | .fabCcAdd who val => Sys2Proof.Machine.execFabCcAdd who val s
  | .fabRtDataWrite who val => Sys2Proof.Machine.execFabRtDataWrite who val s
  | .fabRtRemoteWrite who val => Sys2Proof.Machine.execFabRtRemoteWrite who val s
  | .fabInaugStart who val => Sys2Proof.Machine.execFabInaugStart who val s
  | .itdPortEnable who port val => Sys2Proof.Machine.execItdPortEnable who port val s
  | .itdLearnWrite who val => Sys2Proof.Machine.execItdLearnWrite who val s
  | .itardPacketReceived port first lane0 lane1 => Sys2Proof.Machine.execItardPacketReceived port first lane0 lane1 s
  | .itardAck port ack => Sys2Proof.Machine.execItardAck port ack s
  | .itardNak port linkSeq => Sys2Proof.Machine.execItardNak port linkSeq s
  | .itardRetrainDone port ok => Sys2Proof.Machine.execItardRetrainDone port ok s
  | .itardAckTimer port => Sys2Proof.Machine.execItardAckTimer port s
  | .itardPortDown port cause => Sys2Proof.Machine.execItardPortDown port cause s
  | .learnSuppressExpiry eid => Sys2Proof.Machine.execLearnSuppressExpiry eid s
  | .learnWindowEnd => Sys2Proof.Machine.execLearnWindowEnd s
  | .inaugComplete => Sys2Proof.Machine.execInaugComplete s
  | .cmapGather sums txOcc => Sys2Proof.Machine.execCmapGather sums txOcc s
  | .heartbeatSend => Sys2Proof.Machine.execHeartbeatSend s
  | .heartbeatMissed port warningSeen => Sys2Proof.Machine.execHeartbeatMissed port warningSeen s
  | .add x rd rs1 rs2 => Sys2Proof.Machine.execAdd x rd rs1 rs2 s
  | .sub x rd rs1 rs2 => Sys2Proof.Machine.execSub x rd rs1 rs2 s
  | .and x rd rs1 rs2 => Sys2Proof.Machine.execAnd x rd rs1 rs2 s
  | .or x rd rs1 rs2 => Sys2Proof.Machine.execOr x rd rs1 rs2 s
  | .xor x rd rs1 rs2 => Sys2Proof.Machine.execXor x rd rs1 rs2 s
  | .sll x rd rs1 rs2 => Sys2Proof.Machine.execSll x rd rs1 rs2 s
  | .srl x rd rs1 rs2 => Sys2Proof.Machine.execSrl x rd rs1 rs2 s
  | .sra x rd rs1 rs2 => Sys2Proof.Machine.execSra x rd rs1 rs2 s
  | .slt x rd rs1 rs2 => Sys2Proof.Machine.execSlt x rd rs1 rs2 s
  | .sltu x rd rs1 rs2 => Sys2Proof.Machine.execSltu x rd rs1 rs2 s
  | .min x rd rs1 rs2 => Sys2Proof.Machine.execMin x rd rs1 rs2 s
  | .max x rd rs1 rs2 => Sys2Proof.Machine.execMax x rd rs1 rs2 s
  | .minu x rd rs1 rs2 => Sys2Proof.Machine.execMinu x rd rs1 rs2 s
  | .maxu x rd rs1 rs2 => Sys2Proof.Machine.execMaxu x rd rs1 rs2 s
  | .andn x rd rs1 rs2 => Sys2Proof.Machine.execAndn x rd rs1 rs2 s
  | .sel x rd rs1 rs2 => Sys2Proof.Machine.execSel x rd rs1 rs2 s
  | .mul x rd rs1 rs2 => Sys2Proof.Machine.execMul x rd rs1 rs2 s
  | .mulh x rd rs1 rs2 => Sys2Proof.Machine.execMulh x rd rs1 rs2 s
  | .mulhu x rd rs1 rs2 => Sys2Proof.Machine.execMulhu x rd rs1 rs2 s
  | .mulhsu x rd rs1 rs2 => Sys2Proof.Machine.execMulhsu x rd rs1 rs2 s
  | .div x rd rs1 rs2 => Sys2Proof.Machine.execDiv x rd rs1 rs2 s
  | .divu x rd rs1 rs2 => Sys2Proof.Machine.execDivu x rd rs1 rs2 s
  | .rem x rd rs1 rs2 => Sys2Proof.Machine.execRem x rd rs1 rs2 s
  | .remu x rd rs1 rs2 => Sys2Proof.Machine.execRemu x rd rs1 rs2 s
  | .clz x rd rs1 => Sys2Proof.Machine.execClz x rd rs1 s
  | .ctz x rd rs1 => Sys2Proof.Machine.execCtz x rd rs1 s
  | .popc x rd rs1 => Sys2Proof.Machine.execPopc x rd rs1 s
  | .rev8 x rd rs1 => Sys2Proof.Machine.execRev8 x rd rs1 s
  | .ror x rd rs1 rs2 => Sys2Proof.Machine.execRor x rd rs1 rs2 s
  | .rol x rd rs1 rs2 => Sys2Proof.Machine.execRol x rd rs1 rs2 s
  | .sextB x rd rs1 => Sys2Proof.Machine.execSextB x rd rs1 s
  | .sextH x rd rs1 => Sys2Proof.Machine.execSextH x rd rs1 s
  | .sextW x rd rs1 => Sys2Proof.Machine.execSextW x rd rs1 s
  | .zextW x rd rs1 => Sys2Proof.Machine.execZextW x rd rs1 s
  | .mfc x rd imm => Sys2Proof.Machine.execMfc x rd imm s
  | .mtc x rs imm => Sys2Proof.Machine.execMtc x rs imm s
  | .addi x rd rs1 imm => Sys2Proof.Machine.execAddi x rd rs1 imm s
  | .andi x rd rs1 imm => Sys2Proof.Machine.execAndi x rd rs1 imm s
  | .ori x rd rs1 imm => Sys2Proof.Machine.execOri x rd rs1 imm s
  | .xori x rd rs1 imm => Sys2Proof.Machine.execXori x rd rs1 imm s
  | .slli x rd rs1 imm => Sys2Proof.Machine.execSlli x rd rs1 imm s
  | .srli x rd rs1 imm => Sys2Proof.Machine.execSrli x rd rs1 imm s
  | .srai x rd rs1 imm => Sys2Proof.Machine.execSrai x rd rs1 imm s
  | .slti x rd rs1 imm => Sys2Proof.Machine.execSlti x rd rs1 imm s
  | .sltiu x rd rs1 imm => Sys2Proof.Machine.execSltiu x rd rs1 imm s
  | .muli x rd rs1 imm => Sys2Proof.Machine.execMuli x rd rs1 imm s
  | .sli x rd imm => Sys2Proof.Machine.execSli x rd imm s
  | .sins1 x rd imm => Sys2Proof.Machine.execSins1 x rd imm s
  | .sins2 x rd imm => Sys2Proof.Machine.execSins2 x rd imm s
  | .sins3 x rd imm => Sys2Proof.Machine.execSins3 x rd imm s
  | .spc x rd imm => Sys2Proof.Machine.execSpc x rd imm s
  | .ldB x rd rb off => Sys2Proof.Machine.execLdB x rd rb off s
  | .ldBu x rd rb off => Sys2Proof.Machine.execLdBu x rd rb off s
  | .ldH x rd rb off => Sys2Proof.Machine.execLdH x rd rb off s
  | .ldHu x rd rb off => Sys2Proof.Machine.execLdHu x rd rb off s
  | .ldW x rd rb off => Sys2Proof.Machine.execLdW x rd rb off s
  | .ldWu x rd rb off => Sys2Proof.Machine.execLdWu x rd rb off s
  | .ldD x rd rb off => Sys2Proof.Machine.execLdD x rd rb off s
  | .stB x rs rb off => Sys2Proof.Machine.execStB x rs rb off s
  | .stH x rs rb off => Sys2Proof.Machine.execStH x rs rb off s
  | .stW x rs rb off => Sys2Proof.Machine.execStW x rs rb off s
  | .stD x rs rb off => Sys2Proof.Machine.execStD x rs rb off s
  | .amoaddD x rd rb rs => Sys2Proof.Machine.execAmoaddD x rd rb rs s
  | .amoswapD x rd rb rs => Sys2Proof.Machine.execAmoswapD x rd rb rs s
  | .amocasD x rd rb rs => Sys2Proof.Machine.execAmocasD x rd rb rs s
  | .sig x rs cc => Sys2Proof.Machine.execSig x rs cc s
  | .ccadd x rs cc => Sys2Proof.Machine.execCcadd x rs cc s
  | .ccset x rs cc => Sys2Proof.Machine.execCcset x rs cc s
  | .ccrd x rd cc => Sys2Proof.Machine.execCcrd x rd cc s
  | .ccwait x rd rt cc => Sys2Proof.Machine.execCcwait x rd rt cc s
  | .ccwaitTimeout core thread => Sys2Proof.Machine.execCcwaitTimeout core thread s
  | .fence x => Sys2Proof.Machine.execFence x s
  | .icinv x rb fn => Sys2Proof.Machine.execIcinv x rb fn s
  | .ldg x rd rb off => Sys2Proof.Machine.execLdg x rd rb off s
  | .stg x rs rb off => Sys2Proof.Machine.execStg x rs rb off s
  | .beq x rs1 rs2 off => Sys2Proof.Machine.execBeq x rs1 rs2 off s
  | .bne x rs1 rs2 off => Sys2Proof.Machine.execBne x rs1 rs2 off s
  | .blt x rs1 rs2 off => Sys2Proof.Machine.execBlt x rs1 rs2 off s
  | .bge x rs1 rs2 off => Sys2Proof.Machine.execBge x rs1 rs2 off s
  | .bltu x rs1 rs2 off => Sys2Proof.Machine.execBltu x rs1 rs2 off s
  | .bgeu x rs1 rs2 off => Sys2Proof.Machine.execBgeu x rs1 rs2 off s
  | .jmp x off => Sys2Proof.Machine.execJmp x off s
  | .call x off => Sys2Proof.Machine.execCall x off s
  | .jr x rs => Sys2Proof.Machine.execJr x rs s
  | .jalr x rd rs => Sys2Proof.Machine.execJalr x rd rs s
  | .loop x l rs endoff => Sys2Proof.Machine.execLoop x l rs endoff s
  | .loopi x l count endoff => Sys2Proof.Machine.execLoopi x l count endoff s
  | .trap x code => Sys2Proof.Machine.execTrap x code s
  | .brk x => Sys2Proof.Machine.execBrk x s
  | .rfe x => Sys2Proof.Machine.execRfe x s
  | .wfi x => Sys2Proof.Machine.execWfi x s
  | .halt x => Sys2Proof.Machine.execHalt x s
  | .tconv x rs fields => Sys2Proof.Machine.execTconv x rs fields s
  | .tmm x rs fields => Sys2Proof.Machine.execTmm x rs fields s
  | .tpool x rs fields => Sys2Proof.Machine.execTpool x rs fields s
  | .tdw x rs fields => Sys2Proof.Machine.execTdw x rs fields s
  | .tload x rs fields => Sys2Proof.Machine.execTload x rs fields s
  | .vadd x o => Sys2Proof.Machine.execVadd x o s
  | .vsub x o => Sys2Proof.Machine.execVsub x o s
  | .vand x o => Sys2Proof.Machine.execVand x o s
  | .vor x o => Sys2Proof.Machine.execVor x o s
  | .vxor x o => Sys2Proof.Machine.execVxor x o s
  | .vsll x o => Sys2Proof.Machine.execVsll x o s
  | .vsrl x o => Sys2Proof.Machine.execVsrl x o s
  | .vsra x o => Sys2Proof.Machine.execVsra x o s
  | .vmin x o => Sys2Proof.Machine.execVmin x o s
  | .vmax x o => Sys2Proof.Machine.execVmax x o s
  | .vminu x o => Sys2Proof.Machine.execVminu x o s
  | .vmaxu x o => Sys2Proof.Machine.execVmaxu x o s
  | .vsadd x o => Sys2Proof.Machine.execVsadd x o s
  | .vsaddu x o => Sys2Proof.Machine.execVsaddu x o s
  | .vssub x o => Sys2Proof.Machine.execVssub x o s
  | .vssubu x o => Sys2Proof.Machine.execVssubu x o s
  | .vmul x o => Sys2Proof.Machine.execVmul x o s
  | .vmulh x o => Sys2Proof.Machine.execVmulh x o s
  | .vmulhu x o => Sys2Proof.Machine.execVmulhu x o s
  | .vmacc x o => Sys2Proof.Machine.execVmacc x o s
  | .vabsd x o => Sys2Proof.Machine.execVabsd x o s
  | .vsel x o => Sys2Proof.Machine.execVsel x o s
  | .vcmpeq x o => Sys2Proof.Machine.execVcmpeq x o s
  | .vcmpne x o => Sys2Proof.Machine.execVcmpne x o s
  | .vcmplt x o => Sys2Proof.Machine.execVcmplt x o s
  | .vcmpltu x o => Sys2Proof.Machine.execVcmpltu x o s
  | .vcmple x o => Sys2Proof.Machine.execVcmple x o s
  | .vcmpleu x o => Sys2Proof.Machine.execVcmpleu x o s
  | .vmac2 x o => Sys2Proof.Machine.execVmac2 x o s
  | .vmac4 x o => Sys2Proof.Machine.execVmac4 x o s
  | .vwmacc x o => Sys2Proof.Machine.execVwmacc x o s
  | .vaccClr x o => Sys2Proof.Machine.execVaccClr x o s
  | .vaccGet x o => Sys2Proof.Machine.execVaccGet x o s
  | .vaccSet x o => Sys2Proof.Machine.execVaccSet x o s
  | .vnsra x o => Sys2Proof.Machine.execVnsra x o s
  | .vredsum x o => Sys2Proof.Machine.execVredsum x o s
  | .vsetvl x o => Sys2Proof.Machine.execVsetvl x o s
  | .vsetvli x rd imm var ew => Sys2Proof.Machine.execVsetvli x rd imm var ew s
  | .vminiV x o n => Sys2Proof.Machine.execVminiV x o n s
  | .vmaxiV x o n => Sys2Proof.Machine.execVmaxiV x o n s
  | .vminiR x o n => Sys2Proof.Machine.execVminiR x o n s
  | .vmaxiR x o n => Sys2Proof.Machine.execVmaxiR x o n s
  | .vfadd x o => Sys2Proof.Machine.execVfadd x o s
  | .vfsub x o => Sys2Proof.Machine.execVfsub x o s
  | .vfmul x o => Sys2Proof.Machine.execVfmul x o s
  | .vfma x o => Sys2Proof.Machine.execVfma x o s
  | .vfmin x o => Sys2Proof.Machine.execVfmin x o s
  | .vfmax x o => Sys2Proof.Machine.execVfmax x o s
  | .vfcmpeq x o => Sys2Proof.Machine.execVfcmpeq x o s
  | .vfcmplt x o => Sys2Proof.Machine.execVfcmplt x o s
  | .vfcmple x o => Sys2Proof.Machine.execVfcmple x o s
  | .vcvtFX x o => Sys2Proof.Machine.execVcvtFX x o s
  | .vcvtXF x o => Sys2Proof.Machine.execVcvtXF x o s
  | .vfwiden x o => Sys2Proof.Machine.execVfwiden x o s
  | .vfnarrow x o => Sys2Proof.Machine.execVfnarrow x o s
  | .vslideup x o => Sys2Proof.Machine.execVslideup x o s
  | .vslidedown x o => Sys2Proof.Machine.execVslidedown x o s
  | .vrgather x o => Sys2Proof.Machine.execVrgather x o s
  | .vbcast x o => Sys2Proof.Machine.execVbcast x o s
  | .vext x o => Sys2Proof.Machine.execVext x o s
  | .vins x o => Sys2Proof.Machine.execVins x o s
  | .vid x o => Sys2Proof.Machine.execVid x o s
  | .pand x o => Sys2Proof.Machine.execPand x o s
  | .por x o => Sys2Proof.Machine.execPor x o s
  | .pxor x o => Sys2Proof.Machine.execPxor x o s
  | .pandn x o => Sys2Proof.Machine.execPandn x o s
  | .pwhile x o => Sys2Proof.Machine.execPwhile x o s
  | .pcount x o => Sys2Proof.Machine.execPcount x o s
  | .pfirst x o => Sys2Proof.Machine.execPfirst x o s
  | .pget x o => Sys2Proof.Machine.execPget x o s
  | .pset x o => Sys2Proof.Machine.execPset x o s
  | .vld x o stopAt => Sys2Proof.Machine.execVld x o stopAt s
  | .vlds x o stopAt => Sys2Proof.Machine.execVlds x o stopAt s
  | .vgather x o stopAt => Sys2Proof.Machine.execVgather x o stopAt s
  | .vst x o stopAt => Sys2Proof.Machine.execVst x o stopAt s
  | .vsts x o stopAt => Sys2Proof.Machine.execVsts x o stopAt s
  | .vscatter x o stopAt => Sys2Proof.Machine.execVscatter x o stopAt s
  | .pld x o => Sys2Proof.Machine.execPld x o s
  | .pst x o => Sys2Proof.Machine.execPst x o s
  | .vlda x o stopAt => Sys2Proof.Machine.execVlda x o stopAt s
  | .vsta x o stopAt => Sys2Proof.Machine.execVsta x o stopAt s
  | .thrStart who core thread val => Sys2Proof.Machine.execThrStart who core thread val s
  | .thrStop who core thread val => Sys2Proof.Machine.execThrStop who core thread val s
  | .thrStep who core thread val => Sys2Proof.Machine.execThrStep who core thread val s
  | .thrDbg who core thread val => Sys2Proof.Machine.execThrDbg who core thread val s
  | .coreIcinv who core val => Sys2Proof.Machine.execCoreIcinv who core val s
  | .softwareInterruptSet who core val => Sys2Proof.Machine.execSoftwareInterruptSet who core val s
  | .timecmpReached core thread => Sys2Proof.Machine.execTimecmpReached core thread s
  | .interruptEntry core thread => Sys2Proof.Machine.execInterruptEntry core thread s
  | .scratchpadInitDone core => Sys2Proof.Machine.execScratchpadInitDone core s
  | .tensorStart array => Sys2Proof.Machine.execTensorStart array s
  | .tensorStepDone array => Sys2Proof.Machine.execTensorStepDone array s
  | .tensorComplete array => Sys2Proof.Machine.execTensorComplete array s
  | .tensorWatchdog array => Sys2Proof.Machine.execTensorWatchdog array s
  | .tarQmaskWrite who array val => Sys2Proof.Machine.execTarQmaskWrite who array val s
  | .tableMemoryInitDone array => Sys2Proof.Machine.execTableMemoryInitDone array s
  | .quCommitRequest who qu val => Sys2Proof.Machine.execQuCommitRequest who qu val s
  | .quCommit qu readError => Sys2Proof.Machine.execQuCommit qu readError s
  | .adaptationStart => Sys2Proof.Machine.execAdaptationStart s
  | .adaptationStop => Sys2Proof.Machine.execAdaptationStop s
  | .adaptationEnd gradients validation heldOut => Sys2Proof.Machine.execAdaptationEnd gradients validation heldOut s
  | .deltaReset authenticated => Sys2Proof.Machine.execDeltaReset authenticated s
  | .weightHashCheck hashOk => Sys2Proof.Machine.execWeightHashCheck hashOk s
  | .dmaWake cluster halo who val => Sys2Proof.Machine.execDmaWake cluster halo who val s
  | .dmaCopy cluster => Sys2Proof.Machine.execDmaCopy cluster s
  | .dmaCopy2d cluster => Sys2Proof.Machine.execDmaCopy2d cluster s
  | .dmaFill cluster => Sys2Proof.Machine.execDmaFill cluster s
  | .haloCopy cluster => Sys2Proof.Machine.execHaloCopy cluster s
  | .haloCopy2d cluster => Sys2Proof.Machine.execHaloCopy2d cluster s
  | .dmaDescriptorDone cluster halo => Sys2Proof.Machine.execDmaDescriptorDone cluster halo s
  | .dmaConfirmTimeout cluster halo => Sys2Proof.Machine.execDmaConfirmTimeout cluster halo s
  | .dmaResume who cluster val => Sys2Proof.Machine.execDmaResume who cluster val s
  | .haloResume who cluster val => Sys2Proof.Machine.execHaloResume who cluster val s
  | .sliceMapWrite who slice val => Sys2Proof.Machine.execSliceMapWrite who slice val s
  | .sramScrub group corrected uncorrectable => Sys2Proof.Machine.execSramScrub group corrected uncorrectable s
  | .dramScrub channel corrected uncorrectable => Sys2Proof.Machine.execDramScrub channel corrected uncorrectable s
  | .ddrTrainingLost channel => Sys2Proof.Machine.execDdrTrainingLost channel s
  | .ddrEccInitDone => Sys2Proof.Machine.execDdrEccInitDone s
  | .bankGroupInitDone group => Sys2Proof.Machine.execBankGroupInitDone group s
  | .clkIslWrite who island val => Sys2Proof.Machine.execClkIslWrite who island val s
  | .clkGroupChange who val => Sys2Proof.Machine.execClkGroupChange who val s
  | .freqChangeDue change => Sys2Proof.Machine.execFreqChangeDue change s
  | .fllLock change => Sys2Proof.Machine.execFllLock change s
  | .fllLockTimeout island => Sys2Proof.Machine.execFllLockTimeout island s
  | .guardWindowEnd => Sys2Proof.Machine.execGuardWindowEnd s
  | .islandIdleStop island => Sys2Proof.Machine.execIslandIdleStop island s
  | .islandWake island => Sys2Proof.Machine.execIslandWake island s
  | .thermalCap crit temps => Sys2Proof.Machine.execThermalCap crit temps s
  | .thermalCapLift crit temps => Sys2Proof.Machine.execThermalCapLift crit temps s
  | .refClkLost => Sys2Proof.Machine.execRefClkLost s
  | .refClkBack => Sys2Proof.Machine.execRefClkBack s
  | .islandDead island => Sys2Proof.Machine.execIslandDead island s
  | .sensorInvalid sensor reading => Sys2Proof.Machine.execSensorInvalid sensor reading s
  | .sensorValid sensor reading => Sys2Proof.Machine.execSensorValid sensor reading s
  | .domainTargetWrite who domain val => Sys2Proof.Machine.execDomainTargetWrite who domain val s
  | .domainGroupTarget who val => Sys2Proof.Machine.execDomainGroupTarget who val s
  | .domainCycle who domain val => Sys2Proof.Machine.execDomainCycle who domain val s
  | .domainClear who domain val => Sys2Proof.Machine.execDomainClear who domain val s
  | .drainComplete domain => Sys2Proof.Machine.execDrainComplete domain s
  | .drainFail domain => Sys2Proof.Machine.execDrainFail domain s
  | .sequencerStepDone domain => Sys2Proof.Machine.execSequencerStepDone domain s
  | .dischargeDone domain => Sys2Proof.Machine.execDischargeDone domain s
  | .wakeAdmit domain => Sys2Proof.Machine.execWakeAdmit domain s
  | .supplyGood domain => Sys2Proof.Machine.execSupplyGood domain s
  | .swOpen domain => Sys2Proof.Machine.execSwOpen domain s
  | .stuckOn domain => Sys2Proof.Machine.execStuckOn domain s
  | .droop domain => Sys2Proof.Machine.execDroop domain s
  | .retDroop domain => Sys2Proof.Machine.execRetDroop domain s
  | .iso domain => Sys2Proof.Machine.execIso domain s
  | .stepLate domain => Sys2Proof.Machine.execStepLate domain s
  | .supplyArm sample => Sys2Proof.Machine.execSupplyArm sample s
  | .supplyBack sample => Sys2Proof.Machine.execSupplyBack sample s
  | .supplyCrit sample => Sys2Proof.Machine.execSupplyCrit sample s
  | .rideThroughWindowEnd code failLow => Sys2Proof.Machine.execRideThroughWindowEnd code failLow s
  | .saveDone badItems rewrite vDone => Sys2Proof.Machine.execSaveDone badItems rewrite vDone s
  | .supplyReturnReset sample => Sys2Proof.Machine.execSupplyReturnReset sample s
  | .rosemaryIdle sample => Sys2Proof.Machine.execRosemaryIdle sample s
  | .ledgerGo who val => Sys2Proof.Machine.execLedgerGo who val s
  | .restore who val => Sys2Proof.Machine.execRestore who val s
  | .restoreDone => Sys2Proof.Machine.execRestoreDone s
  | .consume who val => Sys2Proof.Machine.execConsume who val s
  | .testSave who val => Sys2Proof.Machine.execTestSave who val s
  | .senseFault sample => Sys2Proof.Machine.execSenseFault sample s
  | .failNFault sample => Sys2Proof.Machine.execFailNFault sample s
  | .hldThWrite who crit val => Sys2Proof.Machine.execHldThWrite who crit val s
  | .sageVehicleArea => Sys2Proof.Machine.execSageVehicleArea s
  | .sageStatusBlock => Sys2Proof.Machine.execSageStatusBlock s
  | .sageStatusStale => Sys2Proof.Machine.execSageStatusStale s
  | .sgeWdogKick who val => Sys2Proof.Machine.execSgeWdogKick who val s
  | .sageWdogExpiry => Sys2Proof.Machine.execSageWdogExpiry s
  | .lockstepMismatch => Sys2Proof.Machine.execLockstepMismatch s
  | .sgeHbBeat who val => Sys2Proof.Machine.execSgeHbBeat who val s
  | .hbMiss => Sys2Proof.Machine.execHbMiss s
  | .sageHbResetRequest => Sys2Proof.Machine.execSageHbResetRequest s
  | .sgeCcAdd who val => Sys2Proof.Machine.execSgeCcAdd who val s
  | .lateClear => Sys2Proof.Machine.execLateClear s
  | .taskFault task cause pc tval => Sys2Proof.Machine.execTaskFault task cause pc tval s
  | .thermalStageEnter temps => Sys2Proof.Machine.execThermalStageEnter temps s
  | .thermalStageLeave temps => Sys2Proof.Machine.execThermalStageLeave temps s
  | .clusterRetain cluster => Sys2Proof.Machine.execClusterRetain cluster s
  | .packageVerify pkg copy sigOk tableHashOk sectionsOk => Sys2Proof.Machine.execPackageVerify pkg copy sigOk tableHashOk sectionsOk s
  | .packageActivate kind => Sys2Proof.Machine.execPackageActivate kind s
  | .ccUnresponsive cc => Sys2Proof.Machine.execCcUnresponsive cc s
  | .powerOnReset release => Sys2Proof.Machine.execPowerOnReset release s
  | .resetNPin lowNs => Sys2Proof.Machine.execResetNPin lowNs s
  | .softReset who val => Sys2Proof.Machine.execSoftReset who val s
  | .warmReset => Sys2Proof.Machine.execWarmReset s
  | .sysWdogKick who val => Sys2Proof.Machine.execSysWdogKick who val s
  | .sysWdogCfgWrite who val => Sys2Proof.Machine.execSysWdogCfgWrite who val s
  | .systemWdogExpiry => Sys2Proof.Machine.execSystemWdogExpiry s
  | .bootImageSelect a b => Sys2Proof.Machine.execBootImageSelect a b s
  | .startFailReset => Sys2Proof.Machine.execStartFailReset s
  | .xspiRead who val => Sys2Proof.Machine.execXspiRead who val s
  | .xspiProgram who val => Sys2Proof.Machine.execXspiProgram who val s
  | .xspiErase4k who val => Sys2Proof.Machine.execXspiErase4k who val s
  | .xspiErase64k who val => Sys2Proof.Machine.execXspiErase64k who val s
  | .xspiDone err => Sys2Proof.Machine.execXspiDone err s
  | .provisioningBundle b signedOk wrappedOk authenticated => Sys2Proof.Machine.execProvisioningBundle b signedOk wrappedOk authenticated s
  | .commissioningWrite authenticated record => Sys2Proof.Machine.execCommissioningWrite authenticated record s
  | .firmwareUpload authenticated image ok => Sys2Proof.Machine.execFirmwareUpload authenticated image ok s
  | .trialReset => Sys2Proof.Machine.execTrialReset s
  | .trialConfirm => Sys2Proof.Machine.execTrialConfirm s
  | .secDebugLock who val => Sys2Proof.Machine.execSecDebugLock who val s
  | .secCommandSubmit who val => Sys2Proof.Machine.execSecCommandSubmit who val s
  | .secCommandDone => Sys2Proof.Machine.execSecCommandDone s
  | .sysIrqClaim who ctx => Sys2Proof.Machine.execSysIrqClaim who ctx s
  | .sysIrqComplete who ctx val => Sys2Proof.Machine.execSysIrqComplete who ctx val s
  | .thermalTrip temps => Sys2Proof.Machine.execThermalTrip temps s
  | .registerReadClear who place size => Sys2Proof.Machine.execRegisterReadClear who place size s
  | .doorReleaseDisagree door => Sys2Proof.Machine.execDoorReleaseDisagree door s
  | .readbackConfirmSample out => Sys2Proof.Machine.execReadbackConfirmSample out s
  | .extDriveCheck => Sys2Proof.Machine.execExtDriveCheck s
  | .itardTrainingEnd port partner => Sys2Proof.Machine.execItardTrainingEnd port partner s
  | .ddrTrainingDone ok => Sys2Proof.Machine.execDdrTrainingDone ok s
  | .securityEngineReady => Sys2Proof.Machine.execSecurityEngineReady s
  | .bayReadyTimeout => Sys2Proof.Machine.execBayReadyTimeout s
  | .nvmeReadComplete readError => Sys2Proof.Machine.execNvmeReadComplete readError s
  | .hostBarAccess bar offset wr len => Sys2Proof.Machine.execHostBarAccess bar offset wr len s
  | .tensorSliceError array tablePe addr => Sys2Proof.Machine.execTensorSliceError array tablePe addr s
  | .maintLinkChange up => Sys2Proof.Machine.execMaintLinkChange up s

end Sys2Proof.Machine
end

