-- ==== Sys2Proof/Machine/Step.lean ====
section
/-! DEFINITION. The step: the command at the front of the queue, or a tick of Thyme's local time where none waits. -/
namespace Sys2Proof.Machine

open Sys2Proof

/-- One tick of local time, 1 ns: what the machine does while no command waits. -/
def tick (s : State) : State := { s with now := s.now + 1 }

/-- One step: the front of the queue is executed with the queue's rest; on an empty queue time passes. (DESIGN CHOICE, log 1) -/
def step (s : State) : Host.Outcome State Fault Refusal :=
  match s.pending with
  | [] => .next (tick s)
  | c :: rest => exec c { s with pending := rest }

/-- The state with command c at the front of its queue. (DESIGN CHOICE, log 2) -/
def State.queueFirst (s : State) (c : Instr) : State := { s with pending := c :: s.pending }

/-- The state with the command that a word spells at the front of its queue; unchanged where the word spells none. -/
def State.withFetchWord (s : State) (nbits w : Nat) : State :=
  match decodeTableWord nbits w with
  | some c => s.queueFirst c
  | none => s

end Sys2Proof.Machine
end

