-- ==== Sys2Proof/WellFormed.lean ====
section
/-! DEFINITION. Which commands the hardware can present: not those whose operand names something the VT12 does not have, nor a packet
handed to the row of another type. No meaning asks for it: an ill-formed command has an effect too, most often none. -/
namespace Sys2Proof

/-- A clock island (Table 11-1). -/
def wfIsland (i : Nat) : Bool := decide (i < 216)

/-- A power domain (Table 12-1). -/
def wfDomain (d : Nat) : Bool := decide (d < 177)

/-- A place of the PWR_ block's domain registers: beyond the last domain they are reserved registers (R8). -/
def wfDomainReg (d : Nat) : Bool := decide (d < 3840)

/-- A packet of the row's TYPE, or of a reserved one, which is malformed wherever it is presented (Table 5-3, R191). -/
def wfType (ty : Nat) (p : Packet) : Bool := decide (p.ptype.toNat = ty) || decide (p.ptype.toNat ∈ [7, 12, 13, 14, 15])

/-- Whether a command is well-formed. (DEDUCED, log 153) -/
def wellFormed (i : Instr) : Bool :=
  match i with
  | .clkIslWrite _ n _ => wfIsland n
  | .islandDead n => wfIsland n
  | .domainTargetWrite _ d _ => wfDomainReg d
  | .domainCycle _ d _ => wfDomainReg d
  | .domainClear _ d _ => wfDomainReg d
  | .drainComplete d => wfDomain d
  | .drainFail d => wfDomain d
  | .sequencerStepDone d => wfDomain d
  | .dischargeDone d => wfDomain d
  | .wakeAdmit d => wfDomain d
  | .supplyGood d => wfDomain d
  | .swOpen d => wfDomain d
  | .stuckOn d => wfDomain d
  | .droop d => wfDomain d
  | .retDroop d => wfDomain d
  | .iso d => wfDomain d
  | .stepLate d => wfDomain d
  | .write p => wfType 0 p
  | .readReq p => wfType 1 p
  | .readResp p => wfType 2 p
  | .atomic p => wfType 3 p
  | .atomicResp p => wfType 4 p
  | .msg p => wfType 5 p
  | .signal p => wfType 6 p
  | .heartbeat _ p => wfType 8 p
  | .inaug _ p => wfType 9 p
  | .remap _ p => wfType 10 p
  | .mgmt p => wfType 11 p
  | _ => true

end Sys2Proof
end

