-- ==== Sys2Proof/Safety.lean ====
section
/-! DEFINITION. What counts as a safe run, in the terms that claims use. -/
namespace Sys2Proof

open Sys2Proof.Machine

/-- The invariant of a run: memory and the register file are in canonical form, and every command that waits is well-formed. -/
def Inv (s : State) : Prop :=
  Memory.wf s.mem = true ∧ Registers.wf s.regs = true ∧ s.pending.all wellFormed = true

/-- The warning outputs in the safe state: neither is commanded, and SAFE_CUT is open (R31). -/
def OutputsSafe (s : State) : Prop :=
  commanded s false = false ∧ commanded s true = false ∧ cutClosed s = false

/-- The machine does not stop: the step answers a next state. -/
def Goes (s : State) : Prop := ∃ t, step s = .next t

/-! ### A PX syllable on its own -/

/-- No zero-overhead loop of the thread ends where the next bundle would begin (R230). -/
def NoLoopEnd (th : Thread) (next : Nat) : Prop :=
  ∀ l : Fin 2, th.tcrAt (LC l) = 0 ∨ next ≠ (th.tcrAt (LE l)).toNat

/-- The address of the word after the pc. -/
def nextPc (th : Thread) : Nat := (th.pc + 4) % 2 ^ 48

/-- Thread x is about to issue a bundle of one syllable: it runs, nothing of it is held or outstanding, it is not being stepped, no
loop of it ends here, the word at its pc may be fetched, and the syllable is of a listed class and OP and meets no memory error (R211, R220,
R221, R230, R244 to R246). -/
structure Ready (s : State) (x : Px) : Prop where
  stop : x.stop = true
  met : x.met = .none
  run : (s.thread x.core x.thread).st = .run
  wait : (s.thread x.core x.thread).wait = .none
  bundle : (s.thread x.core x.thread).bundle = []
  started : (s.thread x.core x.thread).started = false
  loads : (s.thread x.core x.thread).loads = []
  todo : (s.thread x.core x.thread).todo = []
  due : (s.thread x.core x.thread).due = none
  step : (s.thread x.core x.thread).stepping = false
  once : (s.thread x.core x.thread).once = false
  loop : NoLoopEnd (s.thread x.core x.thread) (nextPc (s.thread x.core x.thread))
  fetch : fetchFaults s x.core x.thread (s.thread x.core x.thread).pc 1 = []

/-- The state after a bundle of one syllable of thread x: its registers as f says, pc at `pc`, BUNDLES one higher (saturating, R11), and the line of code
in the instruction cache; nothing else. -/
def bundleTo (s : State) (x : Px) (pc : Nat) (f : Thread → Thread) : State :=
  let th := s.thread x.core x.thread
  (fillLines s x.core th.pc 1).setThread x.core x.thread { f th with pc := pc, bundles := satAdd 64 th.bundles 1 }

/-- The thread of a syllable. -/
abbrev thr (s : State) (x : Px) : Thread := s.thread x.core x.thread

/-- As `bundleTo`, the pc going on to the next word. -/
def bundleDone (s : State) (x : Px) (f : Thread → Thread) : State :=
  bundleTo s x (nextPc (s.thread x.core x.thread)) f

/-- The thread after an exception or interrupt entry with the cause and TVAL (R239): the old mode and IE saved, monitor mode with
interrupts off, EPC the pc of the bundle, and the pc at IVEC. -/
def entered (th : Thread) (cause tval : Nat) (deferred : Bool) : Thread :=
  let st := th.tcrAt TSTAT
  let st := setBit (setBit (setBit (setBit (setBit st 2 th.monitor) 3 th.ie) 0 true) 1 false) 6 deferred
  { (((th.setTcr TSTAT st).setTcr EPC (BitVec.ofNat 64 th.pc)).setTcr CAUSE (BitVec.ofNat 64 cause)).setTcr TVAL
      (BitVec.ofNat 64 tval) with pc := (th.tcrAt IVEC).toNat % 2 ^ 48, cause := cause }

/-- The scalar register rd takes v, the thread going on at the next word. -/
def toS (s : State) (x : Px) (rd : Nat) (v : Word) : Out := .next (bundleDone s x (fun th => th.setS rd v))

/-- The vector register vd takes v. -/
def toV (s : State) (x : Px) (vd : Nat) (v : BitVec 1024) : Out := .next (bundleDone s x (fun th => th.setV vd v))

/-- The predicate register pd takes v. -/
def toP (s : State) (x : Px) (pd : Nat) (v : BitVec 128) : Out := .next (bundleDone s x (fun th => th.setP pd v))

/-- The accumulator n takes v. -/
def toA (s : State) (x : Px) (n : Nat) (v : BitVec 4096) : Out := .next (bundleDone s x (fun th => th.setA n v))

/-- The lanes of v under operation o: f of the active elements below n, the old value of the others (R251, R253). -/
def Lanes (th : Thread) (o : VOp) (old v : BitVec 1024) (f : Nat → Nat) : Prop :=
  ∀ i, i < vlmax o.ewN →
    lane v.toNat o.w i = if i < vcount th o.ewN ∧ vactive th o.pred o.ewN i = true then f i % 2 ^ o.w else lane old.toNat o.w i

/-- The bits of a predicate after a compare: every bit of an active element's byte lanes is c, the others keep theirs (R254). -/
def PredLanes (th : Thread) (o : VOp) (old v : BitVec 128) (c : Nat → Bool) : Prop :=
  ∀ k, k < 128 →
    let i := k / 2 ^ o.ewN
    v.getLsbD k = if i < vcount th o.ewN ∧ vactive th o.pred o.ewN i = true then c i else old.getLsbD k

/-- An access of n bytes at global address a by thread x that raises no cause and does not use the fabric: aligned, in the core's own
scratchpad or slice, within the thread's windows, free of uncorrectable errors (R218 to R222, R244). -/
def DirectOk (s : State) (x : Px) (a n perm : Nat) : Prop :=
  a % n = 0 ∧ (pathOf s x.core a = .scratch ∨ pathOf s x.core a = .slice)
    ∧ ((thr s x).monitor = true ∨ windowOk s x.core x.thread a n perm = true) ∧ s.anyPoison (addrLocal a) n = false

/-- t is s but for the n bytes at local address a, which hold x, little-endian; whole words written lose their poison. -/
def StoresTo (s t : State) (a n x : Nat) : Prop :=
  t = { s with mem := t.mem, memb := { s.memb with poison := t.memb.poison } }
    ∧ (∀ i, i < n → (t.byte (a + i)).toNat = x / 2 ^ (8 * i) % 256) ∧ (∀ k, k < a ∨ a + n ≤ k → t.byte k = s.byte k)

/-- Thread x takes the exception: nothing but its registers of R239 changes (no double fault). -/
def toHandler (s : State) (x : Px) (cause tval : Nat) : Out :=
  .next (s.setThread x.core x.thread (entered (thr s x) cause tval false))

/-- The thread may take an exception without a double fault (R247). -/
def MayEnter (s : State) (x : Px) : Prop := (thr s x).monitor = false ∨ (thr s x).ie = true

/-- The state once packet p has left the fabric. -/
def offFabric (s : State) (p : Packet) : State := { s with fab := { s.fab with net := s.fab.net.erase p } }

/-- The router buffers did nothing to packet p, and its sender holds nothing back that would now follow it (R179, R200). -/
def Alone (s : State) (p : Packet) : Prop :=
  p.corrected = 0 ∧ p.uncorrectable = false ∧ (slotOf p.src = s.fab.slot → holdsSince s (localIndex p.src) = none)

/-- Packet p reaches its endpoint, which takes it (R165, R170, R395, R423). -/
def Reaches (s : State) (p : Packet) : Prop :=
  Alone s p ∧ carry (offFabric s p) p = (offFabric s p, true) ∧ takes (offFabric s p) (localIndex p.dst) p.ptype.toNat = true
    ∧ crossingOpen (offFabric s p) (localIndex p.dst) = true

/-- Packet p reaches its endpoint with a good CRC (R165). -/
def Arrives (s : State) (p : Packet) : Prop := Reaches s p ∧ p.crc = packetCrc p

/-- A packet of VC3 that the manager takes: within Table 5-9, with a good CRC and no counter (R165, R175, R191). -/
def AtManager (s : State) (p : Packet) : Prop :=
  Alone s p ∧ wellFormedPacket p = true ∧ p.crc = packetCrc p ∧ p.ccEn = false

/-- A packet is injected: it joins those on the fabric, or those that its endpoint holds back (R179, R180). -/
def Enters (s t : State) (p : Packet) : Prop :=
  (mustHold s p = false → t.fab.net = s.fab.net ++ [p] ∧ t.fab.held = s.fab.held)
    ∧ (mustHold s p = true → t.fab.net = s.fab.net ∧ t.fab.held = s.fab.held ++ [p])

/-- No thread of the device waits. -/
def NoWait (s : State) : Prop := ∀ n k, n < 24 → k < 4 → (s.thread n k).wait = .none

/-- No thread waits, and no endpoint holds packets back: packets sent and taken set nothing else in motion. -/
def Calm (s : State) : Prop := NoWait s ∧ s.fab.held = []

/-- The 32-bit counter at a is higher by n in t, saturating (R11). -/
def Counted (s t : State) (a n : Nat) : Prop := (t.reg a).toNat = min (2 ^ 32 - 1) ((s.reg a).toNat + n)

/-- t is s but for the registers of the list. -/
def RegsOnly (s t : State) (l : List Nat) : Prop := t = { s with regs := t.regs } ∧ ∀ a, a ∉ l → t.reg a = s.reg a

end Sys2Proof
end

