-- ==== Sys2Proof/Certificates/Slice0/Obligations.lean ====
section
/-! DEFINITION. The statements for the provers. -/

section Claims

open Sys2Proof Sys2Proof.Machine

/-! ### The queue -/

/-- A command at the front of the queue is executed with the queue's rest.
Model's choice used: log 2. -/
def Obligations.StepRunsTheFront : Prop :=
  ∀ (c : Instr) (s : State), step (s.queueFirst c) = exec c s

/-! ### PX scalar instructions (R215 to R217) -/

/-- Table 6-3, formats SR of two operands and of one: each alone in its bundle completes with its result in rd; multiplication and division with
the corners of R217; the counts of bits and the byte reversal. -/
def Obligations.ScalarArithmetic : Prop :=
  (∀ (s : State) (x : Px) (rd rs1 rs2 : SReg), Ready s x →
    let a := (thr s x).sreg rs1
    let b := (thr s x).sreg rs2
    exec (.add x rd rs1 rs2) s = toS s x rd (a + b)
    ∧ exec (.sub x rd rs1 rs2) s = toS s x rd (a - b)
    ∧ exec (.and x rd rs1 rs2) s = toS s x rd (a &&& b)
    ∧ exec (.or x rd rs1 rs2) s = toS s x rd (a ||| b)
    ∧ exec (.xor x rd rs1 rs2) s = toS s x rd (a ^^^ b)
    ∧ exec (.andn x rd rs1 rs2) s = toS s x rd (a &&& ~~~b)
    ∧ exec (.sll x rd rs1 rs2) s = toS s x rd (a <<< (b.toNat % 64))
    ∧ exec (.srl x rd rs1 rs2) s = toS s x rd (a >>> (b.toNat % 64))
    ∧ exec (.sra x rd rs1 rs2) s = toS s x rd (a.sshiftRight (b.toNat % 64))
    ∧ exec (.ror x rd rs1 rs2) s = toS s x rd (a.rotateRight (b.toNat % 64))
    ∧ exec (.rol x rd rs1 rs2) s = toS s x rd (a.rotateLeft (b.toNat % 64))
    ∧ exec (.slt x rd rs1 rs2) s = toS s x rd (if a.toInt < b.toInt then 1 else 0)
    ∧ exec (.sltu x rd rs1 rs2) s = toS s x rd (if a.toNat < b.toNat then 1 else 0)
    ∧ exec (.min x rd rs1 rs2) s = toS s x rd (BitVec.ofInt 64 (min a.toInt b.toInt))
    ∧ exec (.max x rd rs1 rs2) s = toS s x rd (BitVec.ofInt 64 (max a.toInt b.toInt))
    ∧ exec (.minu x rd rs1 rs2) s = toS s x rd (BitVec.ofNat 64 (min a.toNat b.toNat))
    ∧ exec (.maxu x rd rs1 rs2) s = toS s x rd (BitVec.ofNat 64 (max a.toNat b.toNat))
    ∧ exec (.sel x rd rs1 rs2) s = toS s x rd (if (thr s x).sreg rd = 0 then b else a))
  ∧ (∀ (s : State) (x : Px) (rd rs1 rs2 : SReg), Ready s x →
    let a := (thr s x).sreg rs1
    let b := (thr s x).sreg rs2
    exec (.mul x rd rs1 rs2) s = toS s x rd (BitVec.ofInt 64 (a.toInt * b.toInt))
    ∧ exec (.mulh x rd rs1 rs2) s = toS s x rd (BitVec.ofInt 64 (a.toInt * b.toInt / 2 ^ 64))
    ∧ exec (.mulhu x rd rs1 rs2) s = toS s x rd (BitVec.ofNat 64 (a.toNat * b.toNat / 2 ^ 64))
    ∧ exec (.mulhsu x rd rs1 rs2) s = toS s x rd (BitVec.ofInt 64 (a.toInt * b.toNat / 2 ^ 64))
    ∧ (b ≠ 0 → exec (.div x rd rs1 rs2) s = toS s x rd (BitVec.ofInt 64 (a.toInt.tdiv b.toInt)))
    ∧ (b ≠ 0 → exec (.divu x rd rs1 rs2) s = toS s x rd (BitVec.ofNat 64 (a.toNat / b.toNat)))
    ∧ (b ≠ 0 → exec (.rem x rd rs1 rs2) s = toS s x rd (BitVec.ofInt 64 (a.toInt.tmod b.toInt)))
    ∧ (b ≠ 0 → exec (.remu x rd rs1 rs2) s = toS s x rd (BitVec.ofNat 64 (a.toNat % b.toNat)))
    ∧ (b = 0 → exec (.div x rd rs1 rs2) s = toS s x rd (BitVec.allOnes 64) ∧ exec (.divu x rd rs1 rs2) s = toS s x rd (BitVec.allOnes 64)
        ∧ exec (.rem x rd rs1 rs2) s = toS s x rd a ∧ exec (.remu x rd rs1 rs2) s = toS s x rd a)
    ∧ (a = BitVec.intMin 64 → b = BitVec.allOnes 64 →
        exec (.div x rd rs1 rs2) s = toS s x rd (BitVec.intMin 64) ∧ exec (.rem x rd rs1 rs2) s = toS s x rd 0))
  ∧ (∀ (s : State) (x : Px) (rd rs1 : SReg), Ready s x →
    let a := (thr s x).sreg rs1
    (∃ n, exec (.clz x rd rs1) s = toS s x rd (BitVec.ofNat 64 n) ∧ n ≤ 64 ∧ (∀ i, 64 - n ≤ i → i < 64 → a.getLsbD i = false)
      ∧ (n < 64 → a.getLsbD (63 - n) = true))
    ∧ (∃ n, exec (.ctz x rd rs1) s = toS s x rd (BitVec.ofNat 64 n) ∧ n ≤ 64 ∧ (∀ i, i < n → a.getLsbD i = false)
      ∧ (n < 64 → a.getLsbD n = true))
    ∧ exec (.popc x rd rs1) s = toS s x rd (BitVec.ofNat 64 ((List.range 64).countP (fun i => a.getLsbD i)))
    ∧ (∃ v : Word, exec (.rev8 x rd rs1) s = toS s x rd v ∧ ∀ i, i < 8 → v.extractLsb' (8 * i) 8 = a.extractLsb' (8 * (7 - i)) 8))

/-- Table 6-3, one register, one register and an immediate, and an immediate alone. -/
def Obligations.ScalarImmediates : Prop :=
  ∀ (s : State) (x : Px) (rd rs1 : SReg) (i : BitVec 10) (j : BitVec 16), Ready s x →
    let a := (thr s x).sreg rs1
    let d := (thr s x).sreg rd
    exec (.addi x rd rs1 i) s = toS s x rd (BitVec.ofInt 64 (a.toInt + i.toInt))
    ∧ exec (.muli x rd rs1 i) s = toS s x rd (BitVec.ofInt 64 (a.toInt * i.toInt))
    ∧ exec (.andi x rd rs1 i) s = toS s x rd (a &&& i.signExtend 64)
    ∧ exec (.ori x rd rs1 i) s = toS s x rd (a ||| i.signExtend 64)
    ∧ exec (.xori x rd rs1 i) s = toS s x rd (a ^^^ i.signExtend 64)
    ∧ exec (.slli x rd rs1 i) s = toS s x rd (a <<< (i.toNat % 64))
    ∧ exec (.srli x rd rs1 i) s = toS s x rd (a >>> (i.toNat % 64))
    ∧ exec (.srai x rd rs1 i) s = toS s x rd (a.sshiftRight (i.toNat % 64))
    ∧ exec (.slti x rd rs1 i) s = toS s x rd (if a.toInt < i.toInt then 1 else 0)
    ∧ exec (.sltiu x rd rs1 i) s = toS s x rd (if a.toNat < (i.signExtend 64).toNat then 1 else 0)
    ∧ exec (.sli x rd j) s = toS s x rd (j.signExtend 64)
    ∧ exec (.sins1 x rd j) s = toS s x rd ((d &&& 0xFFFFFFFF0000FFFF#64) ||| j.setWidth 64 <<< 16)
    ∧ exec (.sins2 x rd j) s = toS s x rd ((d &&& 0xFFFF0000FFFFFFFF#64) ||| j.setWidth 64 <<< 32)
    ∧ exec (.sins3 x rd j) s = toS s x rd ((d &&& 0x0000FFFFFFFFFFFF#64) ||| j.setWidth 64 <<< 48)
    ∧ exec (.spc x rd j) s = toS s x rd (BitVec.ofInt 64 ((thr s x).pc + j.toInt * 4))
    ∧ exec (.sextB x rd rs1) s = toS s x rd ((a.setWidth 8).signExtend 64)
    ∧ exec (.sextH x rd rs1) s = toS s x rd ((a.setWidth 16).signExtend 64)
    ∧ exec (.sextW x rd rs1) s = toS s x rd ((a.setWidth 32).signExtend 64)
    ∧ exec (.zextW x rd rs1) s = toS s x rd (a &&& 0xFFFFFFFF#64)

/-- `mfc` and `mtc` (R209, R210, Table 6-1): the stored registers read back, TID, BUNDLES and TIME are what they count, and a write
leaves the bits that the register has; a number that is not listed raises cause 0x02, a write in task mode of one marked M cause 0x03. -/
def Obligations.ThreadControlRegisters : Prop :=
  ∀ (s : State) (x : Px) (r : SReg), Ready s x →
    exec (.mfc x r 0x00F) s = toS s x r (BitVec.ofNat 64 (x.core.val + 32 * x.thread.val))
    ∧ exec (.mfc x r 0x021) s = toS s x r (BitVec.ofNat 64 (thr s x).bundles)
    ∧ exec (.mfc x r 0x022) s = toS s x r (BitVec.ofNat 64 s.now)
    ∧ (∀ n : BitVec 16, (n.toNat ≤ 0x015 ∨ n = 0x030 ∨ n = 0x031) → n ≠ 0x007 → n ≠ 0x00F →
        exec (.mfc x r n) s = toS s x r ((thr s x).tcrAt n.toNat))
    ∧ (∀ n : BitVec 16, MayEnter s x → (0x031 < n.toNat → exec (.mfc x r n) s = toHandler s x 0x02 0)
        ∧ (0x031 < n.toNat % 4096 → exec (.mtc x r n) s = toHandler s x 0x02 0))
    ∧ (∀ n : BitVec 16, n.toNat % 4096 ≤ 0x00A → (thr s x).monitor = false → exec (.mtc x r n) s = toHandler s x 0x03 0)
    ∧ ((thr s x).monitor = true →
        let v := (thr s x).sreg r
        let put (n : BitVec 16) (w : Word) := exec (.mtc x r n) s = .next (bundleDone s x (fun th => th.setTcr n.toNat w))
        put 0x000 (v &&& 0xFF#64) ∧ put 0x001 v ∧ put 0x002 v ∧ put 0x003 v ∧ put 0x004 v ∧ put 0x008 v ∧ put 0x009 v ∧ put 0x00A v
        ∧ put 0x005 (v &&& ~~~0x3F#64) ∧ put 0x006 (v &&& 0x1F#64) ∧ put 0x00B (v &&& 0x7F#64) ∧ put 0x00E (v &&& 0x1FF#64)
        ∧ put 0x030 (BitVec.ofNat 64 (min v.toNat 128)) ∧ put 0x031 v
        ∧ exec (.mtc x r 0x00C) s = .next (bundleDone s x (fun th =>
            (th.setTcr TIMECMP v).setTcr IP (setBit (th.tcrAt IP) 1 (decide (v.toNat ≤ s.now))))))

/-- Scalar loads and stores in the core's own scratchpad or slice (R222, Table 6-4): rd takes the bytes, extended, `ldg` fills four registers; a store
writes its bytes, and no other byte, register or thread changes. -/
def Obligations.DirectLoadsAndStores : Prop :=
  (∀ (s : State) (x : Px) (rd rb : SReg) (off : BitVec 10), Ready s x →
    let at' (n : Nat) := wrap 48 (((thr s x).sreg rb).toNat + off.toInt * n)
    let m (n : Nat) := s.load (addrLocal (at' n)) n
    let ok (n : Nat) := DirectOk s x (at' n) n permR
    (ok 1 → exec (.ldB x rd rb off) s = toS s x rd (BitVec.ofInt 64 (sext (m 1) 8))
        ∧ exec (.ldBu x rd rb off) s = toS s x rd (BitVec.ofNat 64 (m 1)))
    ∧ (ok 2 → exec (.ldH x rd rb off) s = toS s x rd (BitVec.ofInt 64 (sext (m 2) 16))
        ∧ exec (.ldHu x rd rb off) s = toS s x rd (BitVec.ofNat 64 (m 2)))
    ∧ (ok 4 → exec (.ldW x rd rb off) s = toS s x rd (BitVec.ofInt 64 (sext (m 4) 32))
        ∧ exec (.ldWu x rd rb off) s = toS s x rd (BitVec.ofNat 64 (m 4)))
    ∧ (ok 8 → exec (.ldD x rd rb off) s = toS s x rd (BitVec.ofNat 64 (m 8)))
    ∧ (ok 32 → rd.val % 4 = 0 → exec (.ldg x rd rb off) s = .next (bundleDone s x (fun th =>
        (((th.setS rd (BitVec.ofNat 64 (m 32))).setS (rd + 1) (BitVec.ofNat 64 (m 32 / 2 ^ 64))).setS (rd + 2)
          (BitVec.ofNat 64 (m 32 / 2 ^ 128))).setS (rd + 3) (BitVec.ofNat 64 (m 32 / 2 ^ 192)))))
    ∧ (rd.val % 4 ≠ 0 → MayEnter s x → exec (.ldg x rd rb off) s = toHandler s x 0x02 0))
  ∧ (∀ (s : State) (x : Px) (rs rb : SReg) (off : BitVec 10), Ready s x →
    let at' (n : Nat) := wrap 48 (((thr s x).sreg rb).toNat + off.toInt * n)
    let v (k : SReg) := ((thr s x).sreg k).toNat
    let stores (i : Instr) (n y : Nat) := DirectOk s x (at' n) n permW →
      ∃ t, exec i s = .next t ∧ StoresTo (bundleDone s x id) t (addrLocal (at' n)) n y
    stores (.stB x rs rb off) 1 (v rs) ∧ stores (.stH x rs rb off) 2 (v rs) ∧ stores (.stW x rs rb off) 4 (v rs)
    ∧ stores (.stD x rs rb off) 8 (v rs)
    ∧ (rs.val % 4 = 0 → stores (.stg x rs rb off) 32
        (v rs + v (rs + 1) * 2 ^ 64 + v (rs + 2) * 2 ^ 128 + v (rs + 3) * 2 ^ 192))
    ∧ (rs.val % 4 ≠ 0 → MayEnter s x → exec (.stg x rs rb off) s = toHandler s x 0x02 0))

/-- Atomics on the core's own scratchpad (R222): rd takes the old value, memory the new one. -/
def Obligations.ScratchAtomics : Prop :=
  ∀ (s : State) (x : Px) (rd rb rs : SReg), Ready s x →
    let a := ((thr s x).sreg rb).toNat % 2 ^ 48
    let old := BitVec.ofNat 64 (s.load (addrLocal a) 8)
    let v := (thr s x).sreg rs
    DirectOk s x a 8 (permR + permW) → pathOf s x.core a = .scratch →
      (∃ t, exec (.amoaddD x rd rb rs) s = .next t
        ∧ StoresTo (bundleDone s x (fun th => th.setS rd old)) t (addrLocal a) 8 (old + v).toNat)
      ∧ (∃ t, exec (.amoswapD x rd rb rs) s = .next t
        ∧ StoresTo (bundleDone s x (fun th => th.setS rd old)) t (addrLocal a) 8 v.toNat)
      ∧ (∃ t, exec (.amocasD x rd rb rs) s = .next t
        ∧ StoresTo (bundleDone s x (fun th => th.setS rd old)) t (addrLocal a) 8 (if old = (thr s x).sreg rd then v else old).toNat)

/-- The counters of the core's own endpoint, `sig`, `fence` and `icinv` (R222 to R226, R236). -/
def Obligations.CounterInstructions : Prop :=
  ∀ (s : State) (x : Px) (r rt : SReg) (cc : BitVec 6), Ready s x → (∀ k : Fin 4, (s.thread x.core k).wait = .none) →
    let n := ccVal s x.core cc.toNat
    let v := (thr s x).sreg r
    let hit := get (fun _ => none) (s.ccSet (ccKey x.core)).hitAt cc.toNat
    let counts (i : Instr) (w : BitVec 32) := ∃ t, exec i s = .next t ∧ t = { s with thr := t.thr, cores := t.cores, fab := t.fab }
      ∧ t.fab = { s.fab with cc := t.fab.cc } ∧ ccVal t x.core cc.toNat = w
      ∧ (∀ e k, k ≠ cc.toNat → ccVal t e k = ccVal s e k) ∧ (thr t x).pc = nextPc (thr s x) ∧ (thr t x).s = (thr s x).s
      ∧ (∀ k : Fin 4, w = 0 → bit ((s.thread x.core k).tcrAt CCIRQ) 6 = true → fld ((s.thread x.core k).tcrAt CCIRQ) 5 0 = cc.toNat →
          bit ((t.thread x.core k).tcrAt IP) 2 = true)
    counts (.ccadd x r cc) (n + v.setWidth 32)
    ∧ (hit ≠ some s.now → counts (.ccset x r cc) (v.setWidth 32))
    ∧ (hit = some s.now → ∃ t, exec (.ccset x r cc) s = .next t ∧ ccVal t x.core cc.toNat = v.setWidth 32 - 1)
    ∧ exec (.ccrd x r cc) s = toS s x r (n.setWidth 64)
    ∧ (n = 0 → exec (.ccwait x r rt cc) s = toS s x r 0)
    ∧ (n ≠ 0 → ∃ t, exec (.ccwait x r rt cc) s = .next t ∧ (thr t x).wait = .ccwait r cc.toNat (((thr s x).sreg rt).toNat % 2 ^ 32) s.now
        ∧ (thr t x).pc = (thr s x).pc ∧ (thr t x).s = (thr s x).s ∧ t = { s with thr := t.thr })
    ∧ (heldStores s x.core x.thread = [] → exec (.fence x) s = .next (bundleDone s x id))
    ∧ exec (.icinv x r 1) s = .next ((bundleDone s x id).setCore x.core { s.core x.core with icLines := [] })
    ∧ (∃ p, exec (.sig x r cc) s = .next ((takeSeq (bundleDone s x id) x.core x.thread).2.inject p)
        ∧ p.dst = BitVec.ofNat 12 v.toNat ∧ p.src = ownEid s x.core ∧ p.ptype = 6 ∧ p.ccEn = true ∧ p.cc = cc ∧ p.payload = [])

/-- Branches, jumps and calls (R229): a taken one goes to its target, `call` and `jalr` leave the next address, one not taken goes on. `loop` and
`loopi` (R230): LE, LS and LC of the level are set; a count of zero goes straight to the end; an end that is not after the bundle raises
cause 0x02.
Model's choice used: log 33. -/
def Obligations.BranchesAndLoops : Prop :=
  (∀ (s : State) (x : Px) (rs1 rs2 : SReg) (off : BitVec 10) (far : BitVec 22), Ready s x →
    let a := (thr s x).sreg rs1
    let b := (thr s x).sreg rs2
    let goes (i : Instr) (c : Prop) := (c → exec i s = .next (bundleTo s x (wrap 48 ((thr s x).pc + off.toInt * 4)) id))
      ∧ (¬c → exec i s = .next (bundleDone s x id))
    let next : Word := BitVec.ofNat 64 (nextPc (thr s x))
    goes (.beq x rs1 rs2 off) (a = b) ∧ goes (.bne x rs1 rs2 off) (a ≠ b)
    ∧ goes (.blt x rs1 rs2 off) (a.toInt < b.toInt) ∧ goes (.bge x rs1 rs2 off) (b.toInt ≤ a.toInt)
    ∧ goes (.bltu x rs1 rs2 off) (a.toNat < b.toNat) ∧ goes (.bgeu x rs1 rs2 off) (b.toNat ≤ a.toNat)
    ∧ exec (.jmp x far) s = .next (bundleTo s x (wrap 48 ((thr s x).pc + far.toInt * 4)) id)
    ∧ exec (.call x far) s = .next (bundleTo s x (wrap 48 ((thr s x).pc + far.toInt * 4)) (fun th => th.setS 63 next))
    ∧ (a.toNat % 4 = 0 → exec (.jr x rs1) s = .next (bundleTo s x (a.toNat % 2 ^ 48) id)
        ∧ exec (.jalr x rs2 rs1) s = .next (bundleTo s x (a.toNat % 2 ^ 48) (fun th => th.setS rs2 next)))
    ∧ (a.toNat % 4 ≠ 0 → MayEnter s x → exec (.jr x rs1) s = toHandler s x 0x04 (a.toNat % 2 ^ 48)
        ∧ exec (.jalr x rs2 rs1) s = toHandler s x 0x04 (a.toNat % 2 ^ 48)))
  ∧ (∀ (s : State) (x : Px) (l : Fin 2) (rs : SReg) (endoff : BitVec 15) (count : BitVec 10) (end11 : BitVec 11), Ready s x →
    let b := (thr s x).pc
    let set (n e : Nat) (th : Thread) : Thread :=
      ((th.setTcr (LE l) (BitVec.ofNat 64 ((b + e * 4) % 2 ^ 48))).setTcr (LS l) (BitVec.ofNat 64 (nextPc (thr s x)))).setTcr (LC l)
        (BitVec.ofNat 64 n)
    let does (i : Instr) (n e : Nat) :=
      (1 < e → n ≠ 0 → exec i s = .next (bundleDone s x (set n e)))
      ∧ (1 < e → n = 0 → exec i s = .next (bundleTo s x ((b + e * 4) % 2 ^ 48) (set 0 e)))
      ∧ (e ≤ 1 → MayEnter s x → exec i s = toHandler s x 0x02 0)
    does (.loop x l rs endoff) ((thr s x).sreg rs).toNat endoff.toNat ∧ does (.loopi x l count end11) count.toNat end11.toNat)

/-- Traps, the return from an exception, `wfi` and `halt` (R209, R229, R239, R241), and the double fault (R247).
Model's choice used: log 18. -/
def Obligations.TrapsAndReturns : Prop :=
  ∀ (s : State) (x : Px) (code : BitVec 16), Ready s x →
    let st := (thr s x).tcrAt TSTAT
    (MayEnter s x → exec (.trap x code) s = toHandler s x 0x0C code.toNat ∧ exec (.brk x) s = toHandler s x 0x0B 0)
    ∧ ((thr s x).monitor = false → exec (.rfe x) s = toHandler s x 0x03 0 ∧ exec (.halt x) s = toHandler s x 0x03 0)
    ∧ ((thr s x).monitor = true → (thr s x).ie = false →
        ∃ t, exec (.brk x) s = .next t ∧ thr t x = { thr s x with st := .halted, cause := 0x0B }
          ∧ bit (t.reg (Reg.pxcIrqStat x.core)) (4 + x.thread) = true)
    ∧ ((thr s x).monitor = true →
        exec (.rfe x) s = .next (bundleTo s x (((thr s x).tcrAt EPC).toNat % 2 ^ 48)
          (fun th => th.setTcr TSTAT (setBit (setBit st 0 (bit st 2)) 1 (bit st 3))))
        ∧ exec (.halt x) s = .next ((bundleDone s x (fun th => { th with st := .halted })).raise (Reg.pxcIrqStat x.core) x.thread))
    ∧ ((ipOf s (thr s x) &&& (thr s x).tcrAt IE) ≠ 0 → exec (.wfi x) s = .next (bundleDone s x id))
    ∧ ((ipOf s (thr s x) &&& (thr s x).tcrAt IE) = 0 →
        ∃ t, exec (.wfi x) s = .next t ∧ (thr t x).wait = .wfi ∧ (thr t x).pc = (thr s x).pc ∧ t = { s with thr := t.thr })

/-- What an exception entry leaves (R239): the mode and IE saved, monitor mode with interrupts off, EPC, CAUSE and TVAL written, pc at IVEC, no other
register of the thread changed. A misaligned access raises cause 0x04 with its address, and nothing of the bundle takes effect (R222, R237).
The frame of a bundle of one syllable: no register outside the thread, no byte of memory, no other thread changes. A syllable of a reserved
class, of an unlisted OP, or with a parity error in a register that it reads raises its cause, a line of code with a parity error is fetched
anew, and the parity errors are counted (R212, R215, R245, R246; `add` stands for the other instructions). -/
def Obligations.ExceptionsAndBundles : Prop :=
  (∀ (th : Thread) (cause tval : Nat), cause < 2 ^ 64 → tval < 2 ^ 64 →
    let t := entered th cause tval false
    let st := t.tcrAt TSTAT
    bit st 0 = true ∧ bit st 1 = false ∧ bit st 2 = th.monitor ∧ bit st 3 = th.ie ∧ (∀ i, i = 4 ∨ i = 5 ∨ i = 7 → bit st i = bit (th.tcrAt TSTAT) i)
    ∧ (t.tcrAt EPC) = BitVec.ofNat 64 th.pc ∧ (t.tcrAt CAUSE).toNat = cause ∧ (t.tcrAt TVAL).toNat = tval
    ∧ t.pc = (th.tcrAt IVEC).toNat % 2 ^ 48 ∧ t.s = th.s ∧ t.v = th.v ∧ t.p = th.p ∧ t.a = th.a
    ∧ (∀ n, n ≠ TSTAT → n ≠ EPC → n ≠ CAUSE → n ≠ TVAL → t.tcrAt n = th.tcrAt n))
  ∧ (∀ (s : State) (x : Px) (r rb : SReg) (off : BitVec 10), Ready s x → MayEnter s x →
    let at' (n : Nat) := wrap 48 (((thr s x).sreg rb).toNat + off.toInt * n)
    (at' 8 % 8 ≠ 0 → exec (.ldD x r rb off) s = toHandler s x 0x04 (at' 8) ∧ exec (.stD x r rb off) s = toHandler s x 0x04 (at' 8))
    ∧ (at' 4 % 4 ≠ 0 → exec (.ldW x r rb off) s = toHandler s x 0x04 (at' 4) ∧ exec (.stW x r rb off) s = toHandler s x 0x04 (at' 4))
    ∧ (at' 2 % 2 ≠ 0 → exec (.ldH x r rb off) s = toHandler s x 0x04 (at' 2) ∧ exec (.stH x r rb off) s = toHandler s x 0x04 (at' 2)))
  ∧ (∀ (s : State) (x : Px) (pc : Nat) (f : Thread → Thread),
    let t := bundleTo s x pc f
    t = { s with thr := t.thr, cores := t.cores } ∧ (∀ a, t.reg a = s.reg a) ∧ (∀ a, t.byte a = s.byte a)
    ∧ (∀ n k, 4 * n + k ≠ 4 * x.core.val + x.thread.val → t.thread n k = s.thread n k)
    ∧ thr t x = { f (thr s x) with pc := pc, bundles := satAdd 64 (thr s x).bundles 1 }
    ∧ (∀ n, (t.core n).initDone = (s.core n).initDone))
  ∧ (∀ (s : State) (x : Px) (rd rs1 rs2 : SReg) (m : Met) (g : Px → Instr), g = (fun y => .add y rd rs1 rs2) → Ready s x → MayEnter s x →
    let takes (k v : Nat) (l : List Nat) := ∃ t, exec (g { x with met := m }) s = .next t ∧ thr t x = entered (thr s x) k v false
      ∧ (∀ a, a ∈ l → Counted s t a 1) ∧ (∀ a, a ∉ l → t.reg a = s.reg a) ∧ t.mem = s.mem
    (m = .registerParity (.s rs1) → takes 0x0A rs1 [Reg.pxcRfPe x.core]) ∧ (m = .unlistedOp → takes 0x02 0 [])
    ∧ (m = .unlistedClass → takes 0x01 0 [])
    ∧ (m = .lineParity → get (fun _ => false) (s.core x.core).icLines ((thr s x).pc / 64) = true → ∃ t, exec (g { x with met := m }) s = .next t
        ∧ (thr t x).sreg rd = (if rd = 0 then 0 else (thr s x).sreg rs1 + (thr s x).sreg rs2) ∧ Counted s t (Reg.pxcIcPe x.core) 1))

/-! ### PX vector instructions (chapter 7) -/

/-- The integer and logic instructions of Table 7-3 work on each active element; inactive elements and those from n on keep their
values (R251, R253, R255, R256). -/
def Obligations.VectorIntegerLanes : Prop :=
  ∀ (s : State) (x : Px) (o : VOp), Ready s x → o.var.toNat ≤ 1 →
    let a (i : Nat) := opA (thr s x) o i
    let b (i : Nat) := opB (thr s x) o i
    let d (i : Nat) := opD (thr s x) o i
    let sa (i : Nat) := sext (a i) o.w
    let sb (i : Nat) := sext (b i) o.w
    let hi : Int := 2 ^ (o.w - 1) - 1
    let lo : Int := -2 ^ (o.w - 1)
    let um : Int := 2 ^ o.w - 1
    let does (i : Instr) (f : Nat → Nat) := ∃ v, exec i s = toV s x o.vd v ∧ Lanes (thr s x) o ((thr s x).vreg o.vd) v f
    let w (z : Int) := wrap o.w z
    does (.vadd x o) (fun i => a i + b i) ∧ does (.vsub x o) (fun i => w (sa i - sb i))
    ∧ does (.vand x o) (fun i => a i &&& b i) ∧ does (.vor x o) (fun i => a i ||| b i) ∧ does (.vxor x o) (fun i => a i ^^^ b i)
    ∧ does (.vsll x o) (fun i => a i * 2 ^ (b i % o.w)) ∧ does (.vsrl x o) (fun i => a i / 2 ^ (b i % o.w))
    ∧ does (.vsra x o) (fun i => w (sa i / 2 ^ (b i % o.w)))
    ∧ does (.vmin x o) (fun i => w (min (sa i) (sb i))) ∧ does (.vmax x o) (fun i => w (max (sa i) (sb i)))
    ∧ does (.vminu x o) (fun i => min (a i) (b i)) ∧ does (.vmaxu x o) (fun i => max (a i) (b i))
    ∧ does (.vsadd x o) (fun i => w (max lo (min hi (sa i + sb i)))) ∧ does (.vssub x o) (fun i => w (max lo (min hi (sa i - sb i))))
    ∧ does (.vsaddu x o) (fun i => w (min um (a i + b i))) ∧ does (.vssubu x o) (fun i => a i - b i)
    ∧ does (.vmul x o) (fun i => a i * b i) ∧ does (.vmulh x o) (fun i => w (sa i * sb i / 2 ^ o.w))
    ∧ does (.vmulhu x o) (fun i => a i * b i / 2 ^ o.w) ∧ does (.vmacc x o) (fun i => d i + a i * b i)
    ∧ does (.vabsd x o) (fun i => (sa i - sb i).natAbs)
    ∧ (o.pred ≠ 0 → ∃ v, exec (.vsel x o) s = toV s x o.vd v ∧ ∀ i, i < vlmax o.ewN → lane v.toNat o.w i =
        if i < vcount (thr s x) o.ewN then (if vactive (thr s x) o.pred o.ewN i = true then a i else b i)
        else lane ((thr s x).vreg o.vd).toNat o.w i)

/-- Compares write the byte lanes of the active elements of a predicate (R254); predicate logic works on all 128 bits, `pwhile` on the
whole register, `pcount` and `pfirst` on the elements active under ps1 (R257). -/
def Obligations.VectorPredicates : Prop :=
  ∀ (s : State) (x : Px) (o : VOp), Ready s x → o.var.toNat ≤ 1 →
    let th := thr s x
    let a (i : Nat) := opA th o i
    let b (i : Nat) := opB th o i
    let pd := o.vd.val
    let p1 := th.preg (o.vs1.val % 8)
    let p2 := th.preg (o.vs2.val % 8)
    let on (i : Nat) := i < vcount th o.ewN ∧ p1.getLsbD (i * 2 ^ o.ewN) = true
    let tests (i : Instr) (c : Nat → Bool) := ∃ v, exec i s = toP s x pd v ∧ PredLanes th o (th.preg pd) v c
    (o.vd.val < 8 →
      tests (.vcmpeq x o) (fun i => decide (a i = b i)) ∧ tests (.vcmpne x o) (fun i => decide (a i ≠ b i))
      ∧ tests (.vcmplt x o) (fun i => decide (sext (a i) o.w < sext (b i) o.w)) ∧ tests (.vcmpltu x o) (fun i => decide (a i < b i))
      ∧ tests (.vcmple x o) (fun i => decide (sext (a i) o.w ≤ sext (b i) o.w)) ∧ tests (.vcmpleu x o) (fun i => decide (a i ≤ b i))
      ∧ exec (.pand x o) s = toP s x pd (p1 &&& p2) ∧ exec (.por x o) s = toP s x pd (p1 ||| p2)
      ∧ exec (.pxor x o) s = toP s x pd (p1 ^^^ p2) ∧ exec (.pandn x o) s = toP s x pd (p1 &&& ~~~p2)
      ∧ (∃ v, exec (.pwhile x o) s = toP s x pd v ∧ ∀ k, k < 128 →
          v.getLsbD k = decide (k / 2 ^ o.ewN < min (th.sreg o.vs2).toNat (vcount th o.ewN)))
      ∧ exec (.pset x o) s = toP s x pd (if o.var.toNat % 2 = 0 then (th.preg pd &&& ~~~(BitVec.allOnes 64).setWidth 128)
            ||| (th.sreg o.vs2).setWidth 128
          else (th.preg pd &&& (BitVec.allOnes 64).setWidth 128) ||| (th.sreg o.vs2).setWidth 128 <<< 64))
    ∧ exec (.pget x o) s = toS s x o.vd (p1.extractLsb' (64 * (o.var.toNat % 2)) 64)
    ∧ exec (.pcount x o) s = toS s x o.vd (BitVec.ofNat 64 ((List.range (vlmax o.ewN)).countP (fun i => decide (on i))))
    ∧ (∀ i, on i → (∀ j, j < i → ¬on j) → exec (.pfirst x o) s = toS s x o.vd (BitVec.ofNat 64 i))
    ∧ ((∀ i, ¬on i) → exec (.pfirst x o) s = toS s x o.vd (BitVec.allOnes 64))

/-- The accumulators and the reductions of Table 7-3 (R256, R259), and `vl` (R252). -/
def Obligations.VectorAccumulators : Prop :=
  ∀ (s : State) (x : Px) (o : VOp), Ready s x → o.var.toNat ≤ 1 →
    let th := thr s x
    let n1 := o.vs1.val % 4
    let n2 := o.vs2.val % 4
    let aw := 4 * o.w
    let data (i : Nat) : Int := if o.var = 1 then (opA th o i : Int) else sext (opA th o i) o.w
    let coef (k : Nat) : Int := sext ((th.sreg o.vs2).toNat / 2 ^ (o.w * k)) o.w
    let sums (n : Nat) (v : BitVec 4096) (f : Nat → Int) := ∀ i, i < vlmax o.ewN → lane v.toNat aw i =
      if i < vcount th o.ewN ∧ vactive th o.pred o.ewN i = true then wrap aw (sext (lane (th.areg n).toNat aw i) aw + f i)
      else lane (th.areg n).toNat aw i
    (o.vd.val < 4 → exec (.vaccClr x o) s = toA s x o.vd (if o.var = 1 then BitVec.allOnes 4096 else 0))
    ∧ exec (.vaccGet x o) s = toV s x o.vd ((th.areg n2).extractLsb' (1024 * n1) 1024)
    ∧ (∃ v, exec (.vaccSet x o) s = toA s x (o.vd.val % 4) v
        ∧ ∀ q, q < 4 → v.extractLsb' (1024 * q) 1024 = if q = n1 then th.vreg o.vs2 else (th.areg (o.vd.val % 4)).extractLsb' (1024 * q) 1024)
    ∧ exec (.vredsum x o) s = toS s x o.vd (BitVec.ofInt 64 (((List.range (vlmax o.ewN)).map (fun i =>
        if i < vcount th o.ewN ∧ vactive th o.pred o.ewN i = true then data i else 0)).sum))
    ∧ (o.ewN ≤ 1 →
      (o.vd.val < 4 → ∃ v, exec (.vwmacc x o) s = toA s x o.vd v ∧ sums o.vd v (fun i => sext (opA th o i) o.w * sext (opB th o i) o.w))
      ∧ (o.vd.val % 4 % 2 = 0 → ∃ u v, exec (.vmac2 x o) s = .next (bundleDone s x (fun th => (th.setA (o.vd.val % 4) u).setA (o.vd.val % 4 + 1) v))
          ∧ sums (o.vd.val % 4) u (fun i => data i * coef 0) ∧ sums (o.vd.val % 4 + 1) v (fun i => data i * coef 1))
      ∧ (o.vd.val % 4 = 0 → ∃ v0 v1 v2 v3, exec (.vmac4 x o) s = .next (bundleDone s x (fun th => (((th.setA 0 v0).setA 1 v1).setA 2 v2).setA 3 v3))
          ∧ sums 0 v0 (fun i => data i * coef 0) ∧ sums 1 v1 (fun i => data i * coef 1) ∧ sums 2 v2 (fun i => data i * coef 2)
          ∧ sums 3 v3 (fun i => data i * coef 3))
      ∧ (∃ v, exec (.vnsra x o) s = toV s x o.vd v ∧ Lanes th o (th.vreg o.vd) v (fun i =>
          let y := rneDiv (sext (lane (th.areg n1).toNat aw i) aw) (2 ^ ((th.sreg o.vs2).toNat % 64))
          if o.var = 1 then wrap o.w (max 0 (min (2 ^ o.w - 1) y)) else wrap o.w (max (-2 ^ (o.w - 1)) (min (2 ^ (o.w - 1) - 1) y)))))
    ∧ (let n := BitVec.ofNat 64 (min (th.sreg o.vs1).toNat (vlmax o.ewN))
       exec (.vsetvl x o) s = .next (bundleDone s x (fun th => (th.setS o.vd n).setTcr VL n)))
    ∧ (∀ (rd : Fin 32) (i : BitVec 10) (var ew : BitVec 2), var.toNat ≤ 1 →
       let n := BitVec.ofNat 64 (min i.toNat (vlmax ew.toNat))
       exec (.vsetvli x rd i var ew) s = .next (bundleDone s x (fun th => (th.setS rd n).setTcr VL n)))

/-- The permutations of Table 7-4 (R257): each active element takes the element that the instruction names, zero from outside. And the
searches with an index (R261 to R265): a lane takes an element that is better than its best, or fills an empty lane, with its index; the
reduction gives the best element of the lanes that are not empty, the lowest index among equals, and an empty result where there is none. -/
def Obligations.VectorPermutes : Prop :=
  (∀ (s : State) (x : Px) (o : VOp), Ready s x → o.var.toNat ≤ 1 →
    let th := thr s x
    let m := vlmax o.ewN
    let k := (th.sreg o.vs2).toNat
    let a (i : Nat) := opA th o i
    let does (i : Instr) (f : Nat → Nat) := ∃ v, exec i s = toV s x o.vd v ∧ Lanes th o (th.vreg o.vd) v f
    does (.vslideup x o) (fun i => if k ≤ i then a (i - k) else lane (th.vreg o.vd).toNat o.w i)
    ∧ does (.vslidedown x o) (fun i => if i + k < m then a (i + k) else 0)
    ∧ (o.var = 1 ∨ o.vd ≠ o.vs2 → does (.vrgather x o) (fun i => if opB th o i < m then a (opB th o i) else 0))
    ∧ does (.vbcast x o) (fun _ => k) ∧ does (.vid x o) (fun i => k + i)
    ∧ exec (.vext x o) s = toS s x o.vd (if k < m then
        (if o.var = 1 then BitVec.ofNat 64 (a k) else BitVec.ofInt 64 (sext (a k) o.w)) else 0)
    ∧ (∃ v, exec (.vins x o) s = toV s x o.vd v ∧ ∀ i, i < m → lane v.toNat o.w i =
        if i = (th.sreg o.vs1).toNat then k % 2 ^ o.w else lane (th.vreg o.vd).toNat o.w i))
  ∧ (∀ (s : State) (x : Px) (o : VOp) (n : AReg), Ready s x → o.ewN ≤ 2 → o.var.toNat ≤ 2 → (o.var = 2 → o.ewN ≠ 0) →
    let th := thr s x
    let less (p q : Nat) : Bool :=
      if o.var = 2 then fLt o.w p q else if o.var = 1 then decide (p < q) else decide (sext p o.w < sext q o.w)
    let nan (p : Nat) : Bool := decide (o.var = 2) && fNan o.w p
    let a (i : Nat) := opA th o i
    let idx (i : Nat) := lane (th.areg n).toNat 32 i
    let on (i : Nat) : Prop := i < vcount th o.ewN ∧ vactive th o.pred o.ewN i = true ∧ nan (a i) = false
    let lanes (i : Instr) (better : Nat → Nat → Bool) := ∃ v u,
      exec i s = .next (bundleDone s x (fun th => (th.setV o.vd v).setA n u))
      ∧ (∀ i, i < vlmax o.ewN → (on i ∧ (idx i = 0xFFFFFFFF ∨ better (a i) (opD th o i) = true) →
            lane v.toNat o.w i = a i ∧ lane u.toNat 32 i = ((th.sreg o.vs2).toNat + i) % 2 ^ 32)
          ∧ (¬(on i ∧ (idx i = 0xFFFFFFFF ∨ better (a i) (opD th o i) = true)) →
            lane v.toNat o.w i = opD th o i ∧ lane u.toNat 32 i = idx i))
      ∧ ∀ i, vlmax o.ewN ≤ i → i < 128 → lane u.toNat 32 i = idx i
    let best (c : Instr) (better : Nat → Nat → Bool) :=
      ((∀ i, on i → idx i = 0xFFFFFFFF) → exec c s = toS s x o.vd (BitVec.ofNat 64 (0xFFFFFFFF * 2 ^ 32)))
      ∧ ((∃ i, on i ∧ idx i ≠ 0xFFFFFFFF) → ∃ i, on i ∧ idx i ≠ 0xFFFFFFFF
          ∧ (∀ j, on j → idx j ≠ 0xFFFFFFFF → better (a j) (a i) = false ∧ (better (a i) (a j) = false → idx i ≤ idx j))
          ∧ exec c s = toS s x o.vd (BitVec.ofNat 64 (idx i * 2 ^ 32 + if o.var = 0 then wrap 32 (sext (a i) o.w) else a i)))
    lanes (.vminiV x o n) less ∧ lanes (.vmaxiV x o n) (fun p q => less q p)
    ∧ (o.vs2 = 0 → best (.vminiR x o n) less ∧ best (.vmaxiR x o n) (fun p q => less q p)))

/-- The float instructions of Table 7-4 give each active element the value rounded to nearest, ties to even (R258), and leave the others;
float compares write predicates. The named operations are those of the format of the element's width.
Model's choice used: log 31. -/
def Obligations.VectorFloatLanes : Prop :=
  ∀ (s : State) (x : Px) (o : VOp), Ready s x → o.var.toNat ≤ 1 →
    let th := thr s x
    let w := o.w
    let a (i : Nat) := opA th o i
    let b (i : Nat) := opB th o i
    let old := th.vreg o.vd
    let does (i : Instr) (f : Nat → Nat) := ∃ v, exec i s = toV s x o.vd v ∧ Lanes th o old v f
    let tests (i : Instr) (c : Nat → Bool) := ∃ v, exec i s = toP s x o.vd v ∧ PredLanes th o (th.preg o.vd) v c
    (o.ewN = 1 ∨ o.ewN = 2 →
      does (.vfadd x o) (fun i => fAdd w (a i) (b i)) ∧ does (.vfsub x o) (fun i => fSub w (a i) (b i))
      ∧ does (.vfmul x o) (fun i => fMul w (a i) (b i)) ∧ does (.vfma x o) (fun i => fFma w (opD th o i) (a i) (b i))
      ∧ does (.vfmin x o) (fun i => fMinMax false w (a i) (b i)) ∧ does (.vfmax x o) (fun i => fMinMax true w (a i) (b i))
      ∧ does (.vcvtFX x o) (fun i => fOfInt w (if o.var = 1 then (a i : Int) else sext (a i) w))
      ∧ does (.vcvtXF x o) (fun i => wrap w (fToInt w (a i)))
      ∧ (o.vd.val < 8 → tests (.vfcmpeq x o) (fun i => fEq w (a i) (b i)) ∧ tests (.vfcmplt x o) (fun i => fLt w (a i) (b i))
          ∧ tests (.vfcmple x o) (fun i => fLe w (a i) (b i))))
    ∧ (o.ewN = 1 → ∃ v, exec (.vfwiden x o) s = toV s x o.vd v ∧ ∀ i, i < 32 → lane v.toNat 32 i =
        if i < vcount th 1 ∧ vactive th o.pred 1 i = true then fWiden (a (i + 32 * (o.var.toNat % 2))) else lane old.toNat 32 i)
    ∧ (o.ewN = 2 → ∃ v, exec (.vfnarrow x o) s = toV s x o.vd v ∧ ∀ j, j < 64 → lane v.toNat 16 j =
        let i := j - 32 * (o.var.toNat % 2)
        if 32 * (o.var.toNat % 2) ≤ j ∧ i < vcount th 2 ∧ vactive th o.pred 2 i = true then fNarrow (a i) else lane old.toNat 16 j)

/-- Element addresses of vector memory instructions (Table 7-5), modulo 2⁴⁸, and `pld` and `pst`. Vector loads and stores whose elements all lie in the
core's own scratchpad or slice (R250, R266, R269, R276): the active elements are loaded or stored, the element with the higher index remaining;
`vstart` and PART are clear afterwards, and no other byte, register or thread changes. -/
def Obligations.VectorMemory : Prop :=
  ((∀ (th : Thread) (rb y : Fin 32) (ew i : Nat), ew ≤ 3 →
    let base := (th.sreg rb).toNat
    let off : Int := sext y.val 5
    vmAddr th .ld rb y ew i = wrap 48 (base + off * 128 + i * 2 ^ ew) ∧ vmAddr th .st rb y ew i = vmAddr th .ld rb y ew i
    ∧ vmAddr th .lds rb y ew i = wrap 48 (base + i * (th.sreg y).toNat) ∧ vmAddr th .sts rb y ew i = vmAddr th .lds rb y ew i
    ∧ vmAddr th .gather rb y ew i = wrap 48 (base + lane (th.vreg y).toNat (8 * 2 ^ ew) i * 2 ^ ew)
    ∧ vmAddr th .scatter rb y ew i = vmAddr th .gather rb y ew i
    ∧ vmAddr th .lda rb y ew i = wrap 48 (base + off * 512 + 128 * i) ∧ vmAddr th .sta rb y ew i = vmAddr th .lda rb y ew i)
  ∧ ∀ (s : State) (x : Px) (o : VOp), Ready s x → o.var = 0 →
    let a := wrap 48 (((thr s x).sreg o.vs1).toNat + (sext o.vs2.val 5) * 16)
    let p := o.vd.val % 8
    (DirectOk s x a 16 permR → exec (.pld x o) s = toP s x p (BitVec.ofNat 128 (s.load (addrLocal a) 16)))
    ∧ (DirectOk s x a 16 permW → ∃ t, exec (.pst x o) s = .next t
        ∧ StoresTo (bundleDone s x id) t (addrLocal a) 16 ((thr s x).preg p).toNat))
  ∧ (∀ (s : State) (x : Px) (o : VOp), Ready s x → o.var = 0 → (thr s x).part = false →
    let th := thr s x
    let sz := 2 ^ o.ewN
    let at' (k : VmKind) (i : Nat) := vmAddr th k o.vs1 o.vs2 o.ewN i
    let on (i : Nat) : Prop := i < vcount th o.ewN ∧ vactive th o.pred o.ewN i = true
    let done (f : Thread → Thread) := bundleDone s x (fun th => ((f th).setTcr VSTART 0).setTstat 4 false)
    let loads (c : Instr) (k : VmKind) := (∀ i, on i → DirectOk s x (at' k i) sz permR) →
      ∃ v, exec c s = .next (done (fun th => th.setV o.vd v))
        ∧ ∀ i, i < vlmax o.ewN → (on i → lane v.toNat o.w i = s.load (addrLocal (at' k i)) sz)
            ∧ (¬on i → lane v.toNat o.w i = lane (th.vreg o.vd).toNat o.w i)
    let stores (c : Instr) (el : Nat → Prop) (a : Nat → Nat) (n : Nat) (data : Nat → Nat) :=
      (∀ i, el i → DirectOk s x (a i) n permW) →
      ∃ t, exec c s = .next t ∧ t = { done id with mem := t.mem, memb := { s.memb with poison := t.memb.poison } }
        ∧ (∀ i b, el i → b < n → (∀ j, i < j → el j → addrLocal (a i) + b < addrLocal (a j) ∨ addrLocal (a j) + n ≤ addrLocal (a i) + b) →
            (t.byte (addrLocal (a i) + b)).toNat = lane (data i) 8 b)
        ∧ (∀ p, (∀ i, el i → p < addrLocal (a i) ∨ addrLocal (a i) + n ≤ p) → t.byte p = s.byte p)
    let elem (i : Nat) := lane (th.vreg o.vd).toNat o.w i
    let quarter (q : Nat) := lane (th.areg (o.vd.val % 4)).toNat 1024 q
    loads (.vld x o none) .ld ∧ loads (.vlds x o none) .lds
    ∧ (o.ewN ≠ 0 → (o.vd ≠ o.vs2 → loads (.vgather x o none) .gather) ∧ stores (.vscatter x o none) on (at' .scatter) sz elem)
    ∧ stores (.vst x o none) on (at' .st) sz elem ∧ stores (.vsts x o none) on (at' .sts) sz elem
    ∧ (o.pred = 0 → stores (.vsta x o none) (fun q => q < 4) (at' .sta) 128 quarter
        ∧ ((∀ q, q < 4 → DirectOk s x (at' .lda q) 128 permR) → ∃ v, exec (.vlda x o none) s = .next (done (fun th => th.setA (o.vd.val % 4) v))
            ∧ ∀ q, q < 4 → lane v.toNat 1024 q = s.load (addrLocal (at' .lda q)) 128)))

/-- A T syllable joins the queue of its cluster's array with the address of its descriptor and its fields, and its thread waits (R231,
R232, R315); reserved bits and modes above 6 raise cause 0x02 (R300). -/
def Obligations.TensorIssue : Prop :=
  ∀ (s : State) (x : Px) (rs : SReg) (fields : BitVec 16), Ready s x → (thr s x).tres = false →
    let c := x.core.val / 3
    let good := fields.toNat / 1024 = 0 ∧ fields.toNat % 16 ≤ 6
    let issues (i : Instr) (op : Nat) :=
      (good → ∃ t, exec i s = .next t ∧ t = { s with thr := t.thr, cores := t.cores, tars := t.tars }
        ∧ (thr t x).wait = .tensor ∧ (thr t x).pc = (thr s x).pc ∧ (thr t x).s = (thr s x).s ∧ (thr t x).tcr = (thr s x).tcr
        ∧ t.tar c = { s.tar c with queue := (s.tar c).queue ++
            [{ thread := 4 * (x.core.val % 3) + x.thread.val, op := op, desc := ((thr s x).sreg rs).toNat % 2 ^ 48
               fields := fields.toNat, resume := false }] }
        ∧ ∀ k, k ≠ c → t.tar k = s.tar k)
      ∧ (¬good → MayEnter s x → exec i s = toHandler s x 0x02 0)
    issues (.tconv x rs fields) 1 ∧ issues (.tmm x rs fields) 2 ∧ issues (.tpool x rs fields) 3 ∧ issues (.tdw x rs fields) 4
    ∧ issues (.tload x rs fields) 5

/-- A write of PXC_THR_CTRL, PXC_CORE_CTRL or PXC_SWI by a control core (R243, R249, Tables 6-8, 6-11 and 6-12), by any other requester
an access error (R396): START runs a STOPPED thread from its pc in monitor mode, STOP stops a thread at a boundary, STEP runs one for
one bundle, DBG makes its interrupt pending, ICINV empties the instruction cache.
Model's choices used: log 17, 20. -/
def Obligations.ThreadControls : Prop :=
  ∀ (s : State) (k : Fin 4) (c : Fin 24) (t : Fin 4),
    let cc := Requester.cc k
    let th := s.thread c t
    let ctrl := Reg.pxcThrCtrl c t
    ((s.core c).initDone = true → th.st = .stopped → ∃ u, exec (.thrStart cc c t 1) s = .next u
      ∧ (u.thread c t).st = .run ∧ (u.thread c t).pc = th.pc ∧ (u.thread c t).monitor = true ∧ (u.thread c t).ie = false
      ∧ (u.thread c t).tcrAt IVEC = 0 ∧ (u.thread c t).part = th.part ∧ (u.thread c t).tres = th.tres ∧ (u.thread c t).s = th.s
      ∧ (∀ n j, 4 * n + j ≠ 4 * c.val + t.val → u.thread n j = s.thread n j) ∧ (∀ a, a ≠ ctrl → u.reg a = s.reg a))
    ∧ ((s.core c).initDone = false → ∃ u, exec (.thrStart cc c t 1) s = .next u ∧ bit (u.reg (Reg.pxcIrqStat c)) 9 = true
      ∧ ∀ n j, u.thread n j = s.thread n j)
    ∧ (th.st = .run → th.wait = .none → th.loads = [] → th.again = false → ∃ u, exec (.thrStop cc c t 2) s = .next u
      ∧ (queuedTensor s c t = none → (u.thread c t).st = .stopped ∧ (u.thread c t).bundle = [] ∧ (u.thread c t).s = th.s
        ∧ (u.thread c t).pc = th.pc))
    ∧ (th.st = .stopped → ∃ u, exec (.thrStep cc c t 32) s = .next u ∧ u.thread c t = { th with
        st := .run, wait := .none, bundle := [], started := false, once := true })
    ∧ ((∀ j : Fin 4, (s.thread c j).wait = .none) → ∃ u, exec (.thrDbg cc c t 16) s = .next u ∧ bit ((u.thread c t).tcrAt IP) 4 = true)
    ∧ (∃ u, exec (.coreIcinv cc c 0x100) s = .next u ∧ (u.core c).icLines = [] ∧ (∀ n, n ≠ c.val → u.core n = s.core n)
      ∧ u.thr = s.thr ∧ u.mem = s.mem)
    ∧ (∀ v : BitVec 32, (∀ j : Fin 4, (s.thread c j).wait = .none) → ∃ u, exec (.softwareInterruptSet cc c v) s = .next u
      ∧ ∀ j : Fin 4, (u.thread c j).tcrAt IP = setBit ((s.thread c j).tcrAt IP) 0 (v.getLsbD j || bit ((s.thread c j).tcrAt IP) 0))
    ∧ (∀ (who : Requester) (v : BitVec 32), (∀ j, who ≠ .cc j) →
      exec (.thrStart who c t v) s = .next s.busError ∧ exec (.thrStop who c t v) s = .next s.busError
      ∧ exec (.thrStep who c t v) s = .next s.busError ∧ exec (.thrDbg who c t v) s = .next s.busError
      ∧ exec (.coreIcinv who c v) s = .next s.busError ∧ exec (.softwareInterruptSet who c v) s = .next s.busError)

/-- The core's own events (R224, R238, R239, R241, R248): the timer becomes pending at TIMECMP, an enabled pending interrupt enters at a
bundle boundary with its cause, the scratchpad is zero once initialised, and a `ccwait` times out with 1 in rd; one of the alarm task
abandons its frame (R469).
Model's choices used: log 32, 203. -/
def Obligations.CoreEvents : Prop :=
  ∀ (s : State) (c : Fin 24) (k : Fin 4),
    let th := s.thread c k
    (th.wait = .none → (∀ j : Fin 4, (s.thread c j).wait = .none) → (th.tcrAt TIMECMP).toNat ≤ s.now →
      exec (.timecmpReached c k) s = .next (s.setThread c k (th.setTcr IP (setBit (th.tcrAt IP) 1 true))))
    ∧ (∀ i, th.st = .run → th.wait = .none → th.bundle = [] → th.loads = [] → th.started = false → th.once = false → th.todo = [] → th.due = none → th.ie = true
        → pendingIrq s th = some i →
        exec (.interruptEntry c k) s = .next (s.setThread c k (entered th (0x80 + i) 0 false)))
    ∧ ((s.dom c).st = .on → (s.core c).initDone = false → ∃ t, exec (.scratchpadInitDone c) s = .next t
        ∧ t.core c = { s.core c with initDone := true } ∧ t = { s with mem := t.mem, memb := { s.memb with poison := t.memb.poison }, cores := t.cores }
        ∧ ∀ a, let b := 0x11_0000_0000 + 0x10_0000 * c.val
          t.byte a = if b ≤ a ∧ a < b + 0x4_0000 then 0 else s.byte a)
    ∧ (∀ (x : Px) (rd rt : SReg) (cc : BitVec 6) (now : Nat), Ready s x → ccVal s x.core cc.toNat ≠ 0 → ((thr s x).sreg rt).toNat % 2 ^ 32 ≠ 0 →
        (∀ j : Fin 4, (s.thread x.core j).wait = .none) →
        ((thr s x).sreg rt).toNat % 2 ^ 32 * 100000 ≤ (now - s.now) * (s.island x.core).eff * 2525 → s.now ≤ now →
        ∃ t, exec (.ccwait x rd rt cc) s = .next t
          ∧ (taskOn { s with now := now } x.core = none →
              exec (.ccwaitTimeout x.core x.thread) { t with now := now } = .next { bundleDone s x (fun th => th.setS rd 1) with now := now })
          ∧ (taskOn { s with now := now } x.core = some .alarm → s.tram.abandonedAt = none → s.pkgs.warning = none → ∃ u,
              exec (.ccwaitTimeout x.core x.thread) { t with now := now } = .next u ∧ u.tram.abandonedAt = some now ∧ u.tram.reruns = []
              ∧ u.thr = (bundleDone s x (fun th => th.setS rd 1)).thr ∧ u.log = s.log ++ [.rule 469 now]))

/-! ### The tensor arrays and requantisation (chapters 8 and 9) -/

/-- The array serves the first waiting instruction of a TAR_PRIO thread, else the first (R315); a fresh one is checked (R303) and runs with
the quadrants of TAR_QMASK, or stops with its code in TAR_FAULT (R320, Table 8-10); a step is counted, `tload` fills table memory (R311),
completion counts the instruction and releases its thread (R304); the watchdog and slice errors stop it (R324, R326).
Model's choice used: log 39. -/
def Obligations.TensorArrays : Prop :=
  ∀ (s : State) (c : Fin 8),
    let x := s.tar c
    let prio (i : TInstr) := s.bitAt (Reg.tarPrio c) i.thread
    let stops (ins : TInstr) (u : State) (code tval : Nat) :=
      (u.tar c).run = none ∧ fld (u.reg (Reg.tarFault c)) 7 0 = code ∧ bit (u.reg (Reg.tarIrqStat c)) 0 = true
      ∧ (u.reg (Reg.tarFaultAddr c)).toNat = tval
      ∧ (let th := s.thread (coreOf c ins.thread) (ins.thread % 4)
         let uh := u.thread (coreOf c ins.thread) (ins.thread % 4)
         th.monitor = false ∨ th.ie = true → (uh.tcrAt CAUSE).toNat = (if 0x80 ≤ code then 0x0E else 0x0D) ∧ (uh.tcrAt TVAL).toNat = tval
           ∧ uh.pc = (th.tcrAt IVEC).toNat % 2 ^ 48 ∧ uh.tres = th.tres)
    (∀ i l r, x.queue = l ++ i :: r → (∀ j, j ∈ l → prio j = false) → (prio i = true ∨ (l = [] ∧ ∀ j, j ∈ r → prio j = false)) →
      x.initDone = true → x.run = none → i.resume = false → i.thread < 12 → i.op < 16 → i.desc < 2 ^ 48 →
      (s.thread (coreOf c i.thread) (i.thread % 4)).loads = [] → heldStores s (coreOf c i.thread) (i.thread % 4) = [] → heldByCommit s i = false → i ∉ l →
      let s1 := s.setTar c { x with queue := l ++ r }
      (checkCode s1 c i = none → exec (.tensorStart c) s = .next (s.setTar c { x with
          queue := l ++ r, qactive := s.fldAt (Reg.tarQmask c) 3 0
          run := some { ins := i, d := s.load (addrLocal i.desc) 128, qmask := s.fldAt (Reg.tarQmask c) 3 0, ob := 0, px := 0, tile := none
                        step := 0, tainted := false } }))
      ∧ (∀ code, checkCode s1 c i = some code → code ≠ 8 → ∃ u, exec (.tensorStart c) s = .next u ∧ stops i u code i.desc))
    ∧ (∀ r, x.run = some r →
      let o := topOf r.ins.op r.ins.fields r.d
      let core := coreOf c r.ins.thread
      let t := r.ins.thread % 4
      (o.op = 5 → r.ob = 0 → ∃ u, exec (.tensorStepDone c) s = .next u
        ∧ (u.tar c).run = some { r with ob := 1 } ∧ (u.tar c).tmValid = true
        ∧ (u.reg (Reg.tarSteps c)).toNat = min (2 ^ 32 - 1) ((s.reg (Reg.tarSteps c)).toNat + 1)
        ∧ (∀ k, k < o.inn.ch / 4 → get (fun _ => 0) (u.tar c).table (o.tblFirst + k) = BitVec.ofNat 32 (s.load (o.inn.base + 4 * k) 4))
        ∧ (∀ k, k < o.tblFirst ∨ o.tblFirst + o.inn.ch / 4 ≤ k → get (fun _ => 0) (u.tar c).table k = get (fun _ => 0) x.table k))
      ∧ (∀ p sb, o.op ≠ 5 → r.ob < outBlocks o → r.tile = some (p, sb) → (r.step + 1) * sb < (blocksOf o).length →
          wantsStop s core t = false → (∀ i, i ∈ x.queue → prio i = false) →
          exec (.tensorStepDone c) s = .next ((s.count (Reg.tarSteps c)).setTar c { x with run := some { r with step := r.step + 1 } }))
      ∧ (outBlocks o ≤ r.ob → o.rq = false → (∀ j : Fin 4, j.val ≠ t → (s.thread core j).wait = .none) → (s.thread core t).waitingLoads = [] → core < 24 →
          ∃ u, exec (.tensorComplete c) s = .next u ∧ (u.tar c).run = none ∧ (u.tar c).queue = x.queue
            ∧ (u.reg (Reg.tarInstr c)).toNat = min (2 ^ 32 - 1) ((s.reg (Reg.tarInstr c)).toNat + 1)
            ∧ (u.thread core t).wait = .none ∧ (u.thread core t).tres = false)
      ∧ (r.ins.thread < 12 → r.ins.op < 16 → (s.thread core t).loads = [] →
          (r.ins.desc < 2 ^ 48 → ∃ u, exec (.tensorWatchdog c) s = .next u ∧ stops r.ins u 0x86 r.ins.desc ∧ bit (u.reg (Reg.tarIrqStat c)) 4 = true
            ∧ (u.reg (Reg.tarWdog c)).toNat = min (2 ^ 32 - 1) ((s.reg (Reg.tarWdog c)).toNat + 1) ∧ (u.tar c).table = x.table)
          ∧ (∀ a : BitVec 48, ∃ u, exec (.tensorSliceError c true a) s = .next u ∧ stops r.ins u 0x85 a.toNat ∧ (u.tar c).tmValid = false
            ∧ bit (u.reg (Reg.tarIrqStat c)) 1 = true)
          ∧ ∀ a : BitVec 48, ∃ u, exec (.tensorSliceError c false a) s = .next u ∧ stops r.ins u 0x84 a.toNat))
    ∧ (∀ (k : Fin 4) (v : BitVec 32),
        (v.toNat % 16 ∈ [15, 3, 1] → exec (.tarQmaskWrite (.cc k) c v) s = .next ((s.answer 0).setReg (Reg.tarQmask c) (BitVec.ofNat 64 (v.toNat % 16))))
        ∧ (v.toNat % 16 ∉ [15, 3, 1] → exec (.tarQmaskWrite (.cc k) c v) s = .next (s.answer 0)))
    ∧ ((s.dom (24 + 4 * c.val)).st = .on → x.initDone = false →
        exec (.tableMemoryInitDone c) s = .next (s.setTar c { x with initDone := true, tmValid := false, table := [] }))

/-- A commit of scales is requested with QNT_COMMIT.GO for 1 to 256 records (R338, R353), taken once no listed instruction that has started
is left, and writes nothing but memory, its unit and its registers; one that cannot be read is abandoned with its error bit (R354). The
multiplier of a normal factor is exact (R337). -/
def Obligations.ScaleCommit : Prop :=
  (∀ (s : State) (c : Fin 8) (k : Fin 4) (v : BitVec 32) (e : Bool),
    let x := s.qu c
    let n := v.toNat % 512
    let at' := (s.reg (Reg.qntCommitList c)).toNat / 8 * 8
    (v.getLsbD 31 = true → 1 ≤ n → n ≤ 256 → ∃ t, exec (.quCommitRequest (.cc k) c v) s = .next t
      ∧ (t.qu c).commits = x.commits ++ [(List.range n).map (fun i => s.load (addrLocal at' + 8 * i) 8 % 2 ^ 48)]
      ∧ t.mem = s.mem ∧ ∀ j, j ≠ c.val → t.qu j = s.qu j)
    ∧ (v.getLsbD 31 = true → n = 0 ∨ 256 < n → ∃ t, exec (.quCommitRequest (.cc k) c v) s = .next t ∧ t.qus = s.qus
      ∧ bit (t.reg (Reg.qntIrqStat c)) 1 = true)
    ∧ (∀ recs rest, x.commits = recs :: rest → commitWaits s recs = false →
      ((recs.flatMap (withMirrors s)).all (fun r => readable s (addrLocal r) (recLen s r)) = true → ∃ t, exec (.quCommit c false) s = .next t
        ∧ t = { s with mem := t.mem, memb := { s.memb with poison := t.memb.poison }, regs := t.regs, qus := t.qus, log := t.log }
        ∧ (t.qu c).commits = rest ∧ (t.qu c).done = recs.length ∧ bit (t.reg (Reg.qntIrqStat c)) 0 = true
        ∧ (t.reg (Reg.qntCommits c)).toNat = min (2 ^ 32 - 1) ((s.reg (Reg.qntCommits c)).toNat + 1))
      ∧ (e = true → exec (.quCommit c e) s = .next ((s.setQu c { x with commits := rest }).raise (Reg.qntIrqStat c) 1))))
  ∧ ∀ rr, rr < 2 ^ 31 → 0 < fExp 32 rr → 95 ≤ fExp 32 rr → fExp 32 rr ≤ 158 →
      let (m, sh, lim) := multiplier rr
      lim = false ∧ toFix 32 rr * 2 ^ sh = m * 2 ^ 149 ∧ 2 ^ 31 ≤ m ∧ m < 2 ^ 32 ∧ sh ≤ 63

/-- Adaptation (R347 to R351, R490): it starts only under the conditions of R348 and stops when they cease to hold; at its end the night's steps are
accepted, or discarded and counted; every step keeps w8 and w16 within the clamps of R350, the sample store its bound; a maintenance command
clears every delta; a bad hash of the warning weights is kept.
Model's choice used: log 48. -/
def Obligations.Adaptation : Prop :=
  (∀ (s : State) (p : Package) (g : List Gradient) (v h : ErrorPair),
    let ad (f : Adapt → Adapt) := { s with adapt := f s.adapt }
    let good := v.adapted ≤ v.against + p.adapt.tol ∧ h.adapted ≤ h.against ∧ 6 * (p.heads.map (fun h => h.shipped.length)).sum ≤ 0x4_0000
    let l := night p (startTensors s p) g
    (adaptConditions s = true → s.tram.windows = [] ∧ s.cab.inputs.getLsbD 3 = false ∧ s.hld.phase ≠ .armed ∧ s.tram.stage = 0)
    ∧ (adaptConditions s = true → s.adapt.running = false → exec .adaptationStart s = .next (ad (fun a => { a with running := true })))
    ∧ (adaptConditions s = false → exec .adaptationStart s = .next s)
    ∧ (adaptConditions s = false → s.adapt.running = true → ∃ t, exec .adaptationStop s = .next t ∧ t.adapt = { s.adapt with running := false }
        ∧ t = { s with adapt := t.adapt, log := t.log })
    ∧ (s.adapt.running = true → s.pkgs.counting = some p → ∃ t, exec (.adaptationEnd g v h) s = .next t ∧ t.adapt.running = false
        ∧ (good → s.tram.windows = [] → t.adapt.deltas = l ∧ t.adapt.waiting = none)
        ∧ (good → s.tram.windows ≠ [] → t.adapt.deltas = s.adapt.deltas ∧ t.adapt.waiting = some l)
        ∧ (¬good → t.adapt = { s.adapt with running := false, rejections := s.adapt.rejections + 1 }))
    ∧ (s.sys.maintUp = true → ∃ t, exec (.deltaReset true) s = .next t ∧ t.adapt = { s.adapt with deltas := [], waiting := none }
        ∧ (s.pkgs.counting = none → t = ad (fun a => { a with deltas := [], waiting := none })))
    ∧ exec (.deltaReset false) s = .next s
    ∧ (s.pkgs.warning.isSome = true → ∃ t, exec (.weightHashCheck false) s = .next t ∧ t.adapt.hashBad = true))
  ∧ (∀ (a : Adapt) (d : List Byte), a.samples.length ≤ 16_384 → (storeSample a d).samples.length ≤ 16_384)
  ∧ ∀ (p : AdaptParams) (h : HeadTensor) (t : Trained) (g : List Nat),
      (∀ w : Int, w ∈ (adaptStep p h t g).w8 → -127 ≤ w ∧ w ≤ 127)
      ∧ ∀ (i : Nat) (w w0 : Int), (adaptStep p h t g).w16[i]? = some w → h.shipped[i]? = some w0 → (w0 - p.dmax) * 256 ≤ w ∧ w ≤ (w0 + p.dmax) * 256

/-! ### Engines and memories (chapter 10) -/

/-- A DMA descriptor (R372 to R374) whose destination lies in the engine's own slice, apart from its source and from the descriptor, and that
nothing stops: COPY and COPY2D copy every line, FILL repeats its pattern, DMA_BYTES grows by the bytes written, and no other byte
changes.
Model's choice used: log 49. -/
def Obligations.DmaMoves : Prop :=
  ∀ (s : State) (c : Fin 8),
    let e := entryAt s false c
    let n := dLine s e
    let lines := dLines s e
    let dst (l : Nat) := dDst s e + l * (if dOp s e = 1 then dDstStride s e else 0)
    let src (l : Nat) := dSrc s e + l * (if dOp s e = 1 then dSrcStride s e else 0)
    let free (a : Nat) : Prop := ownSlot s a = true ∧ sliceBase c ≤ addrLocal a ∧ addrLocal a < sliceBase c + 0x100_0000
      ∧ writeStop s false c a = none ∧ (addrLocal a < e ∨ e + 64 ≤ addrLocal a)
    mayStart s false c (fun _ => true) = true → (s.engine false c).bytes < 2 ^ 64 → dFault s false c e = none → (∀ l i, l < lines → i < n → free (dst l + i)) →
    (∀ l m i j, l < lines → m < lines → i < n → j < n → l ≠ m ∨ i ≠ j → addrLocal (dst l + i) ≠ addrLocal (dst m + j)) →
    let ends (i : Instr) (v : Nat → Nat → Byte) := ∃ t, exec i s = .next t
      ∧ (t.engine false c).phase = .confirming ∧ (t.engine false c).bytes = satAdd 64 (s.engine false c).bytes (lines * n)
      ∧ (∀ l j, l < lines → j < n → t.byte (addrLocal (dst l + j)) = v l j)
      ∧ (∀ a, (∀ l j, l < lines → j < n → a ≠ addrLocal (dst l + j)) → t.byte a = s.byte a)
    let copies := (∀ l o k, l < lines → o + k ≤ n → 0 < k → readStop s (src l + o) k = none)
      ∧ ∀ l m i j, l < lines → m < lines → i < n → j < n → addrLocal (dst l + i) ≠ addrLocal (src m + j)
    (dOp s e = 0 → copies → ends (.dmaCopy c) (fun l j => s.byte (addrLocal (src l + j))))
    ∧ (dOp s e = 1 → copies → ends (.dmaCopy2d c) (fun l j => s.byte (addrLocal (src l + j))))
    ∧ (dOp s e = 2 → ends (.dmaFill c) (fun _ j => s.byte (e + 40 + j % 8)))

/-- The course of a descriptor (R371 to R374, R382): a wake by TAIL or doorbell; a halo line within one block leaves as one WRITE packet;
completion writes status 1, clears VALID, counts, signals and interrupts as the flags say; a confirmation that is late is error 0x07 and
halts the engine until RESUME; a bad descriptor ends with its code. -/
def Obligations.EngineCourse : Prop :=
  ∀ (s : State) (c : Fin 8) (h : Bool),
    let x := s.engine h c
    let e := entryAt s h c
    let status (t : State) (v : Nat) := (t.byte (e + 2)).toNat = v ∧ (t.byte (e + 1)).toNat = (s.byte (e + 1)).toNat / 2 * 2
      ∧ (t.engine h c).head = (x.head + 1) % x.size ∧ (t.engine h c).phase = .idle ∧ ∀ a, a ≠ e + 1 → a ≠ e + 2 → t.byte a = s.byte a
    let failed (t : State) (code : Nat) := status t (0x80 + code) ∧ (t.engine h c).halted = true ∧ (t.engine h c).lastErr = code
      ∧ bit (t.reg (Reg.dmaIrqStat c)) (if h then 3 else 1) = true
      ∧ (t.reg (Reg.dmaErrors c)).toNat = min (2 ^ 32 - 1) ((s.reg (Reg.dmaErrors c)).toNat + 1) ∧ t.fab = s.fab
    (∀ (k : Fin 4) (v : BitVec 32), x.size ≠ 0 → dFlag s e 0 = true → ∃ t, exec (.dmaWake c h (some (.cc k)) v) s = .next t
      ∧ t.reg (tailReg h c) = v.setWidth 64 ∧ (t.engine h c).awake = true ∧ t.mem = s.mem)
    ∧ (x.size ≠ 0 → dFlag s e 0 = true → ∃ t, exec (.dmaWake c h none 0) s = .next t ∧ (t.engine h c).awake = true ∧ t.regs = s.regs)
    ∧ (x.phase ≠ .idle → confirmed s h c = true → ∃ t, exec (.dmaDescriptorDone c h) s = .next t ∧ status t 1
      ∧ (let r := if h then Reg.haloDescDone c else Reg.dmaDescDone c
         (t.reg r).toNat = min (2 ^ 32 - 1) ((s.reg r).toNat + 1))
      ∧ (dFlag s e 3 = true → bit (t.reg (Reg.dmaIrqStat c)) (if h then 2 else 0) = true)
      ∧ (dFlag s e 5 = false → t.fab = s.fab)
      ∧ (dFlag s e 5 = true → ∃ p, Enters s t p ∧ p.ptype = 6 ∧ p.ccEn = true ∧ p.payload = []
          ∧ p.dst = BitVec.ofNat 12 (s.load (e + 4) 2) ∧ p.cc = BitVec.ofNat 6 (s.load (e + 6) 1)
          ∧ p.vc = (if dUrgent s c e then 2 else 0)))
    ∧ (x.phase ≠ .idle → confirmed s h c = false → s.past x.sentAt (1000 * s.fldAt (Reg.dmaCfg c) 15 0) = true →
        ∃ t, exec (.dmaConfirmTimeout c h) s = .next t ∧ failed t 7)
    ∧ (h = false → mayStart s false c (fun op => op = 0) = true → ∀ code, dFault s false c e = some code →
        ∃ t, exec (.dmaCopy c) s = .next t ∧ failed t code)
    ∧ (h = true → mayStart s true c (fun _ => true) = true → dFault s true c e = none → dLines s e = 1 → dFlag s e 2 = false → dFlag s e 1 = false →
        dFlag s e 4 = false → 0 < dLine s e → dDst s e % 128 + dLine s e ≤ 128 → readStop s (dSrc s e) (dLine s e) = none →
        writeStop s true c (dDst s e) = none →
        let moved (i : Instr) := ∃ t p, exec i s = .next t ∧ Enters s t p ∧ p.ptype = 0 ∧ p.vc = 0
          ∧ p.addr = BitVec.ofNat 48 (dDst s e) ∧ p.payload = s.bytes (addrLocal (dSrc s e)) (dLine s e) ∧ p.src = ownEid s (0x028 + c)
          ∧ (t.engine true c).phase = .confirming ∧ t.mem = s.mem
        (dOp s e = 0 → moved (.haloCopy c)) ∧ (dOp s e = 1 → moved (.haloCopy2d c)))
    ∧ (∀ k : Fin 4, (∃ t, exec (.dmaResume (.cc k) c 0x101) s = .next t ∧ (t.engine false c).halted = false ∧ bit (t.reg (Reg.dmaCtrl c)) 0 = true
          ∧ t.engine true c = s.engine true c)
        ∧ ∃ t, exec (.haloResume (.cc k) c 0x201) s = .next t ∧ (t.engine true c).halted = false ∧ t.engine false c = s.engine false c)

/-- The memories (R362, R381, R383, R385): MAP changes only while its bank groups are OFF, a scrubber leaves what it cannot correct
poisoned, logged and counted, a bank group that reached ON is zero and READY, a channel that loses training serves no more.
Model's choice used: log 51. -/
def Obligations.MemoryTier : Prop :=
  ∀ (s : State),
    (∀ (k : Fin 4) (c : Fin 8) (v : BitVec 32),
      let off := ∀ g, g < 8 → (s.dom (56 + 8 * c.val + g)).st = .off
      let same := v.getLsbD 0 = linearMap s c
      (same ∨ off → ∃ t, exec (.sliceMapWrite (.cc k) c v) s = .next t ∧ RegsOnly (s.answer 0) t [Reg.memSliceCfg c]
        ∧ linearMap t c = v.getLsbD 0 ∧ bit (t.reg (Reg.memSliceCfg c)) 1 = v.getLsbD 1)
      ∧ (¬same → ¬off → ∃ t, exec (.sliceMapWrite (.cc k) c v) s = .next t ∧ linearMap t c = linearMap s c
        ∧ bit (t.reg Reg.memIrqStat) 4 = true))
    ∧ (∀ (g : Fin 64) (n : Nat) (u : List Nat), groupUp s (g / 8) (g % 8) = true → (∀ a, a ∈ u → targetOf s a = .sram (g / 8) (g % 8)) →
        s.past (scrubTime s g) (10_000_000 * s.fldAt Reg.memScrub 15 0) = true → ∃ t, exec (.sramScrub g n u) s = .next t
        ∧ (∀ a, a ∈ u → t.poisoned a = true) ∧ t.mem = s.mem ∧ (u ≠ [] → bit (t.reg Reg.memIrqStat) 2 = true)
        ∧ (t.reg Reg.memSramUe).toNat = min (2 ^ 32 - 1) ((s.reg Reg.memSramUe).toNat + u.length)
        ∧ (t.reg Reg.memSramCe).toNat = min (2 ^ 32 - 1) ((s.reg Reg.memSramCe).toNat + n))
    ∧ (∀ (ch : Fin 4) (n : Nat) (u : List Nat), channelUp s ch = true → (∀ a, a ∈ u → targetOf s a = .dram ch) →
        s.past (scrubTime s (64 + ch)) (3_600_000_000_000 * s.fldAt Reg.memScrub 31 16) = true → ∃ t, exec (.dramScrub ch n u) s = .next t
        ∧ (∀ a, a ∈ u → t.poisoned a = true) ∧ t.mem = s.mem ∧ (u ≠ [] → bit (t.reg Reg.memIrqStat) 2 = true)
        ∧ (t.reg Reg.memScrubPasses).toNat = min (2 ^ 32 - 1) ((s.reg Reg.memScrubPasses).toNat + 1))
    ∧ (∀ g : Fin 64, (s.dom (56 + g)).st = .on → groupUp s (g / 8) (g % 8) = false → ∃ t, exec (.bankGroupInitDone g) s = .next t
        ∧ groupUp t (g / 8) (g % 8) = true
        ∧ ∀ a, t.byte a = if targetOf s a = .sram (g / 8) (g % 8) then 0 else s.byte a)
    ∧ (∀ ch : Fin 4, channelUp s ch = true → ∃ t, exec (.ddrTrainingLost ch) s = .next t ∧ channelUp t ch = false
        ∧ bit (t.reg Reg.memIrqStat) 3 = true ∧ t.mem = s.mem)

/-! ### The machine as a whole -/

/-- Reset (R203, R249, R384, R439, and the tables' reset values): no command waits, every domain is OFF and the locked ones have the target
ON, threads are STOPPED, the engines idle with empty rings, the registers named hold the values of their tables, the outputs are released;
the canonical forms hold.
Model's choices used: log 6, 7, 8. -/
def Obligations.AfterReset : Prop :=
  Inv State.reset ∧ State.reset.pending = []
  ∧ (∀ d, d < 177 → (State.reset.dom d).st = .off ∧ ((State.reset.dom d).target = 1 ↔ (120 ≤ d ∧ d ≤ 125) ∨ d = 133 ∨ (161 ≤ d ∧ d ≤ 164) ∨ (173 ≤ d ∧ d ≤ 175)))
  ∧ (∀ n t, (State.reset.thread n t).st = .stopped ∧ (State.reset.core n).initDone = false)
  ∧ (∀ c : Fin 8, (∀ h, State.reset.engine h c = { phase := .idle, awake := false, size := 0, head := 0, halted := false, lastErr := 0, bytes := 0, sentAt := 0 })
      ∧ State.reset.reg (Reg.dmaCtrl c) = 1 ∧ State.reset.reg (Reg.dmaCfg c) = 1000 ∧ State.reset.reg (Reg.memSliceCfg c) = 0
      ∧ State.reset.reg (Reg.tarQmask c) = 0xF ∧ (State.reset.tar c).queue = [])
  ∧ State.reset.reg Reg.memScrub = BitVec.ofNat 64 (24 * 65536 + 100) ∧ State.reset.reg Reg.sysRstCause = 1
  ∧ (∀ k, k < 64 → ccVal State.reset 0 k = 0) ∧ State.reset.fab.net = [] ∧ commanded State.reset false = false ∧ cutClosed State.reset = false

/-- Model's choice: on an empty queue 1 ns of Thyme's local time passes and nothing else changes.
Model's choice used: log 1. -/
def Obligations.IdleTick : Prop := ∀ s : State, s.pending = [] → step s = .next { s with now := s.now + 1 }

/-- Every step from a state of the invariant answers a next state of the invariant: no fault, no refusal, memory and registers in their
canonical forms, and every waiting command well-formed. -/
def Obligations.StepKeepsInv : Prop := ∀ s : State, Inv s → ∃ t, step s = .next t ∧ Inv t

/-- Every command of the table answers a next state in every state, one that is not well-formed too: no command faults and none is refused.
Model's choice used: log 153. -/
def Obligations.EveryCommandAnswers : Prop :=
  ∀ (c : Instr) (s : State), ∃ t, exec c s = .next t

/-- Access to control space (R7, R8, R10, R396) and of a control core beyond it (R376, R377, R465): an access that does not fit, or that its requester
may not make, is an access error and changes nothing; a plain write sets the RW bits and clears the W1C bits it names; a read answers what
the register shows and clears it where it is RC; a reserved register reads as zero and discards writes. A page fault and an access fault of
Sv48 change nothing; `time` and `stimecmp` are reached; what a control core stores in DRAM it reads back.
Model's choices used: log 3, 9, 10, 11, 197, 199. -/
def Obligations.RegisterAccess : Prop :=
  ∀ (s : State) (who : Requester) (va v : Word) (priv : Priv) (size a : Nat) (n : Fin 4),
    let wr := exec (.registerWrite who (.addr va priv) size v) s
    let rd := exec (.registerReadClear who (.addr va priv) size) s
    let own := addrSlot a = s.fab.slot ∧ inControl (addrLocal a) = true
    let l := addrLocal a
    (physical s who va.toNat priv true = .pa a → own →
      (fits l size = false ∨ mayWrite who l = false → wr = .next s.busError)
      ∧ (∀ r, fits l size = true → mayWrite who l = true → regAt l = some r →
        specialWrite (s.answer 0) l (if r.wide then v.toNat else v.toNat % 2 ^ 32) = none →
        (∀ t, afterWrite t l = t) → r.rw < 2 ^ 64 → r.w1c < 2 ^ 64 →
        ∃ t, wr = .next t ∧ RegsOnly (s.answer 0) t [l]
          ∧ ∀ i, i < 64 → bit (t.reg l) i =
              if r.w1c.testBit i = true ∧ bit v i = true then false else if r.rw.testBit i = true then bit v i else bit (s.reg l) i)
      ∧ (fits l size = true → mayWrite who l = true → regAt l = none → wr = .next (s.answer 0)))
    ∧ (physical s who va.toNat priv false = .pa a → own →
      (fits l size = false ∨ reaches who l = false → rd = .next s.busError)
      ∧ (fits l size = true → reaches who l = true → regAt l = none → rd = .next (s.answer 0)))
    ∧ (s.busError.bus = { value := 0, error := true, page := false } ∧ s.busError = { s with bus := s.busError.bus })
    ∧ (∀ (c : Fin 8) (k : Fin 4), (ctlCore s k).satp = 0 → s.fab.slot = 0 →
        (∃ t, exec (.registerReadClear (.cc k) (.addr (BitVec.ofNat 64 (Reg.dmaErrors c)) priv) 4) s = .next t
          ∧ t.bus = { value := s.reg (Reg.dmaErrors c), error := false, page := false } ∧ t.reg (Reg.dmaErrors c) = 0)
        ∧ exec (.registerReadClear (.cc k) (.addr (BitVec.ofNat 64 (Reg.dmaCfg c)) priv) 4) s = .next (s.answer (s.reg (Reg.dmaCfg c))))
    ∧ (physical s who va.toNat priv true = .page → wr = .next s.pageFault) ∧ (physical s who va.toNat priv true = .access → wr = .next s.busError)
    ∧ (physical s who va.toNat priv false = .page → rd = .next s.pageFault) ∧ (physical s who va.toNat priv false = .access → rd = .next s.busError)
    ∧ (exec (.registerReadClear (.cc n) (.csr .time) size) s = .next (s.answer (BitVec.ofNat 64 (s.now / 10)))
      ∧ exec (.registerWrite (.cc n) (.csr .time) size v) s = .next s.busError
      ∧ ∃ t, exec (.registerWrite (.cc n) (.csr .stimecmp) size v) s = .next t ∧ t = { s.answer 0 with ctl := t.ctl } ∧ (ctlCore t n).stimecmp = v
        ∧ (timerPending t n = true ↔ v.toNat ≤ s.now / 10 % 2 ^ 64))
    ∧ (∀ ch, who = .cc n → size ∈ [1, 2, 4, 8] → s.ctl.lines = [] → addrSlot a = s.fab.slot → targetOf s l = .dram ch →
        (∀ c, c < 4 → channelUp s c = true) → (∀ b, s.poisoned b = false) → a % size = 0 →
        (physical s who va.toNat priv true = .pa a → ∃ t, wr = .next t ∧ ctlLoad t l size = v.toNat % 2 ^ (8 * size) ∧ t.mem = s.mem
          ∧ t.bus = { value := 0, error := false, page := false })
        ∧ (physical s who va.toNat priv false = .pa a → ∃ t, rd = .next t ∧ t.mem = s.mem
          ∧ t.bus = { value := BitVec.ofNat 64 (s.load l size), error := false, page := false }))

/-! ### The fabric and the Itard link (chapter 5) -/

/-- WRITE, READ_REQ and ATOMIC at the endpoint that an address names (R163, R165, R172, R175, R176, R191, R200): the payload is stored and the
counter falls, the bytes or the old value go back with the request's tag, what is turned away is answered with ERR. A packet of any row that
is malformed, of a reserved TYPE, or lost in a router buffer is counted and has no other effect; one with a bad CRC is counted at its
destination. -/
def Obligations.FabricRequests : Prop :=
  ∀ (s : State) (p : Packet),
    let i := localIndex p.dst
    let a := addrLocal p.addr.toNat
    let u := offFabric s p
    let own := slotOf p.src = s.fab.slot
    let sr := if own then noteAsked s (localIndex p.src) p.seq.toNat (some p.flow.toNat) else s
    let ur := offFabric sr p
    let any (c : Instr) := c ∈ [.write p, .readReq p, .readResp p, .atomic p, .atomicResp p, .msg p, .signal p, .mgmt p] ∧ wellFormed c = true
    (p.ptype = 0 → Arrives s p → i ≠ 0x03C → accessError u i (writerOf u p) a p.payload.length true = none → ∃ t, exec (.write p) s = .next t
      ∧ (∀ k, k < p.payload.length → t.byte (a + k) = p.payload.getD k 0)
      ∧ (∀ b, b < a ∨ a + p.payload.length ≤ b → t.byte b = s.byte b)
      ∧ (p.ccEn = false → t = { u with mem := t.mem, memb := { s.memb with poison := t.memb.poison } })
      ∧ (p.ccEn = true → 24 ≤ i → ccVal t i p.cc.toNat = ccVal s i p.cc.toNat - 1
          ∧ (ccVal s i p.cc.toNat = 0 → bit (t.reg Reg.fabEvtStat) 4 = true)))
    ∧ (p.ptype = 1 → Arrives sr p → accessError ur i (writerOf ur p) a (32 * p.flow.toNat) false = none →
        ∃ q, exec (.readReq p) s = .next (ur.inject q) ∧ q.ptype = 2 ∧ q.dst = p.src ∧ q.src = p.dst ∧ q.seq = p.seq ∧ q.addr = p.addr
          ∧ q.err = false ∧ q.vc = (if p.vc = 2 then 2 else 1) ∧ q.ccEn = p.ccEn ∧ q.cc = p.cc ∧ q.payload = s.bytes a (32 * p.flow.toNat))
    ∧ (p.ptype = 1 → Arrives sr p → ∀ w, accessError ur i (writerOf ur p) a (32 * p.flow.toNat) false = some w →
        ∃ q, exec (.readReq p) s = .next (w.inject q) ∧ q.ptype = 2 ∧ q.err = true ∧ q.payload = [] ∧ q.ccEn = p.ccEn ∧ q.cc = p.cc
          ∧ q.dst = p.src ∧ q.seq = p.seq)
    ∧ (p.ptype = 3 → Arrives s p → accessError u i (writerOf u p) a 8 true = none → accessError u i (writerOf u p) a 8 false = none →
        ∀ op x y, atomicFields p.payload = some (op, x, y) →
        let old := BitVec.ofNat 64 (s.load a 8)
        ∃ (t : State) (q : Packet), exec (.atomic p) s = .next (t.inject q) ∧ t.load a 8 = (amoResult op old x y).toNat
          ∧ (∀ b, b < a ∨ a + 8 ≤ b → t.byte b = s.byte b) ∧ q.ptype = 4 ∧ q.dst = p.src ∧ q.seq = p.seq ∧ ofBytes (q.payload.take 8) = old.toNat)
    ∧ (∀ c, any c → Alone s p → wellFormedPacket p = false → ∃ t, exec c s = .next t ∧ Counted s t Reg.fabMalformed 1
        ∧ bit (t.reg Reg.fabEvtStat) 0 = true ∧ t.log = s.log ++ [.malformed (headerBytes p)] ∧ t.mem = s.mem
        ∧ t.fab = { u.fab with asked := t.fab.asked })
    ∧ (∀ c, any c → p.uncorrectable = true → p.corrected = 0 → holdsSince s (localIndex p.src) = none → ∃ t, exec c s = .next t
        ∧ Counted s t Reg.fabEccUe 1 ∧ bit (t.reg Reg.fabEvtStat) 5 = true ∧ t.mem = s.mem)
    ∧ (p.ptype = 0 → Reaches s p → p.crc ≠ packetCrc p → ∃ t, exec (.write p) s = .next t
        ∧ Counted s t Reg.fabCrcErr 1 ∧ bit (t.reg Reg.fabEvtStat) 1 = true ∧ t.mem = s.mem ∧ t.fab = u.fab)

/-- Other arrivals (R163, R175, R178, R225, R371): a READ_RESP fills the register that waits for it, an ATOMIC_RESP ends the wait of its
thread, a SIGNAL decrements or wakes an engine, a MSG in order joins its mailbox, a MGMT packet of the manager reaches tables and counters. The
counter and routing registers (R167, R177, R183): FAB_CC_SET and FAB_CC_ADD act on the counter selected and on no other, SET less the
decrement of an arrival of the same time, FAB_RT_DATA writes the entry
selected, FAB_RT_REMOTE the entry of an EID in all 36 routers.
Model's choices used: log 56, 60, 71. -/
def Obligations.FabricArrivals : Prop :=
  (∀ (s : State) (p : Packet), Arrives s p →
    let i := localIndex p.dst
    let u := offFabric s p
    let v := noteAsked u i p.seq.toNat none
    (p.ptype = 2 → NoWait s → p.err = false → p.ccEn = false → p.len = 1 → askedFor s i p.seq.toNat = none ∨ askedFor s i p.seq.toNat = some 1 → ∀ (c : Fin 24) (k : Fin 4) (d : Fin 64) (a : Nat), i = c.val → (∀ j, j ≠ k.val → (s.thread c j).loads = []) →
        (s.thread c k).st = .run → (s.thread c k).loads = [{ tag := p.seq.toNat, addr := a, size := 8, dst := .s d false, err := false }] →
        exec (.readResp p) s = .next (v.setThread c k ({ s.thread c k with loads := [] }.setS d
          (BitVec.ofNat 64 (ofBytes p.payload / 2 ^ (8 * (a % 32)) % 2 ^ 64)))))
    ∧ (p.ptype = 2 → 24 ≤ i → i < 0x038 ∨ 0x03C ≤ i → p.ccEn = false → askedFor s i p.seq.toNat = some p.len.toNat → exec (.readResp p) s = .next v)
    ∧ (p.ptype = 6 → p.ccEn = true → 24 ≤ i → i < 0x020 ∨ 0x030 ≤ i → i < 0x050 ∨ 0x090 ≤ i → ∃ t, exec (.signal p) s = .next t
        ∧ ccVal t i p.cc.toNat = ccVal s i p.cc.toNat - 1 ∧ (∀ e k, ccKey e ≠ ccKey i ∨ k ≠ p.cc.toNat → ccVal t e k = ccVal s e k) ∧ t.mem = s.mem)
    ∧ (p.ptype = 6 → p.cc = 63 → ∀ c : Fin 8, i = 0x020 + c ∨ i = 0x028 + c → ∃ t, exec (.signal p) s = .next t
        ∧ (t.engine (decide (0x028 ≤ i)) c).awake = true ∧ t.fab.cc = s.fab.cc)
    ∧ (p.ptype = 5 → NoWait s → p.ccEn = false → ∀ m : Fin 256, i = 0x100 + m →
        let f := get flowInReset (s.box m).flows (p.src.toNat * 256 + p.flow.toNat)
        f.held = [] → f.next = p.seq.toNat → ∃ t, exec (.msg p) s = .next t ∧ (t.box m).queue = (s.box m).queue ++ [p]
          ∧ (get flowInReset (t.box m).flows (p.src.toNat * 256 + p.flow.toNat)).next = (p.seq.toNat + 1) % 65536 ∧ t.thr = s.thr ∧ t.mem = s.mem)
    ∧ (p.ptype = 11 → p.ccEn = false → localIndex p.src ≠ 0x038 → exec (.mgmt p) s = .next u)
    ∧ (p.ptype = 11 → p.ccEn = false → localIndex p.src = 0x038 →
        let b (j n : Nat) : Nat := ofBytes ((p.payload.drop j).take n)
        let e := BitVec.ofNat 12 (b 2 2)
        (b 0 1 = 1 → b 1 1 < 36 → ∃ t, exec (.mgmt p) s = .next t ∧ t = { u with fab := { u.fab with routes := t.fab.routes } }
          ∧ routeAt t (b 1 1) e = (routeAt u (b 1 1) e &&& 0x87) ||| (BitVec.ofNat 8 (b 4 2) &&& 0x78))
        ∧ (b 0 1 = 2 → b 1 1 < 36 → ∃ t q, exec (.mgmt p) s = .next (State.inject t q) ∧ t.regs = s.regs ∧ q.ptype = 11 ∧ q.dst = p.src
          ∧ (q.payload.drop 4).take 4 = bytesOf 4 (routeAt u (b 1 1) e).toNat)
        ∧ (b 0 1 = 3 → b 1 1 < 9 → let r := Reg.fabMalformed + 4 * b 1 1
          ∃ t q, exec (.mgmt p) s = .next (State.inject t q) ∧ t.reg r = 0 ∧ q.ptype = 11 ∧ q.dst = p.src
          ∧ (q.payload.drop 4).take 4 = bytesOf 4 (s.reg r).toNat))
    ∧ (p.ptype = 4 → 24 ≤ i → p.ccEn = false → exec (.atomicResp p) s = .next u)
    ∧ (p.ptype = 4 → p.err = false → p.ccEn = false → ∀ (c : Fin 24) (k : Fin 4) (a d : Nat), i = c.val → (s.thread c k).wait = .atomic p.seq.toNat a d →
        (s.thread c k).st = .run → (s.thread c k).bundle = [] → (s.thread c k).todo = [] → (s.thread c k).due = none → (∀ j : Fin 4, j ≠ k → (s.thread c j).wait = .none) →
        exec (.atomicResp p) s = .next (u.setThread c k ({ s.thread c k with wait := .none }.setS d (BitVec.ofNat 64 (ofBytes (p.payload.take 8)))))))
  ∧ (∀ (s : State) (k : Fin 4) (v : BitVec 32),
    let i := s.fldAt Reg.fabCcSel 8 0
    let cc := s.fldAt Reg.fabCcSel 14 9
    let counts (c : Instr) (w : BitVec 32) := ∃ t, exec c s = .next t ∧ ccVal t i cc = w
      ∧ (∀ e j, ccKey e ≠ ccKey i ∨ j ≠ cc → ccVal t e j = ccVal s e j) ∧ t = { s.answer 0 with fab := { s.fab with cc := t.fab.cc } }
    let hit := get (fun _ => none) (s.ccSet (ccKey i)).hitAt cc
    (24 ≤ i → (hit ≠ some s.now → counts (.fabCcSet (.cc k) v) v) ∧ counts (.fabCcAdd (.cc k) v) (ccVal s i cc + v)
      ∧ (hit = some s.now → ∃ t, exec (.fabCcSet (.cc k) v) s = .next t ∧ ccVal t i cc = v - 1))
    ∧ (let n := s.fldAt Reg.fabRtSel 5 0
       let e := BitVec.ofNat 12 (s.fldAt Reg.fabRtSel 17 6)
       n < 36 → ∃ t, exec (.fabRtDataWrite (.cc k) v) s = .next t ∧ routeAt t n e = v.setWidth 8
         ∧ (∀ m j, routeKey s m j ≠ routeKey s n e → routeAt t m j = routeAt s m j) ∧ t = { s.answer 0 with fab := { s.fab with routes := t.fab.routes } })
    ∧ (∃ t, exec (.fabRtRemoteWrite (.cc k) v) s = .next t ∧ (∀ n, n < 36 → routeAt t n (v.setWidth 12) = (v >>> 12).setWidth 8)
        ∧ t = { s.answer 0 with fab := { s.fab with routes := t.fab.routes } }))

/-- The Itard transport (R184 to R186, R202, R204): a packet between START and END that comes whole and in sequence is taken and acknowledged, one that does
not is discarded with a NAK; an ACK frees the replay buffer up to its number and gives credits, a NAK replays from it and the eighth in a row
retrains; a port that goes DOWN loses its queues, and one with EN set trains whenever a device appears.
Model's choice used: log 62. -/
def Obligations.ItardTransport : Prop :=
  ∀ (s : State) (f g : Fin 2) (p : Packet) (n : BitVec 10) (k : Fin 4) (l0 l1 : List Block) (cr : Credits),
    let x := s.port f
    let down (t : State) := (t.port f).st = .down ∧ (t.port f).txq = [] ∧ (t.port f).replay = [] ∧ (t.port f).rxSeq = 0 ∧ t.port (1 - f.val) = s.port (1 - f.val)
    let empty := x.txq = [] ∧ x.txWait = [] ∧ x.hold = false
    (x.st ≠ .up → exec (.itardPacketReceived f g l0 l1) s = .next s)
    ∧ (x.st = .up → lineFrom g l0 l1 = linkBlocks n p → n.toNat ≠ x.rxSeq → exec (.itardPacketReceived f g l0 l1) s = .next (s.setPort f { x with nak := some x.rxSeq }))
    ∧ (x.st = .up → ∀ a b h, lineFrom g l0 l1 = .start p.vc n :: a ++ .bad h :: b ++ [.stop n] → (∀ y, y ∈ a ++ b → ∃ w, y = .data w) →
        exec (.itardPacketReceived f g l0 l1) s = .next (s.setPort f { x with nak := some x.rxSeq }))
    ∧ (x.st = .up → lineFrom g l0 l1 = linkBlocks n p → n.toNat = x.rxSeq → wellFormedPacket p = true → p.crc ≠ packetCrc p → ∃ t,
        exec (.itardPacketReceived f g l0 l1) s = .next t ∧ Counted s t (Reg.itdCrcErr f) 1 ∧ t.fab.net = s.fab.net ∧ t.mem = s.mem
          ∧ t.port f = { x with nak := some x.rxSeq, mapCrc := x.mapCrc + 1 })
    ∧ (x.st = .up → lineFrom g l0 l1 = linkBlocks n p → n.toNat = x.rxSeq → p.crc = packetCrc p → wellFormedPacket p = true → p.corrected = 0 → p.uncorrectable = false →
        slotOf p.src ≠ s.fab.slot → slotOf p.dst = s.fab.slot → s.fab.known = true →
        p.vc.toNat ≤ 1 → x.vc3Only = false → s.bitAt (Reg.itdCtrl f) 1 = false → (s.learned p.src).st ≠ 2 → takesFromItard s p = true →
        ∃ t, exec (.itardPacketReceived f g l0 l1) s = .next t ∧ t.fab.net = s.fab.net ++ [p] ∧ (t.port f).rxSeq = (x.rxSeq + 1) % 1024
          ∧ (x.unacked < 15 → (t.port f).unacked = x.unacked + 1)
          ∧ (x.unacked = 15 → (t.port f).unacked = 0 ∧ (t.port f).lastAck = some ((x.rxSeq + 1 + 1023) % 1024))
          ∧ t.mem = s.mem ∧ t.regs = s.regs)
    ∧ (∀ l r q, x.replay = l ++ (n.toNat, q) :: r → (∀ e, e ∈ l → e.1 ≠ n.toNat) →
        (empty → exec (.itardAck f ⟨n, cr⟩) s = .next (s.setPort f { x with replay := r, replays := 0, credits := gainCredit x.credits cr }))
        ∧ (x.st = .up → ∃ t, exec (.itardNak f n) s = .next t ∧ Counted s t (Reg.itdReplay f) 1 ∧ (t.port f).replay = (n.toNat, q) :: r
          ∧ (l = [] → x.replays = 7 → (t.port f).st = .retrain ∧ Counted s t (Reg.itdRetrain f) 1)
          ∧ (l = [] → x.replays ≠ 7 → (t.port f).st = .up ∧ (t.port f).replays = x.replays + 1)))
    ∧ (x.st = .retrain → empty → exec (.itardRetrainDone f true) s = .next (s.setPort f { x with st := .up }))
    ∧ (x.st = .retrain → s.fab.inaug = .settled → Calm s → (∃ t, exec (.itardRetrainDone f false) s = .next t ∧ down t)
        ∧ ∃ t, exec (.itardPortDown f .retrainFailed) s = .next t ∧ down t)
    ∧ (x.unacked ≠ 0 → s.past x.ackAt 2000 = true → exec (.itardAckTimer f) s = .next (s.setPort f { x with
        unacked := 0, ackAt := s.now, lastAck := some ((x.rxSeq + 1023) % 1024) }))
    ∧ (∀ v : BitVec 32, s.bitAt (Reg.itdCtrl f) 0 = false → v.getLsbD 0 = true → ∃ t, exec (.itdPortEnable (.cc k) f v) s = .next t
        ∧ (t.port f).st = .training ∧ bit (t.reg (Reg.itdCtrl f)) 0 = true ∧ (s.fab.inaug ≠ .settled → t.fab.inaug = .training))
    ∧ (s.fab.inaug = .settled → x.st = .training ∨ (x.st = .down ∧ s.bitAt (Reg.itdCtrl f) 0 = true) → ∀ skew,
        (skew ≤ 32 → ∃ t, exec (.itardTrainingEnd f (some skew)) s = .next t ∧ (t.port f).st = .up ∧ (t.port f).vc3Only = true
          ∧ (t.port f).rxSeq = 0 ∧ t.fab.slot = s.fab.slot)
        ∧ (32 < skew → ∃ t, exec (.itardTrainingEnd f (some skew)) s = .next t ∧ (t.port f).st = .down ∧ (t.port f).openEnd = true))
    ∧ (s.fab.inaug = .settled → x.st = .training → exec (.itardTrainingEnd f none) s = .next (s.setPort f { x with st := .down, openEnd := true }))

/-- Inauguration and learning (R188, R189, R203 to R205): a device without a neighbour is slot 0 of a set of one; once both sides are known the
slot counts from the open end of the lower ID, and a closed chain or more than eight devices fail; 100 ms later learning ends, FAB_GEN rises and the ports
carry every channel; a write of a learn entry and the end of its suppression.
Model's choices used: log 14, 57, 58. -/
def Obligations.Inauguration : Prop :=
  ∀ (s : State) (f : Fin 2) (p : Packet) (k : Fin 4) (v : BitVec 32),
    (v.getLsbD 8 = true → (∀ j : Fin 2, (s.port j).st = .down ∧ s.bitAt (Reg.itdCtrl j) 0 = false) → ∃ t, exec (.fabInaugStart (.cc k) v) s = .next t
      ∧ t.fab.slot = 0 ∧ t.fab.setSize = 1 ∧ t.fab.inaug = .learning ∧ t.fab.inaugAt = s.now ∧ t.fab.learn = [] ∧ (t.port 0).neighbour = none)
    ∧ (v.getLsbD 8 = true → (s.port f).st = .training ∨ ((s.port f).st = .down ∧ s.bitAt (Reg.itdCtrl f) 0 = true) → ∃ t, exec (.fabInaugStart (.cc k) v) s = .next t ∧ t.fab.inaug = .training ∧ t.fab.slot = 0
        ∧ (t.port f).vc3Only = true ∧ (t.port f).st = .training)
    ∧ (p.ptype = 9 → AtManager s p → Calm s → s.fab.inaug = .flooding → ofBytes (p.payload.take 1) ≠ 0 → ofBytes ((p.payload.drop 2).take 1) = 1 →
        ∀ l b, inaugList p.payload = l → (∀ e, e ∈ l → e.1 ≠ Config.deviceId) → (s.port f).chain = none → (s.port (1 - f.val)).chain = some b → l ≠ [] →
        let a0 := if f = 0 then l else b
        let a1 := if f = 0 then b else l
        ∃ t, exec (.inaug f p) s = .next t
          ∧ (l.length + b.length + 1 ≤ 8 → t.fab.setSize = l.length + b.length + 1 ∧ t.fab.inaug = .learning
            ∧ t.fab.slot = if (endId a0).toNat ≤ (endId a1).toNat then a0.length else a1.length)
          ∧ (8 < l.length + b.length + 1 → t.fab.slot = 0 ∧ t.fab.setSize = 1 ∧ (t.port 0).inaugFail = true ∧ bit (t.reg Reg.fabEvtStat) 9 = true))
    ∧ (p.ptype = 9 → AtManager s p → s.fab.inaug = .flooding → ofBytes (p.payload.take 1) ≠ 0 → (∃ e, e ∈ inaugList p.payload ∧ e.1 = Config.deviceId) →
        ∃ t, exec (.inaug f p) s = .next t ∧ t.fab.slot = 0 ∧ t.fab.setSize = 1 ∧ (t.port 0).inaugFail = true)
    ∧ (s.fab.inaug = .learning → s.past s.fab.inaugAt 100_000_000 = true →
        (∃ t, exec .learnWindowEnd s = .next t ∧ RegsOnly s t [Reg.itdCtrl 0, Reg.itdCtrl 1] ∧ bit (t.reg (Reg.itdCtrl 0)) 1 = false
          ∧ bit (t.reg (Reg.itdCtrl 1)) 1 = false)
        ∧ (Calm s → ∃ t, exec .inaugComplete s = .next t ∧ t.fab.gen = (s.fab.gen + 1) % 2 ^ 32 ∧ t.fab.inaug = .settled ∧ (s.fab.setSize ≤ 1 → t.fab.flowOut = [])
          ∧ bit (t.reg Reg.fabEvtStat) 9 = true ∧ ∀ j : Fin 2, (s.port j).st = .up → (t.port j).vc3Only = false ∧ (t.port j).hbAt = some s.now))
    ∧ (let e := BitVec.ofNat 12 (s.fldAt Reg.itdLearnSel 11 0)
       let x := s.learned e
       (v.toNat % 4 = 1 → exec (.itdLearnWrite (.cc k) v) s = .next (s.answer 0))
       ∧ (v.toNat % 4 ≠ 1 → ∃ t, exec (.itdLearnWrite (.cc k) v) s = .next t
           ∧ t.learned e = { x with st := v.toNat % 4, port := v.toNat / 4 % 2 }
           ∧ (v.toNat % 4 = 3 → ∀ n, n < 36 → routeAt t n e = BitVec.ofNat 8 (0x86 + v.toNat / 4 % 2))))
    ∧ (∀ e, (s.learned e).suppress = true → s.past (s.learned e).conflictAt 100_000_000 = true → ∃ t, exec (.learnSuppressExpiry e) s = .next t
        ∧ t.learned e = { s.learned e with suppress := false } ∧ ((s.learned e).st = 2 → bit (t.reg Reg.fabEvtStat) 3 = true))

/-- The set after inauguration (R167, R181, R192, R193, R197, R198): heartbeats go out, the neighbour's restart its interval, two missed ones are
counted, the third makes it PARTITIONED where its warning dataset is heard and LOST otherwise; one that was LOST rejoins; notices are taken
and packets for others passed on as the router's entry says; a map of the routers is written every time it is gathered.
Model's choices used: log 14, 15, 59, 63, 65. -/
def Obligations.SetOfDevices : Prop :=
  ∀ (s : State) (f : Fin 2) (p : Packet), Calm s →
    let x := s.port f
    let leads (c : Instr) (P : State → Prop) := ∃ t, exec c s = .next t ∧ P t
    (s.fab.inaug = .settled → (∀ t, s.fab.hbSentAt = some t → s.past t 9_000_000 = true) →
      (∀ (j : Fin 2) m, (s.port j).st = .up → (s.port j).neighbour = some m → wayFrom s (BitVec.ofNat 12 (m * 512 + 0x038)) 3 72 (routerFor 0x038) = .itard j) →
      leads .heartbeatSend (fun t => t.fab.hbNumber = (s.fab.hbNumber + 1) % 2 ^ 32 ∧ t.fab.hbSentAt = some s.now
        ∧ (∀ (j : Fin 2) m, (s.port j).st = .up → (s.port j).neighbour = some m → (s.port j).txq = [] → (s.port j).txWait = [] → 2 ≤ (s.port j).credits.vc3 →
            replayFlits (s.port j) + 2 ≤ 1024 → ∃ q, (t.port j).replay = (s.port j).replay ++ [((s.port j).txSeq, q)] ∧ q.ptype = 8 ∧ q.vc = 3
              ∧ q.payload = heartbeatPayload s)))
    ∧ (p.ptype = 8 → AtManager s p → s.fab.inaug = .settled → ∀ k, x.neighbour = some k → ofBytes (p.payload.take 8) = x.mateId.toNat →
        ofBytes ((p.payload.drop 8).take 4) = k → ofBytes ((p.payload.drop 12).take 4) = s.fab.gen →
        (viewOf s k = 0 ∨ viewOf s k = 3 → leads (.heartbeat f p) (fun t =>
          (t.port f).hbAt = some s.now ∧ (t.port f).missed = 0 ∧ (t.port f).vc3Only = false ∧ viewOf t k = 0))
        ∧ (viewOf s k = 1 → leads (.heartbeat f p) (fun t => viewOf t k = 0 ∧ bit (t.reg Reg.fabEvtStat) 7 = true)))
    ∧ (∀ k h, s.fab.inaug = .settled → x.neighbour = some k → x.hbAt = some h → s.past h (11_000_000 * (x.missed + 1)) = true →
        (∀ w, x.missed < 2 → exec (.heartbeatMissed f w) s = .next (s.setPort f { x with missed := x.missed + 1 }))
        ∧ (x.missed = 2 → viewOf s k = 0 → leads (.heartbeatMissed f true) (fun t => viewOf t k = 3 ∧ bit (t.reg Reg.fabEvtStat) 6 = true))
        ∧ (x.missed = 2 → viewOf s k = 0 → s.fab.slot < k → (∃ m, m < s.fab.slot ∧ survives s m = true) → s.tram.placed = [] →
            leads (.heartbeatMissed f false) (fun t => viewOf t k = 1 ∧ bit (t.reg Reg.fabEvtStat) 6 = true)))
    ∧ (p.ptype = 10 → AtManager s p → slotOf p.dst = s.fab.slot → p.payload.length = 32 → ofBytes (p.payload.take 1) = 1 →
        ∀ k, ofBytes ((p.payload.drop 1).take 1) = k → ofBytes ((p.payload.drop 2).take 1) = 3 → k ≠ s.fab.slot → k < s.fab.setSize → viewOf s k ≠ 3 →
        leads (.remap f p) (fun t => viewOf t k = 3 ∧ bit (t.reg Reg.fabEvtStat) 6 = true))
    ∧ (p.ptype = 10 → AtManager s p → slotOf p.dst = s.fab.slot → s.fab.slot ≠ 0 → p.payload.length = 896 → ofBytes (p.payload.take 4) = 0x504D_5256 →
        (∀ k, k < s.fab.setSize → viewOf s k ≠ 1) → leads (.remap f p) (fun t => ∀ j, j < 896 → t.byte (planBase s + j) = p.payload.getD j 0))
    ∧ (p.ptype = 10 → Alone s p → wellFormedPacket p = true → s.fab.known = true → slotOf p.dst ≠ s.fab.slot →
        ∀ g, wayFrom (offFabric s p) p.dst 3 72 (if f = 0 then 12 else 23) = .itard g → exec (.remap f p) s = .next (toPort (offFabric s p) g p))
    ∧ (∀ sums occ, let n := ((s.reg Reg.fabCmapSeq).toNat + 1) % 2 ^ 32
        let b := addrLocal (s.reg Reg.fabCmapBase).toNat + (if n % 2 = 1 then 0 else 1024)
        leads (.cmapGather sums occ) (fun t => (t.reg Reg.fabCmapSeq).toNat = n ∧ bit (t.reg Reg.fabEvtStat) 8 = true
          ∧ t.load b 4 = n ∧ t.bytes b 768 = cmapBytes s n sums occ ∧ ∀ j : Fin 2, (t.port j).mapReplays = 0 ∧ (t.port j).mapCrc = 0))

/-! ### Clock islands and temperature (chapter 11, R486, R551) -/

/-- The effective frequency of an island (R387, R403, R404, R408), and a write of its setting (R390, R399, R400, R402): a write that changes it
starts a change, deferred while the guard is active where the island is in the alarm set; fixed and QU islands take none.
Model's choices used: log 75, 76. -/
def Obligations.FrequencySettings : Prop :=
  ∀ (s : State) (k : Fin 4) (v : BitVec 32),
    (∀ i, i < 183 →
      let freq := s.fldAt (Reg.clkIslCtrl i) 6 0
      (s.bitAt (Reg.clkIslCtrl i) 8 = false → capOn s i = none → routerHeld s i = false →
        wantedEff s i = min (groupMax i) (max (groupMin i) (max freq (islFloor s i))))
      ∧ (s.clk.crit = true → routerHeld s i = false → wantedEff s i ≤ groupMin i)
      ∧ (routerHeld s i = true → 32 ≤ wantedEff s i))
    ∧ (∀ i, 183 ≤ i → i < 216 → exec (.clkIslWrite (.cc k) i v) s = .next (s.answer 0))
    ∧ (∀ i, i < 183 → islStopped s i = false → (∀ c, c ∈ s.clk.changes → i ∉ c.members ∧ c.members ≠ []) →
        let s1 := (s.answer 0).setReg (Reg.clkIslCtrl i) (v.setWidth 64 &&& 0x7F037F#64)
        (wantedEff s1 i = (s.island i).eff → exec (.clkIslWrite (.cc k) i v) s = .next s1)
        ∧ (wantedEff s1 i ≠ (s.island i).eff → inAlarm s i = false → exec (.clkIslWrite (.cc k) i v) s = .next { s1 with clk := { s.clk with
            changes := s.clk.changes ++ [{ id := s.clk.nextId, members := [i], deferred := false, paused := none, targets := [] }]
            nextId := s.clk.nextId + 1 } })
        ∧ (wantedEff s1 i ≠ (s.island i).eff → inAlarm s i = true → guardActive s = true → ∃ t, exec (.clkIslWrite (.cc k) i v) s = .next t
            ∧ (∃ c, t.clk.changes = s.clk.changes ++ [c] ∧ c.deferred = true ∧ c.members = [i]) ∧ Counted s1 t Reg.clkGuardDefers 1))
    ∧ (∃ t, exec (.clkGroupChange (.cc k) v) s = .next t
        ∧ ∀ i, i < 183 → if s.bitAt (Reg.clkGroupSel (i / 32)) (i % 32) = true
            then fld (t.reg (Reg.clkIslCtrl i)) 6 0 = v.toNat % 128 ∧ bit (t.reg (Reg.clkIslCtrl i)) 8 = v.getLsbD 8
              ∧ fld (t.reg (Reg.clkIslCtrl i)) 22 16 = fld (s.reg (Reg.clkIslCtrl i)) 22 16
            else t.reg (Reg.clkIslCtrl i) = s.reg (Reg.clkIslCtrl i))

/-- The course of a change (R397, R398, R401, R402), the guard, stops and starts (R406), a stored change that the guard defers, the loss of
REF_CLK (R410, R411) and dead islands (R412), where no crossing holds an entry. -/
def Obligations.FrequencyChanges : Prop :=
  ∀ (s : State) (i : Nat), s.fab.cross = [] →
    let x := s.island i
    let only (c : Change) := s.clk.changes = [c] ∧ c.members = [i]
    (∀ c, only c → c.paused = none → c.deferred = false → s.clk.refOk = true → duePoint s i = true → islStopped s i = false → wantedEff s i ≠ x.eff →
      (inAlarm s i = false ∨ guardActive s = false → exec (.freqChangeDue c.id) s = .next { s with clk := { s.clk with
          changes := [{ c with members := [i], paused := some s.now, targets := [(i, wantedEff s i)] }] } })
      ∧ (inAlarm s i = true → guardActive s = true → ∃ t, exec (.freqChangeDue c.id) s = .next t ∧ t.clk.changes = [{ c with deferred := true }]
          ∧ RegsOnly { s with clk := t.clk } t [Reg.clkGuardDefers] ∧ Counted s t Reg.clkGuardDefers 1))
    ∧ (∀ c t0 e, only c → c.paused = some t0 → c.targets = [(i, e)] → i < 183 → ¬(24 ≤ i ∧ i < 56) →
        (∃ t, exec (.fllLock c.id) s = .next t ∧ (t.island i).eff = e ∧ (t.island i).pauses = min 0xFFFF (x.pauses + 1) ∧ t.clk.changes = []
          ∧ (∀ j, j ≠ i → t.island j = s.island j) ∧ bit (t.reg Reg.clkIrqStat) 9 = true ∧ Counted s t Reg.clkChanges 1
          ∧ (inAlarm s i = true → t.clk.guardEnd = some s.now))
        ∧ (s.past t0 95_000 = true → ∃ t, exec (.fllLockTimeout i) s = .next t ∧ (t.island i).eff = x.eff ∧ (t.island i).lockFail = true
          ∧ t.clk.changes = [] ∧ bit (t.reg Reg.clkIrqStat) 5 = true ∧ Counted s t Reg.clkLockFails 1))
    ∧ (∀ c, only c → c.deferred = true → guardActive s = false →
        exec .guardWindowEnd s = .next { s with clk := { s.clk with changes := [{ c with deferred := false }] } })
    ∧ (i < 183 → s.bitAt (Reg.clkIslCtrl i) 9 = true → islStopped s i = false → s.clk.changes = [] → islandBusy s i = false →
        exec (.islandIdleStop i) s = .next (s.setIsland i { x with idle := true }))
    ∧ (x.idle = true → x.stored = false → exec (.islandWake i) s = .next (s.setIsland i { x with idle := false }))
    ∧ (x.idle = true → x.stored = true → x.held = false → ¬(24 ≤ i ∧ i < 56) → inAlarm s i = false ∨ (guardActive s = false ∧ s.clk.changes = []) → ∃ t, exec (.islandWake i) s = .next t
        ∧ (t.island i).idle = false ∧ (t.island i).eff = wantedEff s i ∧ (t.island i).stored = false ∧ bit (t.reg Reg.clkIrqStat) 9 = true)
    ∧ (x.idle = true → x.stored = true → x.held = false → i < 183 → inAlarm s i = true → guardActive s = true → ∃ t, exec (.islandWake i) s = .next t
        ∧ (t.island i).idle = false ∧ (t.island i).eff = x.eff ∧ (t.island i).stored = false)
    ∧ (s.clk.refOk = true → ∃ t, exec .refClkLost s = .next t ∧ t.clk.refOk = false ∧ bit (t.reg Reg.clkIrqStat) 0 = true
        ∧ Counted s t Reg.clkRefLosses 1 ∧ (∀ c, c ∈ t.clk.changes → c.paused = none) ∧ ∀ j, (t.island j).eff = (s.island j).eff)
    ∧ (s.clk.refOk = false → exec .refClkBack s = .next ({ s with clk := { s.clk with refOk := true } }.raise Reg.clkIrqStat 1))
    ∧ (i < 216 → islStopped s i = false → s.clk.changes = [] → quGated s i = false → ∃ t, exec (.islandDead i) s = .next t ∧ (t.island i).dead = true
        ∧ (t.reg Reg.clkDeadIsl).toNat = i ∧ bit (t.reg Reg.clkIrqStat) 6 = true ∧ ∀ j, j ≠ i → t.island j = s.island j)

/-- Temperature (R408, R413, R486, R551): caps are entered at their thresholds and left HYST below them, a sensor that is invalid counts as HOT,
the stages follow the device temperature, and the trip saves and switches off.
Model's choices used: log 78, 79. -/
def Obligations.Temperature : Prop :=
  ∀ (s : State) (temps : List Int) (k : Fin 12),
    let m := sampleTemps s temps
    (∃ t, exec (.thermalCap true temps) s = .next t ∧ t.clk.crit = (s.clk.crit || tempAtLeast m (thCrit s))
        ∧ (tempAtLeast m (thCrit s) = true → s.clk.crit = false → bit (t.reg Reg.clkIrqStat) 4 = true ∧ Counted s t Reg.clkThrottleEvents 1))
    ∧ (∃ t, exec (.thermalCap false temps) s = .next t ∧ t.clk.hot = (s.clk.hot || tempAtLeast m (thHot s))
        ∧ (tempAtLeast m (thHot s) = true → s.clk.hot = false → bit (t.reg Reg.clkIrqStat) 3 = true))
    ∧ (∃ t, exec (.thermalCapLift true temps) s = .next t ∧ t.clk.crit = (s.clk.crit && tempAtLeast m (thCrit s - thHyst s)))
    ∧ (∃ t, exec (.thermalCapLift false temps) s = .next t ∧ t.clk.hot = (s.clk.hot && tempAtLeast m (thHot s - thHyst s)))
    ∧ (∀ r : Option Int, (∀ z, r = some z → z < -220 ∨ 600 < z) → ∃ t, exec (.sensorInvalid k r) s = .next t
        ∧ sensorReads t k = some (thHot s) ∧ get (fun _ => false) t.clk.valid k = false ∧ bit (t.reg Reg.clkIrqStat) 8 = true)
    ∧ (∀ z : Int, -220 ≤ z → z ≤ 600 → ∃ t, exec (.sensorValid k z) s = .next t ∧ sensorReads t k = some z
        ∧ get (fun _ => false) t.clk.valid k = true ∧ bit (t.reg Reg.clkIrqStat) 8 = bit (s.reg Reg.clkIrqStat) 8)
    ∧ (s.tram.stage < stageOf (checkWarn m) → ∃ t, exec (.thermalStageEnter temps) s = .next t ∧ t.tram.stage = stageOf (checkWarn m)
        ∧ (s.tram.stage < 2 → 2 ≤ stageOf (checkWarn m) → s.hld.phase ≠ .armed → bit (t.reg Reg.camShedForce) 0 = true))
    ∧ (∀ c, 1 ≤ s.tram.stage → m.tram.coolSince = some c → s.past c 10_000_000_000 = true → ∃ t, exec (.thermalStageLeave temps) s = .next t
        ∧ t.tram.stage = s.tram.stage - 1)
    ∧ (tripHolds s temps = true → s.sys.tripped = false → ∃ t, exec (.thermalTrip temps) s = .next t ∧ t.sys.tripped = true
        ∧ (s.hld.phase = .idle ∨ s.hld.phase = .armed → t.hld.phase = .saving)
        ∧ (s.hld.phase = .disabled ∨ s.hld.phase = .saved → t.sys.tripPin = true ∧ ∀ d, d < 177 → (t.dom d).st = .off))

/-! ### Power domains (chapter 12, R489, R500) -/

/-- Targets (R419, R425, R430 to R433, R436, R437): a refused write is recorded with its code and changes no domain, an accepted one sets the
target and starts the course, a group takes it all together or not at all, CYCLE forces OFF with the target ON, CLEAR clears a fault.
Model's choices used: log 81, 82. -/
def Obligations.DomainTargets : Prop :=
  ∀ (s : State) (k : Fin 4) (d : Nat) (v : BitVec 32), d < 177 → s.pwr.commit = false →
    let x := s.dom d
    let t' := v.toNat % 4
    let force := v.getLsbD 8
    let refused (i : Instr) (e code : Nat) := ∃ t, exec i s = .next t ∧ RegsOnly (s.answer 0) t [Reg.pwrLastRefuse, Reg.pwrIrqStat]
      ∧ (t.reg Reg.pwrLastRefuse).toNat = e + 256 * code ∧ bit (t.reg Reg.pwrIrqStat) 3 = true
    (domLocked d = true → t' = 0 ∨ t' = 2 → refusal s d t' force [d] = 1)
    ∧ (domLocked d = false → retCapable d = false → t' = 2 → refusal s d t' force [d] = 2)
    ∧ (v.getLsbD 9 = false → v.getLsbD 10 = false →
        (refusal s d t' force [d] ≠ 0 → refused (.domainTargetWrite (.cc k) d v) d (refusal s d t' force [d]))
        ∧ (refusal s d t' force [d] = 0 → t' = 0 → x.st = .on → x.target = 1 → x.queued = none → childrenOff s d = true →
            ∃ t, exec (.domainTargetWrite (.cc k) d v) s = .next t ∧ (t.dom d).st = .draining ∧ (t.dom d).step = .drain ∧ (t.dom d).target = 0)
        ∧ (refusal s d t' force [d] = 0 → t' = 1 → x.st = .off → x.target = 0 → x.fault = 0 → parentOn s d = true → (∀ e, e < 177 → wakeOrder s e = none) →
            wakingNow s < maxWake s → ∃ t, exec (.domainTargetWrite (.cc k) d v) s = .next t
              ∧ (t.dom d).st = .waking ∧ (t.dom d).step = .precharge ∧ (t.dom d).target = 1 ∧ ∀ e, e ≠ d → t.dom e = s.dom e))
    ∧ (v.getLsbD 9 = true → v.getLsbD 10 = false → refusal s d 1 true [d] = 0 → x.st = .on → domLocked d = false → ∃ t,
        exec (.domainCycle (.cc k) d v) s = .next t ∧ (t.dom d).target = 1 ∧ (t.dom d).st = .draining ∧ (t.dom d).step = .clkStop ∧ (t.dom d).forced = true)
    ∧ (v.toNat = 0x400 → x.st = .off → x.target = 0 → x.queued = none → ∃ t, exec (.domainClear (.cc k) d v) s = .next t ∧ (t.dom d).fault = 0)
    ∧ (let sel := selectedDomains s
       (∀ e, e ∈ sel → refusal s e t' force sel = 0) → ∃ t, exec (.domainGroupTarget (.cc k) v) s = .next t ∧ t.pwr.groupTarget = t'
         ∧ ∀ e, e ∈ sel → (t.dom e).target = t')
    ∧ (∀ e l r, selectedDomains s = l ++ e :: r → (∀ j, j ∈ l → refusal s j t' force (selectedDomains s) = 0) →
        refusal s e t' force (selectedDomains s) ≠ 0 → refused (.domainGroupTarget (.cc k) v) e (refusal s e t' force (selectedDomains s)))
    ∧ (wakingNow s < maxWake s → nextAdmitted s = some d → ∃ t, exec (.wakeAdmit d) s = .next t
        ∧ t.dom d = { x with st := .waking, step := .precharge, queued := none, depWait := false, since := s.now }
        ∧ ∀ e, e ≠ d → t.dom e = { s.dom e with queued := (t.dom e).queued })
    ∧ (∀ c : Fin 8, 4 ≤ c.val → s.past s.tram.busyAt 60_000_000_000 = true → narrating s = none → s.tram.adopted = [] → clusterRetained s c = false →
        (∀ e, e ∈ clusterCores c ++ clusterGroups c → refusal s e 2 false (clusterCores c ++ clusterGroups c) = 0 ∧ (s.dom e).st = .on) →
        ∃ t, exec (.clusterRetain c) s = .next t ∧ ∀ e, e ∈ clusterCores c ++ clusterGroups c → (t.dom e).target = 2)
    ∧ (∀ c : Fin 4, c ≠ 0 → ∃ t, exec (.ccUnresponsive c) s = .next t ∧ (t.dom (133 + c)).inReset = true ∧ t.mem = s.mem)

/-- The sequencer (R420 to R422, R426, R437, R438, R499, Tables 12-2, 12-4 and 12-8): a shut-down goes through its steps to OFF, a wake through its
own to ON, a drain that fails goes back to ON, and each fault is recorded with its code, its bit and its count; a
domain that is OFF after its first fault is cleared and given the target ON once (R499).
Model's choices used: log 83, 87. -/
def Obligations.DomainSequencer : Prop :=
  ∀ (s : State) (d : Nat), d < 177 →
    let x := s.dom d
    let leads (i : Instr) (P : Domain → Prop) := ∃ t, exec i s = .next t ∧ P (t.dom d)
    let step (a b : DomStep) := x.step = a → x.forced = true ∨ x.target ≠ 1 → leads (.sequencerStepDone d) (fun y => y.step = b)
    let fault (i : Instr) (code b : Nat) := domLocked d = false → s.sys.jumpAt = none ∨ d ∈ s.pwr.retried → ∃ t, exec i s = .next t ∧ (t.dom d).fault = code
      ∧ bit (t.reg Reg.pwrIrqStat) b = true ∧ Counted s t Reg.pwrSwFaults 1
    (56 ≤ d ∧ d < 120 → s.pwr.group = []) → x.queued = none → Calm s → s.fab.cross = [] →
    (x.step = .drain → drainMet s d = true → exec (.drainComplete d) s = .next (s.setDom d { x with step := .clkStop, since := s.now }))
    ∧ (x.st = .draining → x.step = .drain → drainMet s d = false → s.past x.since (drainTimeout s) = true → ∃ t, exec (.drainFail d) s = .next t
        ∧ t.dom d = { x with st := .on, step := .none, target := 1, drainFail := true } ∧ bit (t.reg Reg.pwrIrqStat) 2 = true
        ∧ Counted s t Reg.pwrDrainFails 1)
    ∧ step .clkStop .isolate ∧ step .isolate .reset ∧ step .reset .switch
    ∧ (x.step = .isolate → leads (.sequencerStepDone d) (fun y => y.isolated = true)) ∧ (x.step = .reset → leads (.sequencerStepDone d) (fun y => y.inReset = true))
    ∧ (x.step = .switch → x.lowered = false → leads (.sequencerStepDone d) (fun y => y.step = .discharge ∧ y.swClosed = false))
    ∧ (x.step = .switch → x.lowered = true → x.target = 2 → leads (.sequencerStepDone d) (fun y => y.st = .retained))
    ∧ (x.step = .discharge → x.target = 0 → x.fault = 0 → leads (.dischargeDone d) (fun y => y.st = .off ∧ y.swClosed = false ∧ y.isolated = true ∧ y.inReset = true))
    ∧ (x.step = .close ∨ x.step = .raise → exec (.supplyGood d) s = .next (s.setDom d { x with step := .clock, swClosed := true, since := s.now }))
    ∧ (x.step = .clock → leads (.sequencerStepDone d) (fun y => y.step = .release))
    ∧ (x.step = .release → x.target = 1 → leads (.sequencerStepDone d) (fun y => y.st = .on ∧ y.isolated = false ∧ y.inReset = false))
    ∧ (x.step = .close → s.past x.since 25_000 = true → fault (.swOpen d) 1 4)
    ∧ (x.step = .discharge → s.past x.since 40_000 = true → fault (.stuckOn d) 2 5)
    ∧ (x.step = .discharge → s.past x.since 40_000 = true → s.sys.jumpAt ≠ none → d ∉ s.pwr.retried → s.pwr.commit = false → domLocked d = false →
        domainAlarm s d = false → ¬(56 ≤ d ∧ d < 120) → ∃ t, exec (.stuckOn d) s = .next t ∧ (t.dom d).fault = 0 ∧ (t.dom d).target = 1
          ∧ d ∈ t.pwr.retried)
    ∧ (x.st = .on → fault (.droop d) 3 6 ∧ (domLocked d = false → x.step = .none → leads (.droop d) (fun y => y.step = .clkStop ∧ y.forced = true)))
    ∧ (x.st = .retained → fault (.retDroop d) 4 7 ∧ leads (.retDroop d) (fun y => y.retLost = true))
    ∧ (x.st = .on → fault (.iso d) 5 8)
    ∧ (x.step = .reset → s.past x.since 2000 = true → fault (.stepLate d) 6 10)

/-! ### The supply and Rosemary (chapter 13) -/

/-- Samples, arm, disarm and commit (Table 13-1, R442, R444, R445, R446, R449, R451, R463): how long each supply condition has held, what it does in
each phase, and the signals that an arm sends to Rosemary; a commit makes the outputs safe, forces every domain that is not locked OFF, and
begins a save in the area that does not hold the newest VALID save.
Model's choices used: log 80, 84, 88. -/
def Obligations.SupplyLoss : Prop :=
  ∀ (s : State) (x : SupplySample) (k : Fin 4) (v : BitVec 32),
    let leads (i : Instr) (P : State → Prop) := ∃ t, exec i s = .next t ∧ P t
    let h := (takeSample s x).hld
    let low := (s.hld.senseFault = false ∧ 4 ≤ h.runs.arm) ∨ (s.hld.failNFault = false ∧ 2 ≤ h.runs.fail)
    let back := 16 ≤ h.runs.back
    let crit := s.hld.senseFault = false ∧ 2 ≤ h.runs.crit
    let run (n m : Nat) (c : Prop) := (c → m = n + x.count) ∧ (¬c → m = 0)
    let disarms (t : State) := t.hld.phase = .idle ∧ bit (t.reg Reg.hldIrqStat) 1 = true ∧ Counted s t Reg.hldRideThroughs 1
      ∧ ∀ f, s.tram.forceBefore = some f → bit (t.reg Reg.camShedForce) 0 = if s.hld.forceWritten then bit (s.reg Reg.camShedForce) 0 else f
    let commits (f : Nat) (t : State) := t.hld.phase = .saving ∧ t.hld.commitAt = s.now ∧ OutputsSafe t ∧ t.cab.balls = 0
      ∧ (∀ d, d < 177 → domLocked d = false → (t.dom d).st = .off) ∧ bit (t.reg Reg.hldIrqStat) 2 = true ∧ Counted s t Reg.hldCommits 1
      ∧ ∃ a, a < 2 ∧ newestValid s ≠ some a ∧ (newestValid s = none → a = 0) ∧ (t.save a).state = 1 ∧ (t.save a).flags.testBit f = true
          ∧ (t.save a).seq = max (s.save 0).seq (s.save 1).seq + 1 ∧ ∀ c, c ≠ a → t.save c = s.save c
    let signals (t : State) (cc : BitVec 6) := ∃ p, p ∈ t.fab.net ++ t.fab.held ∧ p.ptype = 6 ∧ p.dst = ownEid s 0x03E ∧ p.ccEn = true ∧ p.cc = cc
    (x.count = 0 → takeSample s x = s)
    ∧ (0 < x.count → h.code = min 0xFFF x.code ∧ h.lowest = min s.hld.lowest x.code ∧ run s.hld.runs.arm h.runs.arm (x.code < armCode s)
        ∧ run s.hld.runs.fail h.runs.fail (x.failLow = true) ∧ run s.hld.runs.crit h.runs.crit (x.code < critCode s)
        ∧ run s.hld.runs.back h.runs.back ((s.hld.senseFault = true ∨ returnCode s < x.code) ∧ (s.hld.failNFault = true ∨ x.failLow = false)))
    ∧ (s.hld.phase = .idle → low → 1 ≤ s.fldAt Reg.hldCfg 6 0 → leads (.supplyArm x) (fun t => t.hld.phase = .armed ∧ t.hld.armedAt = s.now
      ∧ bit (t.reg Reg.camShedForce) 0 = true ∧ t.tram.forceBefore = some (bit (s.reg Reg.camShedForce) 0)
      ∧ bit (t.reg Reg.hldIrqStat) 0 = true ∧ Counted s t Reg.hldArms 1 ∧ ccVal t 0x03E 0 = 1 ∧ ccVal t 0x03E 1 = 1 ∧ signals t 0 ∧ signals t 1
      ∧ t.enc.running = false ∧ t.adapt.running = false))
    ∧ (s.hld.phase = .idle → low → s.fldAt Reg.hldCfg 6 0 = 0 → leads (.supplyArm x) (commits 1))
    ∧ (¬low → exec (.supplyArm x) s = .next (takeSample s x))
    ∧ (s.hld.phase = .armed → back → leads (.supplyBack x) disarms) ∧ (s.hld.phase = .armed → crit → leads (.supplyCrit x) (commits 2))
    ∧ (¬back → exec (.supplyBack x) s = .next (takeSample s x)) ∧ (¬crit → exec (.supplyCrit x) s = .next (takeSample s x))
    ∧ (s.hld.phase = .armed → s.past s.hld.armedAt (100_000 * min 100 (s.fldAt Reg.hldCfg 6 0)) = true →
        x.count = 1 → leads (.rideThroughWindowEnd x.code x.failLow) (fun t => (back → disarms t) ∧ (¬back → commits 1 t)))
    ∧ (s.hld.phase = .idle → v.getLsbD 0 = true → v.toNat / 256 % 16 = 8 → leads (.testSave (.cc k) v) (commits 3))
    ∧ (s.hld.phase ≠ .idle → v.toNat / 256 % 16 = 8 → leads (.testSave (.cc k) v) (fun t => t.hld = s.hld))

/-- A save ends, the supply comes back (R446, R447, R453, R461), the ledger and a save are written back (R452, R462), and the supply signals
and the thresholds are supervised (R455, R459, R460).
Model's choices used: log 144, 145, 146, 147. -/
def Obligations.SaveAndRestore : Prop :=
  ∀ (s : State) (x : SupplySample) (bad vDone : BitVec 16) (rewrite crit : Bool) (k : Fin 4) (v : BitVec 32),
    let leads (i : Instr) (P : State → Prop) := ∃ t, exec i s = .next t ∧ P t
    let h := (takeSample s x).hld
    let back := 1016 ≤ h.runs.back
    let reads (t : State) (a : Nat) (l : List Byte) := ∀ j, j < l.length → t.byte (a + j) = l.getD j 0
    let ledger (t : State) := ∃ a, a < 2 ∧ newestLedger s ≠ some a ∧ (∀ c, c ≠ a → t.ledgerArea c = s.ledgerArea c)
      ∧ t.ledgerArea a = { valid := true, seq := max (s.ledgerArea 0).seq (s.ledgerArea 1).seq + 1, entries := tableOf (s.bytes (ledgerSrc s) 544) }
    (s.hld.phase = .saving → leads (.saveDone bad rewrite vDone) (fun t => ledger t ∧ (t.save s.hld.writing).state = 2
      ∧ (t.save s.hld.writing).bad = (s.save s.hld.writing).bad ||| bad ∧ (t.save s.hld.writing).vDone = vDone.toNat
      ∧ (t.save s.hld.writing).flags = (s.save s.hld.writing).flags + (if rewrite then 32 else 0)
      ∧ (∀ d, d < 177 → domLocked d = true → d ≠ 174 ∨ s.hld.byTrip = true → (t.dom d).st = .off)
      ∧ (s.hld.byTrip = true → t.sys.tripPin = true) ∧ t.hld.phase = .saved
      ∧ (6_000_000 < s.now - s.hld.commitAt → Counted s t Reg.hldLate 1)))
    ∧ (s.hld.phase = .saved → s.hld.byTrip = false → back → s.sys.porHeld = false → s.sys.warmAt = none → leads (.supplyReturnReset x) (fun t =>
        t.sys.warmAt = some s.now ∧ t.reg Reg.sysRstCause = 0x20 ∧ OutputsSafe t))
    ∧ (s.hld.byTrip = true → exec (.supplyReturnReset x) s = .next (takeSample s x))
    ∧ (s.hld.phase = .disabled → s.bitAt Reg.hldCtrl 0 = true → back →
        exec (.rosemaryIdle x) s = .next ((takeSample s x).modHld (fun h => { h with phase := .idle })))
    ∧ (v.toNat / 256 % 16 = 1 → leads (.ledgerGo (.cc k) v) (fun t => ledger t ∧ bit (t.reg Reg.hldIrqStat) 5 = true ∧ t.mem = s.mem))
    ∧ (v.toNat / 256 % 16 = 2 →
        (∀ a, newestValid s = some a → leads (.restore (.cc k) v) (fun t => t.hld.restoring = some a
          ∧ (∀ i, i < 16 → t.hld.restored.testBit i = (decide (i < 9) && !(s.save a).bad.getLsbD i))
          ∧ reads t (stageBase s) (saveHeader (s.save a) ++ (s.save a).image.drop 256)))
        ∧ (newestValid s = none → leads (.restore (.cc k) v) (fun t => t.hld.restoring = some 2 ∧ t.hld.restored = 0 ∧ t.mem = s.mem)))
    ∧ (∀ a, a < 2 → v.toNat / 256 % 16 = 4 → s.hld.restoredFrom = some a → leads (.consume (.cc k) v) (fun t => t.save a = { s.save a with state := 3 }
        ∧ ∀ c, c ≠ a → t.save c = s.save c))
    ∧ (∀ a, a < 2 → s.hld.restoring = some a → leads .restoreDone (fun t => t.hld.restoring = none ∧ bit (t.reg Reg.hldIrqStat) 6 = true
        ∧ (∀ j, newestLedger s = some j → s.adapt.waiting = none →
            reads t (ledgerSrc s) (areaBytes (s.ledgerArea j).seq (s.ledgerArea j).entries))
        ∧ (2 ≤ s.sys.failedStarts → (t.save a).state = 3 ∧ t.sys.failedStarts = 0 ∧ t.hld.restoredFrom = s.hld.restoredFrom)
        ∧ (s.sys.failedStarts < 2 → t.hld.restoredFrom = some a ∧ (s.hld.restored.testBit 4 = true →
              (s.bay.rawPresent = false → t.bay.tail = none)
              ∧ (s.bay.rawPresent = true → s.bay.phase ≠ .offline → s.bay.phase ≠ .safe → s.bay.phase ≠ .mounted → t.bay.tail = (s.save a).tail))
          ∧ (s.hld.restored.testBit 3 = true → t.tram.incidents.map (·.id) = s.tram.incidents.map (·.id) ++ (s.save a).incidents.map (·.id)))))
    ∧ (h.runs.dead < 100 → exec (.senseFault x) s = .next (takeSample s x))
    ∧ (100 ≤ h.runs.dead → s.hld.senseFault = false → leads (.senseFault x) (fun t => t.hld.senseFault = true ∧ bit (t.reg Reg.hldIrqStat) 3 = true
        ∧ Counted s t Reg.hldSenseFaults 1))
    ∧ (s.hld.phase = .disabled → s.hld.failNFault = false → 1 ≤ h.runs.fail → returnCode s < h.code → leads (.failNFault x) (fun t => t.hld.failNFault = true ∧ bit (t.reg Reg.hldIrqStat) 4 = true))
    ∧ (h.runs.fail = 0 → 1000 ≤ h.runs.high → leads (.failNFault x) (fun t => t.hld.failNFault = false))
    ∧ (let a := v.toNat % 4096; let r := v.toNat / 65536 % 4096; let c := max 1911 a
       let reject := leads (.hldThWrite (.cc k) crit v) (fun t => RegsOnly (s.answer 0) t [Reg.hldIrqStat] ∧ bit (t.reg Reg.hldIrqStat) 7 = true)
       (crit = false → (critCode s < a ∧ a < r → leads (.hldThWrite (.cc k) crit v) (fun t => RegsOnly (s.answer 0) t [Reg.hldTh] ∧ armCode t = a
           ∧ returnCode t = r)) ∧ (¬(critCode s < a ∧ a < r) → reject))
       ∧ (crit = true → (c < armCode s → leads (.hldThWrite (.cc k) crit v) (fun t => RegsOnly (s.answer 0) t [Reg.hldThCrit] ∧ critCode t = c))
           ∧ (armCode s ≤ c → reject)))

/-! ### Sage (chapters 1 and 14) -/

/-- Object lists (R15, R18, R19, R474, R475, R478): Sage drops a bad or stale list and takes every other; either way it re-arms the buffer's
counter and signals; a list of the active slot gives the level of its frame, which falls only after 1.0 s. The image of the ledger
lies outside Sage's inbox.
Model's choices used: log 124, 125. -/
def Obligations.SageLists : Prop :=
  ∀ (s : State) (b : Bool) (assoc : List Assoc),
    let base := bufferBase b
    let n := s.load (base + 2) 1
    let car := s.load (base + 4) 1
    let k := s.load (base + 1) 1
    let start := pathStart s b
    let drop := s.load base 1 ≠ 1 ∨ 127 < n ∨ ∃ p, (s.car car).lastPath = some p ∧ start ≤ p
    let tracks := ((qualified s (listObjects s b n)).take 64).map (trackOf (s.car car).tracks assoc)
    (ledgerTable s).length ≤ 16 → ledgerSrc s + 544 ≤ inboxBase ∨ inboxBase + 0x3000 ≤ ledgerSrc s →
    (∀ q : Track, trackLevel s q = if q.edge ≤ 0 ∧ ttcWithin s q (thresholds s).tWarn = true then 3
      else if (q.edge ≤ 0 ∧ ttcWithin s q (thresholds s).tCaution = true) ∨ (0 < q.edge ∧ ttcWithin s q (thresholds s).tWarn = true) then 2
      else if ttcWithin s q (thresholds s).tNotice = true ∨ (q.edge ≤ 0 ∧ q.d ≤ 10_000) then 1 else 0)
    ∧ (sageWorks s = true → ccVal s 0x03C (num b) = 0 → (ccVal s 0x03C (num !b) = 0 → start ≤ pathStart s !b) →
        ∃ (t : State) (q : Packet), exec (.sageListTake b assoc) s = .next t
          ∧ ccVal t 0x03C (num b) = 32 ∧ q ∈ t.fab.net ∧ q.ptype = 6 ∧ q.ccEn = true ∧ q.vc = 2
          ∧ q.dst.toNat = s.load (base + 6) 2 % 4096 ∧ q.cc.toNat = s.load (base + 8) 1 % 64
          ∧ (drop → Counted s t Reg.sgeListDrop 1 ∧ bit (t.reg Reg.sgeIrqStat) 4 = true ∧ t.sage = s.sage)
          ∧ (¬drop → car = s.fab.slot → Counted s t Reg.sgeFrames 1 ∧ (t.car car).lastPath = some start
            ∧ (activeSlot s ≠ some k → (t.car car).tracks = (s.car car).tracks ∧ (t.car car).level = (s.car car).level ∧ t.cab = s.cab)
            ∧ (activeSlot s = some k → (t.car car).tracks = tracks ∧ t.sage.detectedAt = some s.now ∧ t.sage.blind = false
              ∧ (∀ j, 1 ≤ j → j ≤ 3 → (j ≤ (t.car car).level ↔ ∃ i, j ≤ i ∧ i ≤ 3 ∧ ((∃ q, q ∈ tracks ∧ i ≤ trackLevel s q)
                  ∨ ∃ r, get (fun _ => none) (s.car car).raised i = some r ∧ start < r + 1_000_000_000)))
              ∧ (s.load (base + 3) 1 / 8 % 2 = 0 → (t.reg Reg.sgeLastPath).toNat = min 0xFF_FFFF ((s.now - start) / 1000)
                ∧ (20_000_000 < s.now - start → Counted s t Reg.sgeLate 1 ∧ bit (t.reg Reg.sgeIrqStat) 3 = true ∧ t.sage.lateAt = some s.now)))))

/-- Sage's timers and areas (R14, R17, R20, R43, R468, R478 to R480): what falls due, and what the pair then does.
Model's choice used: log 128. -/
def Obligations.SageTimers : Prop :=
  ∀ (s : State) (t0 : Nat) (door : DoorId) (task : TaskId) (cause : Byte) (pc tval : BitVec 64),
    let leads (i : Instr) (P : State → Prop) := ∃ t, exec i s = .next t ∧ P t
    let safe (t : State) := s.sage.st = .run → OutputsSafe t ∧ t.sage.st = .safe
    let area := inboxBase + 0x2000
    let base := addrLocal (s.reg (Reg.sgeWinBase 0)).toNat
    let cycles := if s.bitAt Reg.vehVsCfg 0 then 300_000_000 else 30_000_000
    let debug := s.sys.debugUnlocked = true ∧ (cause = 0x0B ∨ cause = 0x11)
    (s.sage.speedAt = some t0 → s.past t0 cycles = true → s.sage.stale = false →
        leads .egoSpeedStale (fun t => t.sage.stale = true))
    ∧ (∀ p, patternOf s = p → p = 1 ∨ p = 2 →
        s.past s.sage.phaseAt (if p = 2 then 250_000_000 else if s.sage.high then 100_000_000 else 900_000_000) = true → leads .patternPhaseTimer (fun t =>
          commanded t false = !s.sage.high ∧ commanded t true = s.sage.high ∧ cutClosed t = true ∧ t.sage.high = !s.sage.high
          ∧ t.sage.phaseAt = s.now ∧ t.mem = s.mem))
    ∧ (patternOf s = 0 ∨ 3 ≤ patternOf s → exec .patternPhaseTimer s = .next s)
    ∧ (s.tram.started = true → activeSlot s ≠ none → s.sage.blind = false → s.past (max (s.sage.detectedAt.getD 0) s.sage.dirAt) 200_000_000 = true →
        leads .detectionTimeout (fun t => t.sage.blind = true ∧ safe t))
    ∧ (s.sage.lateAt = some t0 → s.past t0 1_000_000_000 = true → leads .lateClear (fun t => t.sage.lateAt = none))
    ∧ (sageWorks s = true → ccVal s 0x03C 2 = 0 → leads .sageVehicleArea (fun t => ccVal t 0x03C 2 = 1 ∧ t.sage.flags = s.load area 1
        ∧ t.sage.runDir = s.load (area + 1) 1 ∧ t.sage.dir = directionFrom s (s.load (area + 1) 1)
        ∧ (s.load area 1 % 2 = 1 → t.sage.speed = s.load (area + 2) 2 ∧ t.sage.speedAt = some (s.load (area + 8) 8)
          ∧ t.sage.stale = (s.sage.stale && s.past (s.load (area + 8) 8) cycles))
        ∧ (s.load area 1 % 2 = 0 → t.sage.speed = s.sage.speed ∧ t.sage.speedAt = s.sage.speedAt ∧ t.sage.stale = s.sage.stale)))
    ∧ (sageWorks s = true → s.past s.sage.statusAt 1_000_000 = true → leads .sageStatusBlock (fun t =>
        t.sage.statusSeq = (s.sage.statusSeq + 1) % 2 ^ 32 ∧ t.sage.statusAt = s.now ∧ t.sage.statusStale = false
        ∧ (∀ c, targetOf s base = .dram c → 64 ≤ (s.reg (Reg.sgeWinSize 0)).toNat → t.load base 4 = t.sage.statusSeq
          ∧ ∀ a, a < base ∨ base + 64 ≤ a → t.byte a = s.byte a)))
    ∧ (s.past s.sage.statusAt 20_000_000 = true → leads .sageStatusStale (fun t => t.sage.statusStale = true ∧ safe t))
    ∧ (s.veh.differs = some t0 → t0 + 500_000_000 < s.now → s.veh.disagree = false → leads (.cabDisagreeTimeout false) (fun t => t.veh.disagree = true))
    ∧ (s.veh.differsRev = some t0 → t0 + 500_000_000 < s.now → s.veh.disagreeRev = false → leads (.cabDisagreeTimeout true) (fun t => t.veh.disagreeRev = true))
    ∧ leads (.noVideoTimeout door) (fun t => t.tram.windows.length = s.tram.windows.length ∧ ∀ (i : Nat) (w : Window), s.tram.windows[i]? = some w → ∃ u : Window, t.tram.windows[i]? = some u
        ∧ u = { w with flags := u.flags } ∧ (∀ j, j ≠ 4 → u.flags.getLsbD j = w.flags.getLsbD j) ∧ u.flags.getLsbD 4 = (w.flags.getLsbD 4
          || (decide (w.door = door) && decide (1_000_000_000 < w.outTotal + (w.outSince.elim 0 (fun o => s.now - o))))))
    ∧ (debug → exec (.taskFault task cause pc tval) s = .next s)
    ∧ (¬debug → leads (.taskFault task cause pc tval) (fun t => s.now ∈ (t.task task).faults
        ∧ ((t.task task).held = true ↔ (s.task task).held = true ∨ 2 ≤ ((s.task task).faults.filter (fun x => decide (s.now < x + 60_000_000_000))).length)
        ∧ (task = .narration → ∀ i, narrating s = some i → ∀ j, j ∈ t.tram.incidents → j.id = i.id → j.ended = true)))

/-- The supervision of Sage (R177, R481 to R483): its lockstep, its watchdog and Tymor's beat; the third event within 1 h latches it.
Model's choice used: log 126. -/
def Obligations.SageSupervision : Prop :=
  ∀ (s : State) (k : Fin 4) (v : BitVec 32),
    let leads (i : Instr) (P : State → Prop) := ∃ t, exec i s = .next t ∧ P t
    let event (wdog : Bool) (t : State) := OutputsSafe t ∧ t.sage.held = true ∧ t.sage.faulted = true
      ∧ Counted s t (if wdog then Reg.sgeWdogExp else Reg.sgeLsMismatch) 1 ∧ bit (t.reg Reg.sgeIrqStat) (num wdog) = true
      ∧ t.sage.events = s.sage.events.filter (fun x => decide (s.now < x + 3_600_000_000_000)) ++ [s.now]
      ∧ (3 ≤ t.sage.events.length → t.sage.st = .latched)
      ∧ (t.sage.events.length < 3 → t.sage.st = .selftest ∧ bit (t.reg Reg.sgeIrqStat) 5 = true
        ∧ ccVal t 0x03C 0 = 32 ∧ ccVal t 0x03C 1 = 32 ∧ ccVal t 0x03C 2 = 1)
    (sageWorks s = true → leads .lockstepMismatch (event false))
    ∧ (sageWorks s = true → s.past s.sage.kickAt 5_000_000 = true → leads .sageWdogExpiry (event true))
    ∧ (v.toNat % 256 = 0xA5 → exec (.sgeWdogKick .sage v) s = .next ((s.answer 0).modSage (fun g => { g with kickAt := s.now })))
    ∧ (v.toNat % 256 ≠ 0xA5 → sageWorks s = true → leads (.sgeWdogKick .sage v) (event true))
    ∧ exec (.sgeWdogKick (.cc k) v) s = .next s.busError
    ∧ (v.getLsbD 0 = true → exec (.sgeHbBeat (.cc k) v) s = .next ((s.answer 0).modSage (fun g => { g with beatAt := s.now, hbMissed := false })))
    ∧ exec (.sgeHbBeat .sage v) s = .next s.busError
    ∧ (sageWorks s = true → s.sage.hbMissed = false → s.past s.sage.beatAt 50_000_000 = true → leads .hbMiss (fun t =>
        RegsOnly (s.modSage (fun g => { g with hbMissed := true })) t [Reg.sgeIrqStat] ∧ bit (t.reg Reg.sgeIrqStat) 2 = true))
    ∧ (sageWorks s = true → s.past s.sage.beatAt 1_000_000_000 = true → s.sys.porHeld = false → s.sys.warmAt = none → leads .sageHbResetRequest (fun t =>
        t.sys.warmAt = some s.now ∧ t.reg Reg.sysRstCause = 8 ∧ OutputsSafe t))
    ∧ leads (.sgeCcAdd .sage v) (fun t => let cc := s.fldAt Reg.sgeCcSel 5 0
        ccVal t 0x03C cc = ccVal s 0x03C cc + v ∧ (∀ j, j ≠ cc → ccVal t 0x03C j = ccVal s 0x03C j) ∧ t.regs = s.regs ∧ t.mem = s.mem)
    ∧ exec (.sgeCcAdd (.cc k) v) s = .next s.busError

/-! ### Start-up, reset and the boot flash (chapter 15) -/

/-- Resets (R503 to R506, R518, R523, R554): what each source asks for, and what a COLD and a WARM reset leave.
Model's choices used: log 93, 94, 95, 96, 97. -/
def Obligations.Resets : Prop :=
  ∀ (s : State) (k : Fin 4) (v : BitVec 32) (n t0 : Nat),
    let leads (i : Instr) (P : State → Prop) := ∃ t, exec i s = .next t ∧ P t
    let kept (t : State) := t.pending = s.pending ∧ (∀ d, d < 177 → (t.dom d).st = .off) ∧ OutputsSafe t ∧ t.sys.warmAt = none
      ∧ t.hld.saves = s.hld.saves ∧ t.hld.ledgers = s.hld.ledgers ∧ (s.sys.xspi = none → t.sys.flash = s.sys.flash)
      ∧ t.sys.provCount = s.sys.provCount ∧ t.sys.revoke = s.sys.revoke ∧ t.sys.floorFirmware = s.sys.floorFirmware
      ∧ ((∃ a, a < 2 ∧ (s.save a).state = 1) → bit (t.reg Reg.hldIrqStat) 8 = true)
    let torn := [Reg.hldIrqStat, Reg.hldTorn]
    let cold (cause : Nat) (t : State) := kept t ∧ (t.reg Reg.sysRstCause).toNat = cause
      ∧ ∀ a, a ∉ Reg.sysRstCause :: torn → t.reg a = State.reset.reg a
    let sticky := [Reg.sysRstCause, Reg.sysRstCount] ++ (List.range 8).map Reg.sysScratch
    let requests (b : Nat) (i : Instr) := s.sys.porHeld = false →
      (s.sys.warmAt = none → leads i (fun t => t.sys.warmAt = some s.now ∧ (t.reg Reg.sysRstCause).toNat = 2 ^ b
        ∧ (t.reg Reg.sysRstCount).toNat = min 0xFFFF ((s.reg Reg.sysRstCount).toNat + 1) ∧ OutputsSafe t ∧ t.cab.balls = 0))
      ∧ (s.sys.warmAt = some t0 → leads i (fun t => t.sys.warmAt = some t0 ∧ t.reg Reg.sysRstCause = s.reg Reg.sysRstCause ||| BitVec.ofNat 64 (2 ^ b)))
    leads (.powerOnReset false) (fun t => cold 1 t ∧ t.sys.porHeld = true)
    ∧ (s.sys.porHeld = true → s.clk.refOk = true → leads (.powerOnReset true) (fun t => cold 1 t ∧ t.sys.porHeld = false))
    ∧ (s.clk.refOk = false → exec (.powerOnReset true) s = .next s)
    ∧ (1000 ≤ n → s.sys.porHeld = false → leads (.resetNPin n) (cold 2)) ∧ (n < 1000 → exec (.resetNPin n) s = .next s)
    ∧ (v.getLsbD 0 = true → requests 6 (.softReset (.cc k) v))
    ∧ (s.sys.warmAt = some t0 → s.past t0 1_000_000 = true → s.hld.phase ≠ .saving → leads .warmReset (fun t => kept t ∧ t.sys.porHeld = false
        ∧ (∀ a, a ∈ sticky → t.reg a = s.reg a) ∧ (∀ a, a ∉ sticky ++ torn → a ≠ Reg.bootStat ∨ s.sys.romFailAt = none → t.reg a = State.reset.reg a)
        ∧ (s.sys.romFailAt ≠ none → t.reg Reg.bootStat = 0x118 ∧ t.sys.romFailAt = s.sys.romFailAt)
        ∧ t.tram.nextWindow = (s.reg (Reg.sysScratch 0)).toNat ∧ t.tram.nextIncident = max 1 (s.reg (Reg.sysScratch 1)).toNat))
    ∧ (s.hld.phase = .saving → exec .warmReset s = .next s)
    ∧ (s.sys.wdogArmed = true → v.toNat % 256 = 0x3C → exec (.sysWdogKick (.cc k) v) s =
        .next { (s.answer 0) with sys := { s.sys with wdogAt := s.now } })
    ∧ (s.sys.wdogArmed = true → v.toNat % 256 ≠ 0x3C → requests 2 (.sysWdogKick (.cc k) v))
    ∧ leads (.sysWdogCfgWrite (.cc k) v) (fun t => RegsOnly { (s.answer 0) with sys := { s.sys with wdogAt := s.now } } t [Reg.sysWdogCfg]
        ∧ (t.reg Reg.sysWdogCfg).toNat = min 10_000 (max 100 (v.toNat % 16384)))
    ∧ (s.sys.wdogArmed = true → s.past s.sys.wdogAt (1_000_000 * s.fldAt Reg.sysWdogCfg 13 0) = true → requests 2 .systemWdogExpiry)
    ∧ (∀ x, s.sys.failAt = some x → s.past x 60_000_000_000 = true → requests 6 .startFailReset)
    ∧ (∀ x, s.sys.failAt = none → s.sys.jumpAt = some x → s.sys.secReady = false → s.past x 10_000_000 = true → leads .startFailReset (fun t =>
        t.fldAt Reg.bootStat 15 8 = 5 ∧ t.sys.failAt = some s.now))

/-- The boot ROM's choice (R513, R518, R522), the DRAM's start (R384, R512, R523) and the flash controller (R514).
Model's choices used: log 90, 97, 98. -/
def Obligations.BootAndFlash : Prop :=
  ∀ (s : State) (a b : ImageCheck) (k : Fin 4) (v : BitVec 32) (e : Bool),
    let leads (i : Instr) (P : State → Prop) := ∃ t, exec i s = .next t ∧ P t
    let r := bootRecord s
    let f := firstSlot r
    let h := fwHeader (s.flashBytes (fwSlotBase f) 256)
    let c := if f = 0 then a else b
    let rom := s.fldAt Reg.bootStat 5 3 = 0 ∧ s.sys.jumpAt = none ∧ (s.dom 133).st = .on
    let addr := s.fldAt Reg.bootXspiAddr 25 0
    let len := s.fldAt Reg.bootXspiLen 31 0
    let begins (n : Nat) (i : Instr) := s.sys.xspi = none → v.getLsbD n = true → v.toNat % 2 ^ n = 0 → exec i s = .next { (s.answer 0) with
      sys := { s.sys with xspi := some (n, addr, addrLocal (s.reg Reg.bootXspiDst).toNat, len) } }
    (rom → sliceUp s = false → leads (.bootImageSelect a b) (fun t => selectedDomains t = (List.range 8).map (fun g => 56 + g)
      ∧ t.fldAt (Reg.memSliceCfg 0) 0 0 = 0 ∧ t.sys.jumpAt = none))
    ∧ (rom → sliceUp s = true → r.state f = 1 ∨ (r.state f = 2 ∧ r.trials f < 3) → headerOk s h = true → c.ok1 = true ∨ c.ok2 = true →
        leads (.bootImageSelect a b) (fun t => t.sys.jumpAt = some s.now ∧ t.sys.wdogArmed = true ∧ t.sys.wdogAt = s.now
          ∧ t.fldAt Reg.bootStat 0 0 = f ∧ bit (t.reg Reg.bootStat) 1 = decide (r.state f = 2) ∧ t.fldAt Reg.bootStat 5 3 = 1
          ∧ (t.reg Reg.bootImgVer).toNat = h.image ∧ ∀ i, i < 256 + h.body → t.byte (0x10_0000_0000 + i) = s.flashByte (fwSlotBase f + i)))
    ∧ (rom → sliceUp s = true → (∀ x, x < 2 → r.state x = 0 ∨ r.state x = 3) → exec (.bootImageSelect a b) s =
        .next ((s.setReg Reg.bootStat 0x118).modSys (fun y => { y with romFailAt := some s.now })))
    ∧ (∀ x, s.sys.jumpAt = some x → s.sys.failAt = none → s.memb.trained = 0 →
        (s.fldAt Reg.memDdrCfg 5 4 ≠ 3 → leads (.ddrTrainingDone true) (fun t => t.memb.trained = 0xF)) ∧ leads (.ddrTrainingDone false) (fun t => t.sys.ddrFails = s.sys.ddrFails + 1
          ∧ (1 ≤ s.sys.ddrFails → t.fldAt Reg.bootStat 15 8 = 2 ∧ t.sys.failAt = some s.now)))
    ∧ (s.memb.trained = 0xF → s.memb.eccDone = false → leads .ddrEccInitDone (fun t => t.memb.eccDone = true ∧ t.mem = s.mem
        ∧ (s.sys.provisioned = false → t.fldAt Reg.bootStat 15 8 = 3)
        ∧ (s.sys.provisioned = true → s.sys.commA = none → s.sys.commB = none → t.fldAt Reg.bootStat 15 8 = 4)
        ∧ (∀ x r, s.sys.provisioned = true → s.sys.commA = some (0, [x]) → s.sys.commB = none → commissionable x.reg = true → regAt x.reg = some r →
            t.reg x.reg = (s.plainWrite x.reg r x.value).reg x.reg)))
    ∧ (1 ≤ len → len ≤ 2 ^ 26 → begins 0 (.xspiRead (.cc k) v)) ∧ (1 ≤ len → addr % 256 + len ≤ 256 → begins 1 (.xspiProgram (.cc k) v))
    ∧ begins 2 (.xspiErase4k (.cc k) v) ∧ begins 3 (.xspiErase64k (.cc k) v)
    ∧ (s.sys.xspi ≠ none → exec (.xspiRead (.cc k) v) s = .next (s.answer 0) ∧ exec (.xspiProgram (.cc k) v) s = .next (s.answer 0))
    ∧ (∀ cmd x dst n, s.sys.xspi = some (cmd, x, dst, n) → leads (.xspiDone e) (fun t => t.sys.xspi = none
        ∧ bit (t.reg Reg.bootXspiStat) (if e then 2 else 1) = true ∧ (cmd = 0 → t.sys.flash = s.sys.flash)
        ∧ (∀ y, y < (flashSpan cmd x).1 ∨ (flashSpan cmd x).1 + (flashSpan cmd x).2 ≤ y → cmd ≠ 1 ∨ x % 256 + n ≤ 256 → t.flashByte y = s.flashByte y)
        ∧ (e = false → (cmd = 0 → ∀ i, i < n → t.byte (dst + i) = s.flashByte ((x + i) % 2 ^ 26))
          ∧ (cmd = 1 → ∀ i, i < n → t.flashByte (x + i) = s.flashByte (x + i) &&& s.byte (dst + i))
          ∧ (cmd = 2 ∨ cmd = 3 → ∀ y, (flashSpan cmd x).1 ≤ y → y < (flashSpan cmd x).1 + (flashSpan cmd x).2 → t.flashByte y = 0xFF))))

/-- Uploads, trials and packages (R496, R510 to R512, R514, R515): where each is taken, what it writes, and the boot control record that
follows.
Model's choices used: log 102, 138. -/
def Obligations.UploadsAndPackages : Prop :=
  ∀ (s : State) (image : List Byte) (record : List Setting) (b : Bundle) (p : Package) (copyB auth : Bool),
    let leads (i : Instr) (P : State → Prop) := ∃ t, exec i s = .next t ∧ P t
    let r := bootRecord s
    let x := if r.active = 0 then 1 else 0
    let booted := s.fldAt Reg.bootStat 0 0
    r.seq + 1 < 2 ^ 64 →
    (s.sys.maintUp = true → s.sys.provisioned = true → s.sys.jumpAt ≠ none → uploadOk s image = true → leads (.firmwareUpload true image true) (fun t =>
        (∀ i, i < image.length → t.flashByte (fwSlotBase x + i) = image.getD i 0)
        ∧ bootRecord t = { ((r.setState x 2).setTrials x 0).setVersion x (fwHeader image).image with seq := r.seq + 1 }))
    ∧ exec (.firmwareUpload true image false) s = .next s ∧ exec (.firmwareUpload false image true) s = .next s
    ∧ (s.sys.jumpAt ≠ none → trialWaits s ≠ none → stillFor s 60_000_000_000 = true → inputOn s 3 = false → s.tram.windows = [] → s.sys.porHeld = false →
        s.sys.warmAt = none → leads .trialReset (fun t => t.sys.warmAt = some s.now ∧ t.reg Reg.sysRstCause = 0x40))
    ∧ (∀ w, s.bitAt Reg.bootStat 1 = true → r.state booted = 2 → s.sys.servicesAt = some w → s.past w 600_000_000_000 = true → taskHeld s = false →
        leads .trialConfirm (fun t => bootRecord t = { r.setState booted 1 with active := booted, seq := r.seq + 1 }))
    ∧ (s.sys.maintUp = true → s.sys.secReady = true → s.sys.provCount < 64 → (s.sys.provisioned = true → copyB = true) →
        leads (.provisioningBundle b true true copyB) (fun t => t.sys.provisioned = true ∧ t.sys.provCount = s.sys.provCount + 1
          ∧ t.sys.clipRoot = b.clipRoot ∧ t.sys.floorWarning = max s.sys.floorWarning b.floorWarning ∧ t.sys.floorCounting = max s.sys.floorCounting b.floorCounting
          ∧ t.sys.floorNarration = max s.sys.floorNarration b.floorNarration
          ∧ t.sys.floorFirmware = max s.sys.floorFirmware (min 64 b.floorFirmware)))
    ∧ (64 ≤ s.sys.provCount → exec (.provisioningBundle b true true copyB) s = .next s)
    ∧ (s.sys.maintUp = true → s.sys.provisioned = true → record.length < 0x1_0000 → leads (.commissioningWrite true record) (fun t =>
        ∃ n, (t.sys.commA = some (n, record) ∧ t.sys.commB = s.sys.commB ∧ ∀ y, s.sys.commB = some y → y.1 < n)
          ∨ (t.sys.commB = some (n, record) ∧ t.sys.commA = s.sys.commA ∧ ∀ y, s.sys.commA = some y → y.1 < n)))
    ∧ (verified s p true true true = true → inForce s p.kind = none → leads (.packageVerify p ⟨auth, copyB⟩ true true true) (fun t => inForce t p.kind = some p
        ∧ (∀ q, q ≠ p.kind → inForce t q = inForce s q) ∧ (p.kind ≠ .narration → copyBit (bootRecord t) p.kind = copyB)
        ∧ (p.kind = .warning → s.sage.st = .reset → t.sage.st = .selftest)))
    ∧ (∀ q, verified s p true true true = true → inForce s p.kind = some q → q ≠ p →
        (s.sys.maintUp = true → leads (.packageVerify p ⟨true, copyB⟩ true true true) (fun t => p ∈ t.pkgs.waiting ∧ inForce t p.kind = some q))
        ∧ (auth = false ∨ s.sys.maintUp = false → exec (.packageVerify p ⟨auth, copyB⟩ true true true) s = .next s))
    ∧ (∀ g h u, verified s p g h u = false → ∃ n, n < 7 ∧ exec (.packageVerify p ⟨auth, copyB⟩ g h u) s = .next (s.logRule 495 (16 * kindNo p.kind + n)))
    ∧ (∀ q, s.pkgs.waiting.find? (fun y => y.kind = .counting) = some q → s.tram.windows = [] → s.hld.phase ≠ .armed → s.adapt.running = false →
        leads (.packageActivate .counting) (fun t => t.pkgs.counting = some q ∧ t.pkgs.warning = s.pkgs.warning ∧ ∀ y, y ∈ t.pkgs.waiting → y.kind ≠ .counting))
    ∧ (∀ q, s.pkgs.waiting.find? (fun y => y.kind = .narration) = some q → narrating s = none → s.hld.phase ≠ .armed →
        leads (.packageActivate .narration) (fun t => t.pkgs.narration = some q ∧ ∀ y, y ∈ t.pkgs.waiting → y.kind ≠ .narration))
    ∧ exec (.packageActivate .warning) s = .next s

/-! ### Interrupts, the security engine, MAINT and HOST (R114, R115, R523, R524) -/

/-- The interrupt controller's claim and completion (R524), the security engine's ring and debug lock (R114, R495), and the MAINT and HOST ports
(R114, R115). The order among sources of several priorities is the model's reading of a RISC-V PLIC, and where HOST's ranges lie is free.
Model's choices used: log 103, 104, 105, 106. -/
def Obligations.InterruptsAndPorts : Prop :=
  ∀ (s : State) (k : Fin 4) (x : Fin 8) (v : BitVec 32) (up : Bool) (a : BitVec 48) (size : Nat) (id : BitVec 32) (bar : HostBar) (o n : Nat)
    (l : List Byte),
    let leads (i : Instr) (P : State → Prop) := ∃ t, exec i s = .next t ∧ P t
    let sys (i : Instr) (y : Sys) := exec i s = .next { s with sys := y }
    let w (i : Instr) (y : Sys) := exec i s = .next { (s.answer 0) with sys := y }
    let prio (m : Nat) := s.fldAt (Reg.sysIrqPrio m) 2 0
    let ready (m : Nat) := 1 ≤ m ∧ m < 80 ∧ irqPending s m = true ∧ s.bitAt (Reg.sysIrqEn x (m / 32)) (m % 32) = true ∧ prio m ≠ 0
    let size' := if bar = .bar0 then 2 ^ 20 else 2 ^ 28
    (∀ m, ready m → (∀ j, ready j → prio j < prio m ∨ (prio j = prio m ∧ m ≤ j)) → leads (.sysIrqClaim (.cc k) x) (fun t =>
        t.bus = { value := BitVec.ofNat 64 m, error := false, page := false } ∧ t.sys.inService = s.sys.inService ++ [m] ∧ irqPending t m = false
        ∧ ∀ j, j ≠ m → (irqPending t j = irqPending s j)))
    ∧ ((∀ m, ¬ready m) → exec (.sysIrqClaim (.cc k) x) s = .next (s.answer 0))
    ∧ (v.toNat < 80 → s.bitAt (Reg.sysIrqEn x (v.toNat / 32)) (v.toNat % 32) = true → leads (.sysIrqComplete (.cc k) x v) (fun t =>
        v.toNat ∉ t.sys.inService ∧ ∀ j, j ≠ v.toNat → (j ∈ t.sys.inService ↔ j ∈ s.sys.inService)))
    ∧ (v.getLsbD 0 = true → w (.secDebugLock (.cc k) v) { s.sys with debugUnlocked := false })
    ∧ leads (.secCommandSubmit (.cc k) v) (fun t => t.sys = { s.sys with secTail := v.toNat } ∧ RegsOnly { (s.answer 0) with sys := t.sys } t [Reg.secRingTail])
    ∧ (s.sys.secReady = true → s.sys.secDone ≠ s.sys.secTail → leads .secCommandDone (fun t => t.sys.secDone = (s.sys.secDone + 1) % 2 ^ 32 ∧ 15 ∈ t.sys.events))
    ∧ (s.sys.secReady = true → s.sys.provisioned = true → sys (.debugUnlock true) { s.sys with debugUnlocked := true })
    ∧ exec (.debugUnlock false) s = .next s
    ∧ (s.sys.secReady = false → (s.dom 175).st = .on → leads .securityEngineReady (fun t => t.sys.secReady = true
        ∧ (s.bay.phase = .empty → s.bay.present = true → s.bay.latched = true → s.bitAt Reg.bayCtrl 0 = true → t.bay.phase = .identifying)
        ∧ (∀ j, s.sys.failAt = none → s.sys.jumpAt = some j → s.past j 10_000_000 = true → t.fldAt Reg.bootStat 15 8 = 5)))
    ∧ (s.sys.maintUp ≠ up → (up = true → (s.dom 168).st = .on) → leads (.maintLinkChange up) (fun t => t.sys.maintUp = up ∧ 18 ∈ t.sys.events))
    ∧ (s.sys.hostUp ≠ up → (up = true → (s.dom 172).st = .on) → leads (.hostLinkChange up) (fun t => t.sys.hostUp = up ∧ 17 ∈ t.sys.events
        ∧ t.tram = s.tram ∧ t.sage = s.sage ∧ t.mem = s.mem ∧ t.regs = s.regs))
    ∧ (s.sys.maintUp = true → s.sys.provisioned = true →
        (cabOutputReg a.toNat = false → exec (.maintRequest true (.readRegister a size)) s = .next (readControl (.cc 0) a.toNat size s))
        ∧ (cabOutputReg a.toNat = true → exec (.maintRequest true (.readRegister a size)) s = .next s.busError)
        ∧ exec (.maintRequest true .readLogs) s = .next { (s.answer (BitVec.ofNat 64 s.log.length)) with sys := { s.sys with maintLog := s.log } }
        ∧ (s.bay.phase = .mounted → s.bay.retire ≠ 4 →
            exec (.maintRequest true (.exportClip id)) s = .next { s with bay := { s.bay with exporting := some id } })
        ∧ (s.bay.phase ≠ .mounted ∨ s.bay.retire = 4 → exec (.maintRequest true (.exportClip id)) s = .next s)
        ∧ (s.sys.debugUnlocked = true → exec (.maintRequest true .debug) s = .next (s.answer 1))
        ∧ (s.sys.debugUnlocked = false → exec (.maintRequest true .debug) s = .next s.busError))
    ∧ (∀ r, r = .icmpEcho ∨ s.sys.maintUp = false ∨ s.sys.provisioned = false → exec (.maintRequest up r) s = .next s)
    ∧ (∀ r, exec (.maintRequest false r) s = .next s)
    ∧ (s.sys.hostUp = true → leads (.hostBarAccess .doorbell o none n) (fun t => 17 ∈ t.sys.events ∧ t.mem = s.mem))
    ∧ (s.sys.hostUp = true → s.memb.trained = 0xF → bar ≠ .doorbell → ∃ base, base + size' ≤ usableDram s
        ∧ (o + n ≤ size' → s.anyPoison (base + o) n = false →
            exec (.hostBarAccess bar o none n) s = .next (s.answer (BitVec.ofNat 64 (s.load (base + o) n))))
        ∧ (o + l.length ≤ size' → s.anyPoison (base + o) l.length = false → leads (.hostBarAccess bar o (some l) n) (fun t =>
            (∀ j, j < l.length → t.byte (base + o + j) = l.getD j 0) ∧ (∀ b, b < base + o ∨ base + o + l.length ≤ b → t.byte b = s.byte b)
            ∧ t = { s with mem := t.mem, memb := { s.memb with poison := t.memb.poison }, bus := { value := 0, error := false, page := false } }))
        ∧ (size' < o + n → exec (.hostBarAccess bar o none n) s = .next s.busError))
    ∧ (s.sys.hostUp = false → exec (.hostBarAccess bar o (some l) n) s = .next s)

/-! ### The cab outputs and inputs (chapter 3) -/

/-- The warning pair (R34, R98 to R106): commands, confirmation, read-back faults, the self-test, the test pulse and an external drive; a fault
leaves the outputs safe.
Model's choices used: log 109, 111. -/
def Obligations.CabOutputs : Prop :=
  ∀ (s : State) (out : Bool) (level : ReadBack) (r : SelfTest) (v : BitVec 32) (t0 : Nat),
    let leads (i : Instr) (P : State → Prop) := ∃ t, exec i s = .next t ∧ P t
    let p := s.pin out
    let fails (t : State) := OutputsSafe t ∧ t.sage.held = true ∧ (t.pin out).fault = true ∧ (t.pin (!out)).fault = (s.pin (!out)).fault
    let test (t : State) := OutputsSafe t ∧ t.cab.testAt = s.now
      ∧ t.cab.extDrive = (!(r.openA && r.openB) && (s.cab.extDrive || s.past s.cab.cutAt 200_000))
      ∧ if r.openA && r.openB && r.moveA && r.moveB then faultLatched t = false ∧ t.cab.passAt = some s.now
        else t.cab.selfTestFail = true ∧ t.sage.held = true
          ∧ (t.pin false).fault = ((s.pin false).fault || if r.openA && r.openB then !r.moveA else !r.openA)
          ∧ (t.pin true).fault = ((s.pin true).fault || if r.openA && r.openB then !r.moveB else !r.openB)
    leads (.cabOutCommand .sage v) (fun t => (∀ o, commanded t o = v.getLsbD (num o)) ∧ cutClosed t = cutClosed s
        ∧ (commanded s out ≠ v.getLsbD (num out) → (t.pin out).edgeAt = s.now ∧ (t.pin out).heldAt = s.now ∧ (t.pin out).confirmed = false
          ∧ (t.pin out).pulse = none)
        ∧ ((∃ o, commanded s o ≠ v.getLsbD (num o)) → ∀ o, (t.pin o).pulse = none))
    ∧ leads (.safeCutWrite .sage v) (fun t => cutClosed t = v.getLsbD 0 ∧ (∀ o, commanded t o = commanded s o)
        ∧ (cutClosed s = true → v.getLsbD 0 = false → t.cab.cutAt = s.now))
    ∧ (∀ who : Requester, who ≠ .sage → exec (.cabOutCommand who v) s = .next s.busError ∧ exec (.safeCutWrite who v) s = .next s.busError
      ∧ exec (.cabSelftest who v r) s = .next s.busError)
    ∧ (v.getLsbD 0 = true → pairSafe s = true → leads (.cabSelftest .sage v r) (fun t => test t ∧ (s.sage.st = .selftest → t.sage.st = .safe)))
    ∧ (pairSafe s = false → exec (.cabSelftest .sage v r) s = .next (s.answer 0))
    ∧ (faultLatched s = true → pairSafe s = true → s.past s.cab.testAt 1_000_000_000 = true → leads (.selftestRepeat r) test)
    ∧ leads (.readbackChange out level) (fun t => (t.pin out).rb = level ∧ (t.pin out).rbAt = s.now
        ∧ (cutClosed s = true → t.cab.extDrive = s.cab.extDrive)
        ∧ (cutClosed s = false → level = .asserted → s.past s.cab.cutAt 200_000 = true → t.cab.extDrive = true ∧ t.sage.held = true)
        ∧ (cutClosed s = false → level = .released → (s.pin (!out)).rb = .released → t.cab.extDrive = false)
        ∧ (level = .asserted → (s.pin (!out)).rb = .asserted → OutputsSafe t ∧ t.sage.held = true
            ∧ ∀ o, (t.pin o).fault = ((s.pin o).fault || !commanded s o))
        ∧ (level ≠ .asserted → ∀ o, commanded t o = commanded s o ∧ (t.pin o).fault = (s.pin o).fault))
    ∧ (s.past s.cab.cutAt 200_000 = true → cutClosed s = false → leads .extDriveCheck (fun t =>
        (s.cab.outA.rb = .asserted ∨ s.cab.outB.rb = .asserted → t.cab.extDrive = true)
        ∧ (s.cab.outA.rb = .released → s.cab.outB.rb = .released → t.cab.extDrive = false)))
    ∧ (rbMatches s out = true → p.confirmed = false → leads (.readbackConfirmSample out) (fun t => t.pin out = { p with confirmed := true }
        ∧ t.pin (!out) = s.pin (!out) ∧ t.regs = s.regs
        ∧ (s.cab.awaitA = (!out) → s.cab.awaitB = out → t.log = s.log ++ [.rule 34 s.now] ∧ t.cab.awaitA = false ∧ t.cab.awaitB = false)
        ∧ (s.cab.awaitA = false → s.cab.awaitB = false → t.log = s.log)))
    ∧ (rbMatches s out = false → s.past (max p.rbAt (p.edgeAt + 60_000)) 100_000 = true → leads (.readbackMismatchTimeout out) fails)
    ∧ (rbMatches s out = true → exec (.readbackMismatchTimeout out) s = .next s)
    ∧ (commanded s out = true → p.pulse = none → s.past p.heldAt 1_000_000_000 = true → leads (.testPulse out) (fun t => driven t out = false
        ∧ commanded t out = true ∧ (t.pin out).pulse = some s.now ∧ t.pin (!out) = s.pin (!out)))
    ∧ (p.pulse = some t0 → s.past t0 80_000 = true → leads (.testPulseEnd out) (fun t => (t.pin out).pulse = none
        ∧ (p.pulseSeen = true → driven t out = commanded s out ∧ (t.pin out).fault = p.fault) ∧ (p.pulseSeen = false → fails t)))

/-- The inputs and the general outputs (R95 to R97, R108): a sample is taken into the run of its input, and the run of the debounce time changes
its state; and what follows from an input: the door's windows disagree (R25), the running direction (R87), the trigger of the emergency
handle (R26), the cab view (R112).
Model's choice used: log 112. -/
def Obligations.CabInputs : Prop :=
  ∀ (s : State) (i : Fin 8) (level : Bool) (k : Fin 4) (v : BitVec 32) (door : DoorId),
    let leads (c : Instr) (P : State → Prop) := ∃ t, exec c s = .next t ∧ P t
    let same := s.cab.raw.getLsbD i = level
    let since := if s.cab.raw.getLsbD i = level then get (fun _ => 0) s.cab.rawAt i else s.now
    let run := s.past since (1_000_000 * (max (if i = 2 ∨ i = 3 then 10 else 1) (s.fldAt (Reg.cabInDeb i) 7 0) - 1))
    let sampled (t : State) := t.cab.raw.getLsbD i = level ∧ (∀ j, j < 8 → j ≠ i.val → t.cab.raw.getLsbD j = s.cab.raw.getLsbD j)
      ∧ get (fun _ => 0) t.cab.rawAt i = since
      ∧ (¬same → get (fun _ => []) t.cab.rawChanges i = (get (fun _ => []) s.cab.rawChanges i).filter (fun x => decide (s.now < x + 1_000_000_000)) ++ [s.now])
    (inputOn s i ≠ level → run = true → leads (.cabInputDebounced i level) (fun t => sampled t ∧ inputOn t i = level
        ∧ (∀ j, j ≠ i.val → inputOn t j = inputOn s j) ∧ get (fun _ => 0) t.cab.inAt i = s.now ∧ 12 ∈ t.sys.events
        ∧ (i = 2 ∨ i = 3 → t.sage.dir = directionFrom t t.sage.runDir)
        ∧ (i = 3 → level = false → t.enc.running = false)
        ∧ (i = 4 → level = true → ∃ y, y ∈ t.tram.incidents ∧ y.car = s.fab.slot ∧ y.triggers.getLsbD 1 = true ∧ y.clipOpen = true)))
    ∧ (inputOn s i = level ∨ run = false → leads (.cabInputDebounced i level) (fun t => sampled t ∧ t = { s with cab := t.cab }
        ∧ t.cab.inputs = s.cab.inputs))
    ∧ (50 < ((get (fun _ => []) s.cab.rawChanges i).filter (fun x => decide (s.now < x + 1_000_000_000))).length → leads (.inputChatter i) (fun t =>
        bit (t.reg Reg.cabInStat) (16 + i) = true ∧ 12 ∈ t.sys.events ∧ t.cab = s.cab ∧ ∀ a, a ≠ Reg.cabInStat → t.reg a = s.reg a))
    ∧ (((get (fun _ => []) s.cab.rawChanges i).filter (fun x => decide (s.now < x + 1_000_000_000))).length ≤ 50 → exec (.inputChatter i) s = .next s)
    ∧ leads (.gpoWrite (.cc k) v) (fun t => (t.reg Reg.cabGpo).toNat = v.toNat % 64
        ∧ t.cab = { s.cab with balls := if s.cab.ballsFree then s.cab.balls else v.toNat % 64 }
        ∧ RegsOnly { (s.answer 0) with cab := t.cab } t [Reg.cabGpo])
    ∧ (∀ w d, w ∈ s.tram.windows → w.door = door → w.differs = some d → d + 500_000_000 < s.now → leads (.doorReleaseDisagree door) (fun t =>
        door ∈ t.tram.releaseDiffers ∧ ∃ u, u ∈ t.tram.windows ∧ u = w.flag 2))

/-! ### Thyme and the vehicle port (chapter 3) -/

/-- Thyme (R109, R111, R118): the servo slews an offset of up to 1 ms and steps a larger one, sixteen good Syncs of the best master lock it, and
the time-outs take it to HOLDOVER and to FREERUN; messages of another domain than VEH_PTP_CFG names do nothing.
Model's choices used: log 107, 108, 156, 157. -/
def Obligations.PtpTime : Prop :=
  ∀ (s : State) (dom : Byte) (m : Nat) (o : Int) (iv : Nat) (cls : Byte) (better : Bool) (t0 : Nat),
    let leads (i : Instr) (P : State → Prop) := ∃ t, exec i s = .next t ∧ P t
    let n := if o.natAbs < 10_000 then s.thy.good + 1 else 0
    let ends (t : State) := (s.thy.heardIn ≠ s.now / 1_000_000_000 → t.thy.heardIn = s.now / 1_000_000_000
        ∧ (1 < s.thy.heard.length → Counted s t Reg.thyMasterChg 1)) ∧ (s.thy.heard.length ≤ 1 → t.reg Reg.thyMasterChg = s.reg Reg.thyMasterChg)
    let mine := dom.toNat = s.fldAt Reg.vehPtpCfg 7 0
    (¬mine → exec (.ptpSync ⟨dom, m⟩ o iv) s = .next s ∧ exec (.ptpAnnounce ⟨dom, m⟩ cls better) s = .next s)
    ∧ (mine → s.thy.master = some m → leads (.ptpSync ⟨dom, m⟩ o iv) (fun t =>
        (t.thy.mode = .locked ↔ 16 ≤ n ∨ s.thy.mode = .locked) ∧ t.thy.good = min n 16 ∧ t.thy.syncAt = s.now ∧ t.thy.interval = iv ∧ t.thy.offset = o
        ∧ m ∈ t.thy.heard ∧ t.now = s.now ∧ -100_000 ≤ t.thy.freq ∧ t.thy.freq ≤ 100_000
        ∧ (o.natAbs ≤ 1_000_000 → ptpNs t = ptpNs s ∧ t.thy.slew = -o ∧ t.thy.slewAt = s.now ∧ t.thy.stepAt = s.thy.stepAt)
        ∧ (1_000_000 < o.natAbs → t.thy.base + slewed t + drifted t = s.thy.base + slewed s + drifted s - o ∧ t.thy.stepAt = some s.now ∧ Counted s t Reg.thySteps 1
          ∧ 14 ∈ t.sys.events ∧ 128 ≤ timeQuality t
          ∧ ∀ w, w ∈ t.tram.windows → w.stepped = true)))
    ∧ (mine → s.thy.master ≠ some m → leads (.ptpSync ⟨dom, m⟩ o iv) (fun t => t.thy = { s.thy with heard := t.thy.heard, heardIn := t.thy.heardIn } ∧ ends t))
    ∧ (mine → leads (.ptpAnnounce ⟨dom, m⟩ cls better) (fun t => ends t ∧ t.thy.mode = s.thy.mode ∧ t.thy.base = s.thy.base
        ∧ (248 < cls.toNat → t.thy.master ≠ some m) ∧ (cls.toNat ≤ 248 → s.thy.master = none ∨ better = true → t.thy.master = some m)
        ∧ (cls.toNat ≤ 248 → s.thy.master ≠ none → better = false → t.thy.master = s.thy.master ∧ t.thy.good = s.thy.good)
        ∧ (s.thy.master ≠ some m → t.thy.master = some m → t.thy.good = 0)))
    ∧ (s.thy.mode = .locked → s.past s.thy.syncAt (3 * s.thy.interval) = true → leads .ptpSyncTimeout (fun t =>
        t.thy = { s.thy with mode := .holdover, holdAt := s.now, good := 0 } ∧ 14 ∈ t.sys.events))
    ∧ (s.thy.mode ≠ .locked → exec .ptpSyncTimeout s = .next s)
    ∧ (s.thy.mode = .holdover → s.past s.thy.holdAt 28_800_000_000_000 = true → leads .holdoverExpiry (fun t => t.thy = { s.thy with mode := .freerun }
        ∧ 14 ∈ t.sys.events))
    ∧ leads .masterInterval ends
    ∧ (s.thy.stepAt = some t0 → s.past t0 10_000_000_000 = true → leads .timeStepFlagExpiry (fun t => t = { s with thy := { s.thy with stepAt := none } }
        ∧ timeQuality t < 128))

/-- VEH (Table 3-2, R82, R83, R86, R87, R89, R90, R92, R94, R117): frames and telegrams that are dropped and counted, the vehicle state taken and passed to
Sage, the warning dataset, the queue of records, and operator requests with their replies.
Model's choices used: log 129, 131, 132. -/
def Obligations.VehiclePort : Prop :=
  ∀ (s : State) (f : VehFrame) (g : Telegram) (id : Nat) (com : BitVec 32) (ver car : Byte) (slots : BitVec 16) (req : BitVec 32) (up : Bool),
    let leads (i : Instr) (P : State → Prop) := ∃ t, exec i s = .next t ∧ P t
    let tagOk := f.tags = [] ∨ ∃ vid, f.tags = [(0x8100, vid)] ∧ vid.toNat = s.fldAt Reg.vehPortCtrl 13 2
    let mine := g.comId.toNat = comIdOf s 0
    let bad := g.len ≠ 16 ∨ g.version ≠ 1 ∨ g.src.toNat ≠ (s.reg Reg.vehVsSrc).toNat ∨ 3 ≤ g.runDir.toNat
    let sent (t : State) (kind c : Nat) (l : List Byte) := get (fun _ => (0, [])) t.veh.last (kind * 16 + c) = (comIdOf s kind, l)
    let reply (r inc : Nat) := bytesBE 1 1 ++ bytesBE 1 r ++ bytesBE 2 0 ++ bytesBE 4 req.toNat ++ bytesBE 4 inc
    let refused := servesCar s car.toNat = false ∨ slots = 0 ∨ ∃ k, k < 16 ∧ slots.getLsbD k = true ∧ (12 ≤ k ∨ slotClass s k = 0)
    (s.veh.linkUp = true →
      (f.len < 64 → exec (.vehFrameReceived f) s = .next (s.count Reg.vehRunt))
      ∧ (1522 < f.len → exec (.vehFrameReceived f) s = .next (s.count Reg.vehGiant))
      ∧ (64 ≤ f.len → f.len ≤ 1522 → f.kind ≠ .pause →
          (¬tagOk → exec (.vehFrameReceived f) s = .next (s.count Reg.vehProtoDrop))
          ∧ (tagOk → f.kind = .trdpBadHeader → exec (.vehFrameReceived f) s = .next (s.count Reg.vehTrdpDrop))
          ∧ (tagOk → f.kind = .unsupported → exec (.vehFrameReceived f) s = .next (s.count Reg.vehProtoDrop))
          ∧ (tagOk → f.kind = .pdPull → exec (.vehFrameReceived f) s = .next s))
      ∧ (g.fcsOk = false ∨ (mine ∧ bad) → exec (.vehicleStateTelegram g) s = .next (s.count Reg.vehTrdpDrop))
      ∧ (g.fcsOk = true → ¬mine → exec (.vehicleStateTelegram g) s = .next s)
      ∧ (g.fcsOk = true → mine → ¬bad → s.veh.seq = some g.seq → exec (.vehicleStateTelegram g) s = .next s)
      ∧ (g.fcsOk = true → mine → ¬bad → s.veh.seq ≠ some g.seq → ∃ (t : State) (q : Packet), exec (.vehicleStateTelegram g) s = .next t ∧ t.veh.seq = some g.seq
          ∧ t.veh.flags = g.flags.toNat ∧ t.veh.runDir = g.runDir.toNat ∧ t.veh.speed = (if g.flags.getLsbD 0 then g.speed.toNat else s.veh.speed) ∧ t.veh.fresh = true ∧ t.veh.doorL = g.doorL ∧ t.veh.doorR = g.doorR
          ∧ t.veh.acceptedAt = some s.now ∧ t.veh.speedAt = (if g.flags.getLsbD 0 then some s.now else s.veh.speedAt) ∧ 11 ∈ t.sys.events
          ∧ q ∈ t.fab.net ++ t.fab.held ∧ q.dst = ownEid s 0x03C ∧ q.ptype = 0 ∧ q.cc = 2 ∧ q.ccEn = true ∧ q.payload = vehicleArea t)
      ∧ ((∀ w, s.veh.warnAt = some w → s.past w 9_000_000 = true) → leads .warningDatasetCycle (fun t => t.veh.warnAt = some s.now
          ∧ sent t 10 s.fab.slot (ownDataset s) ∧ ∀ c, c ∈ lostCars s → sent t 10 c (survivorDataset s c)))
      ∧ (∀ r, r ∈ s.veh.records → r.id = id → r.sentAt ≠ none → leads (.mdReply id) (fun t =>
          t.veh.records.map (·.id) = (s.veh.records.map (·.id)).filter (fun j => j ≠ id)))
      ∧ (∀ r w, s.veh.records.find? (fun x => x.id = id) = some r → r.sentAt = some w → s.past w (1_000_000_000 * min 8 (2 ^ r.tries)) = true →
          leads (.mdResendTimer id) (fun t => sent t r.kind s.fab.slot r.data
            ∧ ∃ x, x ∈ t.veh.records ∧ x = { r with tries := r.tries + 1, sentAt := some s.now }))
      ∧ (com.toNat ≠ comIdOf s 50 → exec (.operatorRequest ⟨com, ver⟩ car slots req) s = .next s)
      ∧ (com.toNat = comIdOf s 50 → ver ≠ 1 → exec (.operatorRequest ⟨com, ver⟩ car slots req) s = .next (s.count Reg.vehTrdpDrop))
      ∧ (com.toNat = comIdOf s 50 → ver = 1 → refused → leads (.operatorRequest ⟨com, ver⟩ car slots req) (fun t => sent t 51 s.fab.slot (reply 1 0) ∧ t.tram = s.tram))
      ∧ (com.toNat = comIdOf s 50 → ver = 1 → ¬refused → leads (.operatorRequest ⟨com, ver⟩ car slots req) (fun t => ∃ y, y ∈ t.tram.incidents ∧ y.car = car.toNat ∧ y.clipOpen = true
          ∧ y.triggers.getLsbD 2 = true ∧ (∀ k, k < 12 → slots.getLsbD k = true → y.slots.getLsbD k = true)
          ∧ sent t 51 s.fab.slot (reply (if narrationShed s then 3 else if t.tram.incidents.any (fun z => z.id = y.id && z.narrate) then 0 else 2) y.id))))
    ∧ (s.veh.linkUp = false → exec (.vehFrameReceived f) s = .next s ∧ exec (.vehicleStateTelegram g) s = .next s ∧ exec .warningDatasetCycle s = .next s)
    ∧ (s.veh.linkUp ≠ up → (up = true → s.bitAt Reg.vehPortCtrl 0 = true ∧ (s.dom 167).st = .on) → leads (.vehLinkChange up) (fun t => t.veh.linkUp = up
        ∧ t.veh.fresh = false ∧ 11 ∈ t.sys.events ∧ t.veh.records.map (·.id) = s.veh.records.map (·.id)
        ∧ (∀ (i : Nat) (r : MdRecord), t.veh.records[i]? = some r → r.tries = 0 ∧ r.sentAt = if up ∧ i < 8 then some s.now else none)
        ∧ (up = true → ∀ y, y ∈ t.tram.incidents → y.held = [])))
    ∧ (let l := ownDataset s
       l.length = 32 ∧ l[0]? = some 1 ∧ l[1]? = some (BitVec.ofNat 8 s.fab.slot) ∧ l[3]? = some (BitVec.ofNat 8 (ownLevel s))
       ∧ l[4]? = some (BitVec.ofNat 8 (patternOf s)) ∧ l[5]? = some (BitVec.ofNat 8 (report (owReasons s)).1)
       ∧ l[6]? = some (BitVec.ofNat 8 (report (owReasons s)).2) ∧ l[12]? = some (BitVec.ofNat 8 ((activeSlot s).getD 0xFF))
       ∧ l[13]? = some (BitVec.ofNat 8 (timeQuality s)))

/-! ### Camera ingress and decoding (chapter 2) -/

/-- Frames and units (R33, R47, R49, R53 to R55, R57, R58, R63, R64, R70, R73, Table 2-3): frames outside the limits are dropped under their
counts; a unit whole in one packet is kept in the bitstream ring and queued, or dropped as its class has it, or rejects the slot by its parameter
set; an incomplete one is given up when its wait ends.
Model's choices used: log 115, 116, 161, 162, 163. -/
def Obligations.CameraFrames : Prop :=
  ∀ (s : State) (p : Fin 2) (f : CamFrame) (k : Fin 12) (q : RtpPacket),
    let leads (i : Instr) (P : State → Prop) := ∃ t, exec i s = .next t ∧ P t
    let drops (a : Nat) := exec (.camFrameReceived p f) s = .next (s.count a)
    let tagOk := f.tags = [] ∨ ∃ vid, f.tags = [(0x8100, vid)] ∧ vid.toNat = s.fldAt (Reg.camPortCtrl p) 13 2
    let x := s.slot k
    let sp := q.sps.or x.spsIn
    let size := 8 * q.data.length
    let px := codedPixels sp
    let u : AUnit := { ts := q.ts, data := q.data, irap := q.irap, nonRef := q.nonRef, sps := sp, pathStart := s.now, capture := x.report.map (fun c => captureTime c q.ts), doneAt := s.now }
    let good := 64 ≤ f.len ∧ f.len ≤ 9216 ∧ f.fcsOk = true ∧ tagOk
    let got (t : State) := get (fun _ => 0) t.cam.rxFrames p = min (2 ^ 64 - 1) (get (fun _ => 0) s.cam.rxFrames p + 1)
    let live := x.playAt ≠ none ∧ (x.st.serves = true ∨ x.st = .connecting) ∧ slotPort s k = p.val ∧ (x.ssrc = q.ssrc ∨ x.st.serves = true)
    portUp s p = true →
    (f.len ≤ 63 → drops (Reg.camRunt p)) ∧ (9217 ≤ f.len → drops (Reg.camGiant p))
    ∧ (64 ≤ f.len → f.len ≤ 9216 → f.fcsOk = false → drops (Reg.camFcsErr p))
    ∧ (64 ≤ f.len → f.len ≤ 9216 → f.fcsOk = true → f.kind ≠ .pause → ¬tagOk →
        exec (.camFrameReceived p f) s = .next ((s.count (Reg.camVlanDrop p)).count (Reg.camProtoDrop p)))
    ∧ (good → f.kind = .fragment → leads (.camFrameReceived p f) (fun t => got t ∧ Counted s t (Reg.camFragDrop p) 1))
    ∧ (good → f.kind = .unsupported ∨ f.kind = .ipOptions ∨ (f.kind = .rtp k q ∧ ¬(live ∧ ∃ o, x.offer = some o ∧ o.pt = q.pt)) →
        leads (.camFrameReceived p f) (fun t => got t ∧ Counted s t (Reg.camProtoDrop p) 1 ∧ t.slot k = x))
    ∧ (∀ ntp rtp, good → f.kind = .rtcpSr k ntp rtp → leads (.camFrameReceived p f) (fun t => got t ∧ t.slot k = { x with report := some (ntp, rtp) }))
    ∧ (∀ o, good → f.kind = .rtp k q → live → x.offer = some o → o.pt = q.pt → x.ssrc = q.ssrc → x.parts = [] →
        x.first = none ∨ x.first = some q.seq → q.marker = true →
        (∀ c, sp.bind spsCode = some c → leads (.camFrameReceived p f) (fun t =>
          got t ∧ (t.slot k).st = .rejected ∧ (t.slot k).reject = c ∧ (t.slot k).queue = [] ∧ bit (t.reg Reg.camIrqStat) k = true))
        ∧ (sp.bind spsCode = none → x.resync = false ∨ q.irap = true → leads (.camFrameReceived p f) (fun t =>
          got t ∧ (t.slot k).rtpAt = s.now ∧ (t.slot k).parts = [] ∧ (t.slot k).first = some (q.seq + 1) ∧ (t.slot k).spsIn = sp
          ∧ (t.slot k).charges = x.charges + max px (size / 4)
          ∧ (ringBytes x.ring + q.data.length ≤ x.desc.ringSize → ∃ y, (t.slot k).ring = x.ring ++ [y] ∧ y.data = q.data ∧ y.time = s.now
              ∧ y.ts = q.ts ∧ y.irap = q.irap)
          ∧ (slotClass s k = 1 → 4 * px < size → (t.slot k).queue = x.queue ∧ (t.slot k).resync = true
              ∧ Counted s t (Reg.camSlotAuOversize k) 1)
          ∧ (slotClass s k = 1 → size ≤ 4 * px → (t.slot k).resync = false
              ∧ (t.slot k).queue = (if 2 ≤ x.queue.length then x.queue.drop 1 else x.queue) ++ [u]
              ∧ (2 ≤ x.queue.length → Counted s t (Reg.camSlotQDrop k) 1))
          ∧ (slotClass s k = 2 ∨ (slotClass s k = 3 ∧ s.bitAt Reg.camShedForce 0 = false) → x.st = .running → x.skipping = false → x.queue.length < 4 →
              (t.slot k).queue = x.queue ++ [u])
          ∧ (slotClass s k = 2 → x.skipping = false → 4 ≤ x.queue.length → (t.slot k).queue = x.queue ∧ (t.slot k).skipping = !q.nonRef
              ∧ Counted s t (Reg.camSlotQDrop k) 1 ∧ Counted s t (Reg.camSlotSkipFrames k) 1)
          ∧ (slotClass s k = 2 → x.st = .shedding → x.skipping = false → x.queue.length < 4 →
              bucketNow s x < (max px (size / 4) * 1_000_000_000 : Nat) → (t.slot k).queue = x.queue ∧ (t.slot k).skipping = !q.nonRef
              ∧ Counted s t (Reg.camSlotSkipFrames k) 1)
          ∧ (slotClass s k = 3 → x.st = .shedding → q.irap = true → x.queue.length < 4 → s.bitAt Reg.camShedForce 0 = false →
              (0 ≤ bucketNow s x → (t.slot k).queue = x.queue ++ [u])
              ∧ (bucketNow s x < 0 → (t.slot k).queue = x.queue ∧ (t.slot k).skipping = true ∧ Counted s t (Reg.camSlotSkipGops k) 1)))))
    ∧ (∀ w ts, x.parts ≠ [] → (∃ e, e ∈ x.parts ∧ e.2.marker = true) → (∀ e, e ∈ x.parts → e.2.ts = ts ∧ (e.2.marker = true → e.1 = w)) →
        let late := s.past w (100_000 * min (if slotClass s k = 1 then 3 else 200) (s.fldAt (Reg.camSlotCfg k) 23 16))
        (late = true → leads (.reorderWaitExpiry k) (fun t => (t.slot k).parts = [] ∧ (t.slot k).resync = true ∧ (t.slot k).queue = x.queue
          ∧ Counted s t (Reg.camSlotAuLost k) 1))
        ∧ (late = false → exec (.reorderWaitExpiry k) s = .next s))

/-- Decoders, the cab view's encoder and the ports (R51, R52, R55, R60, R64, R68, R76, R77, R79, R112, R405): a decoder takes the next unit after
its parameter set is checked, finishes it, fails on it or is reset; the picture of a class-A slot is announced to DMA engine 0; a port's slots
follow its link.
Model's choices used: log 118, 201. -/
def Obligations.Decoders : Prop :=
  ∀ (s : State) (n : Fin 6) (k : Fin 12) (u : AUnit) (l : List AUnit) (p : Fin 2) (b : Bool) (cc : Fin 4) (v : BitVec 32) (bytes : Nat),
    let bound := (max (4 * codedPixels (s.slot k).sps) u.bits + 20_000) * 28 / max 1 (min 28 (s.island (156 + n)).eff)
    let leads (i : Instr) (P : State → Prop) := ∃ t, exec i s = .next t ∧ P t
    let x := s.slot k
    let e := s.decEngine n
    let resynced (t : State) := (t.slot k).queue = x.queue.dropWhile (fun y => !y.irap) ∧ ((t.slot k).resync = true ↔ (t.slot k).queue = [])
    let takes := x.queue = u :: l ∧ e.job = none ∧ decoding s k = false ∧ engineServes s n k = true ∧ nextInOrder s k u = true ∧ (s.dom (126 + n)).st = .on
    (takes → u.sps.bind spsCode = none → leads (.decodeStart n k) (fun t => (t.decEngine n).job = some (k.val, u) ∧ (t.decEngine n).since = s.now
        ∧ (t.slot k).queue = l ∧ (t.slot k).sps = u.sps.or x.sps
        ∧ (t.slot k).bucket = bucketNow s x - (if slotClass s k = 1 then 0 else max (codedPixels u.sps) (u.bits / 4) * 1_000_000_000 : Nat) ∧ ∀ m, m ≠ n.val → t.decEngine m = s.decEngine m))
    ∧ (∀ c, takes → u.sps.bind spsCode = some c → x.st ≠ .rejected → leads (.decodeStart n k) (fun t => (t.slot k).st = .rejected ∧ (t.slot k).reject = c
        ∧ (t.slot k).queue = [] ∧ bit (t.reg Reg.camIrqStat) k = true ∧ ∀ j, j ≠ k.val → t.slot j = s.slot j))
    ∧ (e.job = some (k.val, u) → leads (.decodeComplete n) (fun t => (t.decEngine n).job = none ∧ Counted s t (Reg.decFrames n) 1
        ∧ (if n = decReserve s then 8 else 9) ∈ t.sys.events ∧ s.now ∈ (t.slot k).decoded
        ∧ (x.st = .connecting → u.irap = true → (t.slot k).st = .running ∧ (t.slot k).backoff = 250)
        ∧ (x.st ≠ .connecting → (t.slot k).st = x.st)
        ∧ ∀ d, x.sps = some d → get (fun _ => none) t.cam.pics k = some {
            slot := k, width := d.cropW, height := d.cropH, ts := u.ts, pathStart := u.pathStart, capture := u.capture, irap := u.irap
            concealedNone := true, stride := (d.cropW + 127) / 128 * 128, draw := s.freeCtr }))
    ∧ (e.job = some (k.val, u) → slotClass s k = 1 → n = decReserve s → adoptedAt s k = none → leads (.decodeComplete n) (fun t =>
        ∃ q, q ∈ t.fab.net ++ t.fab.held ∧ q.ptype = 6 ∧ q.dst = ownEid s 0x020 ∧ q.cc = 63 ∧ q.ccEn = true))
    ∧ (e.job = some (k.val, u) → leads (.decoderBitstreamError n) (fun t => (t.decEngine n).job = none ∧ Counted s t (Reg.decErr n) 1 ∧ resynced t
        ∧ t.cam.pics = s.cam.pics))
    ∧ (e.job = some (k.val, u) → s.past e.since (min (4 * bound) 50_000_000 + 1) = true → leads (.decoderWatchdog n b) (fun t =>
        (t.decEngine n).job = none ∧ Counted s t (Reg.decResets n) 1 ∧ Counted s t (Reg.camSlotAuLost k) 1 ∧ resynced t
        ∧ (n = 0 → decReserve s = 0 → b = true → 2 ≤ (e.trips.filter (fun y => decide (s.now < y + 10_000_000_000))).length → decReserve t = 1)))
    ∧ (e.job = some (k.val, u) → s.past e.since (min (4 * bound) 50_000_000 + 1) = false → exec (.decoderWatchdog n b) s = .next s)
    ∧ (s.enc.busy = true → leads (.encPictureDone bytes s.enc.irap) (fun t => t.enc.busy = false ∧ t.enc.bytes = min (2 ^ 64 - 1) (s.enc.bytes + bytes)
        ∧ Counted s t Reg.encFrames 1 ∧ bit (t.reg Reg.encIrqStat) 0 = true ∧ Counted s t Reg.encIrap (if s.enc.irap then 1 else 0)))
    ∧ (s.enc.busy = false ∨ b ≠ s.enc.irap → exec (.encPictureDone bytes b) s = .next s)
    ∧ (portUp s p = false → s.bitAt (Reg.camPortCtrl p) 0 = true → (s.dom (165 + p)).st = .on → leads (.camLinkChange p true) (fun t => portUp t p = true
        ∧ bit (t.reg Reg.camIrqStat) (15 + p) = true ∧ t.cam.slots = s.cam.slots))
    ∧ (portUp s p = true → leads (.camLinkChange p false) (fun t => portUp t p = false ∧ bit (t.reg Reg.camIrqStat) (15 + p) = true
        ∧ (slotPort s k = p.val → x.st.serves = true → if s.bitAt (Reg.camSlotCtrl k) 3 = true ∧ portUp s (1 - p) = true
            then (t.slot k).st = .connecting ∧ slotPort t k = 1 - p.val ∧ Counted s t (Reg.camSlotRetries k) 1 else (t.slot k).st = .lost)
        ∧ (slotPort s k ≠ p.val → t.slot k = x)))
    ∧ leads (.camPortEnable (.cc cc) p v) (fun t => (t.reg (Reg.camPortCtrl p)).toNat = v.toNat % 2 ^ 17 ∧ (v.getLsbD 0 = false → portUp t p = false)
        ∧ (v.getLsbD 0 = true → RegsOnly (s.answer 0) t [Reg.camPortCtrl p]))

/-- The slot state machine (R48, R50, R59 to R62, R80, Tables 2-2 and 2-4): START with the slot's descriptor and STOP, each RTSP answer, and each
time-out.
Model's choices used: log 113, 114, 155, 160. -/
def Obligations.SlotStates : Prop :=
  ∀ (s : State) (k : Fin 12) (cc : Fin 4) (v : BitVec 32) (a : RtspAnswer) (o : Sdp) (w : Nat),
    let leads (i : Instr) (P : State → Prop) := ∃ t, exec i s = .next t ∧ P t
    let x := s.slot k
    let others := (List.range 12).filter (fun j => j ≠ k.val && slotClass s j = 1 && decide ((s.slot j).st ≠ .idle))
    let door := v.toNat / 2 ^ 16 % 32
    let conflict := (v.toNat % 4 = 1 ∧ 2 ≤ others.length) ∨ (v.toNat % 4 = 2 ∧ (door = 0 ∨ 16 < door))
    let rejects (c : Nat) (i : Instr) := leads i (fun t => (t.slot k).st = .rejected ∧ (t.slot k).reject = c ∧ bit (t.reg Reg.camIrqStat) k = true
      ∧ ∀ j, j ≠ k.val → t.slot j = s.slot j)
    let fails (i : Instr) := leads i (fun t => (t.slot k).st = .connecting ∧ (t.slot k).waitingSince = some s.now ∧ (t.slot k).asked = none
      ∧ (t.slot k).playAt = none)
    let loses (i : Instr) := leads i (fun t => (t.slot k).st = .lost ∧ (t.slot k).waitingSince = some s.now ∧ (t.slot k).playAt = none
      ∧ bit (t.reg Reg.camIrqStat) k = true)
    let asks (m : RtspMethod) (i : Instr) := leads i (fun t => (t.slot k).st = .connecting ∧ (t.slot k).asked = some m ∧ (t.slot k).askedAt = s.now)
    let r := Instr.rtspResponse k a
    (v.getLsbD 9 = true → leads (.slotStop (.cc cc) k v) (fun t => t.slot k = { slotReset k with
          newFrames := x.newFrames, newGops := x.newGops, ring := x.ring, ringFirst := x.ringFirst, desc := x.desc }
        ∧ decoding t k = false ∧ ∀ j, j ≠ k.val → t.slot j = s.slot j))
    ∧ (v.getLsbD 9 = false → v.getLsbD 8 = true → x.st = .idle → (conflict → rejects 0x0F (.slotStart (.cc cc) k v))
        ∧ (¬conflict → v.toNat % 4 ≠ 0 → asks .options (.slotStart (.cc cc) k v)
          ∧ leads (.slotStart (.cc cc) k v) (fun t => slotClass t k = v.toNat % 4 ∧ (t.slot k).backoff = 250 ∧ (t.slot k).rtsp2 = true
            ∧ Counted s t (Reg.camSlotRetries k) 1 ∧ (t.slot k).desc = slotDescriptor s (addrLocal (s.reg (Reg.camSlotDesc k)).toNat))))
    ∧ (x.st = .connecting → x.asked = some a.method →
        (a.status = 0 ∨ (500 ≤ a.status ∧ a.status ≠ 505) ∨ (a.status = 505 ∧ x.rtsp2 = false) → fails r)
        ∧ (a.status = 505 → x.rtsp2 = true → leads r (fun t => t.slot k = { x with rtsp2 := false, askedAt := s.now }))
        ∧ (200 ≤ a.status → a.status < 300 →
            (a.method = .options → asks .describe r ∧ leads r (fun t => (t.slot k).rtsp2 = (x.rtsp2 && a.v2)))
            ∧ (a.method = .describe → (a.sdp = none ∨ (a.sdp = some o ∧ o.payloadOk = false) → x.st ≠ .rejected → rejects 0x0A r)
              ∧ (a.sdp = some o → o.payloadOk = true → o.transportOk = false → rejects 0x0D r)
              ∧ (a.sdp = some o → o.payloadOk = true → o.transportOk = true → asks .setup r))
            ∧ (a.method = .setup → a.sdp = some o → o.transportOk = true →
                (duplicateStream s k o = true → rejects 0x0E r)
                ∧ (duplicateStream s k o = false → asks .play r ∧ leads r (fun t => (t.slot k).offer = some o ∧ (t.slot k).timeout = a.timeout.getD 60)))
            ∧ (a.method = .play → leads r (fun t => (t.slot k).playAt = some s.now ∧ (t.slot k).asked = none ∧ (t.slot k).st = .connecting)))
        ∧ (300 ≤ a.status → a.status < 400 → (x.redirected = true → rejects 0x0B r) ∧ (x.redirected = false → asks .options r))
        ∧ (a.status = 401 → (x.answered401 = true → rejects 0x0C r) ∧ (x.answered401 = false → asks a.method r))
        ∧ (400 ≤ a.status → a.status < 500 → a.status ≠ 401 → rejects 0x0B r))
    ∧ (x.st.serves = true → x.asked = some a.method → a.status < 200 ∨ 300 ≤ a.status → loses r)
    ∧ (x.st.serves = true → loses (.rtspSessionClosed k)) ∧ (x.st = .connecting → x.waitingSince = none → fails (.rtspSessionClosed k))
    ∧ (x.asked ≠ none → s.past x.askedAt 2_000_000_000 = true → (x.st.serves = true → loses (.rtspAnswerTimeout k))
        ∧ (x.st = .connecting → fails (.rtspAnswerTimeout k)))
    ∧ (x.st = .connecting → x.playAt = some w → s.past w 5_000_000_000 = true → fails (.irapTimeout k))
    ∧ (x.st = .connecting ∨ x.st = .lost → x.waitingSince = some w → s.past w (1_000_000 * x.backoff) = true → leads (.connectBackoffExpiry k) (fun t =>
        (t.slot k).st = .connecting ∧ (t.slot k).asked = some .options ∧ (t.slot k).backoff = min 8000 (2 * x.backoff)
        ∧ Counted s t (Reg.camSlotRetries k) 1))
    ∧ (x.playAt ≠ none → x.asked = none → s.past x.keptAt (500_000_000 * x.timeout) = true → leads (.rtspKeepalive k) (fun t =>
        t.slot k = { x with asked := some .getParameter, askedAt := s.now, keptAt := s.now }))
    ∧ (x.st.serves = true → s.past x.rtpAt (1_000_000 * min 5000 (max 100 (s.fldAt (Reg.camSlotCfg k) 15 0))) = true → loses (.slotLostTimeout k))
    ∧ (x.playAt ≠ none → s.past x.reportAt 5_000_000_000 = true → leads (.rtcpReceiverReport k) (fun t => t.slot k = { x with reportAt := s.now }))

/-- Shedding (R66 to R68, R71, R74, R92): each epoch measures the demand of every slot and allots the rates of R67; slots enter and leave SHEDDING by
them; slow door slots are DEGRADED; and degradation records go out.
Model's choices used: log 116, 117, 120, 166. -/
def Obligations.Shedding : Prop :=
  ∀ (s : State) (k : Fin 12) (w r : Nat),
    let leads (i : Instr) (P : State → Prop) := ∃ t, exec i s = .next t ∧ P t
    let x := s.slot k
    let ns := 10_000_000 * max 1 (s.fldAt Reg.camPoolCfg 15 8)
    let demand (j : Nat) := (s.slot j).charges * 1_000_000_000 / ns
    let floor (j : Nat) := min 10 ((s.slot j).units * 1_000_000_000 / ns) * codedPixels (s.slot j).sps
    let cap := poolCap s
    let db := sumOf (servingOf s 2) demand
    let dc := sumOf (servingOf s 3) demand
    let fb := sumOf (servingOf s 2) floor
    let allowed := if s.bitAt Reg.camShedForce 0 = true then 0 else dc
    let rateC := if db + allowed ≤ cap then (if allowed = dc then demand k else 0) else if db ≤ cap then demand k * (cap - db) / dc else 0
    let rateB := if db ≤ cap then demand k else if fb ≤ cap then floor k + (demand k - floor k) * (cap - fb) / (db - fb) else floor k * cap / fb
    let record (kind : Nat) := leads .degradationRecord (fun t => (∃ y, y ∈ t.veh.records ∧ y.kind = 30 ∧ y.data = degradationBytes s kind s.cam.shedBegan)
      ∧ t.veh.degSeq = (s.veh.degSeq + 1) % 2 ^ 32 ∧ (t.slot k).newFrames = 0 ∧ (t.slot k).newGops = 0
      ∧ t.cam.recordAt = if kind = 2 then none else some s.now)
    (s.past s.cam.epochAt ns = true → leads .shedEpoch (fun t => t.cam.epochAt = s.now ∧ (t.slot k).demand = demand k ∧ (t.slot k).units = 0
        ∧ (t.slot k).charges = 0 ∧ (slotClass s k = 2 → x.st.serves = true → (t.slot k).rate = rateB) ∧ (slotClass s k = 3 → x.st.serves = true → (t.slot k).rate = rateC)
        ∧ (slotClass s k = 2 ∨ slotClass s k = 3 → x.st = .running → ((t.slot k).st = .shedding ↔ (t.slot k).rate < demand k)
          ∧ ((t.slot k).st = .shedding → (t.slot k).bucket = ((t.slot k).rate * s.fldAt Reg.camPoolCfg 31 16 * 1_000_000 : Nat)))
        ∧ (slotClass s k = 2 ∨ slotClass s k = 3 → x.st = .shedding → ((t.slot k).st = .running ↔
            demand k ≤ (t.slot k).rate ∧ ∃ e, x.equalSince = some e ∧ s.past e ns = true))
        ∧ (slotClass s k = 1 → (t.slot k).st = x.st ∧ (t.slot k).rate = x.rate)
        ∧ (t.tram.narrShed = true ↔ anyShedding t = true
            ∨ cap - sumOf (servingOf t 2 ++ servingOf t 3) (fun j => (t.slot j).demand) < Config.narrationDemand)))
    ∧ (s.past s.cam.epochAt ns = false → exec .shedEpoch s = .next s)
    ∧ (slotClass s k = 2 → x.ranSince = some r → s.past r 1_000_000_000 = true →
        let n := (x.decoded.filter (fun y => decide (s.now < y + 1_000_000_000))).length
        (n < 10 → leads (.slotRateWindow k) (fun t => (t.slot k).degraded = true ∧ (t.slot k).slowAt = some s.now
          ∧ t.tram.windows = s.tram.windows.map (fun y => if windowUses s k y then y.flag 0 else y)))
        ∧ (10 ≤ n → x.slowAt = some w → s.past w 1_000_000_000 = true → leads (.slotRateWindow k) (fun t => t.slot k = { x with degraded := false, slowAt := none })))
    ∧ (slotClass s k ≠ 2 ∨ x.ranSince = none → exec (.slotRateWindow k) s = .next s)
    ∧ (s.cam.recordAt = none →
        ((∃ j, j < 12 ∧ (s.slot j).shedAt = some w ∧ s.past w 2_000_000_000 = true) → record 0
          ∧ leads .degradationRecord (fun t => bit (t.reg Reg.camIrqStat) 13 = true))
        ∧ ((∀ j y, j < 12 → (s.slot j).shedAt = some y → s.past y 2_000_000_000 = false) → exec .degradationRecord s = .next s))
    ∧ (s.cam.shedSince = some w → s.cam.recordAt = some r → s.past r 10_000_000_000 = true → record 1)
    ∧ (s.cam.shedSince = none → s.cam.recordAt = some r → s.cam.calmSince = some w → s.past w 2_000_000_000 = true → record 2)
    ∧ (∀ kind, (degradationBytes s kind w).length = 208)

/-! ### Counting and narration (chapters 1 and 3) -/

/-- Count windows (R23, R24, R92), clips (R27), and narration (R28, R93, R487): when a window closes its record is queued; a clip ends; an account begins,
takes its tokens, and goes out in segments.
Model's choices used: log 133, 135, 136. -/
def Obligations.CountingAndNarration : Prop :=
  ∀ (s : State) (door : DoorId) (w : Window) (i : Incident) (id : BitVec 32) (txt : List Byte) (last : Bool) (e : Nat) (samples : List Crossing),
    let leads (c : Instr) (P : State → Prop) := ∃ t, exec c s = .next t ∧ P t
    let queued (t : State) (data : List Byte) := ∃ r, r ∈ t.veh.records ∧ r.kind = 20 ∧ r.data = data
    let segment (flags : Nat) (body : List Byte) := bytesBE 1 1 ++ bytesBE 1 s.fab.slot ++ bytesBE 1 i.triggers.toNat
      ++ bytesBE 1 (flags + if i.noClip then 4 else 0) ++ bytesBE 4 i.id ++ bytesBE 2 i.segment ++ bytesBE 2 body.length ++ bytesBE 4 i.request.toNat
      ++ timeDate i.trigger ++ body
    let sent (t : State) (l : List Byte) := get (fun _ => (0, [])) t.veh.last (40 * 16 + i.car) = (comIdOf s 40, l)
    let is (t : State) (P : Incident → Prop) := ∃ y, y ∈ t.tram.incidents ∧ y.id = i.id ∧ P y
    (w ∈ s.tram.windows → w.door = door → w.ending = some e → s.past e 3_000_000_000 = true → s.veh.records.length + s.tram.windows.length ≤ 4096 →
        leads (.countWindowClose ⟨door, samples⟩) (fun t => w ∉ t.tram.windows ∧ queued t (countRecord s w)
          ∧ ∀ v, v ∈ s.tram.windows → (∀ u, u ∈ s.tram.windows → u.seq = v.seq → u.door ≠ door) → v ∈ t.tram.windows))
    ∧ (s.tram.windows = [w] → w.door = door → s.past w.openedAt 600_000_000_000 = true → leads (.countWindowLong ⟨door, samples⟩) (fun t =>
        queued t (countRecord s (w.flag 3)) ∧ (released s door = false ∨ (∀ k, k < 12 → boundTo s k ≠ some (door, w.car)) → t.tram.windows = [])
        ∧ (released s door = true → (∃ k, k < 12 ∧ boundTo s k = some (door, w.car)) → ∃ u : Window, t.tram.windows = [u] ∧ u.door = door ∧ u.car = w.car ∧ u.openedAt = s.now ∧ u.seq = s.tram.nextWindow
            ∧ t.tram.nextWindow = (s.tram.nextWindow + 1) % 2 ^ 32)))
    ∧ (countRecord s w).length = 32
    ∧ (s.tram.incidents.find? (fun y => y.id = id.toNat) = some i → i.clipOpen = true → i.endAt ≤ s.now → leads (.clipPostTriggerEnd id) (fun t =>
        ∀ y, y ∈ t.tram.incidents → y.id = id.toNat → y.clipOpen = false))
    ∧ (s.tram.incidents.find? (fun y => y.id = id.toNat) = some i → s.now < i.endAt → exec (.clipPostTriggerEnd id) s = .next s)
    ∧ (narrationShed s = false → s.pkgs.narration ≠ none → s.tram.started = true → narrating s = none → nextIncident s = some i →
        leads .narrationStart (fun t => is t (fun y => y.started = true ∧ y.segAt = s.now) ∧ t.tram.busyAt = s.now))
    ∧ (narrationShed s = true → exec .narrationStart s = .next s ∧ exec (.narrationToken txt last) s = .next s)
    ∧ (narrating s = some i → narrationShed s = false → (i.text ++ txt).length < 1024 →
        (last = false → i.tokens + 1 ≠ 400 → leads (.narrationToken txt last) (fun t =>
          is t (fun y => y = { i with tokens := i.tokens + 1, text := i.text ++ txt }) ∧ t.veh = s.veh))
        ∧ (last = true ∨ i.tokens + 1 = 400 → leads (.narrationToken txt last) (fun t => (∀ y, y ∈ t.tram.incidents → y.id = i.id → y.ended = true)
            ∧ (s.veh.linkUp = true → sent t (segment (if last then 1 else 3) (i.text ++ txt)))
            ∧ (s.veh.linkUp = false → is t (fun y => y.held = i.held ++ [segment (if last then 1 else 3) (i.text ++ txt)])))))
    ∧ (narrating s = some i → s.tram.incidents.find? (fun y => y.id = i.id) = some i →
        let n := wholeChars i.text (min 1024 i.text.length)
        (s.past i.segAt 500_000_000 = true → n ≠ 0 → leads .narrationSegmentTimer (fun t =>
          is t (fun y => y.text = i.text.drop n ∧ y.segment = i.segment + 1 ∧ y.segAt = s.now) ∧ (s.veh.linkUp = true → sent t (segment 0 (i.text.take n)))))
        ∧ (s.past i.segAt 500_000_000 = false ∨ n = 0 → exec .narrationSegmentTimer s = .next s))
    ∧ (∀ l n, n ≤ l.length → wholeChars l n ≤ n ∧ n < wholeChars l n + 4
        ∧ (wholeChars l n = n ∨ ∃ b, l[wholeChars l n]? = some b ∧ n < wholeChars l n + charLength b))

/-! ### The Bay cartridge (chapter 4) -/

/-- Insertion and faults (R124, R126 to R129, R133 to R135, R140, R145, R147, R148, R150, R154): runs of equal samples of presence and latch,
authentication, the link, the checks of a cartridge, its mounting with the reconciled ledger and the governing header, and recovery.
Model's choices used: log 140, 141, 168, 174, 175. -/
def Obligations.BayInsertion : Prop :=
  ∀ (s : State) (cert : CartCert) (l : Ledger) (sig : Bool) (gen lanes : Nat) (d : CartIdent) (f : BayLinkFault) (k : Fin 4) (v : BitVec 32) (n t0 : Nat) (c : Bool),
    let leads (i : Instr) (P : State → Prop) := ∃ t, exec i s = .next t ∧ P t
    let b := s.bay
    let opens := s.bitAt Reg.bayCtrl 0 = true ∧ s.sys.secReady = true
    let comes := b.present = false ∧ b.rawPresent = true ∧ s.past b.presentAt 50_000_000 = true
    let goes := b.present = true ∧ b.rawPresent = false ∧ s.past b.presentAt 2_000_000 = true
    let closes := b.latched = false ∧ b.rawLatch = true ∧ s.past b.latchAt 5_000_000 = true
    let opened := b.latched = true ∧ b.rawLatch = false ∧ s.past b.latchAt 5_000_000 = true
    let fails (t : State) := Counted s t Reg.bayAuthFail 1 ∧ bit (t.reg Reg.bayIrqStat) 5 = true ∧ t.bay.fails = b.fails + 1 ∧ t.bay.authAt = none
      ∧ (2 ≤ b.fails → t.bay.life = 4 ∧ t.bay.retire = 4)
    let offline (c : Nat) (t : State) := t.bay.phase = .offline ∧ t.bay.cause = c ∧ bit (t.reg Reg.bayIrqStat) 7 = true ∧ t.bay.clips = []
    let certOk := s.sys.provisioned = true ∧ sig = true ∧ cert.issuer.toNat < 4 ∧ cert.version = 1 ∧ cert.ratedGb = 600_000 ∧ cert.ratedYears = 10
      ∧ (b.phase = .identifying ∨ cert.serial = b.serial)
    let gb := max b.element.gb ((ledgerEntry s b.serial).elim 0 (·.gb))
    let header := governingHeader s.sys.clipRoot b.serial d.copyA d.copyB
    let checks := b.phase = .mounting ∧ b.step = 1
    (b.rawPresent ≠ c → exec (.bayPresentChange c) s = .next (s.modBay (fun y => { y with rawPresent := c, presentAt := s.now })))
    ∧ (b.rawPresent = c → b.present = c ∨ s.past b.presentAt (if c then 50_000_000 else 2_000_000) = false → exec (.bayPresentChange c) s = .next s)
    ∧ (comes → b.latched = true → opens → leads (.bayPresentChange true) (fun t => t.bay.phase = .identifying ∧ t.bay.present = true
        ∧ bit (t.reg Reg.bayIrqStat) 0 = true))
    ∧ (comes → b.latched = false → leads (.bayPresentChange true) (fun t => t.bay.phase = b.phase ∧ t.bay.present = true))
    ∧ (goes → b.latched = true ∨ b.phase ≠ .safe → leads (.bayPresentChange false) (fun t => t.bay.phase = .empty ∧ Counted s t Reg.baySurprise 1
        ∧ bit (t.reg Reg.bayIrqStat) 6 = true ∧ t.bay.clips = [] ∧ t.bay.io = []))
    ∧ (goes → b.latched = false → b.phase = .safe → leads (.bayPresentChange false) (fun t => t.bay.phase = .empty
        ∧ t.reg Reg.baySurprise = s.reg Reg.baySurprise))
    ∧ (b.rawLatch ≠ c → exec (.bayLatchChange c) s = .next (s.modBay (fun y => { y with rawLatch := c, latchAt := s.now })))
    ∧ (b.rawLatch = c → b.latched = c ∨ s.past b.latchAt 5_000_000 = false → exec (.bayLatchChange c) s = .next s)
    ∧ (closes → b.present = true → opens → b.phase = .empty ∨ b.phase = .safe → leads (.bayLatchChange true) (fun t => t.bay.phase = .identifying))
    ∧ (closes → b.phase = .removing → leads (.bayLatchChange true) (fun t => t.bay.phase = .removing ∧ t.bay.again = true))
    ∧ (opened → b.phase = .mounted → leads (.bayLatchChange false) (fun t => t.bay.phase = .removing ∧ t.bay.removeAt = some b.latchAt
        ∧ bit (t.reg Reg.bayIrqStat) 1 = true))
    ∧ (opened → b.phase = .identifying ∨ b.phase = .mounting ∨ b.phase = .offline → leads (.bayLatchChange false) (fun t => t.bay.phase = .safe
        ∧ t.bay.safe = true))
    ∧ (b.phase = .mounted → v.getLsbD 8 = true → leads (.bayEject (.cc k) v) (fun t => t.bay.phase = .removing
        ∧ t.bay.removeAt = some (if b.latched && !b.rawLatch then b.latchAt else s.now)))
    ∧ (authenticating s = true → (certOk → exec (.bayCertReadDone cert sig) s = .next (s.modBay (fun y => { y with
          certOk := true, serial := cert.serial, mfg := cert.mfgTime }))) ∧ (¬certOk → leads (.bayCertReadDone cert sig) fails))
    ∧ (authenticating s = true → b.certOk = true → leads (.bayChallengeDone l false) fails
        ∧ (b.phase = .identifying → exec (.bayChallengeDone l true) s = .next (s.modBay (fun y => { y with authAt := some s.now, element := l })))
        ∧ (b.phase = .mounted → b.sn = snOf b.serial → leads (.bayChallengeDone l true) (fun t => t.bay.authAt = some s.now ∧ t.bay.fails = 0))
        ∧ (b.phase = .mounted → b.sn ≠ snOf b.serial → leads (.bayChallengeDone l true) fails))
    ∧ (b.retire ≠ 4 → b.recovering = none → b.failedAt = some t0 → s.past t0 100_000_000 = true →
        exec .bayAuthRetry s = .next (s.modBay (fun y => { y with failedAt := none, certOk := false })))
    ∧ (b.phase = .identifying → b.authAt ≠ none → (s.dom 171).st = .on →
        (3 ≤ gen → 1 ≤ lanes → leads (.bayLinkTrained gen lanes) (fun t => t.bay.phase = .mounting ∧ t.bay.step = 0 ∧ t.bay.linkAt = some s.now))
        ∧ (gen < 3 ∨ lanes = 0 → leads (.bayLinkTrained gen lanes) (offline 1)))
    ∧ (b.phase = .mounting → b.step = 0 → leads (.bayControllerReady true) (fun t => t.bay = { b with step := 1 }) ∧ leads (.bayControllerReady false) (offline 2))
    ∧ (b.phase = .mounting → b.step = 0 → b.linkAt = some t0 → s.past t0 1_000_000_000 = true → leads .bayReadyTimeout (offline 2))
    ∧ (checks → d.sn ≠ snOf b.serial → leads (.bayIdentifyDone d) (fun t => fails t ∧ t.bay.phase = .identifying))
    ∧ (checks → d.sn = snOf b.serial → (d.nvmeOk = false → leads (.bayIdentifyDone d) (offline 2))
        ∧ (d.nvmeOk = true → d.lba4096 = false → leads (.bayIdentifyDone d) (offline 3))
        ∧ (d.nvmeOk = true → d.lba4096 = true → d.nsze < 244_140_625 → leads (.bayIdentifyDone d) (offline 4))
        ∧ (d.nvmeOk = true → d.lba4096 = true → 244_140_625 ≤ d.nsze → b.element.state ≠ 1 → header = none → leads (.bayIdentifyDone d) (offline 6)))
    ∧ (checks → d.sn = snOf b.serial → d.nvmeOk = true → d.lba4096 = true → 244_140_625 ≤ d.nsze → b.element.state = 1 ∨ header ≠ none →
        b.retiring = none → b.bytes < 1_000_000_000 → leads (.bayIdentifyDone d) (fun t => t.bay.phase = .mounted
            ∧ bit (t.reg Reg.bayIrqStat) 2 = true ∧ t.bay.ledger.gb = gb ∧ t.bay.life = t.bay.ledger.state ∧ b.element.state ≤ t.bay.life
            ∧ (b.element.state = 4 → t.bay.element = b.element) ∧ (t.bay.life = 4 → t.bay.io = b.io ∧ t.bay.entries = b.entries)
            ∧ (∀ a h, header = some (a, h) → t.bay.header.salt = h.salt)
            ∧ (header = none → t.bay.life ≠ 4 → t.bay.header.serial = b.serial ∧ t.bay.header.extentCount = 14_884)
            ∧ (600_000 ≤ gb → b.element.state ≤ 4 → (∀ e, ledgerEntry s b.serial = some e → e.state ≤ 4) → t.bay.life = 4 ∧ t.bay.retire = 1)))
    ∧ (b.phase = .mounted → b.retire ≠ 4 → b.authAt = some t0 → s.past t0 86_400_000_000_000 = true → leads .bayReauthTimer (fun t =>
        t.bay = { b with authAt := none, certOk := false, fails := 0, failedAt := none }))
    ∧ (b.phase = .mounting ∨ b.phase = .mounted → leads (.bayLinkDown f) (fun t => t.bay.recovering = some 0 ∧ t.bay.linkAt = none ∧ t.bay.phase = b.phase))
    ∧ (b.phase = .mounting ∨ b.phase = .mounted → b.recovering = some n →
        (b.failedAt = some t0 → s.past t0 100_000_000 = false → ∀ r, exec (.bayRecoveryAttempt r) s = .next s)
        ∧ (b.failedAt = none → leads (.bayRecoveryAttempt .ok) (fun t => t.bay.recovering = none ∧ t.bay.authAt = some s.now ∧ t.bay.fails = 0)
          ∧ leads (.bayRecoveryAttempt .authFail) (fun t => Counted s t Reg.bayAuthFail 1 ∧ t.bay.recovering = none ∧ t.bay.fails = 1
              ∧ t.bay.authAt = none ∧ t.bay.retire = b.retire)
          ∧ (n < 2 → ∀ r, r = .linkFail ∨ r = .controllerFail → exec (.bayRecoveryAttempt r) s = .next (s.modBay (fun y => { y with
              recovering := some (n + 1), failedAt := some s.now })))
          ∧ (2 ≤ n → leads (.bayRecoveryAttempt .linkFail) (offline 1) ∧ leads (.bayRecoveryAttempt .controllerFail) (offline 2))))

/-- Writes, the ledger and removal (R131, R132, R134, R135, R138, R141, R143, R144, R148, R149, R153, R155, R452): every byte is counted, 10 GB or
an hour bring both ledgers up to date, states never move back, journal entries go out in blocks, records are laid out on the medium, and the
removal goes through its steps to SAFE.
Model's choices used: log 141, 142, 170 to 172. -/
def Obligations.BayWritesAndRemoval : Prop :=
  ∀ (s : State) (id : BitVec 32) (n t0 : Nat) (c : BayWrite) (w : BayIo) (cl : Clip) (smart : Byte) (u : RingUnit) (T : List (BitVec 64 × Ledger)),
    let leads (i : Instr) (P : State → Prop) := ∃ t, exec i s = .next t ∧ P t
    let b := s.bay
    let oldest := b.io.find? (fun y => decide (y.what = c)) = some w
    let recent := b.abandoned.filter (fun x => decide (s.now < x + 3_600_000_000_000))
    let stored (t : State) := ∃ a T', a < 2 ∧ (t.ledgerArea a).valid = true ∧ max (s.ledgerArea 0).seq (s.ledgerArea 1).seq < (t.ledgerArea a).seq
      ∧ (t.ledgerArea a).entries = tableOf (areaBytes 0 (withEntry T' b.serial t.bay.ledger))
    let updated (t : State) (bytes : Nat) := t.bay.ledger.gb = b.ledger.gb + bytes / 1_000_000_000 ∧ t.bay.bytes = bytes % 1_000_000_000
      ∧ t.bay.element = t.bay.ledger ∧ b.ledger.updates < t.bay.ledger.updates ∧ b.life ≤ t.bay.life ∧ stored t
    let safe (t : State) := t.bay.phase = .safe ∧ t.bay.safe = true ∧ bit (t.reg Reg.bayIrqStat) 3 = true
    (b.io.find? (fun y => decide (y.what = c)) = none → exec (.nvmeWriteComplete c n) s = .next s ∧ exec (.nvmeWriteFail c true) s = .next s)
    ∧ (oldest → n ≠ w.data.length → exec (.nvmeWriteComplete c n) s = .next s)
    ∧ (oldest → b.bytes + w.data.length < 10_000_000_000 → b.retiring = none → leads (.nvmeWriteComplete c w.data.length) (fun t =>
        t.bay.bytes = b.bytes + w.data.length ∧ t.bay.ledger = b.ledger ∧ ∃ l, t.bay.io = takeOff b.io c ++ l))
    ∧ (oldest → 10_000_000_000 ≤ b.bytes + w.data.length → b.phase = .mounted → s.pwr.commit = false → b.life < 4 →
        leads (.nvmeWriteComplete c w.data.length) (fun t => updated t (b.bytes + w.data.length)))
    ∧ (oldest → b.phase = .removing → b.step = 0 → takeOff b.io c = [] → b.life ≠ 4 → leads (.nvmeWriteComplete c w.data.length) (fun t =>
        t.bay.step = 1 ∧ t.bay.entries = [] ∧ t.bay.clips = [] ∧ b.blockSeq < t.bay.blockSeq))
    ∧ (b.io.find? (fun y => decide (y.what = .incident id)) = some w → clipOn s id.toNat = some cl → cl.extent ≠ none → b.phase = .mounted →
        (7 ≤ recent.length → leads (.nvmeWriteFail (.incident id) true) (fun t => Counted s t Reg.bayWrErr 1 ∧ t.bay.phase = .offline ∧ t.bay.cause = 5))
        ∧ (recent.length < 7 → leads (.nvmeWriteFail (.incident id) true) (fun t => Counted s t Reg.bayWrErr 1 ∧ t.bay.phase = .mounted
          ∧ t.bay.abandoned = recent ++ [s.now])))
    ∧ (b.io.find? (fun y => decide (y.what = .journal)) = some w → bayIssues s = false → b.phase ≠ .removing → b.abandoned.length < 8 →
        leads (.nvmeWriteFail .journal true) (fun t => Counted s t Reg.bayWrErr 1 ∧ t.bay = { b with
          io := takeOff b.io .journal, entries := w.entries ++ b.entries, pendingAt := some (b.pendingAt.getD s.now) }))
    ∧ exec (.nvmeWriteFail c false) s = .next s
    ∧ (freeExtent s ≠ none → ∃ x, (takeExtent s n).bay.extents = b.extents ++ [x] ∧ x.index < 14_884 ∧ x.clip = BitVec.ofNat 32 n
        ∧ ∀ y, y ∈ b.extents → y.index ≠ x.index)
    ∧ ((recordOf n u).length = (24 + u.data.length + 15) / 16 * 16 ∧ slice (recordOf n u) 24 u.data.length = u.data)
    ∧ (bayIssues s = true → b.pendingAt = some t0 → s.past t0 200_000_000 = true → b.entries ≠ [] → b.entries.length ≤ 31 → leads .journalBlockTimer (fun t =>
        t.bay.blockSeq = b.blockSeq + 1 ∧ t.bay.blockPos = (b.blockPos + 1) % 262_144 ∧ t.bay.entries = [] ∧ t.bay.pendingAt = none
        ∧ ∃ y, y ∈ t.bay.io ∧ y.what = .journal ∧ y.lba = 4096 + b.blockPos ∧ y.entries = b.entries
          ∧ y.data = journalBytes (keysOf s) (b.blockSeq + 1) b.entries))
    ∧ (bayReadable s = true → s.past b.hourAt 3_600_000_000_000 = true → b.life < 4 → leads (.bayHourly smart) (fun t =>
        t.bay.smart = smart.toNat ∧ t.bay.hourAt = s.now ∧ updated t b.bytes))
    ∧ (bayReadable s = false ∨ s.past b.hourAt 3_600_000_000_000 = false → exec (.bayHourly smart) s = .next s)
    ∧ (b.phase = .removing → b.step = 1 → b.io = [] → exec .nvmeFlushComplete s = .next (s.modBay (fun y => { y with step := 2 })))
    ∧ (b.phase = .removing → b.step = 2 → (b.life ≠ 4 → b.life ≤ b.ledger.state → leads .ledgerAddDone (fun t => t.bay.step = 3 ∧ updated t b.bytes))
        ∧ (b.life = 4 → exec .ledgerAddDone s = .next (s.modBay (fun y => { y with step := 3 }))))
    ∧ (b.phase = .removing → b.step = 3 ∨ (b.life = 4 ∧ b.step ≠ 0) → (b.again = false → leads .nvmeShutdownComplete safe)
        ∧ (b.again = true → b.present = true → b.latched = true → s.bitAt Reg.bayCtrl 0 = true → s.sys.secReady = true →
          leads .nvmeShutdownComplete (fun t => t.bay.phase = .identifying)))
    ∧ (b.phase = .removing → b.removeAt = some t0 → s.past t0 250_000_000 = true → leads .bayRemoveDeadline (fun t => Counted s t Reg.bayLateRemove 1
        ∧ bit (t.reg Reg.bayIrqStat) 8 = true ∧ (b.again = false → safe t
          ∧ (b.step ≠ 3 → t.bay.ledger.gb = b.ledger.gb + b.bytes / 1_000_000_000 ∧ stored t))))
    ∧ (b.exporting ≠ none → leads (.nvmeReadComplete true) (fun t => Counted s t Reg.bayRdErr 1 ∧ t.bay = b ∧ t.hld = s.hld))
    ∧ exec (.nvmeReadComplete false) s = .next s
    ∧ (T.length ≤ 16 → (∀ e, e ∈ T → e.1 ≠ 0 ∧ e.2.state < 2 ^ 8 ∧ e.2.gb < 2 ^ 32 ∧ e.2.lastTime < 2 ^ 64 ∧ e.2.updates < 2 ^ 32) →
        (areaBytes n T).length = 544 ∧ tableOf (areaBytes n T) = T)

end Claims
end

