-- ==== Sys2Proof/Laws/Store.lean ====
section
/-! SUPPORT. The laws of keyed stores: what a read shows after a write, and that every operation keeps the canonical form. -/
namespace Sys2Proof.Machine

open Sys2Proof

variable {α : Type}

/-! ### Reads -/

theorem lookup_filter_ne (m : SMap α) (k j : Nat) (h : j ≠ k) : lookup (erase m k) j = lookup m j := by
  induction m with
  | nil => rfl
  | cons e t ih =>
    obtain ⟨a, v⟩ := e
    by_cases ha : a = k
    · subst ha
      have : lookup ((a, v) :: t) j = lookup t j := by simp [lookup, Ne.symm h]
      rw [this, ← ih]
      simp [erase]
    · have : erase ((a, v) :: t) k = (a, v) :: erase t k := by simp [erase, ha]
      rw [this]
      by_cases hj : a = j <;> simp [lookup, hj, ih]

theorem lookup_erase_same (m : SMap α) (k : Nat) : lookup (erase m k) k = none := by
  induction m with
  | nil => rfl
  | cons e t ih =>
    obtain ⟨a, v⟩ := e
    by_cases ha : a = k
    · have : erase ((a, v) :: t) k = erase t k := by simp [erase, ha]
      rw [this, ih]
    · have : erase ((a, v) :: t) k = (a, v) :: erase t k := by simp [erase, ha]
      rw [this]
      simp [lookup, ha, ih]

theorem lookup_insertAt_same (m : SMap α) (k : Nat) (v : α) (h : lookup m k = none) : lookup (insertAt m k v) k = some v := by
  induction m with
  | nil => simp [insertAt, lookup]
  | cons e t ih =>
    obtain ⟨a, w⟩ := e
    have ha : a ≠ k := by
      intro hh
      simp [lookup, hh] at h
    have ht : lookup t k = none := by simpa [lookup, ha] using h
    by_cases hk : k < a
    · simp [insertAt, hk, lookup]
    · simp [insertAt, hk, lookup, ha, ih ht]

theorem lookup_insertAt_ne (m : SMap α) (k j : Nat) (v : α) (h : j ≠ k) : lookup (insertAt m k v) j = lookup m j := by
  induction m with
  | nil => simp [insertAt, lookup, Ne.symm h]
  | cons e t ih =>
    obtain ⟨a, w⟩ := e
    by_cases hk : k < a
    · simp [insertAt, hk, lookup, Ne.symm h]
    · rw [show insertAt ((a, w) :: t) k v = (a, w) :: insertAt t k v from by simp [insertAt, hk]]
      by_cases hj : a = j <;> simp [lookup, hj, ih]

/-- A read after a write of the same key gives the value written. -/
@[simp] theorem get_put_same [DecidableEq α] (d : Nat → α) (m : SMap α) (k : Nat) (v : α) : get d (put d m k v) k = v := by
  unfold get put
  split
  · rename_i h
    simp [lookup_erase_same, h]
  · simp [lookup_insertAt_same _ _ _ (lookup_erase_same m k)]

/-- A write leaves every other key alone. -/
theorem get_put_other [DecidableEq α] (d : Nat → α) (m : SMap α) (k j : Nat) (v : α) (h : j ≠ k) :
    get d (put d m k v) j = get d m j := by
  unfold get put
  split
  · simp [lookup_filter_ne m k j h]
  · simp [lookup_insertAt_ne _ _ _ _ h, lookup_filter_ne m k j h]

theorem get_put [DecidableEq α] (d : Nat → α) (m : SMap α) (k j : Nat) (v : α) :
    get d (put d m k v) j = if j = k then v else get d m j := by
  by_cases h : j = k
  · simp [h]
  · simp [h, get_put_other d m k j v h]

theorem erase_of_lookup_none (m : SMap α) (k : Nat) (h : lookup m k = none) : erase m k = m := by
  induction m with
  | nil => rfl
  | cons e t ih =>
    obtain ⟨j, w⟩ := e
    by_cases hj : j = k
    · simp [lookup, hj] at h
    · have : lookup t k = none := by simpa [lookup, hj] using h
      simp [erase, hj] at ih ⊢
      exact ih this

theorem erase_insertAt (m : SMap α) (k : Nat) (v : α) (h : lookup m k = none) : erase (insertAt m k v) k = m := by
  induction m with
  | nil => simp [insertAt, erase]
  | cons e t ih =>
    obtain ⟨j, w⟩ := e
    by_cases hj : j = k
    · simp [lookup, hj] at h
    · have ht : lookup t k = none := by simpa [lookup, hj] using h
      have he := erase_of_lookup_none _ _ ht
      unfold insertAt
      split
      · simp [erase, hj] at he ⊢
        exact he
      · have := ih ht
        simp [erase, hj] at this ⊢
        exact this

theorem erase_erase (m : SMap α) (k : Nat) : erase (erase m k) k = erase m k :=
  erase_of_lookup_none _ _ (lookup_erase_same m k)

@[simp] theorem put_put [DecidableEq α] (d : Nat → α) (m : SMap α) (k : Nat) (v w : α) : put d (put d m k v) k w = put d m k w := by
  have : erase (put d m k v) k = erase m k := by
    unfold put
    split
    · exact erase_erase m k
    · exact erase_insertAt _ _ _ (lookup_erase_same m k)
  unfold put at this ⊢
  rw [this]

@[simp] theorem get_nil (d : Nat → α) (k : Nat) : get d [] k = d k := rfl

/-! ### The canonical form -/

theorem risingFrom_mono (lo hi : Nat) (m : SMap α) (h : lo ≤ hi) (hm : risingFrom hi m = true) : risingFrom lo m = true := by
  cases m with
  | nil => rfl
  | cons e t =>
    obtain ⟨a, v⟩ := e
    simp only [risingFrom, Bool.and_eq_true, decide_eq_true_eq] at *
    exact ⟨Nat.le_trans h hm.1, hm.2⟩

theorem risingFrom_filter (p : Nat × α → Bool) (lo : Nat) (m : SMap α) (hm : risingFrom lo m = true) :
    risingFrom lo (m.filter p) = true := by
  induction m generalizing lo with
  | nil => rfl
  | cons e t ih =>
    obtain ⟨a, v⟩ := e
    simp only [risingFrom, Bool.and_eq_true, decide_eq_true_eq] at hm
    by_cases hp : p (a, v)
    · simp only [List.filter_cons, hp, if_true, risingFrom, Bool.and_eq_true, decide_eq_true_eq]
      exact ⟨hm.1, ih _ hm.2⟩
    · simp only [List.filter_cons, hp]
      exact ih _ (risingFrom_mono lo (a + 1) t (by omega) hm.2)

theorem noDefault_filter [DecidableEq α] (d : Nat → α) (p : Nat × α → Bool) (m : SMap α) (hm : noDefault d m = true) :
    noDefault d (m.filter p) = true := by
  simp only [noDefault, List.all_eq_true] at *
  intro e he
  exact hm e (List.mem_filter.mp he).1

theorem risingFrom_insertAt (m : SMap α) (k lo : Nat) (v : α) (hlo : lo ≤ k) (hm : risingFrom lo m = true)
    (hk : lookup m k = none) : risingFrom lo (insertAt m k v) = true := by
  induction m generalizing lo with
  | nil => simp [insertAt, risingFrom, hlo]
  | cons e t ih =>
    obtain ⟨a, w⟩ := e
    simp only [risingFrom, Bool.and_eq_true, decide_eq_true_eq] at hm
    have ha : a ≠ k := by
      intro hh
      simp [lookup, hh] at hk
    have ht : lookup t k = none := by simpa [lookup, ha] using hk
    by_cases hka : k < a
    · simp only [insertAt, hka, if_true, risingFrom, Bool.and_eq_true, decide_eq_true_eq]
      exact ⟨hlo, hka, hm.2⟩
    · simp only [insertAt, hka, if_false, risingFrom, Bool.and_eq_true, decide_eq_true_eq]
      exact ⟨hm.1, ih (a + 1) (by omega) hm.2 ht⟩

theorem noDefault_insertAt [DecidableEq α] (d : Nat → α) (m : SMap α) (k : Nat) (v : α) (hv : v ≠ d k)
    (hm : noDefault d m = true) : noDefault d (insertAt m k v) = true := by
  induction m with
  | nil => simp [insertAt, noDefault, hv]
  | cons e t ih =>
    obtain ⟨a, w⟩ := e
    simp only [noDefault, List.all_cons, Bool.and_eq_true] at hm
    by_cases hk : k < a
    · simp [insertAt, hk, noDefault, hv]
      simpa [noDefault] using hm
    · simp only [insertAt, hk, if_false, noDefault, List.all_cons, Bool.and_eq_true]
      exact ⟨hm.1, ih hm.2⟩

/-- A filter keeps the canonical form. -/
theorem storeWf_filter [DecidableEq α] (d : Nat → α) (p : Nat × α → Bool) (m : SMap α) (hm : storeWf d m = true) :
    storeWf d (m.filter p) = true := by
  simp only [storeWf, Bool.and_eq_true] at *
  exact ⟨risingFrom_filter p 0 m hm.1, noDefault_filter d p m hm.2⟩

/-- A write keeps the canonical form. -/
theorem storeWf_put [DecidableEq α] (d : Nat → α) (m : SMap α) (k : Nat) (v : α) (hm : storeWf d m = true) :
    storeWf d (put d m k v) = true := by
  have he : storeWf d (erase m k) = true := storeWf_filter d _ m hm
  unfold put
  split
  · exact he
  · rename_i hv
    simp only [storeWf, Bool.and_eq_true] at *
    exact ⟨risingFrom_insertAt _ k 0 v (Nat.zero_le _) he.1 (lookup_erase_same m k), noDefault_insertAt d _ k v hv he.2⟩

@[simp] theorem storeWf_nil [DecidableEq α] (d : Nat → α) : storeWf d ([] : SMap α) = true := rfl

end Sys2Proof.Machine
end

