-- ==== Sys2Proof/Laws/State.lean ====
section
/-! SUPPORT. The projections of every update: what each named operation on the state leaves in every field that it does not own. -/
namespace Sys2Proof.Machine

open Sys2Proof

@[simp] theorem State.setReg_pending (s : State) (a : Nat) (v : Word) : (s.setReg a v).pending = s.pending := rfl
@[simp] theorem State.setReg_now (s : State) (a : Nat) (v : Word) : (s.setReg a v).now = s.now := rfl
@[simp] theorem State.setReg_bus (s : State) (a : Nat) (v : Word) : (s.setReg a v).bus = s.bus := rfl
@[simp] theorem State.setReg_freeCtr (s : State) (a : Nat) (v : Word) : (s.setReg a v).freeCtr = s.freeCtr := rfl
@[simp] theorem State.setReg_log (s : State) (a : Nat) (v : Word) : (s.setReg a v).log = s.log := rfl
@[simp] theorem State.setReg_mem (s : State) (a : Nat) (v : Word) : (s.setReg a v).mem = s.mem := rfl
@[simp] theorem State.setReg_clk (s : State) (a : Nat) (v : Word) : (s.setReg a v).clk = s.clk := rfl
@[simp] theorem State.setReg_pwr (s : State) (a : Nat) (v : Word) : (s.setReg a v).pwr = s.pwr := rfl
@[simp] theorem State.setReg_fab (s : State) (a : Nat) (v : Word) : (s.setReg a v).fab = s.fab := rfl
@[simp] theorem State.setReg_memb (s : State) (a : Nat) (v : Word) : (s.setReg a v).memb = s.memb := rfl
@[simp] theorem State.setReg_dmas (s : State) (a : Nat) (v : Word) : (s.setReg a v).dmas = s.dmas := rfl
@[simp] theorem State.setReg_halos (s : State) (a : Nat) (v : Word) : (s.setReg a v).halos = s.halos := rfl
@[simp] theorem State.setReg_thr (s : State) (a : Nat) (v : Word) : (s.setReg a v).thr = s.thr := rfl
@[simp] theorem State.setReg_cores (s : State) (a : Nat) (v : Word) : (s.setReg a v).cores = s.cores := rfl
@[simp] theorem State.setReg_tars (s : State) (a : Nat) (v : Word) : (s.setReg a v).tars = s.tars := rfl
@[simp] theorem State.setReg_qus (s : State) (a : Nat) (v : Word) : (s.setReg a v).qus = s.qus := rfl
@[simp] theorem State.setReg_adapt (s : State) (a : Nat) (v : Word) : (s.setReg a v).adapt = s.adapt := rfl
@[simp] theorem State.setReg_thy (s : State) (a : Nat) (v : Word) : (s.setReg a v).thy = s.thy := rfl
@[simp] theorem State.setReg_cab (s : State) (a : Nat) (v : Word) : (s.setReg a v).cab = s.cab := rfl
@[simp] theorem State.setReg_veh (s : State) (a : Nat) (v : Word) : (s.setReg a v).veh = s.veh := rfl
@[simp] theorem State.setReg_enc (s : State) (a : Nat) (v : Word) : (s.setReg a v).enc = s.enc := rfl
@[simp] theorem State.setReg_cam (s : State) (a : Nat) (v : Word) : (s.setReg a v).cam = s.cam := rfl
@[simp] theorem State.setReg_tram (s : State) (a : Nat) (v : Word) : (s.setReg a v).tram = s.tram := rfl
@[simp] theorem State.setReg_pkgs (s : State) (a : Nat) (v : Word) : (s.setReg a v).pkgs = s.pkgs := rfl
@[simp] theorem State.setReg_sage (s : State) (a : Nat) (v : Word) : (s.setReg a v).sage = s.sage := rfl
@[simp] theorem State.setReg_bay (s : State) (a : Nat) (v : Word) : (s.setReg a v).bay = s.bay := rfl
@[simp] theorem State.setReg_hld (s : State) (a : Nat) (v : Word) : (s.setReg a v).hld = s.hld := rfl
@[simp] theorem State.setReg_sys (s : State) (a : Nat) (v : Word) : (s.setReg a v).sys = s.sys := rfl
@[simp] theorem State.setReg_ctl (s : State) (a : Nat) (v : Word) : (s.setReg a v).ctl = s.ctl := rfl

@[simp] theorem State.setFldAt_pending (s : State) (a hi lo v : Nat) : (s.setFldAt a hi lo v).pending = s.pending := rfl
@[simp] theorem State.setFldAt_now (s : State) (a hi lo v : Nat) : (s.setFldAt a hi lo v).now = s.now := rfl
@[simp] theorem State.setFldAt_bus (s : State) (a hi lo v : Nat) : (s.setFldAt a hi lo v).bus = s.bus := rfl
@[simp] theorem State.setFldAt_freeCtr (s : State) (a hi lo v : Nat) : (s.setFldAt a hi lo v).freeCtr = s.freeCtr := rfl
@[simp] theorem State.setFldAt_log (s : State) (a hi lo v : Nat) : (s.setFldAt a hi lo v).log = s.log := rfl
@[simp] theorem State.setFldAt_mem (s : State) (a hi lo v : Nat) : (s.setFldAt a hi lo v).mem = s.mem := rfl
@[simp] theorem State.setFldAt_clk (s : State) (a hi lo v : Nat) : (s.setFldAt a hi lo v).clk = s.clk := rfl
@[simp] theorem State.setFldAt_pwr (s : State) (a hi lo v : Nat) : (s.setFldAt a hi lo v).pwr = s.pwr := rfl
@[simp] theorem State.setFldAt_fab (s : State) (a hi lo v : Nat) : (s.setFldAt a hi lo v).fab = s.fab := rfl
@[simp] theorem State.setFldAt_memb (s : State) (a hi lo v : Nat) : (s.setFldAt a hi lo v).memb = s.memb := rfl
@[simp] theorem State.setFldAt_dmas (s : State) (a hi lo v : Nat) : (s.setFldAt a hi lo v).dmas = s.dmas := rfl
@[simp] theorem State.setFldAt_halos (s : State) (a hi lo v : Nat) : (s.setFldAt a hi lo v).halos = s.halos := rfl
@[simp] theorem State.setFldAt_thr (s : State) (a hi lo v : Nat) : (s.setFldAt a hi lo v).thr = s.thr := rfl
@[simp] theorem State.setFldAt_cores (s : State) (a hi lo v : Nat) : (s.setFldAt a hi lo v).cores = s.cores := rfl
@[simp] theorem State.setFldAt_tars (s : State) (a hi lo v : Nat) : (s.setFldAt a hi lo v).tars = s.tars := rfl
@[simp] theorem State.setFldAt_qus (s : State) (a hi lo v : Nat) : (s.setFldAt a hi lo v).qus = s.qus := rfl
@[simp] theorem State.setFldAt_adapt (s : State) (a hi lo v : Nat) : (s.setFldAt a hi lo v).adapt = s.adapt := rfl
@[simp] theorem State.setFldAt_thy (s : State) (a hi lo v : Nat) : (s.setFldAt a hi lo v).thy = s.thy := rfl
@[simp] theorem State.setFldAt_cab (s : State) (a hi lo v : Nat) : (s.setFldAt a hi lo v).cab = s.cab := rfl
@[simp] theorem State.setFldAt_veh (s : State) (a hi lo v : Nat) : (s.setFldAt a hi lo v).veh = s.veh := rfl
@[simp] theorem State.setFldAt_enc (s : State) (a hi lo v : Nat) : (s.setFldAt a hi lo v).enc = s.enc := rfl
@[simp] theorem State.setFldAt_cam (s : State) (a hi lo v : Nat) : (s.setFldAt a hi lo v).cam = s.cam := rfl
@[simp] theorem State.setFldAt_tram (s : State) (a hi lo v : Nat) : (s.setFldAt a hi lo v).tram = s.tram := rfl
@[simp] theorem State.setFldAt_pkgs (s : State) (a hi lo v : Nat) : (s.setFldAt a hi lo v).pkgs = s.pkgs := rfl
@[simp] theorem State.setFldAt_sage (s : State) (a hi lo v : Nat) : (s.setFldAt a hi lo v).sage = s.sage := rfl
@[simp] theorem State.setFldAt_bay (s : State) (a hi lo v : Nat) : (s.setFldAt a hi lo v).bay = s.bay := rfl
@[simp] theorem State.setFldAt_hld (s : State) (a hi lo v : Nat) : (s.setFldAt a hi lo v).hld = s.hld := rfl
@[simp] theorem State.setFldAt_sys (s : State) (a hi lo v : Nat) : (s.setFldAt a hi lo v).sys = s.sys := rfl
@[simp] theorem State.setFldAt_ctl (s : State) (a hi lo v : Nat) : (s.setFldAt a hi lo v).ctl = s.ctl := rfl

@[simp] theorem State.raise_pending (s : State) (a i : Nat) : (s.raise a i).pending = s.pending := rfl
@[simp] theorem State.raise_now (s : State) (a i : Nat) : (s.raise a i).now = s.now := rfl
@[simp] theorem State.raise_bus (s : State) (a i : Nat) : (s.raise a i).bus = s.bus := rfl
@[simp] theorem State.raise_freeCtr (s : State) (a i : Nat) : (s.raise a i).freeCtr = s.freeCtr := rfl
@[simp] theorem State.raise_log (s : State) (a i : Nat) : (s.raise a i).log = s.log := rfl
@[simp] theorem State.raise_mem (s : State) (a i : Nat) : (s.raise a i).mem = s.mem := rfl
@[simp] theorem State.raise_clk (s : State) (a i : Nat) : (s.raise a i).clk = s.clk := rfl
@[simp] theorem State.raise_pwr (s : State) (a i : Nat) : (s.raise a i).pwr = s.pwr := rfl
@[simp] theorem State.raise_fab (s : State) (a i : Nat) : (s.raise a i).fab = s.fab := rfl
@[simp] theorem State.raise_memb (s : State) (a i : Nat) : (s.raise a i).memb = s.memb := rfl
@[simp] theorem State.raise_dmas (s : State) (a i : Nat) : (s.raise a i).dmas = s.dmas := rfl
@[simp] theorem State.raise_halos (s : State) (a i : Nat) : (s.raise a i).halos = s.halos := rfl
@[simp] theorem State.raise_thr (s : State) (a i : Nat) : (s.raise a i).thr = s.thr := rfl
@[simp] theorem State.raise_cores (s : State) (a i : Nat) : (s.raise a i).cores = s.cores := rfl
@[simp] theorem State.raise_tars (s : State) (a i : Nat) : (s.raise a i).tars = s.tars := rfl
@[simp] theorem State.raise_qus (s : State) (a i : Nat) : (s.raise a i).qus = s.qus := rfl
@[simp] theorem State.raise_adapt (s : State) (a i : Nat) : (s.raise a i).adapt = s.adapt := rfl
@[simp] theorem State.raise_thy (s : State) (a i : Nat) : (s.raise a i).thy = s.thy := rfl
@[simp] theorem State.raise_cab (s : State) (a i : Nat) : (s.raise a i).cab = s.cab := rfl
@[simp] theorem State.raise_veh (s : State) (a i : Nat) : (s.raise a i).veh = s.veh := rfl
@[simp] theorem State.raise_enc (s : State) (a i : Nat) : (s.raise a i).enc = s.enc := rfl
@[simp] theorem State.raise_cam (s : State) (a i : Nat) : (s.raise a i).cam = s.cam := rfl
@[simp] theorem State.raise_tram (s : State) (a i : Nat) : (s.raise a i).tram = s.tram := rfl
@[simp] theorem State.raise_pkgs (s : State) (a i : Nat) : (s.raise a i).pkgs = s.pkgs := rfl
@[simp] theorem State.raise_sage (s : State) (a i : Nat) : (s.raise a i).sage = s.sage := rfl
@[simp] theorem State.raise_bay (s : State) (a i : Nat) : (s.raise a i).bay = s.bay := rfl
@[simp] theorem State.raise_hld (s : State) (a i : Nat) : (s.raise a i).hld = s.hld := rfl
@[simp] theorem State.raise_sys (s : State) (a i : Nat) : (s.raise a i).sys = s.sys := rfl
@[simp] theorem State.raise_ctl (s : State) (a i : Nat) : (s.raise a i).ctl = s.ctl := rfl

@[simp] theorem State.countBy_pending (s : State) (a n : Nat) : (s.countBy a n).pending = s.pending := rfl
@[simp] theorem State.countBy_now (s : State) (a n : Nat) : (s.countBy a n).now = s.now := rfl
@[simp] theorem State.countBy_bus (s : State) (a n : Nat) : (s.countBy a n).bus = s.bus := rfl
@[simp] theorem State.countBy_freeCtr (s : State) (a n : Nat) : (s.countBy a n).freeCtr = s.freeCtr := rfl
@[simp] theorem State.countBy_log (s : State) (a n : Nat) : (s.countBy a n).log = s.log := rfl
@[simp] theorem State.countBy_mem (s : State) (a n : Nat) : (s.countBy a n).mem = s.mem := rfl
@[simp] theorem State.countBy_clk (s : State) (a n : Nat) : (s.countBy a n).clk = s.clk := rfl
@[simp] theorem State.countBy_pwr (s : State) (a n : Nat) : (s.countBy a n).pwr = s.pwr := rfl
@[simp] theorem State.countBy_fab (s : State) (a n : Nat) : (s.countBy a n).fab = s.fab := rfl
@[simp] theorem State.countBy_memb (s : State) (a n : Nat) : (s.countBy a n).memb = s.memb := rfl
@[simp] theorem State.countBy_dmas (s : State) (a n : Nat) : (s.countBy a n).dmas = s.dmas := rfl
@[simp] theorem State.countBy_halos (s : State) (a n : Nat) : (s.countBy a n).halos = s.halos := rfl
@[simp] theorem State.countBy_thr (s : State) (a n : Nat) : (s.countBy a n).thr = s.thr := rfl
@[simp] theorem State.countBy_cores (s : State) (a n : Nat) : (s.countBy a n).cores = s.cores := rfl
@[simp] theorem State.countBy_tars (s : State) (a n : Nat) : (s.countBy a n).tars = s.tars := rfl
@[simp] theorem State.countBy_qus (s : State) (a n : Nat) : (s.countBy a n).qus = s.qus := rfl
@[simp] theorem State.countBy_adapt (s : State) (a n : Nat) : (s.countBy a n).adapt = s.adapt := rfl
@[simp] theorem State.countBy_thy (s : State) (a n : Nat) : (s.countBy a n).thy = s.thy := rfl
@[simp] theorem State.countBy_cab (s : State) (a n : Nat) : (s.countBy a n).cab = s.cab := rfl
@[simp] theorem State.countBy_veh (s : State) (a n : Nat) : (s.countBy a n).veh = s.veh := rfl
@[simp] theorem State.countBy_enc (s : State) (a n : Nat) : (s.countBy a n).enc = s.enc := rfl
@[simp] theorem State.countBy_cam (s : State) (a n : Nat) : (s.countBy a n).cam = s.cam := rfl
@[simp] theorem State.countBy_tram (s : State) (a n : Nat) : (s.countBy a n).tram = s.tram := rfl
@[simp] theorem State.countBy_pkgs (s : State) (a n : Nat) : (s.countBy a n).pkgs = s.pkgs := rfl
@[simp] theorem State.countBy_sage (s : State) (a n : Nat) : (s.countBy a n).sage = s.sage := rfl
@[simp] theorem State.countBy_bay (s : State) (a n : Nat) : (s.countBy a n).bay = s.bay := rfl
@[simp] theorem State.countBy_hld (s : State) (a n : Nat) : (s.countBy a n).hld = s.hld := rfl
@[simp] theorem State.countBy_sys (s : State) (a n : Nat) : (s.countBy a n).sys = s.sys := rfl
@[simp] theorem State.countBy_ctl (s : State) (a n : Nat) : (s.countBy a n).ctl = s.ctl := rfl

@[simp] theorem State.count_pending (s : State) (a : Nat) : (s.count a).pending = s.pending := rfl
@[simp] theorem State.count_now (s : State) (a : Nat) : (s.count a).now = s.now := rfl
@[simp] theorem State.count_bus (s : State) (a : Nat) : (s.count a).bus = s.bus := rfl
@[simp] theorem State.count_freeCtr (s : State) (a : Nat) : (s.count a).freeCtr = s.freeCtr := rfl
@[simp] theorem State.count_log (s : State) (a : Nat) : (s.count a).log = s.log := rfl
@[simp] theorem State.count_mem (s : State) (a : Nat) : (s.count a).mem = s.mem := rfl
@[simp] theorem State.count_clk (s : State) (a : Nat) : (s.count a).clk = s.clk := rfl
@[simp] theorem State.count_pwr (s : State) (a : Nat) : (s.count a).pwr = s.pwr := rfl
@[simp] theorem State.count_fab (s : State) (a : Nat) : (s.count a).fab = s.fab := rfl
@[simp] theorem State.count_memb (s : State) (a : Nat) : (s.count a).memb = s.memb := rfl
@[simp] theorem State.count_dmas (s : State) (a : Nat) : (s.count a).dmas = s.dmas := rfl
@[simp] theorem State.count_halos (s : State) (a : Nat) : (s.count a).halos = s.halos := rfl
@[simp] theorem State.count_thr (s : State) (a : Nat) : (s.count a).thr = s.thr := rfl
@[simp] theorem State.count_cores (s : State) (a : Nat) : (s.count a).cores = s.cores := rfl
@[simp] theorem State.count_tars (s : State) (a : Nat) : (s.count a).tars = s.tars := rfl
@[simp] theorem State.count_qus (s : State) (a : Nat) : (s.count a).qus = s.qus := rfl
@[simp] theorem State.count_adapt (s : State) (a : Nat) : (s.count a).adapt = s.adapt := rfl
@[simp] theorem State.count_thy (s : State) (a : Nat) : (s.count a).thy = s.thy := rfl
@[simp] theorem State.count_cab (s : State) (a : Nat) : (s.count a).cab = s.cab := rfl
@[simp] theorem State.count_veh (s : State) (a : Nat) : (s.count a).veh = s.veh := rfl
@[simp] theorem State.count_enc (s : State) (a : Nat) : (s.count a).enc = s.enc := rfl
@[simp] theorem State.count_cam (s : State) (a : Nat) : (s.count a).cam = s.cam := rfl
@[simp] theorem State.count_tram (s : State) (a : Nat) : (s.count a).tram = s.tram := rfl
@[simp] theorem State.count_pkgs (s : State) (a : Nat) : (s.count a).pkgs = s.pkgs := rfl
@[simp] theorem State.count_sage (s : State) (a : Nat) : (s.count a).sage = s.sage := rfl
@[simp] theorem State.count_bay (s : State) (a : Nat) : (s.count a).bay = s.bay := rfl
@[simp] theorem State.count_hld (s : State) (a : Nat) : (s.count a).hld = s.hld := rfl
@[simp] theorem State.count_sys (s : State) (a : Nat) : (s.count a).sys = s.sys := rfl
@[simp] theorem State.count_ctl (s : State) (a : Nat) : (s.count a).ctl = s.ctl := rfl

@[simp] theorem State.resetRegs_pending (s : State) (lo hi : Nat) : (s.resetRegs lo hi).pending = s.pending := rfl
@[simp] theorem State.resetRegs_now (s : State) (lo hi : Nat) : (s.resetRegs lo hi).now = s.now := rfl
@[simp] theorem State.resetRegs_bus (s : State) (lo hi : Nat) : (s.resetRegs lo hi).bus = s.bus := rfl
@[simp] theorem State.resetRegs_freeCtr (s : State) (lo hi : Nat) : (s.resetRegs lo hi).freeCtr = s.freeCtr := rfl
@[simp] theorem State.resetRegs_log (s : State) (lo hi : Nat) : (s.resetRegs lo hi).log = s.log := rfl
@[simp] theorem State.resetRegs_mem (s : State) (lo hi : Nat) : (s.resetRegs lo hi).mem = s.mem := rfl
@[simp] theorem State.resetRegs_clk (s : State) (lo hi : Nat) : (s.resetRegs lo hi).clk = s.clk := rfl
@[simp] theorem State.resetRegs_pwr (s : State) (lo hi : Nat) : (s.resetRegs lo hi).pwr = s.pwr := rfl
@[simp] theorem State.resetRegs_fab (s : State) (lo hi : Nat) : (s.resetRegs lo hi).fab = s.fab := rfl
@[simp] theorem State.resetRegs_memb (s : State) (lo hi : Nat) : (s.resetRegs lo hi).memb = s.memb := rfl
@[simp] theorem State.resetRegs_dmas (s : State) (lo hi : Nat) : (s.resetRegs lo hi).dmas = s.dmas := rfl
@[simp] theorem State.resetRegs_halos (s : State) (lo hi : Nat) : (s.resetRegs lo hi).halos = s.halos := rfl
@[simp] theorem State.resetRegs_thr (s : State) (lo hi : Nat) : (s.resetRegs lo hi).thr = s.thr := rfl
@[simp] theorem State.resetRegs_cores (s : State) (lo hi : Nat) : (s.resetRegs lo hi).cores = s.cores := rfl
@[simp] theorem State.resetRegs_tars (s : State) (lo hi : Nat) : (s.resetRegs lo hi).tars = s.tars := rfl
@[simp] theorem State.resetRegs_qus (s : State) (lo hi : Nat) : (s.resetRegs lo hi).qus = s.qus := rfl
@[simp] theorem State.resetRegs_adapt (s : State) (lo hi : Nat) : (s.resetRegs lo hi).adapt = s.adapt := rfl
@[simp] theorem State.resetRegs_thy (s : State) (lo hi : Nat) : (s.resetRegs lo hi).thy = s.thy := rfl
@[simp] theorem State.resetRegs_cab (s : State) (lo hi : Nat) : (s.resetRegs lo hi).cab = s.cab := rfl
@[simp] theorem State.resetRegs_veh (s : State) (lo hi : Nat) : (s.resetRegs lo hi).veh = s.veh := rfl
@[simp] theorem State.resetRegs_enc (s : State) (lo hi : Nat) : (s.resetRegs lo hi).enc = s.enc := rfl
@[simp] theorem State.resetRegs_cam (s : State) (lo hi : Nat) : (s.resetRegs lo hi).cam = s.cam := rfl
@[simp] theorem State.resetRegs_tram (s : State) (lo hi : Nat) : (s.resetRegs lo hi).tram = s.tram := rfl
@[simp] theorem State.resetRegs_pkgs (s : State) (lo hi : Nat) : (s.resetRegs lo hi).pkgs = s.pkgs := rfl
@[simp] theorem State.resetRegs_sage (s : State) (lo hi : Nat) : (s.resetRegs lo hi).sage = s.sage := rfl
@[simp] theorem State.resetRegs_bay (s : State) (lo hi : Nat) : (s.resetRegs lo hi).bay = s.bay := rfl
@[simp] theorem State.resetRegs_hld (s : State) (lo hi : Nat) : (s.resetRegs lo hi).hld = s.hld := rfl
@[simp] theorem State.resetRegs_sys (s : State) (lo hi : Nat) : (s.resetRegs lo hi).sys = s.sys := rfl
@[simp] theorem State.resetRegs_ctl (s : State) (lo hi : Nat) : (s.resetRegs lo hi).ctl = s.ctl := rfl

@[simp] theorem State.plainWrite_pending (s : State) (a : Nat) (r : RegSpec) (v : Word) : (s.plainWrite a r v).pending = s.pending := rfl
@[simp] theorem State.plainWrite_now (s : State) (a : Nat) (r : RegSpec) (v : Word) : (s.plainWrite a r v).now = s.now := rfl
@[simp] theorem State.plainWrite_bus (s : State) (a : Nat) (r : RegSpec) (v : Word) : (s.plainWrite a r v).bus = s.bus := rfl
@[simp] theorem State.plainWrite_freeCtr (s : State) (a : Nat) (r : RegSpec) (v : Word) : (s.plainWrite a r v).freeCtr = s.freeCtr := rfl
@[simp] theorem State.plainWrite_log (s : State) (a : Nat) (r : RegSpec) (v : Word) : (s.plainWrite a r v).log = s.log := rfl
@[simp] theorem State.plainWrite_mem (s : State) (a : Nat) (r : RegSpec) (v : Word) : (s.plainWrite a r v).mem = s.mem := rfl
@[simp] theorem State.plainWrite_clk (s : State) (a : Nat) (r : RegSpec) (v : Word) : (s.plainWrite a r v).clk = s.clk := rfl
@[simp] theorem State.plainWrite_pwr (s : State) (a : Nat) (r : RegSpec) (v : Word) : (s.plainWrite a r v).pwr = s.pwr := rfl
@[simp] theorem State.plainWrite_fab (s : State) (a : Nat) (r : RegSpec) (v : Word) : (s.plainWrite a r v).fab = s.fab := rfl
@[simp] theorem State.plainWrite_memb (s : State) (a : Nat) (r : RegSpec) (v : Word) : (s.plainWrite a r v).memb = s.memb := rfl
@[simp] theorem State.plainWrite_dmas (s : State) (a : Nat) (r : RegSpec) (v : Word) : (s.plainWrite a r v).dmas = s.dmas := rfl
@[simp] theorem State.plainWrite_halos (s : State) (a : Nat) (r : RegSpec) (v : Word) : (s.plainWrite a r v).halos = s.halos := rfl
@[simp] theorem State.plainWrite_thr (s : State) (a : Nat) (r : RegSpec) (v : Word) : (s.plainWrite a r v).thr = s.thr := rfl
@[simp] theorem State.plainWrite_cores (s : State) (a : Nat) (r : RegSpec) (v : Word) : (s.plainWrite a r v).cores = s.cores := rfl
@[simp] theorem State.plainWrite_tars (s : State) (a : Nat) (r : RegSpec) (v : Word) : (s.plainWrite a r v).tars = s.tars := rfl
@[simp] theorem State.plainWrite_qus (s : State) (a : Nat) (r : RegSpec) (v : Word) : (s.plainWrite a r v).qus = s.qus := rfl
@[simp] theorem State.plainWrite_adapt (s : State) (a : Nat) (r : RegSpec) (v : Word) : (s.plainWrite a r v).adapt = s.adapt := rfl
@[simp] theorem State.plainWrite_thy (s : State) (a : Nat) (r : RegSpec) (v : Word) : (s.plainWrite a r v).thy = s.thy := rfl
@[simp] theorem State.plainWrite_cab (s : State) (a : Nat) (r : RegSpec) (v : Word) : (s.plainWrite a r v).cab = s.cab := rfl
@[simp] theorem State.plainWrite_veh (s : State) (a : Nat) (r : RegSpec) (v : Word) : (s.plainWrite a r v).veh = s.veh := rfl
@[simp] theorem State.plainWrite_enc (s : State) (a : Nat) (r : RegSpec) (v : Word) : (s.plainWrite a r v).enc = s.enc := rfl
@[simp] theorem State.plainWrite_cam (s : State) (a : Nat) (r : RegSpec) (v : Word) : (s.plainWrite a r v).cam = s.cam := rfl
@[simp] theorem State.plainWrite_tram (s : State) (a : Nat) (r : RegSpec) (v : Word) : (s.plainWrite a r v).tram = s.tram := rfl
@[simp] theorem State.plainWrite_pkgs (s : State) (a : Nat) (r : RegSpec) (v : Word) : (s.plainWrite a r v).pkgs = s.pkgs := rfl
@[simp] theorem State.plainWrite_sage (s : State) (a : Nat) (r : RegSpec) (v : Word) : (s.plainWrite a r v).sage = s.sage := rfl
@[simp] theorem State.plainWrite_bay (s : State) (a : Nat) (r : RegSpec) (v : Word) : (s.plainWrite a r v).bay = s.bay := rfl
@[simp] theorem State.plainWrite_hld (s : State) (a : Nat) (r : RegSpec) (v : Word) : (s.plainWrite a r v).hld = s.hld := rfl
@[simp] theorem State.plainWrite_sys (s : State) (a : Nat) (r : RegSpec) (v : Word) : (s.plainWrite a r v).sys = s.sys := rfl
@[simp] theorem State.plainWrite_ctl (s : State) (a : Nat) (r : RegSpec) (v : Word) : (s.plainWrite a r v).ctl = s.ctl := rfl

@[simp] theorem State.logged_pending (s : State) (e : LogEvent) : (s.logged e).pending = s.pending := rfl
@[simp] theorem State.logged_now (s : State) (e : LogEvent) : (s.logged e).now = s.now := rfl
@[simp] theorem State.logged_bus (s : State) (e : LogEvent) : (s.logged e).bus = s.bus := rfl
@[simp] theorem State.logged_freeCtr (s : State) (e : LogEvent) : (s.logged e).freeCtr = s.freeCtr := rfl
@[simp] theorem State.logged_regs (s : State) (e : LogEvent) : (s.logged e).regs = s.regs := rfl
@[simp] theorem State.logged_mem (s : State) (e : LogEvent) : (s.logged e).mem = s.mem := rfl
@[simp] theorem State.logged_clk (s : State) (e : LogEvent) : (s.logged e).clk = s.clk := rfl
@[simp] theorem State.logged_pwr (s : State) (e : LogEvent) : (s.logged e).pwr = s.pwr := rfl
@[simp] theorem State.logged_fab (s : State) (e : LogEvent) : (s.logged e).fab = s.fab := rfl
@[simp] theorem State.logged_memb (s : State) (e : LogEvent) : (s.logged e).memb = s.memb := rfl
@[simp] theorem State.logged_dmas (s : State) (e : LogEvent) : (s.logged e).dmas = s.dmas := rfl
@[simp] theorem State.logged_halos (s : State) (e : LogEvent) : (s.logged e).halos = s.halos := rfl
@[simp] theorem State.logged_thr (s : State) (e : LogEvent) : (s.logged e).thr = s.thr := rfl
@[simp] theorem State.logged_cores (s : State) (e : LogEvent) : (s.logged e).cores = s.cores := rfl
@[simp] theorem State.logged_tars (s : State) (e : LogEvent) : (s.logged e).tars = s.tars := rfl
@[simp] theorem State.logged_qus (s : State) (e : LogEvent) : (s.logged e).qus = s.qus := rfl
@[simp] theorem State.logged_adapt (s : State) (e : LogEvent) : (s.logged e).adapt = s.adapt := rfl
@[simp] theorem State.logged_thy (s : State) (e : LogEvent) : (s.logged e).thy = s.thy := rfl
@[simp] theorem State.logged_cab (s : State) (e : LogEvent) : (s.logged e).cab = s.cab := rfl
@[simp] theorem State.logged_veh (s : State) (e : LogEvent) : (s.logged e).veh = s.veh := rfl
@[simp] theorem State.logged_enc (s : State) (e : LogEvent) : (s.logged e).enc = s.enc := rfl
@[simp] theorem State.logged_cam (s : State) (e : LogEvent) : (s.logged e).cam = s.cam := rfl
@[simp] theorem State.logged_tram (s : State) (e : LogEvent) : (s.logged e).tram = s.tram := rfl
@[simp] theorem State.logged_pkgs (s : State) (e : LogEvent) : (s.logged e).pkgs = s.pkgs := rfl
@[simp] theorem State.logged_sage (s : State) (e : LogEvent) : (s.logged e).sage = s.sage := rfl
@[simp] theorem State.logged_bay (s : State) (e : LogEvent) : (s.logged e).bay = s.bay := rfl
@[simp] theorem State.logged_hld (s : State) (e : LogEvent) : (s.logged e).hld = s.hld := rfl
@[simp] theorem State.logged_sys (s : State) (e : LogEvent) : (s.logged e).sys = s.sys := rfl
@[simp] theorem State.logged_ctl (s : State) (e : LogEvent) : (s.logged e).ctl = s.ctl := rfl

@[simp] theorem State.logRule_pending (s : State) (r arg : Nat) : (s.logRule r arg).pending = s.pending := rfl
@[simp] theorem State.logRule_now (s : State) (r arg : Nat) : (s.logRule r arg).now = s.now := rfl
@[simp] theorem State.logRule_bus (s : State) (r arg : Nat) : (s.logRule r arg).bus = s.bus := rfl
@[simp] theorem State.logRule_freeCtr (s : State) (r arg : Nat) : (s.logRule r arg).freeCtr = s.freeCtr := rfl
@[simp] theorem State.logRule_regs (s : State) (r arg : Nat) : (s.logRule r arg).regs = s.regs := rfl
@[simp] theorem State.logRule_mem (s : State) (r arg : Nat) : (s.logRule r arg).mem = s.mem := rfl
@[simp] theorem State.logRule_clk (s : State) (r arg : Nat) : (s.logRule r arg).clk = s.clk := rfl
@[simp] theorem State.logRule_pwr (s : State) (r arg : Nat) : (s.logRule r arg).pwr = s.pwr := rfl
@[simp] theorem State.logRule_fab (s : State) (r arg : Nat) : (s.logRule r arg).fab = s.fab := rfl
@[simp] theorem State.logRule_memb (s : State) (r arg : Nat) : (s.logRule r arg).memb = s.memb := rfl
@[simp] theorem State.logRule_dmas (s : State) (r arg : Nat) : (s.logRule r arg).dmas = s.dmas := rfl
@[simp] theorem State.logRule_halos (s : State) (r arg : Nat) : (s.logRule r arg).halos = s.halos := rfl
@[simp] theorem State.logRule_thr (s : State) (r arg : Nat) : (s.logRule r arg).thr = s.thr := rfl
@[simp] theorem State.logRule_cores (s : State) (r arg : Nat) : (s.logRule r arg).cores = s.cores := rfl
@[simp] theorem State.logRule_tars (s : State) (r arg : Nat) : (s.logRule r arg).tars = s.tars := rfl
@[simp] theorem State.logRule_qus (s : State) (r arg : Nat) : (s.logRule r arg).qus = s.qus := rfl
@[simp] theorem State.logRule_adapt (s : State) (r arg : Nat) : (s.logRule r arg).adapt = s.adapt := rfl
@[simp] theorem State.logRule_thy (s : State) (r arg : Nat) : (s.logRule r arg).thy = s.thy := rfl
@[simp] theorem State.logRule_cab (s : State) (r arg : Nat) : (s.logRule r arg).cab = s.cab := rfl
@[simp] theorem State.logRule_veh (s : State) (r arg : Nat) : (s.logRule r arg).veh = s.veh := rfl
@[simp] theorem State.logRule_enc (s : State) (r arg : Nat) : (s.logRule r arg).enc = s.enc := rfl
@[simp] theorem State.logRule_cam (s : State) (r arg : Nat) : (s.logRule r arg).cam = s.cam := rfl
@[simp] theorem State.logRule_tram (s : State) (r arg : Nat) : (s.logRule r arg).tram = s.tram := rfl
@[simp] theorem State.logRule_pkgs (s : State) (r arg : Nat) : (s.logRule r arg).pkgs = s.pkgs := rfl
@[simp] theorem State.logRule_sage (s : State) (r arg : Nat) : (s.logRule r arg).sage = s.sage := rfl
@[simp] theorem State.logRule_bay (s : State) (r arg : Nat) : (s.logRule r arg).bay = s.bay := rfl
@[simp] theorem State.logRule_hld (s : State) (r arg : Nat) : (s.logRule r arg).hld = s.hld := rfl
@[simp] theorem State.logRule_sys (s : State) (r arg : Nat) : (s.logRule r arg).sys = s.sys := rfl
@[simp] theorem State.logRule_ctl (s : State) (r arg : Nat) : (s.logRule r arg).ctl = s.ctl := rfl

@[simp] theorem State.answer_pending (s : State) (v : Word) : (s.answer v).pending = s.pending := rfl
@[simp] theorem State.answer_now (s : State) (v : Word) : (s.answer v).now = s.now := rfl
@[simp] theorem State.answer_freeCtr (s : State) (v : Word) : (s.answer v).freeCtr = s.freeCtr := rfl
@[simp] theorem State.answer_log (s : State) (v : Word) : (s.answer v).log = s.log := rfl
@[simp] theorem State.answer_regs (s : State) (v : Word) : (s.answer v).regs = s.regs := rfl
@[simp] theorem State.answer_mem (s : State) (v : Word) : (s.answer v).mem = s.mem := rfl
@[simp] theorem State.answer_clk (s : State) (v : Word) : (s.answer v).clk = s.clk := rfl
@[simp] theorem State.answer_pwr (s : State) (v : Word) : (s.answer v).pwr = s.pwr := rfl
@[simp] theorem State.answer_fab (s : State) (v : Word) : (s.answer v).fab = s.fab := rfl
@[simp] theorem State.answer_memb (s : State) (v : Word) : (s.answer v).memb = s.memb := rfl
@[simp] theorem State.answer_dmas (s : State) (v : Word) : (s.answer v).dmas = s.dmas := rfl
@[simp] theorem State.answer_halos (s : State) (v : Word) : (s.answer v).halos = s.halos := rfl
@[simp] theorem State.answer_thr (s : State) (v : Word) : (s.answer v).thr = s.thr := rfl
@[simp] theorem State.answer_cores (s : State) (v : Word) : (s.answer v).cores = s.cores := rfl
@[simp] theorem State.answer_tars (s : State) (v : Word) : (s.answer v).tars = s.tars := rfl
@[simp] theorem State.answer_qus (s : State) (v : Word) : (s.answer v).qus = s.qus := rfl
@[simp] theorem State.answer_adapt (s : State) (v : Word) : (s.answer v).adapt = s.adapt := rfl
@[simp] theorem State.answer_thy (s : State) (v : Word) : (s.answer v).thy = s.thy := rfl
@[simp] theorem State.answer_cab (s : State) (v : Word) : (s.answer v).cab = s.cab := rfl
@[simp] theorem State.answer_veh (s : State) (v : Word) : (s.answer v).veh = s.veh := rfl
@[simp] theorem State.answer_enc (s : State) (v : Word) : (s.answer v).enc = s.enc := rfl
@[simp] theorem State.answer_cam (s : State) (v : Word) : (s.answer v).cam = s.cam := rfl
@[simp] theorem State.answer_tram (s : State) (v : Word) : (s.answer v).tram = s.tram := rfl
@[simp] theorem State.answer_pkgs (s : State) (v : Word) : (s.answer v).pkgs = s.pkgs := rfl
@[simp] theorem State.answer_sage (s : State) (v : Word) : (s.answer v).sage = s.sage := rfl
@[simp] theorem State.answer_bay (s : State) (v : Word) : (s.answer v).bay = s.bay := rfl
@[simp] theorem State.answer_hld (s : State) (v : Word) : (s.answer v).hld = s.hld := rfl
@[simp] theorem State.answer_sys (s : State) (v : Word) : (s.answer v).sys = s.sys := rfl
@[simp] theorem State.answer_ctl (s : State) (v : Word) : (s.answer v).ctl = s.ctl := rfl

@[simp] theorem State.busError_pending (s : State) : (s.busError).pending = s.pending := rfl
@[simp] theorem State.busError_now (s : State) : (s.busError).now = s.now := rfl
@[simp] theorem State.busError_freeCtr (s : State) : (s.busError).freeCtr = s.freeCtr := rfl
@[simp] theorem State.busError_log (s : State) : (s.busError).log = s.log := rfl
@[simp] theorem State.busError_regs (s : State) : (s.busError).regs = s.regs := rfl
@[simp] theorem State.busError_mem (s : State) : (s.busError).mem = s.mem := rfl
@[simp] theorem State.busError_clk (s : State) : (s.busError).clk = s.clk := rfl
@[simp] theorem State.busError_pwr (s : State) : (s.busError).pwr = s.pwr := rfl
@[simp] theorem State.busError_fab (s : State) : (s.busError).fab = s.fab := rfl
@[simp] theorem State.busError_memb (s : State) : (s.busError).memb = s.memb := rfl
@[simp] theorem State.busError_dmas (s : State) : (s.busError).dmas = s.dmas := rfl
@[simp] theorem State.busError_halos (s : State) : (s.busError).halos = s.halos := rfl
@[simp] theorem State.busError_thr (s : State) : (s.busError).thr = s.thr := rfl
@[simp] theorem State.busError_cores (s : State) : (s.busError).cores = s.cores := rfl
@[simp] theorem State.busError_tars (s : State) : (s.busError).tars = s.tars := rfl
@[simp] theorem State.busError_qus (s : State) : (s.busError).qus = s.qus := rfl
@[simp] theorem State.busError_adapt (s : State) : (s.busError).adapt = s.adapt := rfl
@[simp] theorem State.busError_thy (s : State) : (s.busError).thy = s.thy := rfl
@[simp] theorem State.busError_cab (s : State) : (s.busError).cab = s.cab := rfl
@[simp] theorem State.busError_veh (s : State) : (s.busError).veh = s.veh := rfl
@[simp] theorem State.busError_enc (s : State) : (s.busError).enc = s.enc := rfl
@[simp] theorem State.busError_cam (s : State) : (s.busError).cam = s.cam := rfl
@[simp] theorem State.busError_tram (s : State) : (s.busError).tram = s.tram := rfl
@[simp] theorem State.busError_pkgs (s : State) : (s.busError).pkgs = s.pkgs := rfl
@[simp] theorem State.busError_sage (s : State) : (s.busError).sage = s.sage := rfl
@[simp] theorem State.busError_bay (s : State) : (s.busError).bay = s.bay := rfl
@[simp] theorem State.busError_hld (s : State) : (s.busError).hld = s.hld := rfl
@[simp] theorem State.busError_sys (s : State) : (s.busError).sys = s.sys := rfl
@[simp] theorem State.busError_ctl (s : State) : (s.busError).ctl = s.ctl := rfl

@[simp] theorem State.draw_pending (s : State) : (s.draw).pending = s.pending := rfl
@[simp] theorem State.draw_now (s : State) : (s.draw).now = s.now := rfl
@[simp] theorem State.draw_bus (s : State) : (s.draw).bus = s.bus := rfl
@[simp] theorem State.draw_log (s : State) : (s.draw).log = s.log := rfl
@[simp] theorem State.draw_regs (s : State) : (s.draw).regs = s.regs := rfl
@[simp] theorem State.draw_mem (s : State) : (s.draw).mem = s.mem := rfl
@[simp] theorem State.draw_clk (s : State) : (s.draw).clk = s.clk := rfl
@[simp] theorem State.draw_pwr (s : State) : (s.draw).pwr = s.pwr := rfl
@[simp] theorem State.draw_fab (s : State) : (s.draw).fab = s.fab := rfl
@[simp] theorem State.draw_memb (s : State) : (s.draw).memb = s.memb := rfl
@[simp] theorem State.draw_dmas (s : State) : (s.draw).dmas = s.dmas := rfl
@[simp] theorem State.draw_halos (s : State) : (s.draw).halos = s.halos := rfl
@[simp] theorem State.draw_thr (s : State) : (s.draw).thr = s.thr := rfl
@[simp] theorem State.draw_cores (s : State) : (s.draw).cores = s.cores := rfl
@[simp] theorem State.draw_tars (s : State) : (s.draw).tars = s.tars := rfl
@[simp] theorem State.draw_qus (s : State) : (s.draw).qus = s.qus := rfl
@[simp] theorem State.draw_adapt (s : State) : (s.draw).adapt = s.adapt := rfl
@[simp] theorem State.draw_thy (s : State) : (s.draw).thy = s.thy := rfl
@[simp] theorem State.draw_cab (s : State) : (s.draw).cab = s.cab := rfl
@[simp] theorem State.draw_veh (s : State) : (s.draw).veh = s.veh := rfl
@[simp] theorem State.draw_enc (s : State) : (s.draw).enc = s.enc := rfl
@[simp] theorem State.draw_cam (s : State) : (s.draw).cam = s.cam := rfl
@[simp] theorem State.draw_tram (s : State) : (s.draw).tram = s.tram := rfl
@[simp] theorem State.draw_pkgs (s : State) : (s.draw).pkgs = s.pkgs := rfl
@[simp] theorem State.draw_sage (s : State) : (s.draw).sage = s.sage := rfl
@[simp] theorem State.draw_bay (s : State) : (s.draw).bay = s.bay := rfl
@[simp] theorem State.draw_hld (s : State) : (s.draw).hld = s.hld := rfl
@[simp] theorem State.draw_sys (s : State) : (s.draw).sys = s.sys := rfl
@[simp] theorem State.draw_ctl (s : State) : (s.draw).ctl = s.ctl := rfl

@[simp] theorem State.setIsland_pending (s : State) (i : Nat) (x : Island) : (s.setIsland i x).pending = s.pending := rfl
@[simp] theorem State.setIsland_now (s : State) (i : Nat) (x : Island) : (s.setIsland i x).now = s.now := rfl
@[simp] theorem State.setIsland_bus (s : State) (i : Nat) (x : Island) : (s.setIsland i x).bus = s.bus := rfl
@[simp] theorem State.setIsland_freeCtr (s : State) (i : Nat) (x : Island) : (s.setIsland i x).freeCtr = s.freeCtr := rfl
@[simp] theorem State.setIsland_log (s : State) (i : Nat) (x : Island) : (s.setIsland i x).log = s.log := rfl
@[simp] theorem State.setIsland_regs (s : State) (i : Nat) (x : Island) : (s.setIsland i x).regs = s.regs := rfl
@[simp] theorem State.setIsland_mem (s : State) (i : Nat) (x : Island) : (s.setIsland i x).mem = s.mem := rfl
@[simp] theorem State.setIsland_pwr (s : State) (i : Nat) (x : Island) : (s.setIsland i x).pwr = s.pwr := rfl
@[simp] theorem State.setIsland_fab (s : State) (i : Nat) (x : Island) : (s.setIsland i x).fab = s.fab := rfl
@[simp] theorem State.setIsland_memb (s : State) (i : Nat) (x : Island) : (s.setIsland i x).memb = s.memb := rfl
@[simp] theorem State.setIsland_dmas (s : State) (i : Nat) (x : Island) : (s.setIsland i x).dmas = s.dmas := rfl
@[simp] theorem State.setIsland_halos (s : State) (i : Nat) (x : Island) : (s.setIsland i x).halos = s.halos := rfl
@[simp] theorem State.setIsland_thr (s : State) (i : Nat) (x : Island) : (s.setIsland i x).thr = s.thr := rfl
@[simp] theorem State.setIsland_cores (s : State) (i : Nat) (x : Island) : (s.setIsland i x).cores = s.cores := rfl
@[simp] theorem State.setIsland_tars (s : State) (i : Nat) (x : Island) : (s.setIsland i x).tars = s.tars := rfl
@[simp] theorem State.setIsland_qus (s : State) (i : Nat) (x : Island) : (s.setIsland i x).qus = s.qus := rfl
@[simp] theorem State.setIsland_adapt (s : State) (i : Nat) (x : Island) : (s.setIsland i x).adapt = s.adapt := rfl
@[simp] theorem State.setIsland_thy (s : State) (i : Nat) (x : Island) : (s.setIsland i x).thy = s.thy := rfl
@[simp] theorem State.setIsland_cab (s : State) (i : Nat) (x : Island) : (s.setIsland i x).cab = s.cab := rfl
@[simp] theorem State.setIsland_veh (s : State) (i : Nat) (x : Island) : (s.setIsland i x).veh = s.veh := rfl
@[simp] theorem State.setIsland_enc (s : State) (i : Nat) (x : Island) : (s.setIsland i x).enc = s.enc := rfl
@[simp] theorem State.setIsland_cam (s : State) (i : Nat) (x : Island) : (s.setIsland i x).cam = s.cam := rfl
@[simp] theorem State.setIsland_tram (s : State) (i : Nat) (x : Island) : (s.setIsland i x).tram = s.tram := rfl
@[simp] theorem State.setIsland_pkgs (s : State) (i : Nat) (x : Island) : (s.setIsland i x).pkgs = s.pkgs := rfl
@[simp] theorem State.setIsland_sage (s : State) (i : Nat) (x : Island) : (s.setIsland i x).sage = s.sage := rfl
@[simp] theorem State.setIsland_bay (s : State) (i : Nat) (x : Island) : (s.setIsland i x).bay = s.bay := rfl
@[simp] theorem State.setIsland_hld (s : State) (i : Nat) (x : Island) : (s.setIsland i x).hld = s.hld := rfl
@[simp] theorem State.setIsland_sys (s : State) (i : Nat) (x : Island) : (s.setIsland i x).sys = s.sys := rfl
@[simp] theorem State.setIsland_ctl (s : State) (i : Nat) (x : Island) : (s.setIsland i x).ctl = s.ctl := rfl

@[simp] theorem State.modIsland_pending (s : State) (i : Nat) (f : Island → Island) : (s.modIsland i f).pending = s.pending := rfl
@[simp] theorem State.modIsland_now (s : State) (i : Nat) (f : Island → Island) : (s.modIsland i f).now = s.now := rfl
@[simp] theorem State.modIsland_bus (s : State) (i : Nat) (f : Island → Island) : (s.modIsland i f).bus = s.bus := rfl
@[simp] theorem State.modIsland_freeCtr (s : State) (i : Nat) (f : Island → Island) : (s.modIsland i f).freeCtr = s.freeCtr := rfl
@[simp] theorem State.modIsland_log (s : State) (i : Nat) (f : Island → Island) : (s.modIsland i f).log = s.log := rfl
@[simp] theorem State.modIsland_regs (s : State) (i : Nat) (f : Island → Island) : (s.modIsland i f).regs = s.regs := rfl
@[simp] theorem State.modIsland_mem (s : State) (i : Nat) (f : Island → Island) : (s.modIsland i f).mem = s.mem := rfl
@[simp] theorem State.modIsland_pwr (s : State) (i : Nat) (f : Island → Island) : (s.modIsland i f).pwr = s.pwr := rfl
@[simp] theorem State.modIsland_fab (s : State) (i : Nat) (f : Island → Island) : (s.modIsland i f).fab = s.fab := rfl
@[simp] theorem State.modIsland_memb (s : State) (i : Nat) (f : Island → Island) : (s.modIsland i f).memb = s.memb := rfl
@[simp] theorem State.modIsland_dmas (s : State) (i : Nat) (f : Island → Island) : (s.modIsland i f).dmas = s.dmas := rfl
@[simp] theorem State.modIsland_halos (s : State) (i : Nat) (f : Island → Island) : (s.modIsland i f).halos = s.halos := rfl
@[simp] theorem State.modIsland_thr (s : State) (i : Nat) (f : Island → Island) : (s.modIsland i f).thr = s.thr := rfl
@[simp] theorem State.modIsland_cores (s : State) (i : Nat) (f : Island → Island) : (s.modIsland i f).cores = s.cores := rfl
@[simp] theorem State.modIsland_tars (s : State) (i : Nat) (f : Island → Island) : (s.modIsland i f).tars = s.tars := rfl
@[simp] theorem State.modIsland_qus (s : State) (i : Nat) (f : Island → Island) : (s.modIsland i f).qus = s.qus := rfl
@[simp] theorem State.modIsland_adapt (s : State) (i : Nat) (f : Island → Island) : (s.modIsland i f).adapt = s.adapt := rfl
@[simp] theorem State.modIsland_thy (s : State) (i : Nat) (f : Island → Island) : (s.modIsland i f).thy = s.thy := rfl
@[simp] theorem State.modIsland_cab (s : State) (i : Nat) (f : Island → Island) : (s.modIsland i f).cab = s.cab := rfl
@[simp] theorem State.modIsland_veh (s : State) (i : Nat) (f : Island → Island) : (s.modIsland i f).veh = s.veh := rfl
@[simp] theorem State.modIsland_enc (s : State) (i : Nat) (f : Island → Island) : (s.modIsland i f).enc = s.enc := rfl
@[simp] theorem State.modIsland_cam (s : State) (i : Nat) (f : Island → Island) : (s.modIsland i f).cam = s.cam := rfl
@[simp] theorem State.modIsland_tram (s : State) (i : Nat) (f : Island → Island) : (s.modIsland i f).tram = s.tram := rfl
@[simp] theorem State.modIsland_pkgs (s : State) (i : Nat) (f : Island → Island) : (s.modIsland i f).pkgs = s.pkgs := rfl
@[simp] theorem State.modIsland_sage (s : State) (i : Nat) (f : Island → Island) : (s.modIsland i f).sage = s.sage := rfl
@[simp] theorem State.modIsland_bay (s : State) (i : Nat) (f : Island → Island) : (s.modIsland i f).bay = s.bay := rfl
@[simp] theorem State.modIsland_hld (s : State) (i : Nat) (f : Island → Island) : (s.modIsland i f).hld = s.hld := rfl
@[simp] theorem State.modIsland_sys (s : State) (i : Nat) (f : Island → Island) : (s.modIsland i f).sys = s.sys := rfl
@[simp] theorem State.modIsland_ctl (s : State) (i : Nat) (f : Island → Island) : (s.modIsland i f).ctl = s.ctl := rfl

@[simp] theorem State.setChanges_pending (s : State) (l : List Change) : (s.setChanges l).pending = s.pending := rfl
@[simp] theorem State.setChanges_now (s : State) (l : List Change) : (s.setChanges l).now = s.now := rfl
@[simp] theorem State.setChanges_bus (s : State) (l : List Change) : (s.setChanges l).bus = s.bus := rfl
@[simp] theorem State.setChanges_freeCtr (s : State) (l : List Change) : (s.setChanges l).freeCtr = s.freeCtr := rfl
@[simp] theorem State.setChanges_log (s : State) (l : List Change) : (s.setChanges l).log = s.log := rfl
@[simp] theorem State.setChanges_regs (s : State) (l : List Change) : (s.setChanges l).regs = s.regs := rfl
@[simp] theorem State.setChanges_mem (s : State) (l : List Change) : (s.setChanges l).mem = s.mem := rfl
@[simp] theorem State.setChanges_pwr (s : State) (l : List Change) : (s.setChanges l).pwr = s.pwr := rfl
@[simp] theorem State.setChanges_fab (s : State) (l : List Change) : (s.setChanges l).fab = s.fab := rfl
@[simp] theorem State.setChanges_memb (s : State) (l : List Change) : (s.setChanges l).memb = s.memb := rfl
@[simp] theorem State.setChanges_dmas (s : State) (l : List Change) : (s.setChanges l).dmas = s.dmas := rfl
@[simp] theorem State.setChanges_halos (s : State) (l : List Change) : (s.setChanges l).halos = s.halos := rfl
@[simp] theorem State.setChanges_thr (s : State) (l : List Change) : (s.setChanges l).thr = s.thr := rfl
@[simp] theorem State.setChanges_cores (s : State) (l : List Change) : (s.setChanges l).cores = s.cores := rfl
@[simp] theorem State.setChanges_tars (s : State) (l : List Change) : (s.setChanges l).tars = s.tars := rfl
@[simp] theorem State.setChanges_qus (s : State) (l : List Change) : (s.setChanges l).qus = s.qus := rfl
@[simp] theorem State.setChanges_adapt (s : State) (l : List Change) : (s.setChanges l).adapt = s.adapt := rfl
@[simp] theorem State.setChanges_thy (s : State) (l : List Change) : (s.setChanges l).thy = s.thy := rfl
@[simp] theorem State.setChanges_cab (s : State) (l : List Change) : (s.setChanges l).cab = s.cab := rfl
@[simp] theorem State.setChanges_veh (s : State) (l : List Change) : (s.setChanges l).veh = s.veh := rfl
@[simp] theorem State.setChanges_enc (s : State) (l : List Change) : (s.setChanges l).enc = s.enc := rfl
@[simp] theorem State.setChanges_cam (s : State) (l : List Change) : (s.setChanges l).cam = s.cam := rfl
@[simp] theorem State.setChanges_tram (s : State) (l : List Change) : (s.setChanges l).tram = s.tram := rfl
@[simp] theorem State.setChanges_pkgs (s : State) (l : List Change) : (s.setChanges l).pkgs = s.pkgs := rfl
@[simp] theorem State.setChanges_sage (s : State) (l : List Change) : (s.setChanges l).sage = s.sage := rfl
@[simp] theorem State.setChanges_bay (s : State) (l : List Change) : (s.setChanges l).bay = s.bay := rfl
@[simp] theorem State.setChanges_hld (s : State) (l : List Change) : (s.setChanges l).hld = s.hld := rfl
@[simp] theorem State.setChanges_sys (s : State) (l : List Change) : (s.setChanges l).sys = s.sys := rfl
@[simp] theorem State.setChanges_ctl (s : State) (l : List Change) : (s.setChanges l).ctl = s.ctl := rfl

@[simp] theorem State.setDom_pending (s : State) (d : Nat) (x : Domain) : (s.setDom d x).pending = s.pending := rfl
@[simp] theorem State.setDom_now (s : State) (d : Nat) (x : Domain) : (s.setDom d x).now = s.now := rfl
@[simp] theorem State.setDom_bus (s : State) (d : Nat) (x : Domain) : (s.setDom d x).bus = s.bus := rfl
@[simp] theorem State.setDom_freeCtr (s : State) (d : Nat) (x : Domain) : (s.setDom d x).freeCtr = s.freeCtr := rfl
@[simp] theorem State.setDom_log (s : State) (d : Nat) (x : Domain) : (s.setDom d x).log = s.log := rfl
@[simp] theorem State.setDom_regs (s : State) (d : Nat) (x : Domain) : (s.setDom d x).regs = s.regs := rfl
@[simp] theorem State.setDom_mem (s : State) (d : Nat) (x : Domain) : (s.setDom d x).mem = s.mem := rfl
@[simp] theorem State.setDom_clk (s : State) (d : Nat) (x : Domain) : (s.setDom d x).clk = s.clk := rfl
@[simp] theorem State.setDom_fab (s : State) (d : Nat) (x : Domain) : (s.setDom d x).fab = s.fab := rfl
@[simp] theorem State.setDom_memb (s : State) (d : Nat) (x : Domain) : (s.setDom d x).memb = s.memb := rfl
@[simp] theorem State.setDom_dmas (s : State) (d : Nat) (x : Domain) : (s.setDom d x).dmas = s.dmas := rfl
@[simp] theorem State.setDom_halos (s : State) (d : Nat) (x : Domain) : (s.setDom d x).halos = s.halos := rfl
@[simp] theorem State.setDom_thr (s : State) (d : Nat) (x : Domain) : (s.setDom d x).thr = s.thr := rfl
@[simp] theorem State.setDom_cores (s : State) (d : Nat) (x : Domain) : (s.setDom d x).cores = s.cores := rfl
@[simp] theorem State.setDom_tars (s : State) (d : Nat) (x : Domain) : (s.setDom d x).tars = s.tars := rfl
@[simp] theorem State.setDom_qus (s : State) (d : Nat) (x : Domain) : (s.setDom d x).qus = s.qus := rfl
@[simp] theorem State.setDom_adapt (s : State) (d : Nat) (x : Domain) : (s.setDom d x).adapt = s.adapt := rfl
@[simp] theorem State.setDom_thy (s : State) (d : Nat) (x : Domain) : (s.setDom d x).thy = s.thy := rfl
@[simp] theorem State.setDom_cab (s : State) (d : Nat) (x : Domain) : (s.setDom d x).cab = s.cab := rfl
@[simp] theorem State.setDom_veh (s : State) (d : Nat) (x : Domain) : (s.setDom d x).veh = s.veh := rfl
@[simp] theorem State.setDom_enc (s : State) (d : Nat) (x : Domain) : (s.setDom d x).enc = s.enc := rfl
@[simp] theorem State.setDom_cam (s : State) (d : Nat) (x : Domain) : (s.setDom d x).cam = s.cam := rfl
@[simp] theorem State.setDom_tram (s : State) (d : Nat) (x : Domain) : (s.setDom d x).tram = s.tram := rfl
@[simp] theorem State.setDom_pkgs (s : State) (d : Nat) (x : Domain) : (s.setDom d x).pkgs = s.pkgs := rfl
@[simp] theorem State.setDom_sage (s : State) (d : Nat) (x : Domain) : (s.setDom d x).sage = s.sage := rfl
@[simp] theorem State.setDom_bay (s : State) (d : Nat) (x : Domain) : (s.setDom d x).bay = s.bay := rfl
@[simp] theorem State.setDom_hld (s : State) (d : Nat) (x : Domain) : (s.setDom d x).hld = s.hld := rfl
@[simp] theorem State.setDom_sys (s : State) (d : Nat) (x : Domain) : (s.setDom d x).sys = s.sys := rfl
@[simp] theorem State.setDom_ctl (s : State) (d : Nat) (x : Domain) : (s.setDom d x).ctl = s.ctl := rfl

@[simp] theorem State.modDom_pending (s : State) (d : Nat) (f : Domain → Domain) : (s.modDom d f).pending = s.pending := rfl
@[simp] theorem State.modDom_now (s : State) (d : Nat) (f : Domain → Domain) : (s.modDom d f).now = s.now := rfl
@[simp] theorem State.modDom_bus (s : State) (d : Nat) (f : Domain → Domain) : (s.modDom d f).bus = s.bus := rfl
@[simp] theorem State.modDom_freeCtr (s : State) (d : Nat) (f : Domain → Domain) : (s.modDom d f).freeCtr = s.freeCtr := rfl
@[simp] theorem State.modDom_log (s : State) (d : Nat) (f : Domain → Domain) : (s.modDom d f).log = s.log := rfl
@[simp] theorem State.modDom_regs (s : State) (d : Nat) (f : Domain → Domain) : (s.modDom d f).regs = s.regs := rfl
@[simp] theorem State.modDom_mem (s : State) (d : Nat) (f : Domain → Domain) : (s.modDom d f).mem = s.mem := rfl
@[simp] theorem State.modDom_clk (s : State) (d : Nat) (f : Domain → Domain) : (s.modDom d f).clk = s.clk := rfl
@[simp] theorem State.modDom_fab (s : State) (d : Nat) (f : Domain → Domain) : (s.modDom d f).fab = s.fab := rfl
@[simp] theorem State.modDom_memb (s : State) (d : Nat) (f : Domain → Domain) : (s.modDom d f).memb = s.memb := rfl
@[simp] theorem State.modDom_dmas (s : State) (d : Nat) (f : Domain → Domain) : (s.modDom d f).dmas = s.dmas := rfl
@[simp] theorem State.modDom_halos (s : State) (d : Nat) (f : Domain → Domain) : (s.modDom d f).halos = s.halos := rfl
@[simp] theorem State.modDom_thr (s : State) (d : Nat) (f : Domain → Domain) : (s.modDom d f).thr = s.thr := rfl
@[simp] theorem State.modDom_cores (s : State) (d : Nat) (f : Domain → Domain) : (s.modDom d f).cores = s.cores := rfl
@[simp] theorem State.modDom_tars (s : State) (d : Nat) (f : Domain → Domain) : (s.modDom d f).tars = s.tars := rfl
@[simp] theorem State.modDom_qus (s : State) (d : Nat) (f : Domain → Domain) : (s.modDom d f).qus = s.qus := rfl
@[simp] theorem State.modDom_adapt (s : State) (d : Nat) (f : Domain → Domain) : (s.modDom d f).adapt = s.adapt := rfl
@[simp] theorem State.modDom_thy (s : State) (d : Nat) (f : Domain → Domain) : (s.modDom d f).thy = s.thy := rfl
@[simp] theorem State.modDom_cab (s : State) (d : Nat) (f : Domain → Domain) : (s.modDom d f).cab = s.cab := rfl
@[simp] theorem State.modDom_veh (s : State) (d : Nat) (f : Domain → Domain) : (s.modDom d f).veh = s.veh := rfl
@[simp] theorem State.modDom_enc (s : State) (d : Nat) (f : Domain → Domain) : (s.modDom d f).enc = s.enc := rfl
@[simp] theorem State.modDom_cam (s : State) (d : Nat) (f : Domain → Domain) : (s.modDom d f).cam = s.cam := rfl
@[simp] theorem State.modDom_tram (s : State) (d : Nat) (f : Domain → Domain) : (s.modDom d f).tram = s.tram := rfl
@[simp] theorem State.modDom_pkgs (s : State) (d : Nat) (f : Domain → Domain) : (s.modDom d f).pkgs = s.pkgs := rfl
@[simp] theorem State.modDom_sage (s : State) (d : Nat) (f : Domain → Domain) : (s.modDom d f).sage = s.sage := rfl
@[simp] theorem State.modDom_bay (s : State) (d : Nat) (f : Domain → Domain) : (s.modDom d f).bay = s.bay := rfl
@[simp] theorem State.modDom_hld (s : State) (d : Nat) (f : Domain → Domain) : (s.modDom d f).hld = s.hld := rfl
@[simp] theorem State.modDom_sys (s : State) (d : Nat) (f : Domain → Domain) : (s.modDom d f).sys = s.sys := rfl
@[simp] theorem State.modDom_ctl (s : State) (d : Nat) (f : Domain → Domain) : (s.modDom d f).ctl = s.ctl := rfl

@[simp] theorem State.modPwr_pending (s : State) (f : Pwr → Pwr) : (s.modPwr f).pending = s.pending := rfl
@[simp] theorem State.modPwr_now (s : State) (f : Pwr → Pwr) : (s.modPwr f).now = s.now := rfl
@[simp] theorem State.modPwr_bus (s : State) (f : Pwr → Pwr) : (s.modPwr f).bus = s.bus := rfl
@[simp] theorem State.modPwr_freeCtr (s : State) (f : Pwr → Pwr) : (s.modPwr f).freeCtr = s.freeCtr := rfl
@[simp] theorem State.modPwr_log (s : State) (f : Pwr → Pwr) : (s.modPwr f).log = s.log := rfl
@[simp] theorem State.modPwr_regs (s : State) (f : Pwr → Pwr) : (s.modPwr f).regs = s.regs := rfl
@[simp] theorem State.modPwr_mem (s : State) (f : Pwr → Pwr) : (s.modPwr f).mem = s.mem := rfl
@[simp] theorem State.modPwr_clk (s : State) (f : Pwr → Pwr) : (s.modPwr f).clk = s.clk := rfl
@[simp] theorem State.modPwr_fab (s : State) (f : Pwr → Pwr) : (s.modPwr f).fab = s.fab := rfl
@[simp] theorem State.modPwr_memb (s : State) (f : Pwr → Pwr) : (s.modPwr f).memb = s.memb := rfl
@[simp] theorem State.modPwr_dmas (s : State) (f : Pwr → Pwr) : (s.modPwr f).dmas = s.dmas := rfl
@[simp] theorem State.modPwr_halos (s : State) (f : Pwr → Pwr) : (s.modPwr f).halos = s.halos := rfl
@[simp] theorem State.modPwr_thr (s : State) (f : Pwr → Pwr) : (s.modPwr f).thr = s.thr := rfl
@[simp] theorem State.modPwr_cores (s : State) (f : Pwr → Pwr) : (s.modPwr f).cores = s.cores := rfl
@[simp] theorem State.modPwr_tars (s : State) (f : Pwr → Pwr) : (s.modPwr f).tars = s.tars := rfl
@[simp] theorem State.modPwr_qus (s : State) (f : Pwr → Pwr) : (s.modPwr f).qus = s.qus := rfl
@[simp] theorem State.modPwr_adapt (s : State) (f : Pwr → Pwr) : (s.modPwr f).adapt = s.adapt := rfl
@[simp] theorem State.modPwr_thy (s : State) (f : Pwr → Pwr) : (s.modPwr f).thy = s.thy := rfl
@[simp] theorem State.modPwr_cab (s : State) (f : Pwr → Pwr) : (s.modPwr f).cab = s.cab := rfl
@[simp] theorem State.modPwr_veh (s : State) (f : Pwr → Pwr) : (s.modPwr f).veh = s.veh := rfl
@[simp] theorem State.modPwr_enc (s : State) (f : Pwr → Pwr) : (s.modPwr f).enc = s.enc := rfl
@[simp] theorem State.modPwr_cam (s : State) (f : Pwr → Pwr) : (s.modPwr f).cam = s.cam := rfl
@[simp] theorem State.modPwr_tram (s : State) (f : Pwr → Pwr) : (s.modPwr f).tram = s.tram := rfl
@[simp] theorem State.modPwr_pkgs (s : State) (f : Pwr → Pwr) : (s.modPwr f).pkgs = s.pkgs := rfl
@[simp] theorem State.modPwr_sage (s : State) (f : Pwr → Pwr) : (s.modPwr f).sage = s.sage := rfl
@[simp] theorem State.modPwr_bay (s : State) (f : Pwr → Pwr) : (s.modPwr f).bay = s.bay := rfl
@[simp] theorem State.modPwr_hld (s : State) (f : Pwr → Pwr) : (s.modPwr f).hld = s.hld := rfl
@[simp] theorem State.modPwr_sys (s : State) (f : Pwr → Pwr) : (s.modPwr f).sys = s.sys := rfl
@[simp] theorem State.modPwr_ctl (s : State) (f : Pwr → Pwr) : (s.modPwr f).ctl = s.ctl := rfl
@[simp] theorem State.modPwr_pwr (s : State) (f : Pwr → Pwr) : (s.modPwr f).pwr = f s.pwr := rfl

@[simp] theorem State.setCcSet_pending (s : State) (k : Nat) (x : CcSet) : (s.setCcSet k x).pending = s.pending := rfl
@[simp] theorem State.setCcSet_now (s : State) (k : Nat) (x : CcSet) : (s.setCcSet k x).now = s.now := rfl
@[simp] theorem State.setCcSet_bus (s : State) (k : Nat) (x : CcSet) : (s.setCcSet k x).bus = s.bus := rfl
@[simp] theorem State.setCcSet_freeCtr (s : State) (k : Nat) (x : CcSet) : (s.setCcSet k x).freeCtr = s.freeCtr := rfl
@[simp] theorem State.setCcSet_log (s : State) (k : Nat) (x : CcSet) : (s.setCcSet k x).log = s.log := rfl
@[simp] theorem State.setCcSet_regs (s : State) (k : Nat) (x : CcSet) : (s.setCcSet k x).regs = s.regs := rfl
@[simp] theorem State.setCcSet_mem (s : State) (k : Nat) (x : CcSet) : (s.setCcSet k x).mem = s.mem := rfl
@[simp] theorem State.setCcSet_clk (s : State) (k : Nat) (x : CcSet) : (s.setCcSet k x).clk = s.clk := rfl
@[simp] theorem State.setCcSet_pwr (s : State) (k : Nat) (x : CcSet) : (s.setCcSet k x).pwr = s.pwr := rfl
@[simp] theorem State.setCcSet_memb (s : State) (k : Nat) (x : CcSet) : (s.setCcSet k x).memb = s.memb := rfl
@[simp] theorem State.setCcSet_dmas (s : State) (k : Nat) (x : CcSet) : (s.setCcSet k x).dmas = s.dmas := rfl
@[simp] theorem State.setCcSet_halos (s : State) (k : Nat) (x : CcSet) : (s.setCcSet k x).halos = s.halos := rfl
@[simp] theorem State.setCcSet_thr (s : State) (k : Nat) (x : CcSet) : (s.setCcSet k x).thr = s.thr := rfl
@[simp] theorem State.setCcSet_cores (s : State) (k : Nat) (x : CcSet) : (s.setCcSet k x).cores = s.cores := rfl
@[simp] theorem State.setCcSet_tars (s : State) (k : Nat) (x : CcSet) : (s.setCcSet k x).tars = s.tars := rfl
@[simp] theorem State.setCcSet_qus (s : State) (k : Nat) (x : CcSet) : (s.setCcSet k x).qus = s.qus := rfl
@[simp] theorem State.setCcSet_adapt (s : State) (k : Nat) (x : CcSet) : (s.setCcSet k x).adapt = s.adapt := rfl
@[simp] theorem State.setCcSet_thy (s : State) (k : Nat) (x : CcSet) : (s.setCcSet k x).thy = s.thy := rfl
@[simp] theorem State.setCcSet_cab (s : State) (k : Nat) (x : CcSet) : (s.setCcSet k x).cab = s.cab := rfl
@[simp] theorem State.setCcSet_veh (s : State) (k : Nat) (x : CcSet) : (s.setCcSet k x).veh = s.veh := rfl
@[simp] theorem State.setCcSet_enc (s : State) (k : Nat) (x : CcSet) : (s.setCcSet k x).enc = s.enc := rfl
@[simp] theorem State.setCcSet_cam (s : State) (k : Nat) (x : CcSet) : (s.setCcSet k x).cam = s.cam := rfl
@[simp] theorem State.setCcSet_tram (s : State) (k : Nat) (x : CcSet) : (s.setCcSet k x).tram = s.tram := rfl
@[simp] theorem State.setCcSet_pkgs (s : State) (k : Nat) (x : CcSet) : (s.setCcSet k x).pkgs = s.pkgs := rfl
@[simp] theorem State.setCcSet_sage (s : State) (k : Nat) (x : CcSet) : (s.setCcSet k x).sage = s.sage := rfl
@[simp] theorem State.setCcSet_bay (s : State) (k : Nat) (x : CcSet) : (s.setCcSet k x).bay = s.bay := rfl
@[simp] theorem State.setCcSet_hld (s : State) (k : Nat) (x : CcSet) : (s.setCcSet k x).hld = s.hld := rfl
@[simp] theorem State.setCcSet_sys (s : State) (k : Nat) (x : CcSet) : (s.setCcSet k x).sys = s.sys := rfl
@[simp] theorem State.setCcSet_ctl (s : State) (k : Nat) (x : CcSet) : (s.setCcSet k x).ctl = s.ctl := rfl

@[simp] theorem State.setPort_pending (s : State) (f : Nat) (x : ItdPort) : (s.setPort f x).pending = s.pending := rfl
@[simp] theorem State.setPort_now (s : State) (f : Nat) (x : ItdPort) : (s.setPort f x).now = s.now := rfl
@[simp] theorem State.setPort_bus (s : State) (f : Nat) (x : ItdPort) : (s.setPort f x).bus = s.bus := rfl
@[simp] theorem State.setPort_freeCtr (s : State) (f : Nat) (x : ItdPort) : (s.setPort f x).freeCtr = s.freeCtr := rfl
@[simp] theorem State.setPort_log (s : State) (f : Nat) (x : ItdPort) : (s.setPort f x).log = s.log := rfl
@[simp] theorem State.setPort_regs (s : State) (f : Nat) (x : ItdPort) : (s.setPort f x).regs = s.regs := rfl
@[simp] theorem State.setPort_mem (s : State) (f : Nat) (x : ItdPort) : (s.setPort f x).mem = s.mem := rfl
@[simp] theorem State.setPort_clk (s : State) (f : Nat) (x : ItdPort) : (s.setPort f x).clk = s.clk := rfl
@[simp] theorem State.setPort_pwr (s : State) (f : Nat) (x : ItdPort) : (s.setPort f x).pwr = s.pwr := rfl
@[simp] theorem State.setPort_memb (s : State) (f : Nat) (x : ItdPort) : (s.setPort f x).memb = s.memb := rfl
@[simp] theorem State.setPort_dmas (s : State) (f : Nat) (x : ItdPort) : (s.setPort f x).dmas = s.dmas := rfl
@[simp] theorem State.setPort_halos (s : State) (f : Nat) (x : ItdPort) : (s.setPort f x).halos = s.halos := rfl
@[simp] theorem State.setPort_thr (s : State) (f : Nat) (x : ItdPort) : (s.setPort f x).thr = s.thr := rfl
@[simp] theorem State.setPort_cores (s : State) (f : Nat) (x : ItdPort) : (s.setPort f x).cores = s.cores := rfl
@[simp] theorem State.setPort_tars (s : State) (f : Nat) (x : ItdPort) : (s.setPort f x).tars = s.tars := rfl
@[simp] theorem State.setPort_qus (s : State) (f : Nat) (x : ItdPort) : (s.setPort f x).qus = s.qus := rfl
@[simp] theorem State.setPort_adapt (s : State) (f : Nat) (x : ItdPort) : (s.setPort f x).adapt = s.adapt := rfl
@[simp] theorem State.setPort_thy (s : State) (f : Nat) (x : ItdPort) : (s.setPort f x).thy = s.thy := rfl
@[simp] theorem State.setPort_cab (s : State) (f : Nat) (x : ItdPort) : (s.setPort f x).cab = s.cab := rfl
@[simp] theorem State.setPort_veh (s : State) (f : Nat) (x : ItdPort) : (s.setPort f x).veh = s.veh := rfl
@[simp] theorem State.setPort_enc (s : State) (f : Nat) (x : ItdPort) : (s.setPort f x).enc = s.enc := rfl
@[simp] theorem State.setPort_cam (s : State) (f : Nat) (x : ItdPort) : (s.setPort f x).cam = s.cam := rfl
@[simp] theorem State.setPort_tram (s : State) (f : Nat) (x : ItdPort) : (s.setPort f x).tram = s.tram := rfl
@[simp] theorem State.setPort_pkgs (s : State) (f : Nat) (x : ItdPort) : (s.setPort f x).pkgs = s.pkgs := rfl
@[simp] theorem State.setPort_sage (s : State) (f : Nat) (x : ItdPort) : (s.setPort f x).sage = s.sage := rfl
@[simp] theorem State.setPort_bay (s : State) (f : Nat) (x : ItdPort) : (s.setPort f x).bay = s.bay := rfl
@[simp] theorem State.setPort_hld (s : State) (f : Nat) (x : ItdPort) : (s.setPort f x).hld = s.hld := rfl
@[simp] theorem State.setPort_sys (s : State) (f : Nat) (x : ItdPort) : (s.setPort f x).sys = s.sys := rfl
@[simp] theorem State.setPort_ctl (s : State) (f : Nat) (x : ItdPort) : (s.setPort f x).ctl = s.ctl := rfl

@[simp] theorem State.modPort_pending (s : State) (f : Nat) (g : ItdPort → ItdPort) : (s.modPort f g).pending = s.pending := rfl
@[simp] theorem State.modPort_now (s : State) (f : Nat) (g : ItdPort → ItdPort) : (s.modPort f g).now = s.now := rfl
@[simp] theorem State.modPort_bus (s : State) (f : Nat) (g : ItdPort → ItdPort) : (s.modPort f g).bus = s.bus := rfl
@[simp] theorem State.modPort_freeCtr (s : State) (f : Nat) (g : ItdPort → ItdPort) : (s.modPort f g).freeCtr = s.freeCtr := rfl
@[simp] theorem State.modPort_log (s : State) (f : Nat) (g : ItdPort → ItdPort) : (s.modPort f g).log = s.log := rfl
@[simp] theorem State.modPort_regs (s : State) (f : Nat) (g : ItdPort → ItdPort) : (s.modPort f g).regs = s.regs := rfl
@[simp] theorem State.modPort_mem (s : State) (f : Nat) (g : ItdPort → ItdPort) : (s.modPort f g).mem = s.mem := rfl
@[simp] theorem State.modPort_clk (s : State) (f : Nat) (g : ItdPort → ItdPort) : (s.modPort f g).clk = s.clk := rfl
@[simp] theorem State.modPort_pwr (s : State) (f : Nat) (g : ItdPort → ItdPort) : (s.modPort f g).pwr = s.pwr := rfl
@[simp] theorem State.modPort_memb (s : State) (f : Nat) (g : ItdPort → ItdPort) : (s.modPort f g).memb = s.memb := rfl
@[simp] theorem State.modPort_dmas (s : State) (f : Nat) (g : ItdPort → ItdPort) : (s.modPort f g).dmas = s.dmas := rfl
@[simp] theorem State.modPort_halos (s : State) (f : Nat) (g : ItdPort → ItdPort) : (s.modPort f g).halos = s.halos := rfl
@[simp] theorem State.modPort_thr (s : State) (f : Nat) (g : ItdPort → ItdPort) : (s.modPort f g).thr = s.thr := rfl
@[simp] theorem State.modPort_cores (s : State) (f : Nat) (g : ItdPort → ItdPort) : (s.modPort f g).cores = s.cores := rfl
@[simp] theorem State.modPort_tars (s : State) (f : Nat) (g : ItdPort → ItdPort) : (s.modPort f g).tars = s.tars := rfl
@[simp] theorem State.modPort_qus (s : State) (f : Nat) (g : ItdPort → ItdPort) : (s.modPort f g).qus = s.qus := rfl
@[simp] theorem State.modPort_adapt (s : State) (f : Nat) (g : ItdPort → ItdPort) : (s.modPort f g).adapt = s.adapt := rfl
@[simp] theorem State.modPort_thy (s : State) (f : Nat) (g : ItdPort → ItdPort) : (s.modPort f g).thy = s.thy := rfl
@[simp] theorem State.modPort_cab (s : State) (f : Nat) (g : ItdPort → ItdPort) : (s.modPort f g).cab = s.cab := rfl
@[simp] theorem State.modPort_veh (s : State) (f : Nat) (g : ItdPort → ItdPort) : (s.modPort f g).veh = s.veh := rfl
@[simp] theorem State.modPort_enc (s : State) (f : Nat) (g : ItdPort → ItdPort) : (s.modPort f g).enc = s.enc := rfl
@[simp] theorem State.modPort_cam (s : State) (f : Nat) (g : ItdPort → ItdPort) : (s.modPort f g).cam = s.cam := rfl
@[simp] theorem State.modPort_tram (s : State) (f : Nat) (g : ItdPort → ItdPort) : (s.modPort f g).tram = s.tram := rfl
@[simp] theorem State.modPort_pkgs (s : State) (f : Nat) (g : ItdPort → ItdPort) : (s.modPort f g).pkgs = s.pkgs := rfl
@[simp] theorem State.modPort_sage (s : State) (f : Nat) (g : ItdPort → ItdPort) : (s.modPort f g).sage = s.sage := rfl
@[simp] theorem State.modPort_bay (s : State) (f : Nat) (g : ItdPort → ItdPort) : (s.modPort f g).bay = s.bay := rfl
@[simp] theorem State.modPort_hld (s : State) (f : Nat) (g : ItdPort → ItdPort) : (s.modPort f g).hld = s.hld := rfl
@[simp] theorem State.modPort_sys (s : State) (f : Nat) (g : ItdPort → ItdPort) : (s.modPort f g).sys = s.sys := rfl
@[simp] theorem State.modPort_ctl (s : State) (f : Nat) (g : ItdPort → ItdPort) : (s.modPort f g).ctl = s.ctl := rfl

@[simp] theorem State.setBox_pending (s : State) (m : Nat) (b : Mailbox) : (s.setBox m b).pending = s.pending := rfl
@[simp] theorem State.setBox_now (s : State) (m : Nat) (b : Mailbox) : (s.setBox m b).now = s.now := rfl
@[simp] theorem State.setBox_bus (s : State) (m : Nat) (b : Mailbox) : (s.setBox m b).bus = s.bus := rfl
@[simp] theorem State.setBox_freeCtr (s : State) (m : Nat) (b : Mailbox) : (s.setBox m b).freeCtr = s.freeCtr := rfl
@[simp] theorem State.setBox_log (s : State) (m : Nat) (b : Mailbox) : (s.setBox m b).log = s.log := rfl
@[simp] theorem State.setBox_regs (s : State) (m : Nat) (b : Mailbox) : (s.setBox m b).regs = s.regs := rfl
@[simp] theorem State.setBox_mem (s : State) (m : Nat) (b : Mailbox) : (s.setBox m b).mem = s.mem := rfl
@[simp] theorem State.setBox_clk (s : State) (m : Nat) (b : Mailbox) : (s.setBox m b).clk = s.clk := rfl
@[simp] theorem State.setBox_pwr (s : State) (m : Nat) (b : Mailbox) : (s.setBox m b).pwr = s.pwr := rfl
@[simp] theorem State.setBox_memb (s : State) (m : Nat) (b : Mailbox) : (s.setBox m b).memb = s.memb := rfl
@[simp] theorem State.setBox_dmas (s : State) (m : Nat) (b : Mailbox) : (s.setBox m b).dmas = s.dmas := rfl
@[simp] theorem State.setBox_halos (s : State) (m : Nat) (b : Mailbox) : (s.setBox m b).halos = s.halos := rfl
@[simp] theorem State.setBox_thr (s : State) (m : Nat) (b : Mailbox) : (s.setBox m b).thr = s.thr := rfl
@[simp] theorem State.setBox_cores (s : State) (m : Nat) (b : Mailbox) : (s.setBox m b).cores = s.cores := rfl
@[simp] theorem State.setBox_tars (s : State) (m : Nat) (b : Mailbox) : (s.setBox m b).tars = s.tars := rfl
@[simp] theorem State.setBox_qus (s : State) (m : Nat) (b : Mailbox) : (s.setBox m b).qus = s.qus := rfl
@[simp] theorem State.setBox_adapt (s : State) (m : Nat) (b : Mailbox) : (s.setBox m b).adapt = s.adapt := rfl
@[simp] theorem State.setBox_thy (s : State) (m : Nat) (b : Mailbox) : (s.setBox m b).thy = s.thy := rfl
@[simp] theorem State.setBox_cab (s : State) (m : Nat) (b : Mailbox) : (s.setBox m b).cab = s.cab := rfl
@[simp] theorem State.setBox_veh (s : State) (m : Nat) (b : Mailbox) : (s.setBox m b).veh = s.veh := rfl
@[simp] theorem State.setBox_enc (s : State) (m : Nat) (b : Mailbox) : (s.setBox m b).enc = s.enc := rfl
@[simp] theorem State.setBox_cam (s : State) (m : Nat) (b : Mailbox) : (s.setBox m b).cam = s.cam := rfl
@[simp] theorem State.setBox_tram (s : State) (m : Nat) (b : Mailbox) : (s.setBox m b).tram = s.tram := rfl
@[simp] theorem State.setBox_pkgs (s : State) (m : Nat) (b : Mailbox) : (s.setBox m b).pkgs = s.pkgs := rfl
@[simp] theorem State.setBox_sage (s : State) (m : Nat) (b : Mailbox) : (s.setBox m b).sage = s.sage := rfl
@[simp] theorem State.setBox_bay (s : State) (m : Nat) (b : Mailbox) : (s.setBox m b).bay = s.bay := rfl
@[simp] theorem State.setBox_hld (s : State) (m : Nat) (b : Mailbox) : (s.setBox m b).hld = s.hld := rfl
@[simp] theorem State.setBox_sys (s : State) (m : Nat) (b : Mailbox) : (s.setBox m b).sys = s.sys := rfl
@[simp] theorem State.setBox_ctl (s : State) (m : Nat) (b : Mailbox) : (s.setBox m b).ctl = s.ctl := rfl

@[simp] theorem State.setLearned_pending (s : State) (e : BitVec 12) (x : Learn) : (s.setLearned e x).pending = s.pending := rfl
@[simp] theorem State.setLearned_now (s : State) (e : BitVec 12) (x : Learn) : (s.setLearned e x).now = s.now := rfl
@[simp] theorem State.setLearned_bus (s : State) (e : BitVec 12) (x : Learn) : (s.setLearned e x).bus = s.bus := rfl
@[simp] theorem State.setLearned_freeCtr (s : State) (e : BitVec 12) (x : Learn) : (s.setLearned e x).freeCtr = s.freeCtr := rfl
@[simp] theorem State.setLearned_log (s : State) (e : BitVec 12) (x : Learn) : (s.setLearned e x).log = s.log := rfl
@[simp] theorem State.setLearned_regs (s : State) (e : BitVec 12) (x : Learn) : (s.setLearned e x).regs = s.regs := rfl
@[simp] theorem State.setLearned_mem (s : State) (e : BitVec 12) (x : Learn) : (s.setLearned e x).mem = s.mem := rfl
@[simp] theorem State.setLearned_clk (s : State) (e : BitVec 12) (x : Learn) : (s.setLearned e x).clk = s.clk := rfl
@[simp] theorem State.setLearned_pwr (s : State) (e : BitVec 12) (x : Learn) : (s.setLearned e x).pwr = s.pwr := rfl
@[simp] theorem State.setLearned_memb (s : State) (e : BitVec 12) (x : Learn) : (s.setLearned e x).memb = s.memb := rfl
@[simp] theorem State.setLearned_dmas (s : State) (e : BitVec 12) (x : Learn) : (s.setLearned e x).dmas = s.dmas := rfl
@[simp] theorem State.setLearned_halos (s : State) (e : BitVec 12) (x : Learn) : (s.setLearned e x).halos = s.halos := rfl
@[simp] theorem State.setLearned_thr (s : State) (e : BitVec 12) (x : Learn) : (s.setLearned e x).thr = s.thr := rfl
@[simp] theorem State.setLearned_cores (s : State) (e : BitVec 12) (x : Learn) : (s.setLearned e x).cores = s.cores := rfl
@[simp] theorem State.setLearned_tars (s : State) (e : BitVec 12) (x : Learn) : (s.setLearned e x).tars = s.tars := rfl
@[simp] theorem State.setLearned_qus (s : State) (e : BitVec 12) (x : Learn) : (s.setLearned e x).qus = s.qus := rfl
@[simp] theorem State.setLearned_adapt (s : State) (e : BitVec 12) (x : Learn) : (s.setLearned e x).adapt = s.adapt := rfl
@[simp] theorem State.setLearned_thy (s : State) (e : BitVec 12) (x : Learn) : (s.setLearned e x).thy = s.thy := rfl
@[simp] theorem State.setLearned_cab (s : State) (e : BitVec 12) (x : Learn) : (s.setLearned e x).cab = s.cab := rfl
@[simp] theorem State.setLearned_veh (s : State) (e : BitVec 12) (x : Learn) : (s.setLearned e x).veh = s.veh := rfl
@[simp] theorem State.setLearned_enc (s : State) (e : BitVec 12) (x : Learn) : (s.setLearned e x).enc = s.enc := rfl
@[simp] theorem State.setLearned_cam (s : State) (e : BitVec 12) (x : Learn) : (s.setLearned e x).cam = s.cam := rfl
@[simp] theorem State.setLearned_tram (s : State) (e : BitVec 12) (x : Learn) : (s.setLearned e x).tram = s.tram := rfl
@[simp] theorem State.setLearned_pkgs (s : State) (e : BitVec 12) (x : Learn) : (s.setLearned e x).pkgs = s.pkgs := rfl
@[simp] theorem State.setLearned_sage (s : State) (e : BitVec 12) (x : Learn) : (s.setLearned e x).sage = s.sage := rfl
@[simp] theorem State.setLearned_bay (s : State) (e : BitVec 12) (x : Learn) : (s.setLearned e x).bay = s.bay := rfl
@[simp] theorem State.setLearned_hld (s : State) (e : BitVec 12) (x : Learn) : (s.setLearned e x).hld = s.hld := rfl
@[simp] theorem State.setLearned_sys (s : State) (e : BitVec 12) (x : Learn) : (s.setLearned e x).sys = s.sys := rfl
@[simp] theorem State.setLearned_ctl (s : State) (e : BitVec 12) (x : Learn) : (s.setLearned e x).ctl = s.ctl := rfl

@[simp] theorem State.setThread_pending (s : State) (n t : Nat) (x : Thread) : (s.setThread n t x).pending = s.pending := rfl
@[simp] theorem State.setThread_now (s : State) (n t : Nat) (x : Thread) : (s.setThread n t x).now = s.now := rfl
@[simp] theorem State.setThread_bus (s : State) (n t : Nat) (x : Thread) : (s.setThread n t x).bus = s.bus := rfl
@[simp] theorem State.setThread_freeCtr (s : State) (n t : Nat) (x : Thread) : (s.setThread n t x).freeCtr = s.freeCtr := rfl
@[simp] theorem State.setThread_log (s : State) (n t : Nat) (x : Thread) : (s.setThread n t x).log = s.log := rfl
@[simp] theorem State.setThread_regs (s : State) (n t : Nat) (x : Thread) : (s.setThread n t x).regs = s.regs := rfl
@[simp] theorem State.setThread_mem (s : State) (n t : Nat) (x : Thread) : (s.setThread n t x).mem = s.mem := rfl
@[simp] theorem State.setThread_clk (s : State) (n t : Nat) (x : Thread) : (s.setThread n t x).clk = s.clk := rfl
@[simp] theorem State.setThread_pwr (s : State) (n t : Nat) (x : Thread) : (s.setThread n t x).pwr = s.pwr := rfl
@[simp] theorem State.setThread_fab (s : State) (n t : Nat) (x : Thread) : (s.setThread n t x).fab = s.fab := rfl
@[simp] theorem State.setThread_memb (s : State) (n t : Nat) (x : Thread) : (s.setThread n t x).memb = s.memb := rfl
@[simp] theorem State.setThread_dmas (s : State) (n t : Nat) (x : Thread) : (s.setThread n t x).dmas = s.dmas := rfl
@[simp] theorem State.setThread_halos (s : State) (n t : Nat) (x : Thread) : (s.setThread n t x).halos = s.halos := rfl
@[simp] theorem State.setThread_cores (s : State) (n t : Nat) (x : Thread) : (s.setThread n t x).cores = s.cores := rfl
@[simp] theorem State.setThread_tars (s : State) (n t : Nat) (x : Thread) : (s.setThread n t x).tars = s.tars := rfl
@[simp] theorem State.setThread_qus (s : State) (n t : Nat) (x : Thread) : (s.setThread n t x).qus = s.qus := rfl
@[simp] theorem State.setThread_adapt (s : State) (n t : Nat) (x : Thread) : (s.setThread n t x).adapt = s.adapt := rfl
@[simp] theorem State.setThread_thy (s : State) (n t : Nat) (x : Thread) : (s.setThread n t x).thy = s.thy := rfl
@[simp] theorem State.setThread_cab (s : State) (n t : Nat) (x : Thread) : (s.setThread n t x).cab = s.cab := rfl
@[simp] theorem State.setThread_veh (s : State) (n t : Nat) (x : Thread) : (s.setThread n t x).veh = s.veh := rfl
@[simp] theorem State.setThread_enc (s : State) (n t : Nat) (x : Thread) : (s.setThread n t x).enc = s.enc := rfl
@[simp] theorem State.setThread_cam (s : State) (n t : Nat) (x : Thread) : (s.setThread n t x).cam = s.cam := rfl
@[simp] theorem State.setThread_tram (s : State) (n t : Nat) (x : Thread) : (s.setThread n t x).tram = s.tram := rfl
@[simp] theorem State.setThread_pkgs (s : State) (n t : Nat) (x : Thread) : (s.setThread n t x).pkgs = s.pkgs := rfl
@[simp] theorem State.setThread_sage (s : State) (n t : Nat) (x : Thread) : (s.setThread n t x).sage = s.sage := rfl
@[simp] theorem State.setThread_bay (s : State) (n t : Nat) (x : Thread) : (s.setThread n t x).bay = s.bay := rfl
@[simp] theorem State.setThread_hld (s : State) (n t : Nat) (x : Thread) : (s.setThread n t x).hld = s.hld := rfl
@[simp] theorem State.setThread_sys (s : State) (n t : Nat) (x : Thread) : (s.setThread n t x).sys = s.sys := rfl
@[simp] theorem State.setThread_ctl (s : State) (n t : Nat) (x : Thread) : (s.setThread n t x).ctl = s.ctl := rfl

@[simp] theorem State.modThread_pending (s : State) (n t : Nat) (f : Thread → Thread) : (s.modThread n t f).pending = s.pending := rfl
@[simp] theorem State.modThread_now (s : State) (n t : Nat) (f : Thread → Thread) : (s.modThread n t f).now = s.now := rfl
@[simp] theorem State.modThread_bus (s : State) (n t : Nat) (f : Thread → Thread) : (s.modThread n t f).bus = s.bus := rfl
@[simp] theorem State.modThread_freeCtr (s : State) (n t : Nat) (f : Thread → Thread) : (s.modThread n t f).freeCtr = s.freeCtr := rfl
@[simp] theorem State.modThread_log (s : State) (n t : Nat) (f : Thread → Thread) : (s.modThread n t f).log = s.log := rfl
@[simp] theorem State.modThread_regs (s : State) (n t : Nat) (f : Thread → Thread) : (s.modThread n t f).regs = s.regs := rfl
@[simp] theorem State.modThread_mem (s : State) (n t : Nat) (f : Thread → Thread) : (s.modThread n t f).mem = s.mem := rfl
@[simp] theorem State.modThread_clk (s : State) (n t : Nat) (f : Thread → Thread) : (s.modThread n t f).clk = s.clk := rfl
@[simp] theorem State.modThread_pwr (s : State) (n t : Nat) (f : Thread → Thread) : (s.modThread n t f).pwr = s.pwr := rfl
@[simp] theorem State.modThread_fab (s : State) (n t : Nat) (f : Thread → Thread) : (s.modThread n t f).fab = s.fab := rfl
@[simp] theorem State.modThread_memb (s : State) (n t : Nat) (f : Thread → Thread) : (s.modThread n t f).memb = s.memb := rfl
@[simp] theorem State.modThread_dmas (s : State) (n t : Nat) (f : Thread → Thread) : (s.modThread n t f).dmas = s.dmas := rfl
@[simp] theorem State.modThread_halos (s : State) (n t : Nat) (f : Thread → Thread) : (s.modThread n t f).halos = s.halos := rfl
@[simp] theorem State.modThread_cores (s : State) (n t : Nat) (f : Thread → Thread) : (s.modThread n t f).cores = s.cores := rfl
@[simp] theorem State.modThread_tars (s : State) (n t : Nat) (f : Thread → Thread) : (s.modThread n t f).tars = s.tars := rfl
@[simp] theorem State.modThread_qus (s : State) (n t : Nat) (f : Thread → Thread) : (s.modThread n t f).qus = s.qus := rfl
@[simp] theorem State.modThread_adapt (s : State) (n t : Nat) (f : Thread → Thread) : (s.modThread n t f).adapt = s.adapt := rfl
@[simp] theorem State.modThread_thy (s : State) (n t : Nat) (f : Thread → Thread) : (s.modThread n t f).thy = s.thy := rfl
@[simp] theorem State.modThread_cab (s : State) (n t : Nat) (f : Thread → Thread) : (s.modThread n t f).cab = s.cab := rfl
@[simp] theorem State.modThread_veh (s : State) (n t : Nat) (f : Thread → Thread) : (s.modThread n t f).veh = s.veh := rfl
@[simp] theorem State.modThread_enc (s : State) (n t : Nat) (f : Thread → Thread) : (s.modThread n t f).enc = s.enc := rfl
@[simp] theorem State.modThread_cam (s : State) (n t : Nat) (f : Thread → Thread) : (s.modThread n t f).cam = s.cam := rfl
@[simp] theorem State.modThread_tram (s : State) (n t : Nat) (f : Thread → Thread) : (s.modThread n t f).tram = s.tram := rfl
@[simp] theorem State.modThread_pkgs (s : State) (n t : Nat) (f : Thread → Thread) : (s.modThread n t f).pkgs = s.pkgs := rfl
@[simp] theorem State.modThread_sage (s : State) (n t : Nat) (f : Thread → Thread) : (s.modThread n t f).sage = s.sage := rfl
@[simp] theorem State.modThread_bay (s : State) (n t : Nat) (f : Thread → Thread) : (s.modThread n t f).bay = s.bay := rfl
@[simp] theorem State.modThread_hld (s : State) (n t : Nat) (f : Thread → Thread) : (s.modThread n t f).hld = s.hld := rfl
@[simp] theorem State.modThread_sys (s : State) (n t : Nat) (f : Thread → Thread) : (s.modThread n t f).sys = s.sys := rfl
@[simp] theorem State.modThread_ctl (s : State) (n t : Nat) (f : Thread → Thread) : (s.modThread n t f).ctl = s.ctl := rfl

@[simp] theorem State.setCore_pending (s : State) (n : Nat) (x : PxCore) : (s.setCore n x).pending = s.pending := rfl
@[simp] theorem State.setCore_now (s : State) (n : Nat) (x : PxCore) : (s.setCore n x).now = s.now := rfl
@[simp] theorem State.setCore_bus (s : State) (n : Nat) (x : PxCore) : (s.setCore n x).bus = s.bus := rfl
@[simp] theorem State.setCore_freeCtr (s : State) (n : Nat) (x : PxCore) : (s.setCore n x).freeCtr = s.freeCtr := rfl
@[simp] theorem State.setCore_log (s : State) (n : Nat) (x : PxCore) : (s.setCore n x).log = s.log := rfl
@[simp] theorem State.setCore_regs (s : State) (n : Nat) (x : PxCore) : (s.setCore n x).regs = s.regs := rfl
@[simp] theorem State.setCore_mem (s : State) (n : Nat) (x : PxCore) : (s.setCore n x).mem = s.mem := rfl
@[simp] theorem State.setCore_clk (s : State) (n : Nat) (x : PxCore) : (s.setCore n x).clk = s.clk := rfl
@[simp] theorem State.setCore_pwr (s : State) (n : Nat) (x : PxCore) : (s.setCore n x).pwr = s.pwr := rfl
@[simp] theorem State.setCore_fab (s : State) (n : Nat) (x : PxCore) : (s.setCore n x).fab = s.fab := rfl
@[simp] theorem State.setCore_memb (s : State) (n : Nat) (x : PxCore) : (s.setCore n x).memb = s.memb := rfl
@[simp] theorem State.setCore_dmas (s : State) (n : Nat) (x : PxCore) : (s.setCore n x).dmas = s.dmas := rfl
@[simp] theorem State.setCore_halos (s : State) (n : Nat) (x : PxCore) : (s.setCore n x).halos = s.halos := rfl
@[simp] theorem State.setCore_thr (s : State) (n : Nat) (x : PxCore) : (s.setCore n x).thr = s.thr := rfl
@[simp] theorem State.setCore_tars (s : State) (n : Nat) (x : PxCore) : (s.setCore n x).tars = s.tars := rfl
@[simp] theorem State.setCore_qus (s : State) (n : Nat) (x : PxCore) : (s.setCore n x).qus = s.qus := rfl
@[simp] theorem State.setCore_adapt (s : State) (n : Nat) (x : PxCore) : (s.setCore n x).adapt = s.adapt := rfl
@[simp] theorem State.setCore_thy (s : State) (n : Nat) (x : PxCore) : (s.setCore n x).thy = s.thy := rfl
@[simp] theorem State.setCore_cab (s : State) (n : Nat) (x : PxCore) : (s.setCore n x).cab = s.cab := rfl
@[simp] theorem State.setCore_veh (s : State) (n : Nat) (x : PxCore) : (s.setCore n x).veh = s.veh := rfl
@[simp] theorem State.setCore_enc (s : State) (n : Nat) (x : PxCore) : (s.setCore n x).enc = s.enc := rfl
@[simp] theorem State.setCore_cam (s : State) (n : Nat) (x : PxCore) : (s.setCore n x).cam = s.cam := rfl
@[simp] theorem State.setCore_tram (s : State) (n : Nat) (x : PxCore) : (s.setCore n x).tram = s.tram := rfl
@[simp] theorem State.setCore_pkgs (s : State) (n : Nat) (x : PxCore) : (s.setCore n x).pkgs = s.pkgs := rfl
@[simp] theorem State.setCore_sage (s : State) (n : Nat) (x : PxCore) : (s.setCore n x).sage = s.sage := rfl
@[simp] theorem State.setCore_bay (s : State) (n : Nat) (x : PxCore) : (s.setCore n x).bay = s.bay := rfl
@[simp] theorem State.setCore_hld (s : State) (n : Nat) (x : PxCore) : (s.setCore n x).hld = s.hld := rfl
@[simp] theorem State.setCore_sys (s : State) (n : Nat) (x : PxCore) : (s.setCore n x).sys = s.sys := rfl
@[simp] theorem State.setCore_ctl (s : State) (n : Nat) (x : PxCore) : (s.setCore n x).ctl = s.ctl := rfl

@[simp] theorem State.setTar_pending (s : State) (c : Nat) (x : Tar) : (s.setTar c x).pending = s.pending := rfl
@[simp] theorem State.setTar_now (s : State) (c : Nat) (x : Tar) : (s.setTar c x).now = s.now := rfl
@[simp] theorem State.setTar_bus (s : State) (c : Nat) (x : Tar) : (s.setTar c x).bus = s.bus := rfl
@[simp] theorem State.setTar_freeCtr (s : State) (c : Nat) (x : Tar) : (s.setTar c x).freeCtr = s.freeCtr := rfl
@[simp] theorem State.setTar_log (s : State) (c : Nat) (x : Tar) : (s.setTar c x).log = s.log := rfl
@[simp] theorem State.setTar_regs (s : State) (c : Nat) (x : Tar) : (s.setTar c x).regs = s.regs := rfl
@[simp] theorem State.setTar_mem (s : State) (c : Nat) (x : Tar) : (s.setTar c x).mem = s.mem := rfl
@[simp] theorem State.setTar_clk (s : State) (c : Nat) (x : Tar) : (s.setTar c x).clk = s.clk := rfl
@[simp] theorem State.setTar_pwr (s : State) (c : Nat) (x : Tar) : (s.setTar c x).pwr = s.pwr := rfl
@[simp] theorem State.setTar_fab (s : State) (c : Nat) (x : Tar) : (s.setTar c x).fab = s.fab := rfl
@[simp] theorem State.setTar_memb (s : State) (c : Nat) (x : Tar) : (s.setTar c x).memb = s.memb := rfl
@[simp] theorem State.setTar_dmas (s : State) (c : Nat) (x : Tar) : (s.setTar c x).dmas = s.dmas := rfl
@[simp] theorem State.setTar_halos (s : State) (c : Nat) (x : Tar) : (s.setTar c x).halos = s.halos := rfl
@[simp] theorem State.setTar_thr (s : State) (c : Nat) (x : Tar) : (s.setTar c x).thr = s.thr := rfl
@[simp] theorem State.setTar_cores (s : State) (c : Nat) (x : Tar) : (s.setTar c x).cores = s.cores := rfl
@[simp] theorem State.setTar_qus (s : State) (c : Nat) (x : Tar) : (s.setTar c x).qus = s.qus := rfl
@[simp] theorem State.setTar_adapt (s : State) (c : Nat) (x : Tar) : (s.setTar c x).adapt = s.adapt := rfl
@[simp] theorem State.setTar_thy (s : State) (c : Nat) (x : Tar) : (s.setTar c x).thy = s.thy := rfl
@[simp] theorem State.setTar_cab (s : State) (c : Nat) (x : Tar) : (s.setTar c x).cab = s.cab := rfl
@[simp] theorem State.setTar_veh (s : State) (c : Nat) (x : Tar) : (s.setTar c x).veh = s.veh := rfl
@[simp] theorem State.setTar_enc (s : State) (c : Nat) (x : Tar) : (s.setTar c x).enc = s.enc := rfl
@[simp] theorem State.setTar_cam (s : State) (c : Nat) (x : Tar) : (s.setTar c x).cam = s.cam := rfl
@[simp] theorem State.setTar_tram (s : State) (c : Nat) (x : Tar) : (s.setTar c x).tram = s.tram := rfl
@[simp] theorem State.setTar_pkgs (s : State) (c : Nat) (x : Tar) : (s.setTar c x).pkgs = s.pkgs := rfl
@[simp] theorem State.setTar_sage (s : State) (c : Nat) (x : Tar) : (s.setTar c x).sage = s.sage := rfl
@[simp] theorem State.setTar_bay (s : State) (c : Nat) (x : Tar) : (s.setTar c x).bay = s.bay := rfl
@[simp] theorem State.setTar_hld (s : State) (c : Nat) (x : Tar) : (s.setTar c x).hld = s.hld := rfl
@[simp] theorem State.setTar_sys (s : State) (c : Nat) (x : Tar) : (s.setTar c x).sys = s.sys := rfl
@[simp] theorem State.setTar_ctl (s : State) (c : Nat) (x : Tar) : (s.setTar c x).ctl = s.ctl := rfl

@[simp] theorem State.modTar_pending (s : State) (c : Nat) (f : Tar → Tar) : (s.modTar c f).pending = s.pending := rfl
@[simp] theorem State.modTar_now (s : State) (c : Nat) (f : Tar → Tar) : (s.modTar c f).now = s.now := rfl
@[simp] theorem State.modTar_bus (s : State) (c : Nat) (f : Tar → Tar) : (s.modTar c f).bus = s.bus := rfl
@[simp] theorem State.modTar_freeCtr (s : State) (c : Nat) (f : Tar → Tar) : (s.modTar c f).freeCtr = s.freeCtr := rfl
@[simp] theorem State.modTar_log (s : State) (c : Nat) (f : Tar → Tar) : (s.modTar c f).log = s.log := rfl
@[simp] theorem State.modTar_regs (s : State) (c : Nat) (f : Tar → Tar) : (s.modTar c f).regs = s.regs := rfl
@[simp] theorem State.modTar_mem (s : State) (c : Nat) (f : Tar → Tar) : (s.modTar c f).mem = s.mem := rfl
@[simp] theorem State.modTar_clk (s : State) (c : Nat) (f : Tar → Tar) : (s.modTar c f).clk = s.clk := rfl
@[simp] theorem State.modTar_pwr (s : State) (c : Nat) (f : Tar → Tar) : (s.modTar c f).pwr = s.pwr := rfl
@[simp] theorem State.modTar_fab (s : State) (c : Nat) (f : Tar → Tar) : (s.modTar c f).fab = s.fab := rfl
@[simp] theorem State.modTar_memb (s : State) (c : Nat) (f : Tar → Tar) : (s.modTar c f).memb = s.memb := rfl
@[simp] theorem State.modTar_dmas (s : State) (c : Nat) (f : Tar → Tar) : (s.modTar c f).dmas = s.dmas := rfl
@[simp] theorem State.modTar_halos (s : State) (c : Nat) (f : Tar → Tar) : (s.modTar c f).halos = s.halos := rfl
@[simp] theorem State.modTar_thr (s : State) (c : Nat) (f : Tar → Tar) : (s.modTar c f).thr = s.thr := rfl
@[simp] theorem State.modTar_cores (s : State) (c : Nat) (f : Tar → Tar) : (s.modTar c f).cores = s.cores := rfl
@[simp] theorem State.modTar_qus (s : State) (c : Nat) (f : Tar → Tar) : (s.modTar c f).qus = s.qus := rfl
@[simp] theorem State.modTar_adapt (s : State) (c : Nat) (f : Tar → Tar) : (s.modTar c f).adapt = s.adapt := rfl
@[simp] theorem State.modTar_thy (s : State) (c : Nat) (f : Tar → Tar) : (s.modTar c f).thy = s.thy := rfl
@[simp] theorem State.modTar_cab (s : State) (c : Nat) (f : Tar → Tar) : (s.modTar c f).cab = s.cab := rfl
@[simp] theorem State.modTar_veh (s : State) (c : Nat) (f : Tar → Tar) : (s.modTar c f).veh = s.veh := rfl
@[simp] theorem State.modTar_enc (s : State) (c : Nat) (f : Tar → Tar) : (s.modTar c f).enc = s.enc := rfl
@[simp] theorem State.modTar_cam (s : State) (c : Nat) (f : Tar → Tar) : (s.modTar c f).cam = s.cam := rfl
@[simp] theorem State.modTar_tram (s : State) (c : Nat) (f : Tar → Tar) : (s.modTar c f).tram = s.tram := rfl
@[simp] theorem State.modTar_pkgs (s : State) (c : Nat) (f : Tar → Tar) : (s.modTar c f).pkgs = s.pkgs := rfl
@[simp] theorem State.modTar_sage (s : State) (c : Nat) (f : Tar → Tar) : (s.modTar c f).sage = s.sage := rfl
@[simp] theorem State.modTar_bay (s : State) (c : Nat) (f : Tar → Tar) : (s.modTar c f).bay = s.bay := rfl
@[simp] theorem State.modTar_hld (s : State) (c : Nat) (f : Tar → Tar) : (s.modTar c f).hld = s.hld := rfl
@[simp] theorem State.modTar_sys (s : State) (c : Nat) (f : Tar → Tar) : (s.modTar c f).sys = s.sys := rfl
@[simp] theorem State.modTar_ctl (s : State) (c : Nat) (f : Tar → Tar) : (s.modTar c f).ctl = s.ctl := rfl

@[simp] theorem State.setQu_pending (s : State) (c : Nat) (x : Qu) : (s.setQu c x).pending = s.pending := rfl
@[simp] theorem State.setQu_now (s : State) (c : Nat) (x : Qu) : (s.setQu c x).now = s.now := rfl
@[simp] theorem State.setQu_bus (s : State) (c : Nat) (x : Qu) : (s.setQu c x).bus = s.bus := rfl
@[simp] theorem State.setQu_freeCtr (s : State) (c : Nat) (x : Qu) : (s.setQu c x).freeCtr = s.freeCtr := rfl
@[simp] theorem State.setQu_log (s : State) (c : Nat) (x : Qu) : (s.setQu c x).log = s.log := rfl
@[simp] theorem State.setQu_regs (s : State) (c : Nat) (x : Qu) : (s.setQu c x).regs = s.regs := rfl
@[simp] theorem State.setQu_mem (s : State) (c : Nat) (x : Qu) : (s.setQu c x).mem = s.mem := rfl
@[simp] theorem State.setQu_clk (s : State) (c : Nat) (x : Qu) : (s.setQu c x).clk = s.clk := rfl
@[simp] theorem State.setQu_pwr (s : State) (c : Nat) (x : Qu) : (s.setQu c x).pwr = s.pwr := rfl
@[simp] theorem State.setQu_fab (s : State) (c : Nat) (x : Qu) : (s.setQu c x).fab = s.fab := rfl
@[simp] theorem State.setQu_memb (s : State) (c : Nat) (x : Qu) : (s.setQu c x).memb = s.memb := rfl
@[simp] theorem State.setQu_dmas (s : State) (c : Nat) (x : Qu) : (s.setQu c x).dmas = s.dmas := rfl
@[simp] theorem State.setQu_halos (s : State) (c : Nat) (x : Qu) : (s.setQu c x).halos = s.halos := rfl
@[simp] theorem State.setQu_thr (s : State) (c : Nat) (x : Qu) : (s.setQu c x).thr = s.thr := rfl
@[simp] theorem State.setQu_cores (s : State) (c : Nat) (x : Qu) : (s.setQu c x).cores = s.cores := rfl
@[simp] theorem State.setQu_tars (s : State) (c : Nat) (x : Qu) : (s.setQu c x).tars = s.tars := rfl
@[simp] theorem State.setQu_adapt (s : State) (c : Nat) (x : Qu) : (s.setQu c x).adapt = s.adapt := rfl
@[simp] theorem State.setQu_thy (s : State) (c : Nat) (x : Qu) : (s.setQu c x).thy = s.thy := rfl
@[simp] theorem State.setQu_cab (s : State) (c : Nat) (x : Qu) : (s.setQu c x).cab = s.cab := rfl
@[simp] theorem State.setQu_veh (s : State) (c : Nat) (x : Qu) : (s.setQu c x).veh = s.veh := rfl
@[simp] theorem State.setQu_enc (s : State) (c : Nat) (x : Qu) : (s.setQu c x).enc = s.enc := rfl
@[simp] theorem State.setQu_cam (s : State) (c : Nat) (x : Qu) : (s.setQu c x).cam = s.cam := rfl
@[simp] theorem State.setQu_tram (s : State) (c : Nat) (x : Qu) : (s.setQu c x).tram = s.tram := rfl
@[simp] theorem State.setQu_pkgs (s : State) (c : Nat) (x : Qu) : (s.setQu c x).pkgs = s.pkgs := rfl
@[simp] theorem State.setQu_sage (s : State) (c : Nat) (x : Qu) : (s.setQu c x).sage = s.sage := rfl
@[simp] theorem State.setQu_bay (s : State) (c : Nat) (x : Qu) : (s.setQu c x).bay = s.bay := rfl
@[simp] theorem State.setQu_hld (s : State) (c : Nat) (x : Qu) : (s.setQu c x).hld = s.hld := rfl
@[simp] theorem State.setQu_sys (s : State) (c : Nat) (x : Qu) : (s.setQu c x).sys = s.sys := rfl
@[simp] theorem State.setQu_ctl (s : State) (c : Nat) (x : Qu) : (s.setQu c x).ctl = s.ctl := rfl

@[simp] theorem State.setByte_pending (s : State) (a : Nat) (b : Byte) : (s.setByte a b).pending = s.pending := rfl
@[simp] theorem State.setByte_now (s : State) (a : Nat) (b : Byte) : (s.setByte a b).now = s.now := rfl
@[simp] theorem State.setByte_bus (s : State) (a : Nat) (b : Byte) : (s.setByte a b).bus = s.bus := rfl
@[simp] theorem State.setByte_freeCtr (s : State) (a : Nat) (b : Byte) : (s.setByte a b).freeCtr = s.freeCtr := rfl
@[simp] theorem State.setByte_log (s : State) (a : Nat) (b : Byte) : (s.setByte a b).log = s.log := rfl
@[simp] theorem State.setByte_regs (s : State) (a : Nat) (b : Byte) : (s.setByte a b).regs = s.regs := rfl
@[simp] theorem State.setByte_clk (s : State) (a : Nat) (b : Byte) : (s.setByte a b).clk = s.clk := rfl
@[simp] theorem State.setByte_pwr (s : State) (a : Nat) (b : Byte) : (s.setByte a b).pwr = s.pwr := rfl
@[simp] theorem State.setByte_fab (s : State) (a : Nat) (b : Byte) : (s.setByte a b).fab = s.fab := rfl
@[simp] theorem State.setByte_memb (s : State) (a : Nat) (b : Byte) : (s.setByte a b).memb = s.memb := rfl
@[simp] theorem State.setByte_dmas (s : State) (a : Nat) (b : Byte) : (s.setByte a b).dmas = s.dmas := rfl
@[simp] theorem State.setByte_halos (s : State) (a : Nat) (b : Byte) : (s.setByte a b).halos = s.halos := rfl
@[simp] theorem State.setByte_thr (s : State) (a : Nat) (b : Byte) : (s.setByte a b).thr = s.thr := rfl
@[simp] theorem State.setByte_cores (s : State) (a : Nat) (b : Byte) : (s.setByte a b).cores = s.cores := rfl
@[simp] theorem State.setByte_tars (s : State) (a : Nat) (b : Byte) : (s.setByte a b).tars = s.tars := rfl
@[simp] theorem State.setByte_qus (s : State) (a : Nat) (b : Byte) : (s.setByte a b).qus = s.qus := rfl
@[simp] theorem State.setByte_adapt (s : State) (a : Nat) (b : Byte) : (s.setByte a b).adapt = s.adapt := rfl
@[simp] theorem State.setByte_thy (s : State) (a : Nat) (b : Byte) : (s.setByte a b).thy = s.thy := rfl
@[simp] theorem State.setByte_cab (s : State) (a : Nat) (b : Byte) : (s.setByte a b).cab = s.cab := rfl
@[simp] theorem State.setByte_veh (s : State) (a : Nat) (b : Byte) : (s.setByte a b).veh = s.veh := rfl
@[simp] theorem State.setByte_enc (s : State) (a : Nat) (b : Byte) : (s.setByte a b).enc = s.enc := rfl
@[simp] theorem State.setByte_cam (s : State) (a : Nat) (b : Byte) : (s.setByte a b).cam = s.cam := rfl
@[simp] theorem State.setByte_tram (s : State) (a : Nat) (b : Byte) : (s.setByte a b).tram = s.tram := rfl
@[simp] theorem State.setByte_pkgs (s : State) (a : Nat) (b : Byte) : (s.setByte a b).pkgs = s.pkgs := rfl
@[simp] theorem State.setByte_sage (s : State) (a : Nat) (b : Byte) : (s.setByte a b).sage = s.sage := rfl
@[simp] theorem State.setByte_bay (s : State) (a : Nat) (b : Byte) : (s.setByte a b).bay = s.bay := rfl
@[simp] theorem State.setByte_hld (s : State) (a : Nat) (b : Byte) : (s.setByte a b).hld = s.hld := rfl
@[simp] theorem State.setByte_sys (s : State) (a : Nat) (b : Byte) : (s.setByte a b).sys = s.sys := rfl
@[simp] theorem State.setByte_ctl (s : State) (a : Nat) (b : Byte) : (s.setByte a b).ctl = s.ctl := rfl

@[simp] theorem State.setPoison_pending (s : State) (a : Nat) (b : Bool) : (s.setPoison a b).pending = s.pending := rfl
@[simp] theorem State.setPoison_now (s : State) (a : Nat) (b : Bool) : (s.setPoison a b).now = s.now := rfl
@[simp] theorem State.setPoison_bus (s : State) (a : Nat) (b : Bool) : (s.setPoison a b).bus = s.bus := rfl
@[simp] theorem State.setPoison_freeCtr (s : State) (a : Nat) (b : Bool) : (s.setPoison a b).freeCtr = s.freeCtr := rfl
@[simp] theorem State.setPoison_log (s : State) (a : Nat) (b : Bool) : (s.setPoison a b).log = s.log := rfl
@[simp] theorem State.setPoison_regs (s : State) (a : Nat) (b : Bool) : (s.setPoison a b).regs = s.regs := rfl
@[simp] theorem State.setPoison_mem (s : State) (a : Nat) (b : Bool) : (s.setPoison a b).mem = s.mem := rfl
@[simp] theorem State.setPoison_clk (s : State) (a : Nat) (b : Bool) : (s.setPoison a b).clk = s.clk := rfl
@[simp] theorem State.setPoison_pwr (s : State) (a : Nat) (b : Bool) : (s.setPoison a b).pwr = s.pwr := rfl
@[simp] theorem State.setPoison_fab (s : State) (a : Nat) (b : Bool) : (s.setPoison a b).fab = s.fab := rfl
@[simp] theorem State.setPoison_dmas (s : State) (a : Nat) (b : Bool) : (s.setPoison a b).dmas = s.dmas := rfl
@[simp] theorem State.setPoison_halos (s : State) (a : Nat) (b : Bool) : (s.setPoison a b).halos = s.halos := rfl
@[simp] theorem State.setPoison_thr (s : State) (a : Nat) (b : Bool) : (s.setPoison a b).thr = s.thr := rfl
@[simp] theorem State.setPoison_cores (s : State) (a : Nat) (b : Bool) : (s.setPoison a b).cores = s.cores := rfl
@[simp] theorem State.setPoison_tars (s : State) (a : Nat) (b : Bool) : (s.setPoison a b).tars = s.tars := rfl
@[simp] theorem State.setPoison_qus (s : State) (a : Nat) (b : Bool) : (s.setPoison a b).qus = s.qus := rfl
@[simp] theorem State.setPoison_adapt (s : State) (a : Nat) (b : Bool) : (s.setPoison a b).adapt = s.adapt := rfl
@[simp] theorem State.setPoison_thy (s : State) (a : Nat) (b : Bool) : (s.setPoison a b).thy = s.thy := rfl
@[simp] theorem State.setPoison_cab (s : State) (a : Nat) (b : Bool) : (s.setPoison a b).cab = s.cab := rfl
@[simp] theorem State.setPoison_veh (s : State) (a : Nat) (b : Bool) : (s.setPoison a b).veh = s.veh := rfl
@[simp] theorem State.setPoison_enc (s : State) (a : Nat) (b : Bool) : (s.setPoison a b).enc = s.enc := rfl
@[simp] theorem State.setPoison_cam (s : State) (a : Nat) (b : Bool) : (s.setPoison a b).cam = s.cam := rfl
@[simp] theorem State.setPoison_tram (s : State) (a : Nat) (b : Bool) : (s.setPoison a b).tram = s.tram := rfl
@[simp] theorem State.setPoison_pkgs (s : State) (a : Nat) (b : Bool) : (s.setPoison a b).pkgs = s.pkgs := rfl
@[simp] theorem State.setPoison_sage (s : State) (a : Nat) (b : Bool) : (s.setPoison a b).sage = s.sage := rfl
@[simp] theorem State.setPoison_bay (s : State) (a : Nat) (b : Bool) : (s.setPoison a b).bay = s.bay := rfl
@[simp] theorem State.setPoison_hld (s : State) (a : Nat) (b : Bool) : (s.setPoison a b).hld = s.hld := rfl
@[simp] theorem State.setPoison_sys (s : State) (a : Nat) (b : Bool) : (s.setPoison a b).sys = s.sys := rfl
@[simp] theorem State.setPoison_ctl (s : State) (a : Nat) (b : Bool) : (s.setPoison a b).ctl = s.ctl := rfl

@[simp] theorem State.modCab_pending (s : State) (f : Cab → Cab) : (s.modCab f).pending = s.pending := rfl
@[simp] theorem State.modCab_now (s : State) (f : Cab → Cab) : (s.modCab f).now = s.now := rfl
@[simp] theorem State.modCab_bus (s : State) (f : Cab → Cab) : (s.modCab f).bus = s.bus := rfl
@[simp] theorem State.modCab_freeCtr (s : State) (f : Cab → Cab) : (s.modCab f).freeCtr = s.freeCtr := rfl
@[simp] theorem State.modCab_log (s : State) (f : Cab → Cab) : (s.modCab f).log = s.log := rfl
@[simp] theorem State.modCab_regs (s : State) (f : Cab → Cab) : (s.modCab f).regs = s.regs := rfl
@[simp] theorem State.modCab_mem (s : State) (f : Cab → Cab) : (s.modCab f).mem = s.mem := rfl
@[simp] theorem State.modCab_clk (s : State) (f : Cab → Cab) : (s.modCab f).clk = s.clk := rfl
@[simp] theorem State.modCab_pwr (s : State) (f : Cab → Cab) : (s.modCab f).pwr = s.pwr := rfl
@[simp] theorem State.modCab_fab (s : State) (f : Cab → Cab) : (s.modCab f).fab = s.fab := rfl
@[simp] theorem State.modCab_memb (s : State) (f : Cab → Cab) : (s.modCab f).memb = s.memb := rfl
@[simp] theorem State.modCab_dmas (s : State) (f : Cab → Cab) : (s.modCab f).dmas = s.dmas := rfl
@[simp] theorem State.modCab_halos (s : State) (f : Cab → Cab) : (s.modCab f).halos = s.halos := rfl
@[simp] theorem State.modCab_thr (s : State) (f : Cab → Cab) : (s.modCab f).thr = s.thr := rfl
@[simp] theorem State.modCab_cores (s : State) (f : Cab → Cab) : (s.modCab f).cores = s.cores := rfl
@[simp] theorem State.modCab_tars (s : State) (f : Cab → Cab) : (s.modCab f).tars = s.tars := rfl
@[simp] theorem State.modCab_qus (s : State) (f : Cab → Cab) : (s.modCab f).qus = s.qus := rfl
@[simp] theorem State.modCab_adapt (s : State) (f : Cab → Cab) : (s.modCab f).adapt = s.adapt := rfl
@[simp] theorem State.modCab_thy (s : State) (f : Cab → Cab) : (s.modCab f).thy = s.thy := rfl
@[simp] theorem State.modCab_veh (s : State) (f : Cab → Cab) : (s.modCab f).veh = s.veh := rfl
@[simp] theorem State.modCab_enc (s : State) (f : Cab → Cab) : (s.modCab f).enc = s.enc := rfl
@[simp] theorem State.modCab_cam (s : State) (f : Cab → Cab) : (s.modCab f).cam = s.cam := rfl
@[simp] theorem State.modCab_tram (s : State) (f : Cab → Cab) : (s.modCab f).tram = s.tram := rfl
@[simp] theorem State.modCab_pkgs (s : State) (f : Cab → Cab) : (s.modCab f).pkgs = s.pkgs := rfl
@[simp] theorem State.modCab_sage (s : State) (f : Cab → Cab) : (s.modCab f).sage = s.sage := rfl
@[simp] theorem State.modCab_bay (s : State) (f : Cab → Cab) : (s.modCab f).bay = s.bay := rfl
@[simp] theorem State.modCab_hld (s : State) (f : Cab → Cab) : (s.modCab f).hld = s.hld := rfl
@[simp] theorem State.modCab_sys (s : State) (f : Cab → Cab) : (s.modCab f).sys = s.sys := rfl
@[simp] theorem State.modCab_ctl (s : State) (f : Cab → Cab) : (s.modCab f).ctl = s.ctl := rfl
@[simp] theorem State.modCab_cab (s : State) (f : Cab → Cab) : (s.modCab f).cab = f s.cab := rfl

@[simp] theorem State.setSlot_pending (s : State) (k : Nat) (x : Slot) : (s.setSlot k x).pending = s.pending := rfl
@[simp] theorem State.setSlot_now (s : State) (k : Nat) (x : Slot) : (s.setSlot k x).now = s.now := rfl
@[simp] theorem State.setSlot_bus (s : State) (k : Nat) (x : Slot) : (s.setSlot k x).bus = s.bus := rfl
@[simp] theorem State.setSlot_freeCtr (s : State) (k : Nat) (x : Slot) : (s.setSlot k x).freeCtr = s.freeCtr := rfl
@[simp] theorem State.setSlot_log (s : State) (k : Nat) (x : Slot) : (s.setSlot k x).log = s.log := rfl
@[simp] theorem State.setSlot_regs (s : State) (k : Nat) (x : Slot) : (s.setSlot k x).regs = s.regs := rfl
@[simp] theorem State.setSlot_mem (s : State) (k : Nat) (x : Slot) : (s.setSlot k x).mem = s.mem := rfl
@[simp] theorem State.setSlot_clk (s : State) (k : Nat) (x : Slot) : (s.setSlot k x).clk = s.clk := rfl
@[simp] theorem State.setSlot_pwr (s : State) (k : Nat) (x : Slot) : (s.setSlot k x).pwr = s.pwr := rfl
@[simp] theorem State.setSlot_fab (s : State) (k : Nat) (x : Slot) : (s.setSlot k x).fab = s.fab := rfl
@[simp] theorem State.setSlot_memb (s : State) (k : Nat) (x : Slot) : (s.setSlot k x).memb = s.memb := rfl
@[simp] theorem State.setSlot_dmas (s : State) (k : Nat) (x : Slot) : (s.setSlot k x).dmas = s.dmas := rfl
@[simp] theorem State.setSlot_halos (s : State) (k : Nat) (x : Slot) : (s.setSlot k x).halos = s.halos := rfl
@[simp] theorem State.setSlot_thr (s : State) (k : Nat) (x : Slot) : (s.setSlot k x).thr = s.thr := rfl
@[simp] theorem State.setSlot_cores (s : State) (k : Nat) (x : Slot) : (s.setSlot k x).cores = s.cores := rfl
@[simp] theorem State.setSlot_tars (s : State) (k : Nat) (x : Slot) : (s.setSlot k x).tars = s.tars := rfl
@[simp] theorem State.setSlot_qus (s : State) (k : Nat) (x : Slot) : (s.setSlot k x).qus = s.qus := rfl
@[simp] theorem State.setSlot_adapt (s : State) (k : Nat) (x : Slot) : (s.setSlot k x).adapt = s.adapt := rfl
@[simp] theorem State.setSlot_thy (s : State) (k : Nat) (x : Slot) : (s.setSlot k x).thy = s.thy := rfl
@[simp] theorem State.setSlot_cab (s : State) (k : Nat) (x : Slot) : (s.setSlot k x).cab = s.cab := rfl
@[simp] theorem State.setSlot_veh (s : State) (k : Nat) (x : Slot) : (s.setSlot k x).veh = s.veh := rfl
@[simp] theorem State.setSlot_enc (s : State) (k : Nat) (x : Slot) : (s.setSlot k x).enc = s.enc := rfl
@[simp] theorem State.setSlot_tram (s : State) (k : Nat) (x : Slot) : (s.setSlot k x).tram = s.tram := rfl
@[simp] theorem State.setSlot_pkgs (s : State) (k : Nat) (x : Slot) : (s.setSlot k x).pkgs = s.pkgs := rfl
@[simp] theorem State.setSlot_sage (s : State) (k : Nat) (x : Slot) : (s.setSlot k x).sage = s.sage := rfl
@[simp] theorem State.setSlot_bay (s : State) (k : Nat) (x : Slot) : (s.setSlot k x).bay = s.bay := rfl
@[simp] theorem State.setSlot_hld (s : State) (k : Nat) (x : Slot) : (s.setSlot k x).hld = s.hld := rfl
@[simp] theorem State.setSlot_sys (s : State) (k : Nat) (x : Slot) : (s.setSlot k x).sys = s.sys := rfl
@[simp] theorem State.setSlot_ctl (s : State) (k : Nat) (x : Slot) : (s.setSlot k x).ctl = s.ctl := rfl

@[simp] theorem State.modSlot_pending (s : State) (k : Nat) (f : Slot → Slot) : (s.modSlot k f).pending = s.pending := rfl
@[simp] theorem State.modSlot_now (s : State) (k : Nat) (f : Slot → Slot) : (s.modSlot k f).now = s.now := rfl
@[simp] theorem State.modSlot_bus (s : State) (k : Nat) (f : Slot → Slot) : (s.modSlot k f).bus = s.bus := rfl
@[simp] theorem State.modSlot_freeCtr (s : State) (k : Nat) (f : Slot → Slot) : (s.modSlot k f).freeCtr = s.freeCtr := rfl
@[simp] theorem State.modSlot_log (s : State) (k : Nat) (f : Slot → Slot) : (s.modSlot k f).log = s.log := rfl
@[simp] theorem State.modSlot_regs (s : State) (k : Nat) (f : Slot → Slot) : (s.modSlot k f).regs = s.regs := rfl
@[simp] theorem State.modSlot_mem (s : State) (k : Nat) (f : Slot → Slot) : (s.modSlot k f).mem = s.mem := rfl
@[simp] theorem State.modSlot_clk (s : State) (k : Nat) (f : Slot → Slot) : (s.modSlot k f).clk = s.clk := rfl
@[simp] theorem State.modSlot_pwr (s : State) (k : Nat) (f : Slot → Slot) : (s.modSlot k f).pwr = s.pwr := rfl
@[simp] theorem State.modSlot_fab (s : State) (k : Nat) (f : Slot → Slot) : (s.modSlot k f).fab = s.fab := rfl
@[simp] theorem State.modSlot_memb (s : State) (k : Nat) (f : Slot → Slot) : (s.modSlot k f).memb = s.memb := rfl
@[simp] theorem State.modSlot_dmas (s : State) (k : Nat) (f : Slot → Slot) : (s.modSlot k f).dmas = s.dmas := rfl
@[simp] theorem State.modSlot_halos (s : State) (k : Nat) (f : Slot → Slot) : (s.modSlot k f).halos = s.halos := rfl
@[simp] theorem State.modSlot_thr (s : State) (k : Nat) (f : Slot → Slot) : (s.modSlot k f).thr = s.thr := rfl
@[simp] theorem State.modSlot_cores (s : State) (k : Nat) (f : Slot → Slot) : (s.modSlot k f).cores = s.cores := rfl
@[simp] theorem State.modSlot_tars (s : State) (k : Nat) (f : Slot → Slot) : (s.modSlot k f).tars = s.tars := rfl
@[simp] theorem State.modSlot_qus (s : State) (k : Nat) (f : Slot → Slot) : (s.modSlot k f).qus = s.qus := rfl
@[simp] theorem State.modSlot_adapt (s : State) (k : Nat) (f : Slot → Slot) : (s.modSlot k f).adapt = s.adapt := rfl
@[simp] theorem State.modSlot_thy (s : State) (k : Nat) (f : Slot → Slot) : (s.modSlot k f).thy = s.thy := rfl
@[simp] theorem State.modSlot_cab (s : State) (k : Nat) (f : Slot → Slot) : (s.modSlot k f).cab = s.cab := rfl
@[simp] theorem State.modSlot_veh (s : State) (k : Nat) (f : Slot → Slot) : (s.modSlot k f).veh = s.veh := rfl
@[simp] theorem State.modSlot_enc (s : State) (k : Nat) (f : Slot → Slot) : (s.modSlot k f).enc = s.enc := rfl
@[simp] theorem State.modSlot_tram (s : State) (k : Nat) (f : Slot → Slot) : (s.modSlot k f).tram = s.tram := rfl
@[simp] theorem State.modSlot_pkgs (s : State) (k : Nat) (f : Slot → Slot) : (s.modSlot k f).pkgs = s.pkgs := rfl
@[simp] theorem State.modSlot_sage (s : State) (k : Nat) (f : Slot → Slot) : (s.modSlot k f).sage = s.sage := rfl
@[simp] theorem State.modSlot_bay (s : State) (k : Nat) (f : Slot → Slot) : (s.modSlot k f).bay = s.bay := rfl
@[simp] theorem State.modSlot_hld (s : State) (k : Nat) (f : Slot → Slot) : (s.modSlot k f).hld = s.hld := rfl
@[simp] theorem State.modSlot_sys (s : State) (k : Nat) (f : Slot → Slot) : (s.modSlot k f).sys = s.sys := rfl
@[simp] theorem State.modSlot_ctl (s : State) (k : Nat) (f : Slot → Slot) : (s.modSlot k f).ctl = s.ctl := rfl

@[simp] theorem State.setDecEngine_pending (s : State) (n : Nat) (e : DecEngine) : (s.setDecEngine n e).pending = s.pending := rfl
@[simp] theorem State.setDecEngine_now (s : State) (n : Nat) (e : DecEngine) : (s.setDecEngine n e).now = s.now := rfl
@[simp] theorem State.setDecEngine_bus (s : State) (n : Nat) (e : DecEngine) : (s.setDecEngine n e).bus = s.bus := rfl
@[simp] theorem State.setDecEngine_freeCtr (s : State) (n : Nat) (e : DecEngine) : (s.setDecEngine n e).freeCtr = s.freeCtr := rfl
@[simp] theorem State.setDecEngine_log (s : State) (n : Nat) (e : DecEngine) : (s.setDecEngine n e).log = s.log := rfl
@[simp] theorem State.setDecEngine_regs (s : State) (n : Nat) (e : DecEngine) : (s.setDecEngine n e).regs = s.regs := rfl
@[simp] theorem State.setDecEngine_mem (s : State) (n : Nat) (e : DecEngine) : (s.setDecEngine n e).mem = s.mem := rfl
@[simp] theorem State.setDecEngine_clk (s : State) (n : Nat) (e : DecEngine) : (s.setDecEngine n e).clk = s.clk := rfl
@[simp] theorem State.setDecEngine_pwr (s : State) (n : Nat) (e : DecEngine) : (s.setDecEngine n e).pwr = s.pwr := rfl
@[simp] theorem State.setDecEngine_fab (s : State) (n : Nat) (e : DecEngine) : (s.setDecEngine n e).fab = s.fab := rfl
@[simp] theorem State.setDecEngine_memb (s : State) (n : Nat) (e : DecEngine) : (s.setDecEngine n e).memb = s.memb := rfl
@[simp] theorem State.setDecEngine_dmas (s : State) (n : Nat) (e : DecEngine) : (s.setDecEngine n e).dmas = s.dmas := rfl
@[simp] theorem State.setDecEngine_halos (s : State) (n : Nat) (e : DecEngine) : (s.setDecEngine n e).halos = s.halos := rfl
@[simp] theorem State.setDecEngine_thr (s : State) (n : Nat) (e : DecEngine) : (s.setDecEngine n e).thr = s.thr := rfl
@[simp] theorem State.setDecEngine_cores (s : State) (n : Nat) (e : DecEngine) : (s.setDecEngine n e).cores = s.cores := rfl
@[simp] theorem State.setDecEngine_tars (s : State) (n : Nat) (e : DecEngine) : (s.setDecEngine n e).tars = s.tars := rfl
@[simp] theorem State.setDecEngine_qus (s : State) (n : Nat) (e : DecEngine) : (s.setDecEngine n e).qus = s.qus := rfl
@[simp] theorem State.setDecEngine_adapt (s : State) (n : Nat) (e : DecEngine) : (s.setDecEngine n e).adapt = s.adapt := rfl
@[simp] theorem State.setDecEngine_thy (s : State) (n : Nat) (e : DecEngine) : (s.setDecEngine n e).thy = s.thy := rfl
@[simp] theorem State.setDecEngine_cab (s : State) (n : Nat) (e : DecEngine) : (s.setDecEngine n e).cab = s.cab := rfl
@[simp] theorem State.setDecEngine_veh (s : State) (n : Nat) (e : DecEngine) : (s.setDecEngine n e).veh = s.veh := rfl
@[simp] theorem State.setDecEngine_enc (s : State) (n : Nat) (e : DecEngine) : (s.setDecEngine n e).enc = s.enc := rfl
@[simp] theorem State.setDecEngine_tram (s : State) (n : Nat) (e : DecEngine) : (s.setDecEngine n e).tram = s.tram := rfl
@[simp] theorem State.setDecEngine_pkgs (s : State) (n : Nat) (e : DecEngine) : (s.setDecEngine n e).pkgs = s.pkgs := rfl
@[simp] theorem State.setDecEngine_sage (s : State) (n : Nat) (e : DecEngine) : (s.setDecEngine n e).sage = s.sage := rfl
@[simp] theorem State.setDecEngine_bay (s : State) (n : Nat) (e : DecEngine) : (s.setDecEngine n e).bay = s.bay := rfl
@[simp] theorem State.setDecEngine_hld (s : State) (n : Nat) (e : DecEngine) : (s.setDecEngine n e).hld = s.hld := rfl
@[simp] theorem State.setDecEngine_sys (s : State) (n : Nat) (e : DecEngine) : (s.setDecEngine n e).sys = s.sys := rfl
@[simp] theorem State.setDecEngine_ctl (s : State) (n : Nat) (e : DecEngine) : (s.setDecEngine n e).ctl = s.ctl := rfl

@[simp] theorem State.modBay_pending (s : State) (f : Bay → Bay) : (s.modBay f).pending = s.pending := rfl
@[simp] theorem State.modBay_now (s : State) (f : Bay → Bay) : (s.modBay f).now = s.now := rfl
@[simp] theorem State.modBay_bus (s : State) (f : Bay → Bay) : (s.modBay f).bus = s.bus := rfl
@[simp] theorem State.modBay_freeCtr (s : State) (f : Bay → Bay) : (s.modBay f).freeCtr = s.freeCtr := rfl
@[simp] theorem State.modBay_log (s : State) (f : Bay → Bay) : (s.modBay f).log = s.log := rfl
@[simp] theorem State.modBay_regs (s : State) (f : Bay → Bay) : (s.modBay f).regs = s.regs := rfl
@[simp] theorem State.modBay_mem (s : State) (f : Bay → Bay) : (s.modBay f).mem = s.mem := rfl
@[simp] theorem State.modBay_clk (s : State) (f : Bay → Bay) : (s.modBay f).clk = s.clk := rfl
@[simp] theorem State.modBay_pwr (s : State) (f : Bay → Bay) : (s.modBay f).pwr = s.pwr := rfl
@[simp] theorem State.modBay_fab (s : State) (f : Bay → Bay) : (s.modBay f).fab = s.fab := rfl
@[simp] theorem State.modBay_memb (s : State) (f : Bay → Bay) : (s.modBay f).memb = s.memb := rfl
@[simp] theorem State.modBay_dmas (s : State) (f : Bay → Bay) : (s.modBay f).dmas = s.dmas := rfl
@[simp] theorem State.modBay_halos (s : State) (f : Bay → Bay) : (s.modBay f).halos = s.halos := rfl
@[simp] theorem State.modBay_thr (s : State) (f : Bay → Bay) : (s.modBay f).thr = s.thr := rfl
@[simp] theorem State.modBay_cores (s : State) (f : Bay → Bay) : (s.modBay f).cores = s.cores := rfl
@[simp] theorem State.modBay_tars (s : State) (f : Bay → Bay) : (s.modBay f).tars = s.tars := rfl
@[simp] theorem State.modBay_qus (s : State) (f : Bay → Bay) : (s.modBay f).qus = s.qus := rfl
@[simp] theorem State.modBay_adapt (s : State) (f : Bay → Bay) : (s.modBay f).adapt = s.adapt := rfl
@[simp] theorem State.modBay_thy (s : State) (f : Bay → Bay) : (s.modBay f).thy = s.thy := rfl
@[simp] theorem State.modBay_cab (s : State) (f : Bay → Bay) : (s.modBay f).cab = s.cab := rfl
@[simp] theorem State.modBay_veh (s : State) (f : Bay → Bay) : (s.modBay f).veh = s.veh := rfl
@[simp] theorem State.modBay_enc (s : State) (f : Bay → Bay) : (s.modBay f).enc = s.enc := rfl
@[simp] theorem State.modBay_cam (s : State) (f : Bay → Bay) : (s.modBay f).cam = s.cam := rfl
@[simp] theorem State.modBay_tram (s : State) (f : Bay → Bay) : (s.modBay f).tram = s.tram := rfl
@[simp] theorem State.modBay_pkgs (s : State) (f : Bay → Bay) : (s.modBay f).pkgs = s.pkgs := rfl
@[simp] theorem State.modBay_sage (s : State) (f : Bay → Bay) : (s.modBay f).sage = s.sage := rfl
@[simp] theorem State.modBay_hld (s : State) (f : Bay → Bay) : (s.modBay f).hld = s.hld := rfl
@[simp] theorem State.modBay_sys (s : State) (f : Bay → Bay) : (s.modBay f).sys = s.sys := rfl
@[simp] theorem State.modBay_ctl (s : State) (f : Bay → Bay) : (s.modBay f).ctl = s.ctl := rfl
@[simp] theorem State.modBay_bay (s : State) (f : Bay → Bay) : (s.modBay f).bay = f s.bay := rfl

@[simp] theorem State.modAdapt_pending (s : State) (f : Adapt → Adapt) : (s.modAdapt f).pending = s.pending := rfl
@[simp] theorem State.modAdapt_now (s : State) (f : Adapt → Adapt) : (s.modAdapt f).now = s.now := rfl
@[simp] theorem State.modAdapt_bus (s : State) (f : Adapt → Adapt) : (s.modAdapt f).bus = s.bus := rfl
@[simp] theorem State.modAdapt_freeCtr (s : State) (f : Adapt → Adapt) : (s.modAdapt f).freeCtr = s.freeCtr := rfl
@[simp] theorem State.modAdapt_log (s : State) (f : Adapt → Adapt) : (s.modAdapt f).log = s.log := rfl
@[simp] theorem State.modAdapt_regs (s : State) (f : Adapt → Adapt) : (s.modAdapt f).regs = s.regs := rfl
@[simp] theorem State.modAdapt_mem (s : State) (f : Adapt → Adapt) : (s.modAdapt f).mem = s.mem := rfl
@[simp] theorem State.modAdapt_clk (s : State) (f : Adapt → Adapt) : (s.modAdapt f).clk = s.clk := rfl
@[simp] theorem State.modAdapt_pwr (s : State) (f : Adapt → Adapt) : (s.modAdapt f).pwr = s.pwr := rfl
@[simp] theorem State.modAdapt_fab (s : State) (f : Adapt → Adapt) : (s.modAdapt f).fab = s.fab := rfl
@[simp] theorem State.modAdapt_memb (s : State) (f : Adapt → Adapt) : (s.modAdapt f).memb = s.memb := rfl
@[simp] theorem State.modAdapt_dmas (s : State) (f : Adapt → Adapt) : (s.modAdapt f).dmas = s.dmas := rfl
@[simp] theorem State.modAdapt_halos (s : State) (f : Adapt → Adapt) : (s.modAdapt f).halos = s.halos := rfl
@[simp] theorem State.modAdapt_thr (s : State) (f : Adapt → Adapt) : (s.modAdapt f).thr = s.thr := rfl
@[simp] theorem State.modAdapt_cores (s : State) (f : Adapt → Adapt) : (s.modAdapt f).cores = s.cores := rfl
@[simp] theorem State.modAdapt_tars (s : State) (f : Adapt → Adapt) : (s.modAdapt f).tars = s.tars := rfl
@[simp] theorem State.modAdapt_qus (s : State) (f : Adapt → Adapt) : (s.modAdapt f).qus = s.qus := rfl
@[simp] theorem State.modAdapt_thy (s : State) (f : Adapt → Adapt) : (s.modAdapt f).thy = s.thy := rfl
@[simp] theorem State.modAdapt_cab (s : State) (f : Adapt → Adapt) : (s.modAdapt f).cab = s.cab := rfl
@[simp] theorem State.modAdapt_veh (s : State) (f : Adapt → Adapt) : (s.modAdapt f).veh = s.veh := rfl
@[simp] theorem State.modAdapt_enc (s : State) (f : Adapt → Adapt) : (s.modAdapt f).enc = s.enc := rfl
@[simp] theorem State.modAdapt_cam (s : State) (f : Adapt → Adapt) : (s.modAdapt f).cam = s.cam := rfl
@[simp] theorem State.modAdapt_tram (s : State) (f : Adapt → Adapt) : (s.modAdapt f).tram = s.tram := rfl
@[simp] theorem State.modAdapt_pkgs (s : State) (f : Adapt → Adapt) : (s.modAdapt f).pkgs = s.pkgs := rfl
@[simp] theorem State.modAdapt_sage (s : State) (f : Adapt → Adapt) : (s.modAdapt f).sage = s.sage := rfl
@[simp] theorem State.modAdapt_bay (s : State) (f : Adapt → Adapt) : (s.modAdapt f).bay = s.bay := rfl
@[simp] theorem State.modAdapt_hld (s : State) (f : Adapt → Adapt) : (s.modAdapt f).hld = s.hld := rfl
@[simp] theorem State.modAdapt_sys (s : State) (f : Adapt → Adapt) : (s.modAdapt f).sys = s.sys := rfl
@[simp] theorem State.modAdapt_ctl (s : State) (f : Adapt → Adapt) : (s.modAdapt f).ctl = s.ctl := rfl
@[simp] theorem State.modAdapt_adapt (s : State) (f : Adapt → Adapt) : (s.modAdapt f).adapt = f s.adapt := rfl

@[simp] theorem State.modSys_pending (s : State) (f : Sys → Sys) : (s.modSys f).pending = s.pending := rfl
@[simp] theorem State.modSys_now (s : State) (f : Sys → Sys) : (s.modSys f).now = s.now := rfl
@[simp] theorem State.modSys_bus (s : State) (f : Sys → Sys) : (s.modSys f).bus = s.bus := rfl
@[simp] theorem State.modSys_freeCtr (s : State) (f : Sys → Sys) : (s.modSys f).freeCtr = s.freeCtr := rfl
@[simp] theorem State.modSys_log (s : State) (f : Sys → Sys) : (s.modSys f).log = s.log := rfl
@[simp] theorem State.modSys_regs (s : State) (f : Sys → Sys) : (s.modSys f).regs = s.regs := rfl
@[simp] theorem State.modSys_mem (s : State) (f : Sys → Sys) : (s.modSys f).mem = s.mem := rfl
@[simp] theorem State.modSys_clk (s : State) (f : Sys → Sys) : (s.modSys f).clk = s.clk := rfl
@[simp] theorem State.modSys_pwr (s : State) (f : Sys → Sys) : (s.modSys f).pwr = s.pwr := rfl
@[simp] theorem State.modSys_fab (s : State) (f : Sys → Sys) : (s.modSys f).fab = s.fab := rfl
@[simp] theorem State.modSys_memb (s : State) (f : Sys → Sys) : (s.modSys f).memb = s.memb := rfl
@[simp] theorem State.modSys_dmas (s : State) (f : Sys → Sys) : (s.modSys f).dmas = s.dmas := rfl
@[simp] theorem State.modSys_halos (s : State) (f : Sys → Sys) : (s.modSys f).halos = s.halos := rfl
@[simp] theorem State.modSys_thr (s : State) (f : Sys → Sys) : (s.modSys f).thr = s.thr := rfl
@[simp] theorem State.modSys_cores (s : State) (f : Sys → Sys) : (s.modSys f).cores = s.cores := rfl
@[simp] theorem State.modSys_tars (s : State) (f : Sys → Sys) : (s.modSys f).tars = s.tars := rfl
@[simp] theorem State.modSys_qus (s : State) (f : Sys → Sys) : (s.modSys f).qus = s.qus := rfl
@[simp] theorem State.modSys_adapt (s : State) (f : Sys → Sys) : (s.modSys f).adapt = s.adapt := rfl
@[simp] theorem State.modSys_thy (s : State) (f : Sys → Sys) : (s.modSys f).thy = s.thy := rfl
@[simp] theorem State.modSys_cab (s : State) (f : Sys → Sys) : (s.modSys f).cab = s.cab := rfl
@[simp] theorem State.modSys_veh (s : State) (f : Sys → Sys) : (s.modSys f).veh = s.veh := rfl
@[simp] theorem State.modSys_enc (s : State) (f : Sys → Sys) : (s.modSys f).enc = s.enc := rfl
@[simp] theorem State.modSys_cam (s : State) (f : Sys → Sys) : (s.modSys f).cam = s.cam := rfl
@[simp] theorem State.modSys_tram (s : State) (f : Sys → Sys) : (s.modSys f).tram = s.tram := rfl
@[simp] theorem State.modSys_pkgs (s : State) (f : Sys → Sys) : (s.modSys f).pkgs = s.pkgs := rfl
@[simp] theorem State.modSys_sage (s : State) (f : Sys → Sys) : (s.modSys f).sage = s.sage := rfl
@[simp] theorem State.modSys_bay (s : State) (f : Sys → Sys) : (s.modSys f).bay = s.bay := rfl
@[simp] theorem State.modSys_hld (s : State) (f : Sys → Sys) : (s.modSys f).hld = s.hld := rfl
@[simp] theorem State.modSys_ctl (s : State) (f : Sys → Sys) : (s.modSys f).ctl = s.ctl := rfl
@[simp] theorem State.modSys_sys (s : State) (f : Sys → Sys) : (s.modSys f).sys = f s.sys := rfl

@[simp] theorem State.setFlashByte_pending (s : State) (a : Nat) (b : Byte) : (s.setFlashByte a b).pending = s.pending := rfl
@[simp] theorem State.setFlashByte_now (s : State) (a : Nat) (b : Byte) : (s.setFlashByte a b).now = s.now := rfl
@[simp] theorem State.setFlashByte_bus (s : State) (a : Nat) (b : Byte) : (s.setFlashByte a b).bus = s.bus := rfl
@[simp] theorem State.setFlashByte_freeCtr (s : State) (a : Nat) (b : Byte) : (s.setFlashByte a b).freeCtr = s.freeCtr := rfl
@[simp] theorem State.setFlashByte_log (s : State) (a : Nat) (b : Byte) : (s.setFlashByte a b).log = s.log := rfl
@[simp] theorem State.setFlashByte_regs (s : State) (a : Nat) (b : Byte) : (s.setFlashByte a b).regs = s.regs := rfl
@[simp] theorem State.setFlashByte_mem (s : State) (a : Nat) (b : Byte) : (s.setFlashByte a b).mem = s.mem := rfl
@[simp] theorem State.setFlashByte_clk (s : State) (a : Nat) (b : Byte) : (s.setFlashByte a b).clk = s.clk := rfl
@[simp] theorem State.setFlashByte_pwr (s : State) (a : Nat) (b : Byte) : (s.setFlashByte a b).pwr = s.pwr := rfl
@[simp] theorem State.setFlashByte_fab (s : State) (a : Nat) (b : Byte) : (s.setFlashByte a b).fab = s.fab := rfl
@[simp] theorem State.setFlashByte_memb (s : State) (a : Nat) (b : Byte) : (s.setFlashByte a b).memb = s.memb := rfl
@[simp] theorem State.setFlashByte_dmas (s : State) (a : Nat) (b : Byte) : (s.setFlashByte a b).dmas = s.dmas := rfl
@[simp] theorem State.setFlashByte_halos (s : State) (a : Nat) (b : Byte) : (s.setFlashByte a b).halos = s.halos := rfl
@[simp] theorem State.setFlashByte_thr (s : State) (a : Nat) (b : Byte) : (s.setFlashByte a b).thr = s.thr := rfl
@[simp] theorem State.setFlashByte_cores (s : State) (a : Nat) (b : Byte) : (s.setFlashByte a b).cores = s.cores := rfl
@[simp] theorem State.setFlashByte_tars (s : State) (a : Nat) (b : Byte) : (s.setFlashByte a b).tars = s.tars := rfl
@[simp] theorem State.setFlashByte_qus (s : State) (a : Nat) (b : Byte) : (s.setFlashByte a b).qus = s.qus := rfl
@[simp] theorem State.setFlashByte_adapt (s : State) (a : Nat) (b : Byte) : (s.setFlashByte a b).adapt = s.adapt := rfl
@[simp] theorem State.setFlashByte_thy (s : State) (a : Nat) (b : Byte) : (s.setFlashByte a b).thy = s.thy := rfl
@[simp] theorem State.setFlashByte_cab (s : State) (a : Nat) (b : Byte) : (s.setFlashByte a b).cab = s.cab := rfl
@[simp] theorem State.setFlashByte_veh (s : State) (a : Nat) (b : Byte) : (s.setFlashByte a b).veh = s.veh := rfl
@[simp] theorem State.setFlashByte_enc (s : State) (a : Nat) (b : Byte) : (s.setFlashByte a b).enc = s.enc := rfl
@[simp] theorem State.setFlashByte_cam (s : State) (a : Nat) (b : Byte) : (s.setFlashByte a b).cam = s.cam := rfl
@[simp] theorem State.setFlashByte_tram (s : State) (a : Nat) (b : Byte) : (s.setFlashByte a b).tram = s.tram := rfl
@[simp] theorem State.setFlashByte_pkgs (s : State) (a : Nat) (b : Byte) : (s.setFlashByte a b).pkgs = s.pkgs := rfl
@[simp] theorem State.setFlashByte_sage (s : State) (a : Nat) (b : Byte) : (s.setFlashByte a b).sage = s.sage := rfl
@[simp] theorem State.setFlashByte_bay (s : State) (a : Nat) (b : Byte) : (s.setFlashByte a b).bay = s.bay := rfl
@[simp] theorem State.setFlashByte_hld (s : State) (a : Nat) (b : Byte) : (s.setFlashByte a b).hld = s.hld := rfl
@[simp] theorem State.setFlashByte_ctl (s : State) (a : Nat) (b : Byte) : (s.setFlashByte a b).ctl = s.ctl := rfl

@[simp] theorem State.modHld_pending (s : State) (f : Hld → Hld) : (s.modHld f).pending = s.pending := rfl
@[simp] theorem State.modHld_now (s : State) (f : Hld → Hld) : (s.modHld f).now = s.now := rfl
@[simp] theorem State.modHld_bus (s : State) (f : Hld → Hld) : (s.modHld f).bus = s.bus := rfl
@[simp] theorem State.modHld_freeCtr (s : State) (f : Hld → Hld) : (s.modHld f).freeCtr = s.freeCtr := rfl
@[simp] theorem State.modHld_log (s : State) (f : Hld → Hld) : (s.modHld f).log = s.log := rfl
@[simp] theorem State.modHld_regs (s : State) (f : Hld → Hld) : (s.modHld f).regs = s.regs := rfl
@[simp] theorem State.modHld_mem (s : State) (f : Hld → Hld) : (s.modHld f).mem = s.mem := rfl
@[simp] theorem State.modHld_clk (s : State) (f : Hld → Hld) : (s.modHld f).clk = s.clk := rfl
@[simp] theorem State.modHld_pwr (s : State) (f : Hld → Hld) : (s.modHld f).pwr = s.pwr := rfl
@[simp] theorem State.modHld_fab (s : State) (f : Hld → Hld) : (s.modHld f).fab = s.fab := rfl
@[simp] theorem State.modHld_memb (s : State) (f : Hld → Hld) : (s.modHld f).memb = s.memb := rfl
@[simp] theorem State.modHld_dmas (s : State) (f : Hld → Hld) : (s.modHld f).dmas = s.dmas := rfl
@[simp] theorem State.modHld_halos (s : State) (f : Hld → Hld) : (s.modHld f).halos = s.halos := rfl
@[simp] theorem State.modHld_thr (s : State) (f : Hld → Hld) : (s.modHld f).thr = s.thr := rfl
@[simp] theorem State.modHld_cores (s : State) (f : Hld → Hld) : (s.modHld f).cores = s.cores := rfl
@[simp] theorem State.modHld_tars (s : State) (f : Hld → Hld) : (s.modHld f).tars = s.tars := rfl
@[simp] theorem State.modHld_qus (s : State) (f : Hld → Hld) : (s.modHld f).qus = s.qus := rfl
@[simp] theorem State.modHld_adapt (s : State) (f : Hld → Hld) : (s.modHld f).adapt = s.adapt := rfl
@[simp] theorem State.modHld_thy (s : State) (f : Hld → Hld) : (s.modHld f).thy = s.thy := rfl
@[simp] theorem State.modHld_cab (s : State) (f : Hld → Hld) : (s.modHld f).cab = s.cab := rfl
@[simp] theorem State.modHld_veh (s : State) (f : Hld → Hld) : (s.modHld f).veh = s.veh := rfl
@[simp] theorem State.modHld_enc (s : State) (f : Hld → Hld) : (s.modHld f).enc = s.enc := rfl
@[simp] theorem State.modHld_cam (s : State) (f : Hld → Hld) : (s.modHld f).cam = s.cam := rfl
@[simp] theorem State.modHld_tram (s : State) (f : Hld → Hld) : (s.modHld f).tram = s.tram := rfl
@[simp] theorem State.modHld_pkgs (s : State) (f : Hld → Hld) : (s.modHld f).pkgs = s.pkgs := rfl
@[simp] theorem State.modHld_sage (s : State) (f : Hld → Hld) : (s.modHld f).sage = s.sage := rfl
@[simp] theorem State.modHld_bay (s : State) (f : Hld → Hld) : (s.modHld f).bay = s.bay := rfl
@[simp] theorem State.modHld_sys (s : State) (f : Hld → Hld) : (s.modHld f).sys = s.sys := rfl
@[simp] theorem State.modHld_ctl (s : State) (f : Hld → Hld) : (s.modHld f).ctl = s.ctl := rfl
@[simp] theorem State.modHld_hld (s : State) (f : Hld → Hld) : (s.modHld f).hld = f s.hld := rfl

@[simp] theorem State.setSave_pending (s : State) (k : Nat) (x : Save) : (s.setSave k x).pending = s.pending := rfl
@[simp] theorem State.setSave_now (s : State) (k : Nat) (x : Save) : (s.setSave k x).now = s.now := rfl
@[simp] theorem State.setSave_bus (s : State) (k : Nat) (x : Save) : (s.setSave k x).bus = s.bus := rfl
@[simp] theorem State.setSave_freeCtr (s : State) (k : Nat) (x : Save) : (s.setSave k x).freeCtr = s.freeCtr := rfl
@[simp] theorem State.setSave_log (s : State) (k : Nat) (x : Save) : (s.setSave k x).log = s.log := rfl
@[simp] theorem State.setSave_regs (s : State) (k : Nat) (x : Save) : (s.setSave k x).regs = s.regs := rfl
@[simp] theorem State.setSave_mem (s : State) (k : Nat) (x : Save) : (s.setSave k x).mem = s.mem := rfl
@[simp] theorem State.setSave_clk (s : State) (k : Nat) (x : Save) : (s.setSave k x).clk = s.clk := rfl
@[simp] theorem State.setSave_pwr (s : State) (k : Nat) (x : Save) : (s.setSave k x).pwr = s.pwr := rfl
@[simp] theorem State.setSave_fab (s : State) (k : Nat) (x : Save) : (s.setSave k x).fab = s.fab := rfl
@[simp] theorem State.setSave_memb (s : State) (k : Nat) (x : Save) : (s.setSave k x).memb = s.memb := rfl
@[simp] theorem State.setSave_dmas (s : State) (k : Nat) (x : Save) : (s.setSave k x).dmas = s.dmas := rfl
@[simp] theorem State.setSave_halos (s : State) (k : Nat) (x : Save) : (s.setSave k x).halos = s.halos := rfl
@[simp] theorem State.setSave_thr (s : State) (k : Nat) (x : Save) : (s.setSave k x).thr = s.thr := rfl
@[simp] theorem State.setSave_cores (s : State) (k : Nat) (x : Save) : (s.setSave k x).cores = s.cores := rfl
@[simp] theorem State.setSave_tars (s : State) (k : Nat) (x : Save) : (s.setSave k x).tars = s.tars := rfl
@[simp] theorem State.setSave_qus (s : State) (k : Nat) (x : Save) : (s.setSave k x).qus = s.qus := rfl
@[simp] theorem State.setSave_adapt (s : State) (k : Nat) (x : Save) : (s.setSave k x).adapt = s.adapt := rfl
@[simp] theorem State.setSave_thy (s : State) (k : Nat) (x : Save) : (s.setSave k x).thy = s.thy := rfl
@[simp] theorem State.setSave_cab (s : State) (k : Nat) (x : Save) : (s.setSave k x).cab = s.cab := rfl
@[simp] theorem State.setSave_veh (s : State) (k : Nat) (x : Save) : (s.setSave k x).veh = s.veh := rfl
@[simp] theorem State.setSave_enc (s : State) (k : Nat) (x : Save) : (s.setSave k x).enc = s.enc := rfl
@[simp] theorem State.setSave_cam (s : State) (k : Nat) (x : Save) : (s.setSave k x).cam = s.cam := rfl
@[simp] theorem State.setSave_tram (s : State) (k : Nat) (x : Save) : (s.setSave k x).tram = s.tram := rfl
@[simp] theorem State.setSave_pkgs (s : State) (k : Nat) (x : Save) : (s.setSave k x).pkgs = s.pkgs := rfl
@[simp] theorem State.setSave_sage (s : State) (k : Nat) (x : Save) : (s.setSave k x).sage = s.sage := rfl
@[simp] theorem State.setSave_bay (s : State) (k : Nat) (x : Save) : (s.setSave k x).bay = s.bay := rfl
@[simp] theorem State.setSave_sys (s : State) (k : Nat) (x : Save) : (s.setSave k x).sys = s.sys := rfl
@[simp] theorem State.setSave_ctl (s : State) (k : Nat) (x : Save) : (s.setSave k x).ctl = s.ctl := rfl

@[simp] theorem State.modSage_pending (s : State) (f : Sage → Sage) : (s.modSage f).pending = s.pending := rfl
@[simp] theorem State.modSage_now (s : State) (f : Sage → Sage) : (s.modSage f).now = s.now := rfl
@[simp] theorem State.modSage_bus (s : State) (f : Sage → Sage) : (s.modSage f).bus = s.bus := rfl
@[simp] theorem State.modSage_freeCtr (s : State) (f : Sage → Sage) : (s.modSage f).freeCtr = s.freeCtr := rfl
@[simp] theorem State.modSage_log (s : State) (f : Sage → Sage) : (s.modSage f).log = s.log := rfl
@[simp] theorem State.modSage_regs (s : State) (f : Sage → Sage) : (s.modSage f).regs = s.regs := rfl
@[simp] theorem State.modSage_mem (s : State) (f : Sage → Sage) : (s.modSage f).mem = s.mem := rfl
@[simp] theorem State.modSage_clk (s : State) (f : Sage → Sage) : (s.modSage f).clk = s.clk := rfl
@[simp] theorem State.modSage_pwr (s : State) (f : Sage → Sage) : (s.modSage f).pwr = s.pwr := rfl
@[simp] theorem State.modSage_fab (s : State) (f : Sage → Sage) : (s.modSage f).fab = s.fab := rfl
@[simp] theorem State.modSage_memb (s : State) (f : Sage → Sage) : (s.modSage f).memb = s.memb := rfl
@[simp] theorem State.modSage_dmas (s : State) (f : Sage → Sage) : (s.modSage f).dmas = s.dmas := rfl
@[simp] theorem State.modSage_halos (s : State) (f : Sage → Sage) : (s.modSage f).halos = s.halos := rfl
@[simp] theorem State.modSage_thr (s : State) (f : Sage → Sage) : (s.modSage f).thr = s.thr := rfl
@[simp] theorem State.modSage_cores (s : State) (f : Sage → Sage) : (s.modSage f).cores = s.cores := rfl
@[simp] theorem State.modSage_tars (s : State) (f : Sage → Sage) : (s.modSage f).tars = s.tars := rfl
@[simp] theorem State.modSage_qus (s : State) (f : Sage → Sage) : (s.modSage f).qus = s.qus := rfl
@[simp] theorem State.modSage_adapt (s : State) (f : Sage → Sage) : (s.modSage f).adapt = s.adapt := rfl
@[simp] theorem State.modSage_thy (s : State) (f : Sage → Sage) : (s.modSage f).thy = s.thy := rfl
@[simp] theorem State.modSage_cab (s : State) (f : Sage → Sage) : (s.modSage f).cab = s.cab := rfl
@[simp] theorem State.modSage_veh (s : State) (f : Sage → Sage) : (s.modSage f).veh = s.veh := rfl
@[simp] theorem State.modSage_enc (s : State) (f : Sage → Sage) : (s.modSage f).enc = s.enc := rfl
@[simp] theorem State.modSage_cam (s : State) (f : Sage → Sage) : (s.modSage f).cam = s.cam := rfl
@[simp] theorem State.modSage_tram (s : State) (f : Sage → Sage) : (s.modSage f).tram = s.tram := rfl
@[simp] theorem State.modSage_pkgs (s : State) (f : Sage → Sage) : (s.modSage f).pkgs = s.pkgs := rfl
@[simp] theorem State.modSage_bay (s : State) (f : Sage → Sage) : (s.modSage f).bay = s.bay := rfl
@[simp] theorem State.modSage_hld (s : State) (f : Sage → Sage) : (s.modSage f).hld = s.hld := rfl
@[simp] theorem State.modSage_sys (s : State) (f : Sage → Sage) : (s.modSage f).sys = s.sys := rfl
@[simp] theorem State.modSage_ctl (s : State) (f : Sage → Sage) : (s.modSage f).ctl = s.ctl := rfl
@[simp] theorem State.modSage_sage (s : State) (f : Sage → Sage) : (s.modSage f).sage = f s.sage := rfl

@[simp] theorem State.setCar_pending (s : State) (c : Nat) (x : CarView) : (s.setCar c x).pending = s.pending := rfl
@[simp] theorem State.setCar_now (s : State) (c : Nat) (x : CarView) : (s.setCar c x).now = s.now := rfl
@[simp] theorem State.setCar_bus (s : State) (c : Nat) (x : CarView) : (s.setCar c x).bus = s.bus := rfl
@[simp] theorem State.setCar_freeCtr (s : State) (c : Nat) (x : CarView) : (s.setCar c x).freeCtr = s.freeCtr := rfl
@[simp] theorem State.setCar_log (s : State) (c : Nat) (x : CarView) : (s.setCar c x).log = s.log := rfl
@[simp] theorem State.setCar_regs (s : State) (c : Nat) (x : CarView) : (s.setCar c x).regs = s.regs := rfl
@[simp] theorem State.setCar_mem (s : State) (c : Nat) (x : CarView) : (s.setCar c x).mem = s.mem := rfl
@[simp] theorem State.setCar_clk (s : State) (c : Nat) (x : CarView) : (s.setCar c x).clk = s.clk := rfl
@[simp] theorem State.setCar_pwr (s : State) (c : Nat) (x : CarView) : (s.setCar c x).pwr = s.pwr := rfl
@[simp] theorem State.setCar_fab (s : State) (c : Nat) (x : CarView) : (s.setCar c x).fab = s.fab := rfl
@[simp] theorem State.setCar_memb (s : State) (c : Nat) (x : CarView) : (s.setCar c x).memb = s.memb := rfl
@[simp] theorem State.setCar_dmas (s : State) (c : Nat) (x : CarView) : (s.setCar c x).dmas = s.dmas := rfl
@[simp] theorem State.setCar_halos (s : State) (c : Nat) (x : CarView) : (s.setCar c x).halos = s.halos := rfl
@[simp] theorem State.setCar_thr (s : State) (c : Nat) (x : CarView) : (s.setCar c x).thr = s.thr := rfl
@[simp] theorem State.setCar_cores (s : State) (c : Nat) (x : CarView) : (s.setCar c x).cores = s.cores := rfl
@[simp] theorem State.setCar_tars (s : State) (c : Nat) (x : CarView) : (s.setCar c x).tars = s.tars := rfl
@[simp] theorem State.setCar_qus (s : State) (c : Nat) (x : CarView) : (s.setCar c x).qus = s.qus := rfl
@[simp] theorem State.setCar_adapt (s : State) (c : Nat) (x : CarView) : (s.setCar c x).adapt = s.adapt := rfl
@[simp] theorem State.setCar_thy (s : State) (c : Nat) (x : CarView) : (s.setCar c x).thy = s.thy := rfl
@[simp] theorem State.setCar_cab (s : State) (c : Nat) (x : CarView) : (s.setCar c x).cab = s.cab := rfl
@[simp] theorem State.setCar_veh (s : State) (c : Nat) (x : CarView) : (s.setCar c x).veh = s.veh := rfl
@[simp] theorem State.setCar_enc (s : State) (c : Nat) (x : CarView) : (s.setCar c x).enc = s.enc := rfl
@[simp] theorem State.setCar_cam (s : State) (c : Nat) (x : CarView) : (s.setCar c x).cam = s.cam := rfl
@[simp] theorem State.setCar_tram (s : State) (c : Nat) (x : CarView) : (s.setCar c x).tram = s.tram := rfl
@[simp] theorem State.setCar_pkgs (s : State) (c : Nat) (x : CarView) : (s.setCar c x).pkgs = s.pkgs := rfl
@[simp] theorem State.setCar_bay (s : State) (c : Nat) (x : CarView) : (s.setCar c x).bay = s.bay := rfl
@[simp] theorem State.setCar_hld (s : State) (c : Nat) (x : CarView) : (s.setCar c x).hld = s.hld := rfl
@[simp] theorem State.setCar_sys (s : State) (c : Nat) (x : CarView) : (s.setCar c x).sys = s.sys := rfl
@[simp] theorem State.setCar_ctl (s : State) (c : Nat) (x : CarView) : (s.setCar c x).ctl = s.ctl := rfl

@[simp] theorem State.modThy_pending (s : State) (f : Thyme → Thyme) : (s.modThy f).pending = s.pending := rfl
@[simp] theorem State.modThy_now (s : State) (f : Thyme → Thyme) : (s.modThy f).now = s.now := rfl
@[simp] theorem State.modThy_bus (s : State) (f : Thyme → Thyme) : (s.modThy f).bus = s.bus := rfl
@[simp] theorem State.modThy_freeCtr (s : State) (f : Thyme → Thyme) : (s.modThy f).freeCtr = s.freeCtr := rfl
@[simp] theorem State.modThy_log (s : State) (f : Thyme → Thyme) : (s.modThy f).log = s.log := rfl
@[simp] theorem State.modThy_regs (s : State) (f : Thyme → Thyme) : (s.modThy f).regs = s.regs := rfl
@[simp] theorem State.modThy_mem (s : State) (f : Thyme → Thyme) : (s.modThy f).mem = s.mem := rfl
@[simp] theorem State.modThy_clk (s : State) (f : Thyme → Thyme) : (s.modThy f).clk = s.clk := rfl
@[simp] theorem State.modThy_pwr (s : State) (f : Thyme → Thyme) : (s.modThy f).pwr = s.pwr := rfl
@[simp] theorem State.modThy_fab (s : State) (f : Thyme → Thyme) : (s.modThy f).fab = s.fab := rfl
@[simp] theorem State.modThy_memb (s : State) (f : Thyme → Thyme) : (s.modThy f).memb = s.memb := rfl
@[simp] theorem State.modThy_dmas (s : State) (f : Thyme → Thyme) : (s.modThy f).dmas = s.dmas := rfl
@[simp] theorem State.modThy_halos (s : State) (f : Thyme → Thyme) : (s.modThy f).halos = s.halos := rfl
@[simp] theorem State.modThy_thr (s : State) (f : Thyme → Thyme) : (s.modThy f).thr = s.thr := rfl
@[simp] theorem State.modThy_cores (s : State) (f : Thyme → Thyme) : (s.modThy f).cores = s.cores := rfl
@[simp] theorem State.modThy_tars (s : State) (f : Thyme → Thyme) : (s.modThy f).tars = s.tars := rfl
@[simp] theorem State.modThy_qus (s : State) (f : Thyme → Thyme) : (s.modThy f).qus = s.qus := rfl
@[simp] theorem State.modThy_adapt (s : State) (f : Thyme → Thyme) : (s.modThy f).adapt = s.adapt := rfl
@[simp] theorem State.modThy_cab (s : State) (f : Thyme → Thyme) : (s.modThy f).cab = s.cab := rfl
@[simp] theorem State.modThy_veh (s : State) (f : Thyme → Thyme) : (s.modThy f).veh = s.veh := rfl
@[simp] theorem State.modThy_enc (s : State) (f : Thyme → Thyme) : (s.modThy f).enc = s.enc := rfl
@[simp] theorem State.modThy_cam (s : State) (f : Thyme → Thyme) : (s.modThy f).cam = s.cam := rfl
@[simp] theorem State.modThy_tram (s : State) (f : Thyme → Thyme) : (s.modThy f).tram = s.tram := rfl
@[simp] theorem State.modThy_pkgs (s : State) (f : Thyme → Thyme) : (s.modThy f).pkgs = s.pkgs := rfl
@[simp] theorem State.modThy_sage (s : State) (f : Thyme → Thyme) : (s.modThy f).sage = s.sage := rfl
@[simp] theorem State.modThy_bay (s : State) (f : Thyme → Thyme) : (s.modThy f).bay = s.bay := rfl
@[simp] theorem State.modThy_hld (s : State) (f : Thyme → Thyme) : (s.modThy f).hld = s.hld := rfl
@[simp] theorem State.modThy_sys (s : State) (f : Thyme → Thyme) : (s.modThy f).sys = s.sys := rfl
@[simp] theorem State.modThy_ctl (s : State) (f : Thyme → Thyme) : (s.modThy f).ctl = s.ctl := rfl
@[simp] theorem State.modThy_thy (s : State) (f : Thyme → Thyme) : (s.modThy f).thy = f s.thy := rfl

@[simp] theorem State.modVeh_pending (s : State) (f : Veh → Veh) : (s.modVeh f).pending = s.pending := rfl
@[simp] theorem State.modVeh_now (s : State) (f : Veh → Veh) : (s.modVeh f).now = s.now := rfl
@[simp] theorem State.modVeh_bus (s : State) (f : Veh → Veh) : (s.modVeh f).bus = s.bus := rfl
@[simp] theorem State.modVeh_freeCtr (s : State) (f : Veh → Veh) : (s.modVeh f).freeCtr = s.freeCtr := rfl
@[simp] theorem State.modVeh_log (s : State) (f : Veh → Veh) : (s.modVeh f).log = s.log := rfl
@[simp] theorem State.modVeh_regs (s : State) (f : Veh → Veh) : (s.modVeh f).regs = s.regs := rfl
@[simp] theorem State.modVeh_mem (s : State) (f : Veh → Veh) : (s.modVeh f).mem = s.mem := rfl
@[simp] theorem State.modVeh_clk (s : State) (f : Veh → Veh) : (s.modVeh f).clk = s.clk := rfl
@[simp] theorem State.modVeh_pwr (s : State) (f : Veh → Veh) : (s.modVeh f).pwr = s.pwr := rfl
@[simp] theorem State.modVeh_fab (s : State) (f : Veh → Veh) : (s.modVeh f).fab = s.fab := rfl
@[simp] theorem State.modVeh_memb (s : State) (f : Veh → Veh) : (s.modVeh f).memb = s.memb := rfl
@[simp] theorem State.modVeh_dmas (s : State) (f : Veh → Veh) : (s.modVeh f).dmas = s.dmas := rfl
@[simp] theorem State.modVeh_halos (s : State) (f : Veh → Veh) : (s.modVeh f).halos = s.halos := rfl
@[simp] theorem State.modVeh_thr (s : State) (f : Veh → Veh) : (s.modVeh f).thr = s.thr := rfl
@[simp] theorem State.modVeh_cores (s : State) (f : Veh → Veh) : (s.modVeh f).cores = s.cores := rfl
@[simp] theorem State.modVeh_tars (s : State) (f : Veh → Veh) : (s.modVeh f).tars = s.tars := rfl
@[simp] theorem State.modVeh_qus (s : State) (f : Veh → Veh) : (s.modVeh f).qus = s.qus := rfl
@[simp] theorem State.modVeh_adapt (s : State) (f : Veh → Veh) : (s.modVeh f).adapt = s.adapt := rfl
@[simp] theorem State.modVeh_thy (s : State) (f : Veh → Veh) : (s.modVeh f).thy = s.thy := rfl
@[simp] theorem State.modVeh_cab (s : State) (f : Veh → Veh) : (s.modVeh f).cab = s.cab := rfl
@[simp] theorem State.modVeh_enc (s : State) (f : Veh → Veh) : (s.modVeh f).enc = s.enc := rfl
@[simp] theorem State.modVeh_cam (s : State) (f : Veh → Veh) : (s.modVeh f).cam = s.cam := rfl
@[simp] theorem State.modVeh_tram (s : State) (f : Veh → Veh) : (s.modVeh f).tram = s.tram := rfl
@[simp] theorem State.modVeh_pkgs (s : State) (f : Veh → Veh) : (s.modVeh f).pkgs = s.pkgs := rfl
@[simp] theorem State.modVeh_sage (s : State) (f : Veh → Veh) : (s.modVeh f).sage = s.sage := rfl
@[simp] theorem State.modVeh_bay (s : State) (f : Veh → Veh) : (s.modVeh f).bay = s.bay := rfl
@[simp] theorem State.modVeh_hld (s : State) (f : Veh → Veh) : (s.modVeh f).hld = s.hld := rfl
@[simp] theorem State.modVeh_sys (s : State) (f : Veh → Veh) : (s.modVeh f).sys = s.sys := rfl
@[simp] theorem State.modVeh_ctl (s : State) (f : Veh → Veh) : (s.modVeh f).ctl = s.ctl := rfl
@[simp] theorem State.modVeh_veh (s : State) (f : Veh → Veh) : (s.modVeh f).veh = f s.veh := rfl

@[simp] theorem State.modTram_pending (s : State) (f : Tram → Tram) : (s.modTram f).pending = s.pending := rfl
@[simp] theorem State.modTram_now (s : State) (f : Tram → Tram) : (s.modTram f).now = s.now := rfl
@[simp] theorem State.modTram_bus (s : State) (f : Tram → Tram) : (s.modTram f).bus = s.bus := rfl
@[simp] theorem State.modTram_freeCtr (s : State) (f : Tram → Tram) : (s.modTram f).freeCtr = s.freeCtr := rfl
@[simp] theorem State.modTram_log (s : State) (f : Tram → Tram) : (s.modTram f).log = s.log := rfl
@[simp] theorem State.modTram_regs (s : State) (f : Tram → Tram) : (s.modTram f).regs = s.regs := rfl
@[simp] theorem State.modTram_mem (s : State) (f : Tram → Tram) : (s.modTram f).mem = s.mem := rfl
@[simp] theorem State.modTram_clk (s : State) (f : Tram → Tram) : (s.modTram f).clk = s.clk := rfl
@[simp] theorem State.modTram_pwr (s : State) (f : Tram → Tram) : (s.modTram f).pwr = s.pwr := rfl
@[simp] theorem State.modTram_fab (s : State) (f : Tram → Tram) : (s.modTram f).fab = s.fab := rfl
@[simp] theorem State.modTram_memb (s : State) (f : Tram → Tram) : (s.modTram f).memb = s.memb := rfl
@[simp] theorem State.modTram_dmas (s : State) (f : Tram → Tram) : (s.modTram f).dmas = s.dmas := rfl
@[simp] theorem State.modTram_halos (s : State) (f : Tram → Tram) : (s.modTram f).halos = s.halos := rfl
@[simp] theorem State.modTram_thr (s : State) (f : Tram → Tram) : (s.modTram f).thr = s.thr := rfl
@[simp] theorem State.modTram_cores (s : State) (f : Tram → Tram) : (s.modTram f).cores = s.cores := rfl
@[simp] theorem State.modTram_tars (s : State) (f : Tram → Tram) : (s.modTram f).tars = s.tars := rfl
@[simp] theorem State.modTram_qus (s : State) (f : Tram → Tram) : (s.modTram f).qus = s.qus := rfl
@[simp] theorem State.modTram_adapt (s : State) (f : Tram → Tram) : (s.modTram f).adapt = s.adapt := rfl
@[simp] theorem State.modTram_thy (s : State) (f : Tram → Tram) : (s.modTram f).thy = s.thy := rfl
@[simp] theorem State.modTram_cab (s : State) (f : Tram → Tram) : (s.modTram f).cab = s.cab := rfl
@[simp] theorem State.modTram_veh (s : State) (f : Tram → Tram) : (s.modTram f).veh = s.veh := rfl
@[simp] theorem State.modTram_enc (s : State) (f : Tram → Tram) : (s.modTram f).enc = s.enc := rfl
@[simp] theorem State.modTram_cam (s : State) (f : Tram → Tram) : (s.modTram f).cam = s.cam := rfl
@[simp] theorem State.modTram_pkgs (s : State) (f : Tram → Tram) : (s.modTram f).pkgs = s.pkgs := rfl
@[simp] theorem State.modTram_sage (s : State) (f : Tram → Tram) : (s.modTram f).sage = s.sage := rfl
@[simp] theorem State.modTram_bay (s : State) (f : Tram → Tram) : (s.modTram f).bay = s.bay := rfl
@[simp] theorem State.modTram_hld (s : State) (f : Tram → Tram) : (s.modTram f).hld = s.hld := rfl
@[simp] theorem State.modTram_sys (s : State) (f : Tram → Tram) : (s.modTram f).sys = s.sys := rfl
@[simp] theorem State.modTram_ctl (s : State) (f : Tram → Tram) : (s.modTram f).ctl = s.ctl := rfl
@[simp] theorem State.modTram_tram (s : State) (f : Tram → Tram) : (s.modTram f).tram = f s.tram := rfl

@[simp] theorem State.modWindows_pending (s : State) (p : Window → Bool) (f : Window → Window) : (s.modWindows p f).pending = s.pending := rfl
@[simp] theorem State.modWindows_now (s : State) (p : Window → Bool) (f : Window → Window) : (s.modWindows p f).now = s.now := rfl
@[simp] theorem State.modWindows_bus (s : State) (p : Window → Bool) (f : Window → Window) : (s.modWindows p f).bus = s.bus := rfl
@[simp] theorem State.modWindows_freeCtr (s : State) (p : Window → Bool) (f : Window → Window) : (s.modWindows p f).freeCtr = s.freeCtr := rfl
@[simp] theorem State.modWindows_log (s : State) (p : Window → Bool) (f : Window → Window) : (s.modWindows p f).log = s.log := rfl
@[simp] theorem State.modWindows_regs (s : State) (p : Window → Bool) (f : Window → Window) : (s.modWindows p f).regs = s.regs := rfl
@[simp] theorem State.modWindows_mem (s : State) (p : Window → Bool) (f : Window → Window) : (s.modWindows p f).mem = s.mem := rfl
@[simp] theorem State.modWindows_clk (s : State) (p : Window → Bool) (f : Window → Window) : (s.modWindows p f).clk = s.clk := rfl
@[simp] theorem State.modWindows_pwr (s : State) (p : Window → Bool) (f : Window → Window) : (s.modWindows p f).pwr = s.pwr := rfl
@[simp] theorem State.modWindows_fab (s : State) (p : Window → Bool) (f : Window → Window) : (s.modWindows p f).fab = s.fab := rfl
@[simp] theorem State.modWindows_memb (s : State) (p : Window → Bool) (f : Window → Window) : (s.modWindows p f).memb = s.memb := rfl
@[simp] theorem State.modWindows_dmas (s : State) (p : Window → Bool) (f : Window → Window) : (s.modWindows p f).dmas = s.dmas := rfl
@[simp] theorem State.modWindows_halos (s : State) (p : Window → Bool) (f : Window → Window) : (s.modWindows p f).halos = s.halos := rfl
@[simp] theorem State.modWindows_thr (s : State) (p : Window → Bool) (f : Window → Window) : (s.modWindows p f).thr = s.thr := rfl
@[simp] theorem State.modWindows_cores (s : State) (p : Window → Bool) (f : Window → Window) : (s.modWindows p f).cores = s.cores := rfl
@[simp] theorem State.modWindows_tars (s : State) (p : Window → Bool) (f : Window → Window) : (s.modWindows p f).tars = s.tars := rfl
@[simp] theorem State.modWindows_qus (s : State) (p : Window → Bool) (f : Window → Window) : (s.modWindows p f).qus = s.qus := rfl
@[simp] theorem State.modWindows_adapt (s : State) (p : Window → Bool) (f : Window → Window) : (s.modWindows p f).adapt = s.adapt := rfl
@[simp] theorem State.modWindows_thy (s : State) (p : Window → Bool) (f : Window → Window) : (s.modWindows p f).thy = s.thy := rfl
@[simp] theorem State.modWindows_cab (s : State) (p : Window → Bool) (f : Window → Window) : (s.modWindows p f).cab = s.cab := rfl
@[simp] theorem State.modWindows_veh (s : State) (p : Window → Bool) (f : Window → Window) : (s.modWindows p f).veh = s.veh := rfl
@[simp] theorem State.modWindows_enc (s : State) (p : Window → Bool) (f : Window → Window) : (s.modWindows p f).enc = s.enc := rfl
@[simp] theorem State.modWindows_cam (s : State) (p : Window → Bool) (f : Window → Window) : (s.modWindows p f).cam = s.cam := rfl
@[simp] theorem State.modWindows_pkgs (s : State) (p : Window → Bool) (f : Window → Window) : (s.modWindows p f).pkgs = s.pkgs := rfl
@[simp] theorem State.modWindows_sage (s : State) (p : Window → Bool) (f : Window → Window) : (s.modWindows p f).sage = s.sage := rfl
@[simp] theorem State.modWindows_bay (s : State) (p : Window → Bool) (f : Window → Window) : (s.modWindows p f).bay = s.bay := rfl
@[simp] theorem State.modWindows_hld (s : State) (p : Window → Bool) (f : Window → Window) : (s.modWindows p f).hld = s.hld := rfl
@[simp] theorem State.modWindows_sys (s : State) (p : Window → Bool) (f : Window → Window) : (s.modWindows p f).sys = s.sys := rfl
@[simp] theorem State.modWindows_ctl (s : State) (p : Window → Bool) (f : Window → Window) : (s.modWindows p f).ctl = s.ctl := rfl

/-! ### What was set is read back -/

@[simp] theorem State.reg_setReg_same (s : State) (a : Nat) (v : Word) : (s.setReg a v).reg a = v := get_put_same regReset s.regs a v

theorem State.reg_setReg_other (s : State) (a b : Nat) (v : Word) (h : b ≠ a) : (s.setReg a v).reg b = s.reg b :=
  get_put_other regReset s.regs a b v h

@[simp] theorem State.setReg_setReg (s : State) (a : Nat) (v w : Word) : (s.setReg a v).setReg a w = s.setReg a w := by
  simp [State.setReg]

@[simp] theorem State.island_setIsland (s : State) (i : Nat) (x : Island) : (s.setIsland i x).island i = x :=
  get_put_same islandReset s.clk.islands i x

@[simp] theorem State.dom_setDom (s : State) (d : Nat) (x : Domain) : (s.setDom d x).dom d = x :=
  get_put_same domainReset s.pwr.domains d x

@[simp] theorem State.ccSet_setCcSet (s : State) (k : Nat) (x : CcSet) : (s.setCcSet k x).ccSet k = x :=
  get_put_same ccReset s.fab.cc k x

@[simp] theorem State.port_setPort (s : State) (k : Nat) (x : ItdPort) : (s.setPort k x).port k = x :=
  get_put_same portReset s.fab.ports k x

@[simp] theorem State.thread_setThread (s : State) (n t : Nat) (x : Thread) : (s.setThread n t x).thread n t = x :=
  get_put_same threadReset s.thr (4 * n + t) x

@[simp] theorem State.setThread_setThread (s : State) (n t : Nat) (x y : Thread) :
    (s.setThread n t x).setThread n t y = s.setThread n t y := by
  simp [State.setThread]

@[simp] theorem State.core_setCore (s : State) (n : Nat) (x : PxCore) : (s.setCore n x).core n = x :=
  get_put_same coreReset s.cores n x

@[simp] theorem State.tar_setTar (s : State) (c : Nat) (x : Tar) : (s.setTar c x).tar c = x :=
  get_put_same tarReset s.tars c x

@[simp] theorem State.qu_setQu (s : State) (c : Nat) (x : Qu) : (s.setQu c x).qu c = x :=
  get_put_same quReset s.qus c x

@[simp] theorem State.byte_setByte_same (s : State) (a : Nat) (b : Byte) : (s.setByte a b).byte a = b :=
  get_put_same memDefault s.mem a b

theorem State.byte_setByte_other (s : State) (a k : Nat) (b : Byte) (h : k ≠ a) : (s.setByte a b).byte k = s.byte k :=
  get_put_other memDefault s.mem a k b h

end Sys2Proof.Machine
end

