-- ==== Sys2Proof/Laws/Bundle.lean ====
section
/-! SUPPORT. What a bundle of one syllable does: one lemma per shape of a syllable, so that the meaning of an instruction is read off
its syllable. -/
namespace Sys2Proof.Machine

open Sys2Proof

/-! ### Writes of registers -/

/-- The thread th of core c after a register write. -/
def valThread (s : State) (c : Nat) (th : Thread) (w : RVal) : Thread :=
  match w with
  | .s i x => th.setS i x
  | .v i x => th.setV i x
  | .p i x => th.setP i x
  | .a i x => th.setA i x
  | .tcr n x =>
    let v := tcrValue s th n x
    let th := th.setTcr n v
    if n = TIMECMP then th.setTcr IP (setBit (th.tcrAt IP) 1 (decide (v.toNat ≤ s.now)))
    else if n = CCIRQ ∧ bit v 6 ∧ ccVal s c (fld v 5 0) = 0 then th.setTcr IP (setBit (th.tcrAt IP) 2 true)
    else th

theorem applyVal_eq (s : State) (c t : Nat) (w : RVal) : applyVal s c t w = s.setThread c t (valThread s c (s.thread c t) w) := by
  cases w <;> rfl

theorem valThread_setThread (s : State) (c t : Nat) (x th : Thread) (k : Nat) (w : RVal) :
    valThread (s.setThread c t x) k th w = valThread s k th w := by
  cases w <;> rfl

theorem each_applyVal (l : List RVal) (s : State) (c t : Nat) (x : Thread) :
    (s.setThread c t x).each l (fun s w => applyVal s c t w) = s.setThread c t (l.foldl (valThread s c) x) := by
  induction l generalizing x with
  | nil => rfl
  | cons w l ih =>
    have h : applyVal (s.setThread c t x) c t w = s.setThread c t (valThread s c x w) := by
      rw [applyVal_eq, valThread_setThread]
      simp
    show ((applyVal (s.setThread c t x) c t w).each l fun s w => applyVal s c t w) = _
    rw [h]
    exact ih _

/-! ### A bundle of one syllable -/

theorem legalRun_one (y : Syl) (hc : y.cls ≤ 5) (hd : y.dests.Nodup) (hr : y.resumable = true → y.cls ≠ 4) :
    legalRun [y] = true := by
  have hf (f : Syl → Bool) : ([y].filter f).length ≤ 1 := by
    cases h : f y <;> simp [h]
  have h0 := hf (fun y => decide (y.cls = 0))
  have h1 := hf (fun y => decide (y.cls = 1))
  have h2 := hf (fun y => decide (y.cls = 2) || decide (y.cls = 3))
  have h4 := hf (fun y => decide (y.cls = 4) || decide (y.cls = 5))
  have h5 := hf Syl.resumable
  unfold legalRun
  simp only [Bool.and_eq_true, decide_eq_true_eq, Bool.or_eq_true]
  refine ⟨⟨⟨⟨⟨⟨⟨⟨by omega, by omega⟩, by omega⟩, by omega⟩, by simpa using hc⟩, by simp⟩, by simpa using hd⟩, by omega⟩, ?_⟩
  cases h : y.resumable with
  | false => simp [h]
  | true => simp [h, hr h]

theorem illegalAt_one (y : Syl) (h : legalRun [y] = true) : illegalAt [y] = none := by
  simp [illegalAt, h, List.range_succ]

theorem sylFaults_one (y : Syl) (hf : y.faults = []) (hl : ∀ l c e, y.ctl = .loopSet l c e → 1 < e) : sylFaults [y] = [] := by
  have : (List.range 1).zip [y] = [(0, y)] := rfl
  unfold sylFaults
  simp only [List.length_singleton, this, List.flatMap_cons, List.flatMap_nil, hf, List.map_nil, List.nil_append, List.append_nil]
  split
  · rename_i l c e h
    have := hl l c e h
    simp; omega
  · rfl

theorem fetchFaults_setThread (s : State) (c t : Nat) (x : Thread) (b n : Nat) (h : x.monitor = (s.thread c t).monitor) :
    fetchFaults (s.setThread c t x) c t b n = fetchFaults s c t b n := by
  simp only [fetchFaults, State.thread_setThread, h]
  rfl

/-- The causes of a bundle of one well-formed syllable that makes no memory access. -/
theorem bundleFaults_one (s : State) (c t : Nat) (y : Syl) (hc : y.cls ≤ 5) (hd : y.dests.Nodup) (hr : y.resumable = true → y.cls ≠ 4)
    (hf : y.faults = []) (hl : ∀ l k e, y.ctl = .loopSet l k e → 1 < e) (hm : memFaults s c t y.mem = [])
    (hload : (s.thread c t).loads = []) (hx : fetchFaults s c t (s.thread c t).pc 1 = []) : bundleFaults s c t [y] = [] := by
  simp [bundleFaults, illegalAt_one y (legalRun_one y hc hd hr), sylFaults_one y hf hl, deferredFaults, hload, hm, hx]

theorem loopLevel_none (s : State) (c t n l : Nat) (d : Bool)
    (h : (s.thread c t).tcrAt (LC l) = 0 ∨ n ≠ ((s.thread c t).tcrAt (LE l)).toNat) : loopLevel s c t n d l = (s, n, d) := by
  unfold loopLevel
  apply if_neg
  simp only [Bool.and_eq_true, decide_eq_true_eq]
  rintro ⟨⟨-, a⟩, b⟩
  exact h.elim a (fun k => k b)

theorem loopNext_none (s : State) (c t n : Nat) (h : NoLoopEnd (s.thread c t) n) : loopNext s c t n = (s, n) := by
  simp only [loopNext, loopLevel_none s c t n 1 false (h 1), loopLevel_none s c t n 0 false (h 0)]

/-- What a bundle of a running thread that is not being stepped ends with: the thread goes on at the next word. -/
theorem finish_plain (s : State) (c t : Nat) (b : Nat) (y : Syl) (hb : (s.thread c t).bundle = [y]) (hpc : (s.thread c t).pc = b)
    (hk : y.ctl = .none) (hrun : (s.thread c t).st = .run) (ho : (s.thread c t).once = false)
    (hl : NoLoopEnd (s.thread c t) ((b + 4) % 2 ^ 48)) :
    finish s c t false = s.setThread c t { s.thread c t with pc := (b + 4) % 2 ^ 48, bundle := [], started := false, once := false } := by
  have hbc : bundleCtl [y] = .none := by simp [bundleCtl, hk]
  unfold finish
  simp only [hb, hbc, hpc, doControl, List.length_singleton]
  rw [loopNext_none _ _ _ _ hl]
  simp [State.when, hrun, ho]

/-- A bundle of one syllable without faults, waits or a resumable part takes effect and finishes. -/
theorem commit_runs (s : State) (c t : Nat) (y : Syl) (hb : (s.thread c t).bundle = [y]) (hr : y.res = .none)
    (hf : bundleFaults (s.setThread c t { s.thread c t with wait := .none }) c t [y] = [])
    (hh : holdsFor (s.setThread c t { s.thread c t with wait := .none }) c t [y] false = none) :
    commit s c t false
      = proceed (startBundle (s.setThread c t { s.thread c t with wait := .none }) c t false) c t (s.thread c t).stepping := by
  have hbr : bundleRes [y] = .none := by simp [bundleRes, Syl.resumable, hr]
  have hre : resumes (s.thread c t) = false := by simp [resumes, hb, hbr]
  unfold commit
  simp only [hb, hbr] at hf hh ⊢
  simp only [hf, hh, hre, firstElemFault, firstFabricLoad, lowestCause, List.isEmpty_nil, Option.isSome_none, Bool.not_true, Bool.or_false,
    Bool.false_and, Bool.false_eq_true, if_false, if_true, List.foldl_nil]

/-- Behind the other syllables of a bundle without a resumable one comes its completion. -/
theorem proceed_one (s : State) (c t : Nat) (y : Syl) (pre : Bool) (hb : (s.thread c t).bundle = [y]) (hr : y.res = .none) :
    proceed s c t pre = finish s c t pre := by
  have hbr : bundleRes [y] = .none := by simp [bundleRes, Syl.resumable, hr]
  unfold proceed
  simp only [hb, hbr]
  split <;> first | rfl | (rename_i h; cases h) | (rename_i h _; cases h)

/-- A bundle of one syllable without a resumable part: its access, unless that is an atomic under way, then its writes. -/
theorem doBundle_one (s : State) (c t : Nat) (y : Syl) (b : Bool) (hr : y.res = .none)
    (hw : ((doMem s c t y.mem b).1.thread c t).wait = .none) :
    doBundle s c t [y] b = (doMem s c t y.mem b).1.each (y.wr ++ (doMem s c t y.mem b).2) (fun s w => applyVal s c t w) := by
  have hv : y.isVm = false := by simp [Syl.isVm, hr]
  have h1 : memsLater [y] = [] := by simp [memsLater, hv]
  have h2 : memsBefore [y] = [y.mem] := by simp [memsBefore, h1, hv]
  have h3 : memsAfter [y] = [] := by simp [memsAfter, h1]
  unfold doBundle
  simp only [h2, h3, List.isEmpty_nil, Bool.not_true, State.when, Bool.false_eq_true, if_false, doMems, hw, List.append_nil,
    List.flatMap_cons, List.flatMap_nil]

theorem doBundle_plain (s : State) (c t : Nat) (y : Syl) (th : Thread) (hm : y.mem = .none) (hr : y.res = .none) (hw : th.wait = .none) :
    doBundle (s.setThread c t th) c t [y] false = s.setThread c t (y.wr.foldl (valThread s c) th) := by
  rw [doBundle_one _ _ _ _ _ hr (by simp [hm, doMem, hw]), hm]
  simp only [doMem, List.append_nil]
  rw [each_applyVal]

theorem startBundle_plain (s : State) (c t : Nat) (y : Syl) (th : Thread) (hb : th.bundle = [y]) (hm : y.mem = .none) (hr : y.res = .none)
    (hw : th.wait = .none) :
    startBundle (s.setThread c t th) c t false
      = (fillLines s c th.pc 1).setThread c t (y.wr.foldl (valThread s c) { th with bundles := satAdd 64 th.bundles 1, started := true }) := by
  have e : fillLines (s.setThread c t th) c th.pc 1 = (fillLines s c th.pc 1).setThread c t th := rfl
  unfold startBundle
  simp only [State.thread_setThread, hb, List.length_singleton, e, State.setThread_setThread]
  rw [doBundle_plain _ _ _ _ _ hm hr (by simpa using hw)]
  rfl

theorem loadGranules_none (s : State) (c : Nat) (y : Syl) (th : Thread) (hr : y.res = .none)
    (hp : ∀ d a n, y.mem = .load d a n → pathOf s c a ≠ .fabric) : loadGranules s c [y] th = [] := by
  cases hm : y.mem with
  | load d a n => simp [loadGranules, hr, hm, hp d a n hm]
  | _ => simp [loadGranules, hr, hm]

theorem storeFlits_none (s : State) (c : Nat) (y : Syl) (th : Thread) (hr : y.res = .none)
    (hp : ∀ a n v, y.mem = .store a n v → pathOf s c a ≠ .fabric) : storeFlits s c [y] th = 0 := by
  cases hm : y.mem with
  | store a n v => simp [storeFlits, hr, hm, hp a n v hm]
  | _ => simp [storeFlits, hr, hm]

/-- Nothing holds a bundle of one syllable whose access does not use the fabric and which waits for nothing. -/
theorem holdsFor_none (s : State) (c t : Nat) (y : Syl) (hr : y.res = .none) (hl : (s.thread c t).loads = [])
    (hp : ∀ d a n, y.mem = .load d a n → pathOf s c a ≠ .fabric) (hs : ∀ a n v, y.mem = .store a n v → pathOf s c a ≠ .fabric)
    (hq : y.mem = .fence → heldStores s c t = []) (hw : ∀ d cc n, y.mem = .ccwait d cc n → ccVal s c cc = 0)
    (hi : y.ctl = .wfi → (ipOf s (s.thread c t) &&& (s.thread c t).tcrAt IE) ≠ 0) : holdsFor s c t [y] false = none := by
  have hwl : (s.thread c t).waitingLoads = [] := by simp [Thread.waitingLoads, hl]
  have hg := loadGranules_none s c y (s.thread c t) hr hp
  have hb : queueBlocks s c t [y] = false := by
    simp only [queueBlocks, hg, storeFlits_none s c y (s.thread c t) hr hs]
    by_cases h : y.mem = .fence
    · simp [hq h]
    · simp [h]
  unfold holdsFor
  simp only [hg, hb, hwl]
  cases hm : y.mem with
  | ccwait d cc n => simpa [hm, hw d cc n hm] using hi
  | _ => simpa [hm] using hi

/-- A register-to-register syllable alone in its bundle: the thread's registers as it says, the next pc. -/
theorem commit_plain (s : State) (x : Px) (y : Syl) (f : Thread → Thread) (h : Ready s x) (hc : y.cls ≤ 5) (hd : y.dests.Nodup)
    (hf : y.faults = []) (hm : y.mem = .none) (hr : y.res = .none) (hk : y.ctl = .none)
    (hw : y.wr.foldl (valThread s x.core) { s.thread x.core x.thread with
        wait := .none, bundle := [y], bundles := satAdd 64 (s.thread x.core x.thread).bundles 1, started := true }
      = { f (s.thread x.core x.thread) with
        st := .run, pc := (s.thread x.core x.thread).pc, wait := .none, bundle := [y]
        bundles := satAdd 64 (s.thread x.core x.thread).bundles 1, started := true, once := false })
    (hp : (f (s.thread x.core x.thread)).st = .run ∧ (f (s.thread x.core x.thread)).wait = .none
      ∧ (f (s.thread x.core x.thread)).bundle = [] ∧ (f (s.thread x.core x.thread)).started = false
      ∧ (f (s.thread x.core x.thread)).once = false)
    (hl : NoLoopEnd (f (s.thread x.core x.thread)) (nextPc (s.thread x.core x.thread))) :
    commit (s.setThread x.core x.thread { s.thread x.core x.thread with bundle := [y] }) x.core x.thread false = bundleDone s x f := by
  rw [commit_runs _ _ _ y (by simp) hr]
  · simp only [State.thread_setThread, State.setThread_setThread]
    rw [startBundle_plain _ _ _ y _ rfl hm hr rfl, hw, proceed_one _ _ _ y _ (by simp) hr]
    have hs : Thread.stepping { s.thread x.core x.thread with bundle := [y] } = false := h.step
    rw [hs, finish_plain _ _ _ (s.thread x.core x.thread).pc y (by simp) (by simp) hk (by simp) (by simp)]
    · simp only [State.thread_setThread, State.setThread_setThread, bundleDone, bundleTo, nextPc]
      congr 1
      generalize f (s.thread x.core x.thread) = u at hp
      obtain ⟨h1, h2, h3, h4, h5⟩ := hp
      cases u
      simp_all
    · simpa [nextPc, NoLoopEnd, Thread.tcrAt] using hl
  · simp only [State.thread_setThread, State.setThread_setThread]
    apply bundleFaults_one _ _ _ _ hc hd (by simp [Syl.resumable, hr]) hf (by simp [hk]) (by simp [hm, memFaults])
    · simp [h.loads]
    · simp only [State.thread_setThread]
      exact (fetchFaults_setThread s _ _ _ _ _ (by rfl)).trans h.fetch
  · simp only [State.thread_setThread, State.setThread_setThread]
    exact holdsFor_none _ _ _ y hr (by simp [h.loads]) (by simp [hm]) (by simp [hm]) (by simp [hm]) (by simp [hm]) (by simp [hk])

/-- A write of a scalar, vector, predicate or accumulator register. -/
def RVal.plain (w : RVal) : Bool :=
  match w with
  | .tcr _ _ => false
  | _ => true

/-- Writes of registers leave all else of the thread. -/
theorem vals_other (s : State) (c : Nat) (l : List RVal) (hl : l.all RVal.plain = true) (th : Thread) :
    let u := l.foldl (valThread s c) th
    u = { th with s := u.s, v := u.v, p := u.p, a := u.a } := by
  induction l generalizing th with
  | nil => rfl
  | cons w l ih =>
    simp only [List.all_cons, Bool.and_eq_true] at hl
    have h1 := ih hl.2 (valThread s c th w)
    simp only [List.foldl_cons]
    rw [h1]
    cases w with
    | tcr => simp [RVal.plain] at hl
    | s i x => simp only [valThread, Thread.setS]; split <;> rfl
    | v i x => rfl
    | p i x => rfl
    | a i x => rfl

theorem vals_same (s : State) (c : Nat) (l : List RVal) (hl : l.all RVal.plain = true) (th uh : Thread)
    (h : th.s = uh.s ∧ th.v = uh.v ∧ th.p = uh.p ∧ th.a = uh.a) :
    let u := l.foldl (valThread s c) th
    let w := l.foldl (valThread s c) uh
    u.s = w.s ∧ u.v = w.v ∧ u.p = w.p ∧ u.a = w.a := by
  induction l generalizing th uh with
  | nil => exact h
  | cons w l ih =>
    simp only [List.all_cons, Bool.and_eq_true] at hl
    simp only [List.foldl_cons]
    apply ih hl.2
    cases w with
    | tcr => simp [RVal.plain] at hl
    | s i x => simp only [valThread, Thread.setS]; split <;> simp [h]
    | v i x => simp [valThread, Thread.setV, h]
    | p i x => simp [valThread, Thread.setP, h]
    | a i x => simp [valThread, Thread.setA, h]

theorem taken_met (x : Px) (y : Syl) (h : x.met = .none) : taken x y = y := by simp [taken, parityOf, h]

theorem metBy_met (x : Px) (s : State) (y : Syl) (h : x.met = .none) : metBy x s y = s := by simp [metBy, h]

/-- A syllable with its STOP bit, at a thread that is ready, issues as a bundle of its own. -/
theorem issue_one (s : State) (x : Px) (g : Thread → Syl) (y : Syl) (hy : g (s.thread x.core x.thread) = y) (h : Ready s x) :
    issue x s g = .next
      (let s2 := commit (s.setThread x.core x.thread { s.thread x.core x.thread with bundle := [y] }) x.core x.thread false
       if touchesCounters [y] then settle 8 s2 x.core else s2) := by
  have hi : canIssue (s.thread x.core x.thread) = true := by simp [canIssue, Thread.runs, h.run, h.wait]
  have hn : interlocked (s.thread x.core x.thread) y = false := by simp [interlocked, Thread.waitingLoads, h.loads]
  unfold issue
  simp only [hy, hi, hn, h.bundle, taken_met x y h.met, metBy_met x s y h.met, List.nil_append, h.stop, Bool.not_true, Bool.or_false,
    Bool.true_or, Bool.false_and, if_true, Bool.false_eq_true, if_false]

/-- The command of a register-to-register instruction: it completes with its register writes. -/
theorem issue_plain (s : State) (x : Px) (g : Thread → Syl) (y : Syl) (hy : g (s.thread x.core x.thread) = y) (h : Ready s x)
    (hc : y.cls ≤ 5) (hd : y.dests.Nodup) (hf : y.faults = []) (hm : y.mem = .none) (hr : y.res = .none) (hk : y.ctl = .none)
    (hp : y.wr.all RVal.plain = true) :
    issue x s g = .next (bundleDone s x (fun th => y.wr.foldl (valThread s x.core) th)) := by
  have ht : touchesCounters [y] = false := by simp [touchesCounters, hm]
  have ho := vals_other s x.core y.wr hp (s.thread x.core x.thread)
  rw [issue_one s x g y hy h]
  simp only [ht, Bool.false_eq_true, if_false]
  rw [commit_plain s x y (fun th => y.wr.foldl (valThread s x.core) th) h hc hd hf hm hr hk]
  · have h1 := vals_other s x.core y.wr hp { s.thread x.core x.thread with
      wait := .none, bundle := [y], bundles := satAdd 64 (s.thread x.core x.thread).bundles 1, started := true }
    have h2 := vals_same s x.core y.wr hp { s.thread x.core x.thread with
      wait := .none, bundle := [y], bundles := satAdd 64 (s.thread x.core x.thread).bundles 1, started := true }
      (s.thread x.core x.thread) ⟨rfl, rfl, rfl, rfl⟩
    simp only at h1 h2
    rw [h1, h2.1, h2.2.1, h2.2.2.1, h2.2.2.2, ho]
    simp [h.run, h.once]
  · simp only at ho
    rw [ho]
    exact ⟨h.run, h.wait, h.bundle, h.started, h.once⟩
  · simp only at ho
    rw [ho]
    exact h.loop

/-! ### Syllables with a memory access or a control part -/

theorem memFaults_setThread (s : State) (c t : Nat) (x : Thread) (op : MemOp) (h : x.monitor = (s.thread c t).monitor) :
    memFaults (s.setThread c t x) c t op = memFaults s c t op := by
  have ha (a n al perm : Nat) (g : Bool) :
      accessFaults (s.setThread c t x) c t a n al perm g = accessFaults s c t a n al perm g := by
    simp only [accessFaults, State.thread_setThread, h]
    rfl
  cases op <;> simp only [memFaults, ha] <;> rfl

/-- The thread as it stands while a bundle of the one syllable y takes effect. -/
def issuing (th : Thread) (y : Syl) : Thread :=
  { th with wait := .none, bundle := [y], bundles := satAdd 64 th.bundles 1, started := true }

/-- A syllable alone in its bundle, without a fault, a wait or a resumable part: its accesses and writes, then the finish. -/
theorem issue_runs (s : State) (x : Px) (g : Thread → Syl) (y : Syl) (hy : g (s.thread x.core x.thread) = y) (h : Ready s x)
    (hc : y.cls ≤ 5) (hd : y.dests.Nodup) (hf : y.faults = []) (hl : ∀ l k e, y.ctl = .loopSet l k e → 1 < e)
    (hm : memFaults s x.core x.thread y.mem = []) (hr : y.res = .none)
    (hp : ∀ d a n, y.mem = .load d a n → pathOf s x.core a ≠ .fabric) (hs : ∀ a n v, y.mem = .store a n v → pathOf s x.core a ≠ .fabric)
    (hq : y.mem = .fence → heldStores s x.core x.thread = [])
    (hw : ∀ d cc n, y.mem = .ccwait d cc n → ccVal s x.core cc = 0)
    (hi : y.ctl = .wfi → (ipOf s (s.thread x.core x.thread) &&& (s.thread x.core x.thread).tcrAt IE) ≠ 0) :
    issue x s g = .next
      (let s2 := proceed (doBundle ((fillLines s x.core (s.thread x.core x.thread).pc 1).setThread x.core x.thread
          (issuing (s.thread x.core x.thread) y)) x.core x.thread [y] false) x.core x.thread false
       if touchesCounters [y] then settle 8 s2 x.core else s2) := by
  rw [issue_one s x g y hy h]
  have e : commit (s.setThread x.core x.thread { s.thread x.core x.thread with bundle := [y] }) x.core x.thread false
      = proceed (doBundle ((fillLines s x.core (s.thread x.core x.thread).pc 1).setThread x.core x.thread
          (issuing (s.thread x.core x.thread) y)) x.core x.thread [y] false) x.core x.thread false := by
    rw [commit_runs _ _ _ y (by simp) hr]
    · have hs : Thread.stepping { s.thread x.core x.thread with bundle := [y] } = false := h.step
      simp only [State.thread_setThread, State.setThread_setThread, hs]
      congr 1
      unfold startBundle
      simp only [State.thread_setThread, List.length_singleton]
      have e2 (u : Thread) : fillLines (s.setThread x.core x.thread u) x.core (s.thread x.core x.thread).pc 1
          = (fillLines s x.core (s.thread x.core x.thread).pc 1).setThread x.core x.thread u := rfl
      rw [e2, State.setThread_setThread]
      rfl
    · simp only [State.thread_setThread, State.setThread_setThread]
      apply bundleFaults_one _ _ _ _ hc hd (by simp [Syl.resumable, hr]) hf hl
      · exact (memFaults_setThread s _ _ _ _ (by rfl)).trans hm
      · simp [h.loads]
      · simp only [State.thread_setThread]
        exact (fetchFaults_setThread s _ _ _ _ _ (by rfl)).trans h.fetch
    · simp only [State.thread_setThread, State.setThread_setThread]
      exact holdsFor_none _ _ _ _ hr (by simp [h.loads]) hp hs hq hw (fun hk => by
        simp only [State.thread_setThread]
        exact hi hk)
  rw [e]

/-- The end of a bundle of one syllable whose register writes are those of the list l, in a state F that holds its thread. -/
theorem finish_vals (s F : State) (x : Px) (y : Syl) (l : List RVal) (h : Ready s x) (hk : y.ctl = .none) (hp : l.all RVal.plain = true) :
    finish (F.setThread x.core x.thread (l.foldl (valThread F x.core) (issuing (thr s x) y))) x.core x.thread false
      = F.setThread x.core x.thread { l.foldl (valThread F x.core) (thr s x) with
          pc := nextPc (thr s x), bundles := satAdd 64 (thr s x).bundles 1 } := by
  have h0 := vals_other F x.core l hp (thr s x)
  have h1 := vals_other F x.core l hp (issuing (thr s x) y)
  have h2 := vals_same F x.core l hp (issuing (thr s x) y) (thr s x) ⟨rfl, rfl, rfl, rfl⟩
  have e : l.foldl (valThread F x.core) (issuing (thr s x) y)
      = issuing (l.foldl (valThread F x.core) (thr s x)) y := by
    simp only at h0 h1 h2
    rw [h1, h2.1, h2.2.1, h2.2.2.1, h2.2.2.2, h0]
    rfl
  have hb := h.bundle
  have hw := h.wait
  have hs := h.started
  have ho := h.once
  have hr := h.run
  have hl := h.loop
  rw [e]
  simp only at h0
  generalize hu : l.foldl (valThread F x.core) (thr s x) = u at *
  have hpc : u.pc = (thr s x).pc := by rw [h0]
  have hbu : u.bundles = (thr s x).bundles := by rw [h0]
  rw [finish_plain _ _ _ (thr s x).pc y (by simp [issuing]) (by simp [issuing, hpc]) hk
    (by simp only [State.thread_setThread, issuing]; rw [h0]; exact hr) (by simp only [State.thread_setThread, issuing]; rw [h0]; exact ho)
    (by simp only [State.thread_setThread, issuing]; rw [h0]; exact hl)]
  simp only [State.thread_setThread, State.setThread_setThread, issuing, nextPc, hbu]
  congr 1
  rw [h0]
  simp [hb, hw, hs, ho]

theorem touches_one (y : Syl) (h1 : ∀ c v, y.mem ≠ .ccadd c v) (h2 : ∀ c v, y.mem ≠ .ccset c v) : touchesCounters [y] = false := by
  cases hm : y.mem <;> simp_all [touchesCounters]

/-- A syllable whose access answers at once with register writes, leaving a state G with the thread as it was: a direct load or store,
`ccrd`, `ccwait` at zero, a direct atomic, `fence`, `icinv`, `sig`. -/
theorem issue_access (s G : State) (x : Px) (g : Thread → Syl) (y : Syl) (vs : List RVal) (hy : g (thr s x) = y) (h : Ready s x)
    (hc : y.cls ≤ 5) (hd : y.dests.Nodup) (hf : y.faults = []) (hk : y.ctl = .none) (hr : y.res = .none) (hwr : y.wr = [])
    (hm : memFaults s x.core x.thread y.mem = [])
    (hp : ∀ d a n, y.mem = .load d a n → pathOf s x.core a ≠ .fabric) (hs : ∀ a n v, y.mem = .store a n v → pathOf s x.core a ≠ .fabric)
    (hq : y.mem = .fence → heldStores s x.core x.thread = []) (hw : ∀ d cc n, y.mem = .ccwait d cc n → ccVal s x.core cc = 0)
    (h1 : ∀ c v, y.mem ≠ .ccadd c v) (h2 : ∀ c v, y.mem ≠ .ccset c v)
    (hdo : doMem ((fillLines s x.core (thr s x).pc 1).setThread x.core x.thread (issuing (thr s x) y)) x.core x.thread y.mem false
      = (G.setThread x.core x.thread (issuing (thr s x) y), vs)) (hv : vs.all RVal.plain = true) :
    issue x s g = .next (G.setThread x.core x.thread { vs.foldl (valThread G x.core) (thr s x) with
      pc := nextPc (thr s x), bundles := satAdd 64 (thr s x).bundles 1 }) := by
  rw [issue_runs s x g y hy h hc hd hf (by simp [hk]) hm hr hp hs hq hw (by simp [hk])]
  rw [touches_one y h1 h2]
  simp only [Bool.false_eq_true, if_false]
  have e : doBundle ((fillLines s x.core (thr s x).pc 1).setThread x.core x.thread (issuing (thr s x) y)) x.core x.thread [y] false
      = G.setThread x.core x.thread (vs.foldl (valThread G x.core) (issuing (thr s x) y)) := by
    rw [doBundle_one _ _ _ _ _ hr (by rw [hdo]; simp [issuing]), hdo, hwr, List.nil_append, each_applyVal]
  have hb : (vs.foldl (valThread G x.core) (issuing (thr s x) y)).bundle = [y] := by
    have := vals_other G x.core vs hv (issuing (thr s x) y)
    simp only at this
    rw [this]
    rfl
  rw [e, proceed_one _ _ _ y _ (by simpa using hb) hr, finish_vals s G x y vs h hk hv]

/-! ### Exceptions -/

/-- The thread x as it takes an exception from a bundle not yet issued. -/
theorem enter_first (s : State) (x : Px) (y : Syl) (k v : Nat) (h : Ready s x) (he : MayEnter s x) :
    enter (s.setThread x.core x.thread { thr s x with bundle := [y], wait := .none }) x.core x.thread k v false
      = s.setThread x.core x.thread (entered (thr s x) k v false) := by
  have hb := h.bundle
  have hw := h.wait
  have hs := h.started
  have ho := h.once
  have hr := h.run
  have htd := h.todo
  have hdu := h.due
  have hm : ((thr s x).monitor && !(thr s x).ie && decide (k < 0x80)) = false := by
    rcases he with he | he <;> simp [he]
  have e1 : Thread.monitor { thr s x with bundle := [y], wait := .none } = (thr s x).monitor := rfl
  have e2 : Thread.ie { thr s x with bundle := [y], wait := .none } = (thr s x).ie := rfl
  unfold enter
  simp only [State.thread_setThread, e1, e2, hm, Bool.false_eq_true, if_false, State.setThread_setThread]
  congr 1
  generalize hu : thr s x = u at *
  cases u
  simp_all [entered, Thread.setTcr, Thread.tcrAt, Thread.monitor, Thread.ie]

/-- A bundle of one non-resumable syllable that raises causes takes the lowest of them, with nothing of it in effect. -/
theorem issue_fault (s : State) (x : Px) (g : Thread → Syl) (y : Syl) (k v : Nat) (hy : g (thr s x) = y) (h : Ready s x) (he : MayEnter s x)
    (hr : y.res = .none) (hk : k ≠ 0x07 ∧ k ≠ 0x08 ∧ k ≠ 0x0A)
    (hf : lowestCause (bundleFaults (s.setThread x.core x.thread { thr s x with bundle := [y], wait := .none }) x.core x.thread [y])
      = some (k, v)) (h1 : ∀ c v, y.mem ≠ .ccadd c v) (h2 : ∀ c v, y.mem ≠ .ccset c v) : issue x s g = toHandler s x k v := by
  have hbr : bundleRes [y] = .none := by simp [bundleRes, Syl.resumable, hr]
  have hne : (bundleFaults (s.setThread x.core x.thread { thr s x with bundle := [y], wait := .none }) x.core x.thread [y]) ≠ [] := by
    intro e
    rw [e] at hf
    simp [lowestCause] at hf
  have hnt := touches_one y h1 h2
  rw [issue_one s x g y hy h]
  simp only [hnt, Bool.false_eq_true, if_false]
  unfold toHandler
  congr 1
  unfold commit
  have hl1 : Thread.waitingLoads { thr s x with bundle := [y] } = [] := by simp [Thread.waitingLoads, h.loads]
  have hl2 : Thread.deferredErr { thr s x with bundle := [y], wait := .none } = none := by simp [Thread.deferredErr, h.loads]
  have hre : resumes { thr s x with bundle := [y] } = false := by simp [resumes, hbr]
  simp only [State.thread_setThread, State.setThread_setThread, hbr]
  generalize hfs : bundleFaults (s.setThread x.core x.thread { thr s x with bundle := [y], wait := .none }) x.core x.thread [y] = fs at *
  cases fs with
  | nil => exact absurd rfl hne
  | cons f fs =>
    simp only [firstElemFault, hf, hre, hl1, List.isEmpty_cons, List.isEmpty_nil, Bool.not_true, Bool.and_false, Bool.false_eq_true, if_false]
    unfold takeCause
    simp only [State.thread_setThread, hl2]
    unfold takeFault
    simp only [hk.1, hk.2.1, hk.2.2, if_false]
    exact enter_first s x y k v h he

/-- The causes of a syllable that names one cause of its own and makes no access. -/
theorem bundleFaults_own (s : State) (c t : Nat) (y : Syl) (k v : Nat) (hc : y.cls ≤ 5) (hd : y.dests.Nodup)
    (hr : y.res = .none) (hf : y.faults = [(k, v)]) (hl : ∀ l n e, y.ctl ≠ .loopSet l n e) (hm : y.mem = .none)
    (hload : (s.thread c t).loads = []) (hx : fetchFaults s c t (s.thread c t).pc 1 = []) :
    bundleFaults s c t [y] = [if k = 0x02 ∨ k = 0x03 then (k, 0) else (k, v)] := by
  have h0 : (List.range 1).zip [y] = [(0, y)] := rfl
  have h1 : sylFaults [y] = [if k = 0x02 ∨ k = 0x03 then (k, 0) else (k, v)] := by
    unfold sylFaults
    simp only [List.length_singleton, h0, List.flatMap_cons, List.flatMap_nil, hf, List.map_cons, List.map_nil, List.append_nil]
  simp [bundleFaults, illegalAt_one y (legalRun_one y hc hd (by simp [Syl.resumable, hr])), h1, deferredFaults, hload, hm, memFaults, hx]

/-- A syllable with one cause of its own takes that exception. -/
theorem issue_own_fault (s : State) (x : Px) (g : Thread → Syl) (y : Syl) (k v : Nat) (hy : g (thr s x) = y) (h : Ready s x)
    (he : MayEnter s x) (hc : y.cls ≤ 5) (hd : y.dests.Nodup) (hr : y.res = .none) (hf : y.faults = [(k, v)])
    (hl : ∀ l n e, y.ctl ≠ .loopSet l n e) (hm : y.mem = .none) (hk : k ≠ 0x07 ∧ k ≠ 0x08 ∧ k ≠ 0x0A) :
    issue x s g = toHandler s x k (if k = 0x02 ∨ k = 0x03 then 0 else v) := by
  apply issue_fault s x g y _ _ hy h he hr hk
  · rw [bundleFaults_own _ _ _ y k v hc hd hr hf hl hm (by simp [h.loads])
      (by simp only [State.thread_setThread]; exact (fetchFaults_setThread s _ _ _ _ _ (by rfl)).trans h.fetch)]
    split <;> simp_all [lowestCause]
  · simp [hm]
  · simp [hm]

end Sys2Proof.Machine
end

