-- ==== Sys2Proof/Laws/Keep.lean ====
section
/-! SUPPORT. What every operation keeps: the queue, and the canonical form of memory and of the register file. Here for the named
operations; the files beside it say it of every other function that answers a state. -/
namespace Sys2Proof.Machine

open Sys2Proof

/-- The queue is q, memory and the register file are in canonical form. -/
def Good (q p : List Instr) (m : SMap Byte) (r : SMap Word) : Prop := p = q ∧ Memory.wf m = true ∧ Registers.wf r = true

/-- `Good` of a state. -/
abbrev GoodS (q : List Instr) (s : State) : Prop := Good q s.pending s.mem s.regs

/-- A step answered, and its state is good. -/
def GoodNext (q : List Instr) (o : Out) : Prop := ∃ t, o = .next t ∧ GoodS q t

variable {q : List Instr}

@[simp] theorem goodNext_next (t : State) : GoodNext q (.next t) ↔ GoodS q t := by
  simp [GoodNext]

theorem good_ite {c : Prop} [Decidable c] {a b : State} (ha : c → GoodS q a) (hb : ¬c → GoodS q b) :
    GoodS q (if c then a else b) := by
  split <;> simp_all

theorem goodNext_ite {c : Prop} [Decidable c] {a b : Out} (ha : c → GoodNext q a) (hb : ¬c → GoodNext q b) :
    GoodNext q (if c then a else b) := by
  split <;> simp_all

theorem good_of_fst {β : Type} {p : State × β} {s : State} {b : β} (e : p = (s, b)) (h : GoodS q p.1) : GoodS q s := by
  rw [e] at h
  exact h

theorem good_of_snd {β : Type} {p : β × State} {s : State} {b : β} (e : p = (b, s)) (h : GoodS q p.2) : GoodS q s := by
  rw [e] at h
  exact h

theorem good_getD {o : Option State} {d : State} (h : ∀ t, o = some t → GoodS q t) (hd : GoodS q d) : GoodS q (o.getD d) := by
  cases o with
  | none => exact hd
  | some t => exact h t rfl

theorem good_findSome {α : Type} (l : List α) (f : α → Option State) (hf : ∀ x t, f x = some t → GoodS q t) (t : State)
    (h : l.findSome? f = some t) : GoodS q t := by
  obtain ⟨_, x, _, _, hx, _⟩ := List.findSome?_eq_some_iff.1 h
  exact hf x t hx

theorem good_foldl {α : Type} (l : List α) (f : State → α → State) (hf : ∀ s x, GoodS q s → GoodS q (f s x)) (s : State)
    (h : GoodS q s) : GoodS q (l.foldl f s) := by
  induction l generalizing s with
  | nil => exact h
  | cons x t ih => exact ih (f s x) (hf s x h)

theorem good_foldl_fst {α β : Type} (l : List α) (f : State × β → α → State × β)
    (hf : ∀ p x, GoodS q p.1 → GoodS q (f p x).1) (p : State × β) (h : GoodS q p.1) : GoodS q (l.foldl f p).1 := by
  induction l generalizing p with
  | nil => exact h
  | cons x t ih => exact ih (f p x) (hf p x h)

theorem good_foldl_snd {α β : Type} (l : List α) (f : β × State → α → β × State)
    (hf : ∀ p x, GoodS q p.2 → GoodS q (f p x).2) (p : β × State) (h : GoodS q p.2) : GoodS q (l.foldl f p).2 := by
  induction l generalizing p with
  | nil => exact h
  | cons x t ih => exact ih (f p x) (hf p x h)

theorem good_each {α : Type} (s : State) (l : List α) (f : State → α → State) (h : GoodS q s)
    (hf : ∀ s x, GoodS q s → GoodS q (f s x)) : GoodS q (s.each l f) :=
  good_foldl l f hf s h

theorem good_when (s : State) (c : Bool) (f : State → State) (h : GoodS q s) (hf : ∀ s, GoodS q s → GoodS q (f s)) :
    GoodS q (s.when c f) := by
  unfold State.when
  split
  · exact hf s h
  · exact h

theorem good_setReg (s : State) (a : Nat) (v : Word) (h : GoodS q s) : GoodS q (s.setReg a v) :=
  ⟨h.1, h.2.1, storeWf_put regReset s.regs a v h.2.2⟩

theorem good_setByte (s : State) (a : Nat) (b : Byte) (h : GoodS q s) : GoodS q (s.setByte a b) :=
  ⟨h.1, storeWf_put memDefault s.mem a b h.2.1, h.2.2⟩

theorem good_setBytes (s : State) (a : Nat) (l : List Byte) (h : GoodS q s) : GoodS q (s.setBytes a l) := by
  induction l generalizing s a with
  | nil => exact h
  | cons b t ih => exact ih _ _ (good_setByte s a b h)

theorem good_zeroMem (s : State) (lo hi : Nat) (h : GoodS q s) : GoodS q (s.zeroMem lo hi) :=
  ⟨h.1, storeWf_filter memDefault _ s.mem h.2.1, h.2.2⟩

theorem good_resetRegs (s : State) (lo hi : Nat) (h : GoodS q s) : GoodS q (s.resetRegs lo hi) :=
  ⟨h.1, h.2.1, storeWf_filter regReset _ s.regs h.2.2⟩

theorem good_filterMem {p : List Instr} {m : SMap Byte} {r : SMap Word} (f : Nat × Byte → Bool) (h : Good q p m r) :
    Good q p (m.filter f) r :=
  ⟨h.1, storeWf_filter memDefault f m h.2.1, h.2.2⟩

theorem good_filterRegs {p : List Instr} {m : SMap Byte} {r : SMap Word} (f : Nat × Word → Bool) (h : Good q p m r) :
    Good q p m (r.filter f) :=
  ⟨h.1, h.2.1, storeWf_filter regReset f r h.2.2⟩

theorem good_writeGuard (s : State) (who : Requester) (a : Nat) (f : State → State) (h : GoodS q s)
    (hf : ∀ s, GoodS q s → GoodS q (f s)) : GoodS q (s.writeGuard who a f) := by
  unfold State.writeGuard
  split
  · exact hf _ h
  · exact h

end Sys2Proof.Machine
end

