-- ==== Sys2Proof/Laws/KeepOps.lean ====
section
/-! SUPPORT. What Keep.lean says of the named operations, for the shared operations, the clocks and the addresses. -/
namespace Sys2Proof.Machine

open Sys2Proof

variable {qq : List Instr}

/-! Ops -/

theorem good_setFldAt (s : State) (a hi lo v : Nat) (h : GoodS qq s) :
    GoodS qq (State.setFldAt s a hi lo v) := by
  unfold State.setFldAt
  try dsimp only
  repeat' first
    | (with_reducible first | assumption | apply good_setReg)
    | (intro _; intros; dsimp only) | (intro _; intros) | split | dsimp only

theorem good_raise (s : State) (a i : Nat) (h : GoodS qq s) :
    GoodS qq (State.raise s a i) := by
  unfold State.raise
  try dsimp only
  repeat' first
    | (with_reducible first | assumption | apply good_setReg)
    | (intro _; intros; dsimp only) | (intro _; intros) | split | dsimp only

theorem good_countBy (s : State) (a n : Nat) (h : GoodS qq s) :
    GoodS qq (State.countBy s a n) := by
  unfold State.countBy
  try dsimp only
  repeat' first
    | (with_reducible first | assumption | apply good_setReg)
    | (intro _; intros; dsimp only) | (intro _; intros) | split | dsimp only

theorem good_count (s : State) (a : Nat) (h : GoodS qq s) :
    GoodS qq (State.count s a) := by
  unfold State.count
  try dsimp only
  repeat' first
    | (with_reducible first | assumption | apply good_countBy)
    | (intro _; intros; dsimp only) | (intro _; intros) | split | dsimp only

theorem good_logged (s : State) (e : LogEvent) (h : GoodS qq s) :
    GoodS qq (State.logged s e) := by
  unfold State.logged
  try dsimp only
  repeat' first
    | (with_reducible first | assumption)
    | (intro _; intros; dsimp only) | (intro _; intros) | split | dsimp only

theorem good_logRule (s : State) (r arg : Nat) (h : GoodS qq s) :
    GoodS qq (State.logRule s r arg) := by
  unfold State.logRule
  try dsimp only
  repeat' first
    | (with_reducible first | assumption | apply good_logged)
    | (intro _; intros; dsimp only) | (intro _; intros) | split | dsimp only

theorem good_answer (s : State) (v : Word) (h : GoodS qq s) :
    GoodS qq (State.answer s v) := by
  unfold State.answer
  try dsimp only
  repeat' first
    | (with_reducible first | assumption)
    | (intro _; intros; dsimp only) | (intro _; intros) | split | dsimp only

theorem good_busError (s : State) (h : GoodS qq s) :
    GoodS qq (State.busError s) := by
  unfold State.busError
  try dsimp only
  repeat' first
    | (with_reducible first | assumption)
    | (intro _; intros; dsimp only) | (intro _; intros) | split | dsimp only

theorem good_pageFault (s : State) (h : GoodS qq s) :
    GoodS qq (State.pageFault s) := by
  unfold State.pageFault
  try dsimp only
  repeat' first
    | (with_reducible first | assumption)
    | (intro _; intros; dsimp only) | (intro _; intros) | split | dsimp only

theorem good_draw (s : State) (h : GoodS qq s) :
    GoodS qq (State.draw s) := by
  unfold State.draw
  try dsimp only
  repeat' first
    | (with_reducible first | assumption)
    | (intro _; intros; dsimp only) | (intro _; intros) | split | dsimp only

theorem good_plainWrite (s : State) (a : Nat) (r : RegSpec) (v : Word) (h : GoodS qq s) :
    GoodS qq (State.plainWrite s a r v) := by
  unfold State.plainWrite
  try dsimp only
  repeat' first
    | (with_reducible first | assumption | apply good_setReg)
    | (intro _; intros; dsimp only) | (intro _; intros) | split | dsimp only

theorem good_irq (s : State) (n : Nat) (h : GoodS qq s) :
    GoodS qq (State.irq s n) := by
  unfold State.irq
  try dsimp only
  repeat' first
    | (with_reducible first | assumption | apply good_ite | apply goodNext_ite)
    | (intro _; intros; dsimp only) | (intro _; intros) | split | dsimp only

theorem good_setIsland (s : State) (i : Nat) (x : Island) (h : GoodS qq s) :
    GoodS qq (State.setIsland s i x) := by
  unfold State.setIsland
  try dsimp only
  repeat' first
    | (with_reducible first | assumption)
    | (intro _; intros; dsimp only) | (intro _; intros) | split | dsimp only

theorem good_modIsland (s : State) (i : Nat) (f : Island → Island) (h : GoodS qq s) :
    GoodS qq (State.modIsland s i f) := by
  unfold State.modIsland
  try dsimp only
  repeat' first
    | (with_reducible first | assumption | apply good_setIsland)
    | (intro _; intros; dsimp only) | (intro _; intros) | split | dsimp only

theorem good_setDom (s : State) (d : Nat) (x : Domain) (h : GoodS qq s) :
    GoodS qq (State.setDom s d x) := by
  unfold State.setDom
  try dsimp only
  repeat' first
    | (with_reducible first | assumption)
    | (intro _; intros; dsimp only) | (intro _; intros) | split | dsimp only

theorem good_modDom (s : State) (d : Nat) (f : Domain → Domain) (h : GoodS qq s) :
    GoodS qq (State.modDom s d f) := by
  unfold State.modDom
  try dsimp only
  repeat' first
    | (with_reducible first | assumption | apply good_setDom)
    | (intro _; intros; dsimp only) | (intro _; intros) | split | dsimp only

theorem good_setCcSet (s : State) (k : Nat) (x : CcSet) (h : GoodS qq s) :
    GoodS qq (State.setCcSet s k x) := by
  unfold State.setCcSet
  try dsimp only
  repeat' first
    | (with_reducible first | assumption)
    | (intro _; intros; dsimp only) | (intro _; intros) | split | dsimp only

theorem good_setPort (s : State) (f : Nat) (x : ItdPort) (h : GoodS qq s) :
    GoodS qq (State.setPort s f x) := by
  unfold State.setPort
  try dsimp only
  repeat' first
    | (with_reducible first | assumption)
    | (intro _; intros; dsimp only) | (intro _; intros) | split | dsimp only

theorem good_modPort (s : State) (f : Nat) (g : ItdPort → ItdPort) (h : GoodS qq s) :
    GoodS qq (State.modPort s f g) := by
  unfold State.modPort
  try dsimp only
  repeat' first
    | (with_reducible first | assumption | apply good_setPort)
    | (intro _; intros; dsimp only) | (intro _; intros) | split | dsimp only

theorem good_setEngine (s : State) (halo : Bool) (c : Nat) (x : Engine) (h : GoodS qq s) :
    GoodS qq (State.setEngine s halo c x) := by
  unfold State.setEngine
  try dsimp only
  repeat' first
    | (with_reducible first | assumption | apply good_ite | apply goodNext_ite)
    | (intro _; intros; dsimp only) | (intro _; intros) | split | dsimp only

theorem good_setThread (s : State) (n t : Nat) (x : Thread) (h : GoodS qq s) :
    GoodS qq (State.setThread s n t x) := by
  unfold State.setThread
  try dsimp only
  repeat' first
    | (with_reducible first | assumption)
    | (intro _; intros; dsimp only) | (intro _; intros) | split | dsimp only

theorem good_modThread (s : State) (n t : Nat) (f : Thread → Thread) (h : GoodS qq s) :
    GoodS qq (State.modThread s n t f) := by
  unfold State.modThread
  try dsimp only
  repeat' first
    | (with_reducible first | assumption | apply good_setThread)
    | (intro _; intros; dsimp only) | (intro _; intros) | split | dsimp only

theorem good_setCore (s : State) (n : Nat) (x : PxCore) (h : GoodS qq s) :
    GoodS qq (State.setCore s n x) := by
  unfold State.setCore
  try dsimp only
  repeat' first
    | (with_reducible first | assumption)
    | (intro _; intros; dsimp only) | (intro _; intros) | split | dsimp only

theorem good_setTar (s : State) (c : Nat) (x : Tar) (h : GoodS qq s) :
    GoodS qq (State.setTar s c x) := by
  unfold State.setTar
  try dsimp only
  repeat' first
    | (with_reducible first | assumption)
    | (intro _; intros; dsimp only) | (intro _; intros) | split | dsimp only

theorem good_modTar (s : State) (c : Nat) (f : Tar → Tar) (h : GoodS qq s) :
    GoodS qq (State.modTar s c f) := by
  unfold State.modTar
  try dsimp only
  repeat' first
    | (with_reducible first | assumption | apply good_setTar)
    | (intro _; intros; dsimp only) | (intro _; intros) | split | dsimp only

theorem good_setQu (s : State) (c : Nat) (x : Qu) (h : GoodS qq s) :
    GoodS qq (State.setQu s c x) := by
  unfold State.setQu
  try dsimp only
  repeat' first
    | (with_reducible first | assumption)
    | (intro _; intros; dsimp only) | (intro _; intros) | split | dsimp only

theorem good_store (s : State) (a n x : Nat) (h : GoodS qq s) :
    GoodS qq (State.store s a n x) := by
  unfold State.store
  try dsimp only
  repeat' first
    | (with_reducible first | assumption | apply good_setBytes)
    | (intro _; intros; dsimp only) | (intro _; intros) | split | dsimp only

theorem good_setPoison (s : State) (a : Nat) (b : Bool) (h : GoodS qq s) :
    GoodS qq (State.setPoison s a b) := by
  unfold State.setPoison
  try dsimp only
  repeat' first
    | (with_reducible first | assumption)
    | (intro _; intros; dsimp only) | (intro _; intros) | split | dsimp only

theorem good_healWords (s : State) (a n : Nat) (h : GoodS qq s) :
    GoodS qq (State.healWords s a n) := by
  unfold State.healWords
  try dsimp only
  repeat' first
    | (with_reducible first | assumption | apply good_each | apply good_setPoison | apply good_ite | apply goodNext_ite | refine good_each _ _ _ ?_ ?_)
    | (intro _; intros; dsimp only) | (intro _; intros) | split | dsimp only

/-! Clock -/

theorem good_setChanges (s : State) (l : List Change) (h : GoodS qq s) :
    GoodS qq (State.setChanges s l) := by
  unfold State.setChanges
  try dsimp only
  repeat' first
    | (with_reducible first | assumption)
    | (intro _; intros; dsimp only) | (intro _; intros) | split | dsimp only

theorem good_pruneChanges (s : State) (drop : Nat → Bool) (h : GoodS qq s) :
    GoodS qq (pruneChanges s drop) := by
  unfold pruneChanges
  try dsimp only
  repeat' first
    | (with_reducible first | assumption | apply good_setChanges | apply good_ite | apply goodNext_ite | refine good_filterMem _ ?_ | refine good_filterRegs _ ?_)
    | (intro _; intros; dsimp only) | (intro _; intros) | split | dsimp only

theorem good_requestChange (s : State) (ms : List Nat) (group : Bool) (h : GoodS qq s) :
    GoodS qq (requestChange s ms group) := by
  unfold requestChange
  try dsimp only
  repeat' first
    | (with_reducible first | assumption | apply good_each | apply good_count | apply good_modIsland | apply good_pruneChanges | apply good_ite | apply goodNext_ite | refine good_each _ _ _ ?_ ?_ | refine (goodNext_next _).2 ?_ | refine good_filterMem _ ?_ | refine good_filterRegs _ ?_)
    | (intro _; intros; dsimp only) | (intro _; intros) | split | dsimp only

theorem good_recap (s : State) (h : GoodS qq s) :
    GoodS qq (recap s) := by
  unfold recap
  try dsimp only
  repeat' first
    | (with_reducible first | assumption | apply good_requestChange | refine good_filterMem _ ?_ | refine good_filterRegs _ ?_)
    | (intro _; intros; dsimp only) | (intro _; intros) | split | dsimp only

theorem good_followQu (s : State) (c : Nat) (h : GoodS qq s) :
    GoodS qq (followQu s c) := by
  unfold followQu
  try dsimp only
  repeat' first
    | (with_reducible first | assumption | apply good_modIsland)
    | (intro _; intros; dsimp only) | (intro _; intros) | split | dsimp only

theorem good_restartIsland (s : State) (i e t0 : Nat) (locked : Bool) (h : GoodS qq s) :
    GoodS qq (restartIsland s i e t0 locked) := by
  unfold restartIsland
  try dsimp only
  repeat' first
    | (with_reducible first | assumption | apply good_modIsland)
    | (intro _; intros; dsimp only) | (intro _; intros) | split | dsimp only

theorem good_endAlarmPause (s : State) (h : GoodS qq s) :
    GoodS qq (endAlarmPause s) := by
  unfold endAlarmPause
  try dsimp only
  repeat' first
    | (with_reducible first | assumption | apply good_setReg)
    | (intro _; intros; dsimp only) | (intro _; intros) | split | dsimp only

theorem good_raiseBelowFloor (s : State) (ms : List Nat) (h : GoodS qq s) :
    GoodS qq (raiseBelowFloor s ms) := by
  unfold raiseBelowFloor
  try dsimp only
  repeat' first
    | (with_reducible first | assumption | apply good_when | apply good_raise | refine good_when _ _ _ ?_ ?_)
    | (intro _; intros; dsimp only) | (intro _; intros) | split | dsimp only

theorem good_endPause (s : State) (c : Change) (t0 : Nat) (h : GoodS qq s) :
    GoodS qq (endPause s c t0) := by
  unfold endPause
  try dsimp only
  repeat' first
    | (with_reducible first | assumption | apply good_each | apply good_when | apply good_raise | apply good_count | apply good_setChanges | apply good_followQu | apply good_restartIsland | apply good_endAlarmPause | apply good_raiseBelowFloor | refine good_each _ _ _ ?_ ?_ | refine good_when _ _ _ ?_ ?_ | refine good_filterMem _ ?_ | refine good_filterRegs _ ?_)
    | (intro _; intros; dsimp only) | (intro _; intros) | with_reducible refine good_of_fst (by assumption) ?_ | with_reducible refine good_of_snd (by assumption) ?_ | split | dsimp only | (rename_i hq; split at hq) | (rename_i hq; cases hq)

theorem good_fallDue (s : State) (c : Change) (h : GoodS qq s) :
    GoodS qq (fallDue s c) := by
  unfold fallDue
  try dsimp only
  repeat' first
    | (with_reducible first | assumption | apply good_each | apply good_count | apply good_modIsland | apply good_setChanges | apply good_ite | apply goodNext_ite | refine good_each _ _ _ ?_ ?_ | refine good_filterMem _ ?_ | refine good_filterRegs _ ?_)
    | (intro _; intros; dsimp only) | (intro _; intros) | split | dsimp only

theorem good_takeStored (s : State) (i : Nat) (h : GoodS qq s) :
    GoodS qq (takeStored s i) := by
  unfold takeStored
  try dsimp only
  repeat' first
    | (with_reducible first | assumption | apply good_modIsland | apply good_ite | apply goodNext_ite)
    | (intro _; intros; dsimp only) | (intro _; intros) | split | dsimp only

theorem good_noteCool (s : State) (h : GoodS qq s) :
    GoodS qq (noteCool s) := by
  unfold noteCool
  try dsimp only
  repeat' first
    | (with_reducible first | assumption | apply good_ite | apply goodNext_ite)
    | (intro _; intros; dsimp only) | (intro _; intros) | split | dsimp only

theorem good_sampleTemps (s : State) (temps : List Int) (h : GoodS qq s) :
    GoodS qq (sampleTemps s temps) := by
  unfold sampleTemps
  try dsimp only
  repeat' first
    | (with_reducible first | assumption | apply good_each | apply good_noteCool | apply good_ite | apply goodNext_ite | refine good_each _ _ _ ?_ ?_)
    | (intro _; intros; dsimp only) | (intro _; intros) | split | dsimp only

theorem good_checkWarn (s : State) (h : GoodS qq s) :
    GoodS qq (checkWarn s) := by
  unfold checkWarn
  try dsimp only
  repeat' first
    | (with_reducible first | assumption | apply good_raise | apply good_ite | apply goodNext_ite | refine good_each _ _ _ ?_ ?_)
    | (intro _; intros; dsimp only) | (intro _; intros) | split | dsimp only

theorem good_enterCap (s : State) (crit : Bool) (h : GoodS qq s) :
    GoodS qq (enterCap s crit) := by
  unfold enterCap
  try dsimp only
  repeat' first
    | (with_reducible first | assumption | apply good_when | apply good_raise | apply good_count | apply good_recap | apply good_ite | apply goodNext_ite | refine good_when _ _ _ ?_ ?_)
    | (intro _; intros; dsimp only) | (intro _; intros) | split | dsimp only

theorem good_liftCap (s : State) (crit : Bool) (h : GoodS qq s) :
    GoodS qq (liftCap s crit) := by
  unfold liftCap
  try dsimp only
  repeat' first
    | (with_reducible first | assumption | apply good_recap | apply good_ite | apply goodNext_ite)
    | (intro _; intros; dsimp only) | (intro _; intros) | split | dsimp only

theorem good_execClkIslWrite (who : Requester) (island : Nat) (val : BitVec 32) (s : State) (h : GoodS qq s) :
    GoodNext qq (execClkIslWrite who island val s) := by
  unfold execClkIslWrite
  try dsimp only
  repeat' first
    | (with_reducible first | assumption | apply good_writeGuard | apply good_setReg | apply good_requestChange | apply good_ite | apply goodNext_ite | refine (goodNext_next _).2 ?_)
    | (intro _; intros; dsimp only) | (intro _; intros) | split | dsimp only

theorem good_execClkGroupChange (who : Requester) (val : BitVec 32) (s : State) (h : GoodS qq s) :
    GoodNext qq (execClkGroupChange who val s) := by
  unfold execClkGroupChange
  try dsimp only
  repeat' first
    | (with_reducible first | assumption | apply good_each | apply good_writeGuard | apply good_setReg | apply good_requestChange | refine good_each _ _ _ ?_ ?_ | refine (goodNext_next _).2 ?_ | refine good_filterMem _ ?_ | refine good_filterRegs _ ?_)
    | (intro _; intros; dsimp only) | (intro _; intros) | split | dsimp only

theorem good_execFreqChangeDue (change : Nat) (s : State) (h : GoodS qq s) :
    GoodNext qq (execFreqChangeDue change s) := by
  unfold execFreqChangeDue
  try dsimp only
  repeat' first
    | (with_reducible first | assumption | apply good_fallDue | apply good_ite | apply goodNext_ite | refine (goodNext_next _).2 ?_)
    | (intro _; intros; dsimp only) | (intro _; intros) | with_reducible refine good_of_fst (by assumption) ?_ | with_reducible refine good_of_snd (by assumption) ?_ | split | dsimp only | (rename_i hq; split at hq) | (rename_i hq; cases hq)

theorem good_execGuardWindowEnd (s : State) (h : GoodS qq s) :
    GoodNext qq (execGuardWindowEnd s) := by
  unfold execGuardWindowEnd
  try dsimp only
  repeat' first
    | (with_reducible first | assumption | apply good_setChanges | apply good_ite | apply goodNext_ite | refine (goodNext_next _).2 ?_)
    | (intro _; intros; dsimp only) | (intro _; intros) | with_reducible refine good_of_fst (by assumption) ?_ | with_reducible refine good_of_snd (by assumption) ?_ | split | dsimp only | (rename_i hq; split at hq) | (rename_i hq; cases hq)

theorem good_execIslandIdleStop (island : Nat) (s : State) (h : GoodS qq s) :
    GoodNext qq (execIslandIdleStop island s) := by
  unfold execIslandIdleStop
  try dsimp only
  repeat' first
    | (with_reducible first | assumption | apply good_modIsland | apply good_ite | apply goodNext_ite | refine (goodNext_next _).2 ?_)
    | (intro _; intros; dsimp only) | (intro _; intros) | split | dsimp only

theorem good_execThermalCap (crit : Bool) (temps : List Int) (s : State) (h : GoodS qq s) :
    GoodNext qq (execThermalCap crit temps s) := by
  unfold execThermalCap
  try dsimp only
  repeat' first
    | (with_reducible first | assumption | apply good_sampleTemps | apply good_checkWarn | apply good_enterCap | refine (goodNext_next _).2 ?_)
    | (intro _; intros; dsimp only) | (intro _; intros) | split | dsimp only

theorem good_execThermalCapLift (crit : Bool) (temps : List Int) (s : State) (h : GoodS qq s) :
    GoodNext qq (execThermalCapLift crit temps s) := by
  unfold execThermalCapLift
  try dsimp only
  repeat' first
    | (with_reducible first | assumption | apply good_sampleTemps | apply good_checkWarn | apply good_liftCap | refine good_when _ _ _ ?_ ?_ | refine (goodNext_next _).2 ?_)
    | (intro _; intros; dsimp only) | (intro _; intros) | split | dsimp only

theorem good_abortPause (s : State) (c : Change) (h : GoodS qq s) :
    GoodS qq (abortPause s c) := by
  unfold abortPause
  try dsimp only
  repeat' first
    | (with_reducible first | assumption | apply good_each | apply good_when | apply good_modIsland | apply good_setChanges | apply good_endAlarmPause | apply good_ite | apply goodNext_ite | refine good_each _ _ _ ?_ ?_ | refine good_when _ _ _ ?_ ?_)
    | (intro _; intros; dsimp only) | (intro _; intros) | with_reducible refine good_of_fst (by assumption) ?_ | with_reducible refine good_of_snd (by assumption) ?_ | split | dsimp only | (rename_i hq; split at hq) | (rename_i hq; cases hq)

theorem good_execRefClkBack (s : State) (h : GoodS qq s) :
    GoodNext qq (execRefClkBack s) := by
  unfold execRefClkBack
  try dsimp only
  repeat' first
    | (with_reducible first | assumption | apply good_raise | apply good_ite | apply goodNext_ite | refine (goodNext_next _).2 ?_)
    | (intro _; intros; dsimp only) | (intro _; intros) | split | dsimp only

theorem good_execIslandDead (island : Nat) (s : State) (h : GoodS qq s) :
    GoodNext qq (execIslandDead island s) := by
  unfold execIslandDead
  try dsimp only
  repeat' first
    | (with_reducible first | assumption | apply good_setReg | apply good_raise | apply good_modIsland | apply good_ite | apply goodNext_ite | refine (goodNext_next _).2 ?_)
    | (intro _; intros; dsimp only) | (intro _; intros) | split | dsimp only

theorem good_execSensorInvalid (sensor : Fin 12) (reading : Option Int) (s : State) (h : GoodS qq s) :
    GoodNext qq (execSensorInvalid sensor reading s) := by
  unfold execSensorInvalid
  try dsimp only
  repeat' first
    | (with_reducible first | assumption | apply good_raise | apply good_checkWarn | apply good_enterCap | apply good_ite | apply goodNext_ite | refine (goodNext_next _).2 ?_)
    | (intro _; intros; dsimp only) | (intro _; intros) | with_reducible refine good_of_fst (by assumption) ?_ | with_reducible refine good_of_snd (by assumption) ?_ | split | dsimp only | (rename_i hq; split at hq) | (rename_i hq; cases hq)

theorem good_execSensorValid (sensor : Fin 12) (reading : Int) (s : State) (h : GoodS qq s) :
    GoodNext qq (execSensorValid sensor reading s) := by
  unfold execSensorValid
  try dsimp only
  repeat' first
    | (with_reducible first | assumption | apply good_checkWarn | apply good_liftCap | apply good_ite | apply goodNext_ite | refine (goodNext_next _).2 ?_)
    | (intro _; intros; dsimp only) | (intro _; intros) | split | dsimp only

/-! FabOps -/

theorem good_logMemErr (s : State) (a kind : Nat) (ue : Bool) (h : GoodS qq s) :
    GoodS qq (logMemErr s a kind ue) := by
  unfold logMemErr
  try dsimp only
  repeat' first
    | (with_reducible first | assumption | apply good_setReg | apply good_ite | apply goodNext_ite)
    | (intro _; intros; dsimp only) | (intro _; intros) | split | dsimp only

theorem good_offAccess (s : State) (a : Nat) (h : GoodS qq s) :
    GoodS qq (offAccess s a) := by
  unfold offAccess
  try dsimp only
  repeat' first
    | (with_reducible first | assumption | apply good_raise | apply good_count | apply good_logMemErr)
    | (intro _; intros; dsimp only) | (intro _; intros) | split | dsimp only

theorem good_uncorrectable (s : State) (a : Nat) (h : GoodS qq s) :
    GoodS qq (uncorrectable s a) := by
  unfold uncorrectable
  try dsimp only
  repeat' first
    | (with_reducible first | assumption | apply good_raise | apply good_count | apply good_logMemErr)
    | (intro _; intros; dsimp only) | (intro _; intros) | with_reducible refine good_of_fst (by assumption) ?_ | with_reducible refine good_of_snd (by assumption) ?_ | split | dsimp only | (rename_i hq; split at hq) | (rename_i hq; cases hq)

theorem good_corrected (s : State) (a : Nat) (h : GoodS qq s) :
    GoodS qq (corrected s a) := by
  unfold corrected
  try dsimp only
  repeat' first
    | (with_reducible first | assumption | apply good_count)
    | (intro _; intros; dsimp only) | (intro _; intros) | with_reducible refine good_of_fst (by assumption) ?_ | with_reducible refine good_of_snd (by assumption) ?_ | split | dsimp only | (rename_i hq; split at hq) | (rename_i hq; cases hq)

theorem good_guardDenied (s : State) (a : Nat) (h : GoodS qq s) :
    GoodS qq (guardDenied s a) := by
  unfold guardDenied
  try dsimp only
  repeat' first
    | (with_reducible first | assumption | apply good_raise | apply good_count | apply good_logMemErr)
    | (intro _; intros; dsimp only) | (intro _; intros) | split | dsimp only

theorem good_putData (s : State) (a : Nat) (l : List Byte) (h : GoodS qq s) :
    GoodS qq (putData s a l) := by
  unfold putData
  try dsimp only
  repeat' first
    | (with_reducible first | assumption | apply good_setBytes | apply good_healWords | refine good_each _ _ _ ?_ ?_)
    | (intro _; intros; dsimp only) | (intro _; intros) | split | dsimp only

theorem good_ccPut (s : State) (idx cc : Nat) (v : BitVec 32) (h : GoodS qq s) :
    GoodS qq (ccPut s idx cc v) := by
  unfold ccPut
  try dsimp only
  repeat' first
    | (with_reducible first | assumption | apply good_setCcSet)
    | (intro _; intros; dsimp only) | (intro _; intros) | split | dsimp only

theorem good_ccDec (s : State) (idx cc : Nat) (h : GoodS qq s) :
    GoodS qq (ccDec s idx cc) := by
  unfold ccDec
  try dsimp only
  repeat' first
    | (with_reducible first | assumption | apply good_raise | apply good_count | apply good_setCcSet | apply good_ccPut | apply good_ite | apply goodNext_ite)
    | (intro _; intros; dsimp only) | (intro _; intros) | split | dsimp only

theorem good_ccArrive (s : State) (idx cc : Nat) (h : GoodS qq s) :
    GoodS qq (ccArrive s idx cc) := by
  unfold ccArrive
  try dsimp only
  repeat' first
    | (with_reducible first | assumption | apply good_setCcSet | apply good_ccDec)
    | (intro _; intros; dsimp only) | (intro _; intros) | split | dsimp only

theorem good_ccWrite (s : State) (idx cc : Nat) (v : BitVec 32) (h : GoodS qq s) :
    GoodS qq (ccWrite s idx cc v) := by
  unfold ccWrite
  try dsimp only
  repeat' first
    | (with_reducible first | assumption | apply good_ccPut | apply good_ccDec | apply good_ite | apply goodNext_ite)
    | (intro _; intros; dsimp only) | (intro _; intros) | split | dsimp only

theorem good_setRoute (s : State) (n : Nat) (e : BitVec 12) (x : BitVec 8) (h : GoodS qq s) :
    GoodS qq (setRoute s n e x) := by
  unfold setRoute
  try dsimp only
  repeat' first
    | (with_reducible first | assumption)
    | (intro _; intros; dsimp only) | (intro _; intros) | split | dsimp only

theorem good_setRoutes (s : State) (e : BitVec 12) (x : BitVec 8) (h : GoodS qq s) :
    GoodS qq (setRoutes s e x) := by
  unfold setRoutes
  try dsimp only
  repeat' first
    | (with_reducible first | assumption | apply good_each | apply good_setRoute | refine good_each _ _ _ ?_ ?_)
    | (intro _; intros; dsimp only) | (intro _; intros) | split | dsimp only

theorem good_putNet (s : State) (p : Packet) (h : GoodS qq s) :
    GoodS qq (State.putNet s p) := by
  unfold State.putNet
  try dsimp only
  repeat' first
    | (with_reducible first | assumption | apply good_ite | apply goodNext_ite)
    | (intro _; intros; dsimp only) | (intro _; intros) | split | dsimp only

theorem good_inject (s : State) (p : Packet) (h : GoodS qq s) :
    GoodS qq (State.inject s p) := by
  unfold State.inject
  try dsimp only
  repeat' first
    | (with_reducible first | assumption | apply good_putNet | apply good_ite | apply goodNext_ite)
    | (intro _; intros; dsimp only) | (intro _; intros) | split | dsimp only

theorem good_release (s : State) (h : GoodS qq s) :
    GoodS qq (release s) := by
  unfold release
  try dsimp only
  repeat' first
    | (with_reducible first | assumption | apply good_each | apply good_inject | apply good_ite | apply goodNext_ite | refine good_each _ _ _ ?_ ?_)
    | (intro _; intros; dsimp only) | (intro _; intros) | split | dsimp only

theorem good_countHeld (s : State) (h : GoodS qq s) :
    GoodS qq (countHeld s) := by
  unfold countHeld
  try dsimp only
  repeat' first
    | (with_reducible first | assumption | apply good_each | apply good_countBy | refine good_each _ _ _ ?_ ?_)
    | (intro _; intros; dsimp only) | (intro _; intros) | with_reducible refine good_of_fst (by assumption) ?_ | with_reducible refine good_of_snd (by assumption) ?_ | split | dsimp only | (rename_i hq; split at hq) | (rename_i hq; cases hq)

theorem good_leave (s : State) (p : Packet) (h : GoodS qq s) :
    GoodS qq (State.leave s p) := by
  unfold State.leave
  try dsimp only
  repeat' first
    | (with_reducible first | assumption | apply good_countBy | apply good_release | apply good_ite | apply goodNext_ite)
    | (intro _; intros; dsimp only) | (intro _; intros) | with_reducible refine good_of_fst (by assumption) ?_ | with_reducible refine good_of_snd (by assumption) ?_ | split | dsimp only | (rename_i hq; split at hq) | (rename_i hq; cases hq)

theorem good_takeSeq (s : State) (i flow : Nat) (h : GoodS qq s) :
    GoodS qq (takeSeq s i flow).2 := by
  unfold takeSeq
  try dsimp only
  repeat' first
    | (with_reducible first | assumption | refine (goodNext_next _).2 ?_)
    | (intro _; intros; dsimp only) | (intro _; intros) | split | dsimp only

theorem good_takeTag (s : State) (i : Nat) (h : GoodS qq s) :
    GoodS qq (takeTag s i).2 := by
  unfold takeTag
  try dsimp only
  repeat' first
    | (with_reducible first | assumption | refine (goodNext_next _).2 ?_)
    | (intro _; intros; dsimp only) | (intro _; intros) | split | dsimp only

theorem good_sendWrite (s : State) (src flow vc a : Nat) (data : List Byte) (tag : Option Nat) (h : GoodS qq s) :
    GoodS qq (sendWrite s src flow vc a data tag) := by
  unfold sendWrite
  try dsimp only
  repeat' first
    | (with_reducible first | assumption | apply good_inject | apply good_takeSeq)
    | (intro _; intros; dsimp only) | (intro _; intros) | with_reducible refine good_of_fst (by assumption) ?_ | with_reducible refine good_of_snd (by assumption) ?_ | split | dsimp only | (rename_i hq; split at hq) | (rename_i hq; cases hq)

theorem good_sendRead (s : State) (src vc a n tag : Nat) (h : GoodS qq s) :
    GoodS qq (sendRead s src vc a n tag) := by
  unfold sendRead
  try dsimp only
  repeat' first
    | (with_reducible first | assumption | apply good_inject)
    | (intro _; intros; dsimp only) | (intro _; intros) | with_reducible refine good_of_fst (by assumption) ?_ | with_reducible refine good_of_snd (by assumption) ?_ | split | dsimp only | (rename_i hq; split at hq) | (rename_i hq; cases hq)

theorem good_sendAtomic (s : State) (src vc a : Nat) (op : AmoOp) (x cmp : Word) (tag : Nat) (h : GoodS qq s) :
    GoodS qq (sendAtomic s src vc a op x cmp tag) := by
  unfold sendAtomic
  try dsimp only
  repeat' first
    | (with_reducible first | assumption | apply good_inject)
    | (intro _; intros; dsimp only) | (intro _; intros) | with_reducible refine good_of_fst (by assumption) ?_ | with_reducible refine good_of_snd (by assumption) ?_ | split | dsimp only | (rename_i hq; split at hq) | (rename_i hq; cases hq)

theorem good_sendSignal (s : State) (src flow vc : Nat) (dst : BitVec 12) (cc : Nat) (h : GoodS qq s) :
    GoodS qq (sendSignal s src flow vc dst cc) := by
  unfold sendSignal
  try dsimp only
  repeat' first
    | (with_reducible first | assumption | apply good_inject | apply good_takeSeq)
    | (intro _; intros; dsimp only) | (intro _; intros) | split | dsimp only

theorem good_bufferEcc (s : State) (p : Packet) (h : GoodS qq s) :
    GoodS qq (bufferEcc s p) := by
  unfold bufferEcc
  try dsimp only
  repeat' first
    | (with_reducible first | assumption | apply good_when | apply good_raise | apply good_countBy | apply good_count | refine good_when _ _ _ ?_ ?_)
    | (intro _; intros; dsimp only) | (intro _; intros) | split | dsimp only

theorem good_setBox (s : State) (m : Nat) (b : Mailbox) (h : GoodS qq s) :
    GoodS qq (State.setBox s m b) := by
  unfold State.setBox
  try dsimp only
  repeat' first
    | (with_reducible first | assumption)
    | (intro _; intros; dsimp only) | (intro _; intros) | split | dsimp only

end Sys2Proof.Machine
end

