-- ==== Sys2Proof/Laws/KeepPx.lean ====
section
/-! SUPPORT. What Keep.lean says of the named operations, for the PX cores. -/
namespace Sys2Proof.Machine

open Sys2Proof

variable {qq : List Instr}

/-! PxCore -/

theorem good_writeTcr (s : State) (c t n : Nat) (x : Word) (h : GoodS qq s) :
    GoodS qq (writeTcr s c t n x) := by
  unfold writeTcr
  try dsimp only
  repeat' first
    | (with_reducible first | assumption | apply good_setThread | apply good_ite | apply goodNext_ite)
    | (intro _; intros; dsimp only) | (intro _; intros) | split | dsimp only

theorem good_applyVal (s : State) (c t : Nat) (w : RVal) (h : GoodS qq s) :
    GoodS qq (applyVal s c t w) := by
  unfold applyVal
  try dsimp only
  repeat' first
    | (with_reducible first | assumption | apply good_modThread | apply good_writeTcr)
    | (intro _; intros; dsimp only) | (intro _; intros) | with_reducible refine good_of_fst (by assumption) ?_ | with_reducible refine good_of_snd (by assumption) ?_ | split | dsimp only | (rename_i hq; split at hq) | (rename_i hq; cases hq)

theorem good_enter (s : State) (c t k tval : Nat) (deferred : Bool) (h : GoodS qq s) :
    GoodS qq (enter s c t k tval deferred) := by
  unfold enter
  try dsimp only
  repeat' first
    | (with_reducible first | assumption | apply good_raise | apply good_setThread | apply good_ite | apply goodNext_ite | refine (goodNext_next _).2 ?_)
    | (intro _; intros; dsimp only) | (intro _; intros) | split | dsimp only

theorem good_takeFault (s : State) (c t k tval : Nat) (h : GoodS qq s) :
    GoodS qq (takeFault s c t k tval) := by
  unfold takeFault
  try dsimp only
  repeat' first
    | (with_reducible first | assumption | apply good_when | apply good_count | apply good_setThread | apply good_offAccess | apply good_uncorrectable | apply good_enter | apply good_ite | apply goodNext_ite | refine good_when _ _ _ ?_ ?_ | refine good_filterMem _ ?_ | refine good_filterRegs _ ?_)
    | (intro _; intros; dsimp only) | (intro _; intros) | with_reducible refine good_of_fst (by assumption) ?_ | with_reducible refine good_of_snd (by assumption) ?_ | split | dsimp only | (rename_i hq; split at hq) | (rename_i hq; cases hq)

theorem good_takeInterrupt (s : State) (c t i : Nat) (h : GoodS qq s) :
    GoodS qq (takeInterrupt s c t i) := by
  unfold takeInterrupt
  try dsimp only
  repeat' first
    | (with_reducible first | assumption | apply good_enter | apply good_takeFault)
    | (intro _; intros; dsimp only) | (intro _; intros) | with_reducible refine good_of_fst (by assumption) ?_ | with_reducible refine good_of_snd (by assumption) ?_ | split | dsimp only | (rename_i hq; split at hq) | (rename_i hq; cases hq)

theorem good_takeCause (s : State) (c t k tval : Nat) (h : GoodS qq s) :
    GoodS qq (takeCause s c t k tval) := by
  unfold takeCause
  try dsimp only
  repeat' first
    | (with_reducible first | assumption | apply good_takeFault | apply good_ite | apply goodNext_ite)
    | (intro _; intros; dsimp only) | (intro _; intros) | with_reducible refine good_of_fst (by assumption) ?_ | with_reducible refine good_of_snd (by assumption) ?_ | split | dsimp only | (rename_i hq; split at hq) | (rename_i hq; cases hq)

theorem good_raiseCause (s : State) (c t k tval : Nat) (h : GoodS qq s) :
    GoodS qq (raiseCause s c t k tval) := by
  unfold raiseCause
  try dsimp only
  repeat' first
    | (with_reducible first | assumption | apply good_setThread | apply good_takeCause | apply good_ite | apply goodNext_ite)
    | (intro _; intros; dsimp only) | (intro _; intros) | with_reducible refine good_of_fst (by assumption) ?_ | with_reducible refine good_of_snd (by assumption) ?_ | split | dsimp only | (rename_i hq; split at hq) | (rename_i hq; cases hq)

theorem good_doStore (s : State) (c t a n x : Nat) (h : GoodS qq s) :
    GoodS qq (doStore s c t a n x) := by
  unfold doStore
  try dsimp only
  repeat' first
    | (with_reducible first | assumption | apply good_each | apply good_putData | apply good_sendWrite | apply good_ite | apply goodNext_ite | refine good_each _ _ _ ?_ ?_)
    | (intro _; intros; dsimp only) | (intro _; intros) | split | dsimp only

theorem good_counterIrq (s : State) (c cc : Nat) (h : GoodS qq s) :
    GoodS qq (counterIrq s c cc) := by
  unfold counterIrq
  try dsimp only
  repeat' first
    | (with_reducible first | assumption | apply good_each | apply good_setThread | apply good_ite | apply goodNext_ite | refine good_each _ _ _ ?_ ?_)
    | (intro _; intros; dsimp only) | (intro _; intros) | split | dsimp only

theorem good_doMem (s : State) (c t : Nat) (op : MemOp) (timedOut : Bool) (h : GoodS qq s) :
    GoodS qq (doMem s c t op timedOut).1 := by
  unfold doMem
  try dsimp only
  repeat' first
    | (with_reducible first | assumption | apply good_modThread | apply good_setCore | apply good_store | apply good_putData | apply good_ccPut | apply good_ccWrite | apply good_takeTag | apply good_sendRead | apply good_sendAtomic | apply good_sendSignal | apply good_doStore | apply good_counterIrq | apply good_ite | apply goodNext_ite | refine (goodNext_next _).2 ?_)
    | (intro _; intros; dsimp only) | (intro _; intros) | with_reducible refine good_of_fst (by assumption) ?_ | with_reducible refine good_of_snd (by assumption) ?_ | split | dsimp only | (rename_i hq; split at hq) | (rename_i hq; cases hq)

theorem good_doMems (s : State) (c t : Nat) (timedOut : Bool) (ops : List MemOp) (h : GoodS qq s) :
    GoodS qq (doMems s c t timedOut ops).1 := by
  induction ops generalizing s c t timedOut with
  | nil  =>
    unfold doMems
    try dsimp only
    repeat' first
      | (with_reducible first | assumption | apply good_modThread | apply good_doMem | refine (goodNext_next _).2 ?_)
      | (intro _; intros; dsimp only) | (intro _; intros) | with_reducible refine good_of_fst (by assumption) ?_ | with_reducible refine good_of_snd (by assumption) ?_ | split | dsimp only | (rename_i hq; split at hq) | (rename_i hq; cases hq)
  | cons hd tl ih =>
    unfold doMems
    try dsimp only
    repeat' first
      | (with_reducible first | assumption | apply ih | apply good_modThread | apply good_doMem | refine (goodNext_next _).2 ?_)
      | (intro _; intros; dsimp only) | (intro _; intros) | with_reducible refine good_of_fst (by assumption) ?_ | with_reducible refine good_of_snd (by assumption) ?_ | split | dsimp only | (rename_i hq; split at hq) | (rename_i hq; cases hq)

theorem good_doBundle (s : State) (c t : Nat) (l : List Syl) (timedOut : Bool) (h : GoodS qq s) :
    GoodS qq (doBundle s c t l timedOut) := by
  unfold doBundle
  try dsimp only
  repeat' first
    | (with_reducible first | assumption | apply good_each | apply good_when | apply good_modThread | apply good_applyVal | apply good_doMems | refine good_each _ _ _ ?_ ?_ | refine good_when _ _ _ ?_ ?_ | refine (goodNext_next _).2 ?_)
    | (intro _; intros; dsimp only) | (intro _; intros) | split | dsimp only

theorem good_doTodo (s : State) (c t : Nat) (h : GoodS qq s) :
    GoodS qq (doTodo s c t) := by
  unfold doTodo
  try dsimp only
  repeat' first
    | (with_reducible first | assumption | apply good_each | apply good_modThread | apply good_applyVal | apply good_doMems | apply good_ite | apply goodNext_ite | refine good_each _ _ _ ?_ ?_)
    | (intro _; intros; dsimp only) | (intro _; intros) | split | dsimp only

theorem good_loopLevel (s : State) (c t n : Nat) (done : Bool) (l : Nat) (h : GoodS qq s) :
    GoodS qq (loopLevel s c t n done l).1 := by
  unfold loopLevel
  try dsimp only
  repeat' first
    | (with_reducible first | assumption | apply good_setThread | apply good_ite | apply goodNext_ite)
    | (intro _; intros; dsimp only) | (intro _; intros) | split | dsimp only

theorem good_loopNext (s : State) (c t n : Nat) (h : GoodS qq s) :
    GoodS qq (loopNext s c t n).1 := by
  unfold loopNext
  try dsimp only
  repeat' first
    | (with_reducible first | assumption | apply good_loopLevel)
    | (intro _; intros; dsimp only) | (intro _; intros) | split | dsimp only

theorem good_doControl (s : State) (c t b n : Nat) (ctl : Ctl) (h : GoodS qq s) :
    GoodS qq (doControl s c t b n ctl).1 := by
  unfold doControl
  try dsimp only
  repeat' first
    | (with_reducible first | assumption | apply good_setThread | apply good_modThread | apply good_loopNext | apply good_ite | apply goodNext_ite)
    | (intro _; intros; dsimp only) | (intro _; intros) | with_reducible refine good_of_fst (by assumption) ?_ | with_reducible refine good_of_snd (by assumption) ?_ | split | dsimp only | (rename_i hq; split at hq) | (rename_i hq; cases hq)

theorem good_fillLines (s : State) (c b n : Nat) (h : GoodS qq s) :
    GoodS qq (fillLines s c b n) := by
  unfold fillLines
  try dsimp only
  repeat' first
    | (with_reducible first | assumption | apply good_setCore)
    | (intro _; intros; dsimp only) | (intro _; intros) | split | dsimp only

theorem good_finish (s : State) (c t : Nat) (pre : Bool) (h : GoodS qq s) :
    GoodS qq (finish s c t pre) := by
  unfold finish
  try dsimp only
  repeat' first
    | (with_reducible first | assumption | apply good_when | apply good_raise | apply good_setThread | apply good_raiseCause | apply good_doControl | apply good_ite | apply goodNext_ite | refine good_when _ _ _ ?_ ?_)
    | (intro _; intros; dsimp only) | (intro _; intros) | split | dsimp only

/-! PxBundle -/

theorem good_storeElem (s : State) (c t : Nat) (k : VmKind) (vd ew : Nat) (es : List (Nat × Nat)) (e : Nat × Nat) (h : GoodS qq s) :
    GoodS qq (storeElem s c t k vd ew es e) := by
  unfold storeElem
  try dsimp only
  repeat' first
    | (with_reducible first | assumption | apply good_each | apply good_putData | apply good_sendWrite | apply good_ite | apply goodNext_ite | refine good_each _ _ _ ?_ ?_)
    | (intro _; intros; dsimp only) | (intro _; intros) | split | dsimp only

theorem good_stopVm (s : State) (c t k : Nat) (h : GoodS qq s) :
    GoodS qq (stopVm s c t k) := by
  unfold stopVm
  try dsimp only
  repeat' first
    | (with_reducible first | assumption | apply good_setThread | apply good_modThread | apply good_takeInterrupt | apply good_doTodo | apply good_ite | apply goodNext_ite)
    | (intro _; intros; dsimp only) | (intro _; intros) | with_reducible refine good_of_fst (by assumption) ?_ | with_reducible refine good_of_snd (by assumption) ?_ | split | dsimp only | (rename_i hq; split at hq) | (rename_i hq; cases hq)

theorem good_faultVm (s : State) (c t k cause tval : Nat) (h : GoodS qq s) :
    GoodS qq (faultVm s c t k cause tval) := by
  unfold faultVm
  try dsimp only
  repeat' first
    | (with_reducible first | assumption | apply good_setThread | apply good_raiseCause | apply good_doTodo | apply good_ite | apply goodNext_ite)
    | (intro _; intros; dsimp only) | (intro _; intros) | split | dsimp only

theorem good_finishVm (s : State) (c t : Nat) (h : GoodS qq s) :
    GoodS qq (finishVm s c t) := by
  unfold finishVm
  try dsimp only
  repeat' first
    | (with_reducible first | assumption | apply good_modThread | apply good_doTodo | apply good_finish | apply good_ite | apply goodNext_ite)
    | (intro _; intros; dsimp only) | (intro _; intros) | split | dsimp only

theorem good_runElems (s : State) (c t : Nat) (k : VmKind) (vd ew : Nat) (stopAt : Option Nat) (es : List (Nat × Nat)) (data : Option (Nat × Nat × Nat)) (todo : List (Nat × Nat)) (h : GoodS qq s) :
    GoodS qq (runElems s c t k vd ew stopAt es data todo) := by
  induction todo generalizing s c t k vd ew stopAt es data with
  | nil  =>
    unfold runElems
    try dsimp only
    repeat' first
      | (with_reducible first | assumption | apply good_modThread | apply good_takeTag | apply good_sendRead | apply good_storeElem | apply good_stopVm | apply good_faultVm | apply good_finishVm | apply good_ite | apply goodNext_ite)
      | (intro _; intros; dsimp only) | (intro _; intros) | with_reducible refine good_of_fst (by assumption) ?_ | with_reducible refine good_of_snd (by assumption) ?_ | split | dsimp only | (rename_i hq; split at hq) | (rename_i hq; cases hq)
  | cons hd tl ih =>
    unfold runElems
    try dsimp only
    repeat' first
      | (with_reducible first | assumption | apply ih | apply good_modThread | apply good_takeTag | apply good_sendRead | apply good_storeElem | apply good_stopVm | apply good_faultVm | apply good_finishVm | apply good_ite | apply goodNext_ite)
      | (intro _; intros; dsimp only) | (intro _; intros) | with_reducible refine good_of_fst (by assumption) ?_ | with_reducible refine good_of_snd (by assumption) ?_ | split | dsimp only | (rename_i hq; split at hq) | (rename_i hq; cases hq)

theorem good_runVm (s : State) (c t : Nat) (r : Res) (k : Nat) (data : Option (Nat × Nat × Nat)) (h : GoodS qq s) :
    GoodS qq (runVm s c t r k data) := by
  unfold runVm
  try dsimp only
  repeat' first
    | (with_reducible first | assumption | apply good_runElems | refine good_filterMem _ ?_ | refine good_filterRegs _ ?_)
    | (intro _; intros; dsimp only) | (intro _; intros) | with_reducible refine good_of_fst (by assumption) ?_ | with_reducible refine good_of_snd (by assumption) ?_ | split | dsimp only | (rename_i hq; split at hq) | (rename_i hq; cases hq)

theorem good_startBundle (s : State) (c t : Nat) (timedOut : Bool) (h : GoodS qq s) :
    GoodS qq (startBundle s c t timedOut) := by
  unfold startBundle
  try dsimp only
  repeat' first
    | (with_reducible first | assumption | apply good_setThread | apply good_doBundle | apply good_fillLines | refine (goodNext_next _).2 ?_)
    | (intro _; intros; dsimp only) | (intro _; intros) | split | dsimp only

theorem good_issueTensor (s : State) (c t op desc fields : Nat) (resume : Bool) (h : GoodS qq s) :
    GoodS qq (issueTensor s c t op desc fields resume) := by
  unfold issueTensor
  try dsimp only
  repeat' first
    | (with_reducible first | assumption | apply good_modThread | apply good_modTar)
    | (intro _; intros; dsimp only) | (intro _; intros) | split | dsimp only

theorem good_proceed (s : State) (c t : Nat) (pre : Bool) (h : GoodS qq s) :
    GoodS qq (proceed s c t pre) := by
  unfold proceed
  try dsimp only
  repeat' first
    | (with_reducible first | assumption | apply good_finish | apply good_runVm | apply good_issueTensor | apply good_ite | apply goodNext_ite)
    | (intro _; intros; dsimp only) | (intro _; intros) | with_reducible refine good_of_fst (by assumption) ?_ | with_reducible refine good_of_snd (by assumption) ?_ | split | dsimp only | (rename_i hq; split at hq) | (rename_i hq; cases hq)

theorem good_commit (s : State) (c t : Nat) (timedOut : Bool) (h : GoodS qq s) :
    GoodS qq (commit s c t timedOut) := by
  unfold commit
  try dsimp only
  repeat' first
    | (with_reducible first | assumption | apply good_setThread | apply good_takeCause | apply good_raiseCause | apply good_faultVm | apply good_runVm | apply good_startBundle | apply good_issueTensor | apply good_proceed | apply good_ite | apply goodNext_ite | refine (goodNext_next _).2 ?_)
    | (intro _; intros; dsimp only) | (intro _; intros) | with_reducible refine good_of_fst (by assumption) ?_ | with_reducible refine good_of_snd (by assumption) ?_ | split | dsimp only | (rename_i hq; split at hq) | (rename_i hq; cases hq)

theorem good_goOn (s : State) (c t : Nat) (h : GoodS qq s) :
    GoodS qq (goOn s c t) := by
  unfold goOn
  try dsimp only
  repeat' first
    | (with_reducible first | assumption | apply good_setThread | apply good_takeCause | apply good_finishVm | apply good_commit)
    | (intro _; intros; dsimp only) | (intro _; intros) | with_reducible refine good_of_fst (by assumption) ?_ | with_reducible refine good_of_snd (by assumption) ?_ | split | dsimp only | (rename_i hq; split at hq) | (rename_i hq; cases hq)

theorem good_stopIfDone (s : State) (c t : Nat) (h : GoodS qq s) :
    GoodS qq (stopIfDone s c t) := by
  unfold stopIfDone
  try dsimp only
  repeat' first
    | (with_reducible first | assumption | apply good_setThread | apply good_ite | apply goodNext_ite)
    | (intro _; intros; dsimp only) | (intro _; intros) | with_reducible refine good_of_fst (by assumption) ?_ | with_reducible refine good_of_snd (by assumption) ?_ | split | dsimp only | (rename_i hq; split at hq) | (rename_i hq; cases hq)

theorem good_settle (fuel : Nat) (s : State) (c : Nat) (h : GoodS qq s) :
    GoodS qq (settle fuel s c) := by
  induction fuel generalizing s c with
  | zero  =>
    unfold settle
    try dsimp only
    repeat' first
      | (with_reducible first | assumption | apply good_goOn)
      | (intro _; intros; dsimp only) | (intro _; intros) | with_reducible refine good_of_fst (by assumption) ?_ | with_reducible refine good_of_snd (by assumption) ?_ | split | dsimp only | (rename_i hq; split at hq) | (rename_i hq; cases hq)
  | succ n ih =>
    unfold settle
    try dsimp only
    repeat' first
      | (with_reducible first | assumption | apply ih | apply good_goOn)
      | (intro _; intros; dsimp only) | (intro _; intros) | with_reducible refine good_of_fst (by assumption) ?_ | with_reducible refine good_of_snd (by assumption) ?_ | split | dsimp only | (rename_i hq; split at hq) | (rename_i hq; cases hq)

theorem good_readReturn (s : State) (c tag : Nat) (err : Bool) (payload : List Byte) (h : GoodS qq s) :
    GoodS qq (readReturn s c tag err payload) := by
  unfold readReturn
  try dsimp only
  repeat' first
    | (with_reducible first | assumption | apply good_each | apply good_setThread | apply good_applyVal | apply good_faultVm | apply good_runVm | apply good_startBundle | apply good_stopIfDone | apply good_ite | apply goodNext_ite | refine good_each _ _ _ ?_ ?_ | refine good_filterMem _ ?_ | refine good_filterRegs _ ?_)
    | (intro _; intros; dsimp only) | (intro _; intros) | with_reducible refine good_of_fst (by assumption) ?_ | with_reducible refine good_of_snd (by assumption) ?_ | split | dsimp only | (rename_i hq; split at hq) | (rename_i hq; cases hq)

theorem good_afterAtomic (s : State) (c t : Nat) (h : GoodS qq s) :
    GoodS qq (afterAtomic s c t) := by
  unfold afterAtomic
  try dsimp only
  repeat' first
    | (with_reducible first | assumption | apply good_setThread | apply good_doTodo | apply good_proceed | apply good_stopIfDone | apply good_ite | apply goodNext_ite)
    | (intro _; intros; dsimp only) | (intro _; intros) | with_reducible refine good_of_fst (by assumption) ?_ | with_reducible refine good_of_snd (by assumption) ?_ | split | dsimp only | (rename_i hq; split at hq) | (rename_i hq; cases hq)

theorem good_atomicReturn (s : State) (c tag : Nat) (err : Bool) (old : Word) (h : GoodS qq s) :
    GoodS qq (atomicReturn s c tag err old) := by
  unfold atomicReturn
  try dsimp only
  repeat' first
    | (with_reducible first | assumption | apply good_setThread | apply good_afterAtomic | apply good_ite | apply goodNext_ite)
    | (intro _; intros; dsimp only) | (intro _; intros) | with_reducible refine good_of_fst (by assumption) ?_ | with_reducible refine good_of_snd (by assumption) ?_ | split | dsimp only | (rename_i hq; split at hq) | (rename_i hq; cases hq)

theorem good_metBy (x : Px) (s : State) (y : Syl) (h : GoodS qq s) :
    GoodS qq (metBy x s y) := by
  unfold metBy
  try dsimp only
  repeat' first
    | (with_reducible first | assumption | apply good_when | apply good_count | apply good_setPoison | apply good_corrected | refine good_when _ _ _ ?_ ?_)
    | (intro _; intros; dsimp only) | (intro _; intros) | with_reducible refine good_of_fst (by assumption) ?_ | with_reducible refine good_of_snd (by assumption) ?_ | split | dsimp only | (rename_i hq; split at hq) | (rename_i hq; cases hq)

theorem good_issue (x : Px) (s : State) (f : Thread → Syl) (h : GoodS qq s) :
    GoodNext qq (issue x s f) := by
  unfold issue
  try dsimp only
  repeat' first
    | (with_reducible first | assumption | apply good_setThread | apply good_commit | apply good_settle | apply good_metBy | apply good_ite | apply goodNext_ite | refine (goodNext_next _).2 ?_)
    | (intro _; intros; dsimp only) | (intro _; intros) | split | dsimp only

/-! PxScalar -/

theorem good_execAdd (x : Px) (rd rs1 rs2 : SReg) (s : State) (h : GoodS qq s) :
    GoodNext qq (execAdd x rd rs1 rs2 s) := by
  unfold execAdd
  try dsimp only
  repeat' first
    | (with_reducible first | assumption | apply good_issue | refine (goodNext_next _).2 ?_)
    | (intro _; intros; dsimp only) | (intro _; intros) | split | dsimp only

theorem good_execSub (x : Px) (rd rs1 rs2 : SReg) (s : State) (h : GoodS qq s) :
    GoodNext qq (execSub x rd rs1 rs2 s) := by
  unfold execSub
  try dsimp only
  repeat' first
    | (with_reducible first | assumption | apply good_issue | refine (goodNext_next _).2 ?_)
    | (intro _; intros; dsimp only) | (intro _; intros) | split | dsimp only

theorem good_execAnd (x : Px) (rd rs1 rs2 : SReg) (s : State) (h : GoodS qq s) :
    GoodNext qq (execAnd x rd rs1 rs2 s) := by
  unfold execAnd
  try dsimp only
  repeat' first
    | (with_reducible first | assumption | apply good_issue | refine (goodNext_next _).2 ?_)
    | (intro _; intros; dsimp only) | (intro _; intros) | split | dsimp only

theorem good_execOr (x : Px) (rd rs1 rs2 : SReg) (s : State) (h : GoodS qq s) :
    GoodNext qq (execOr x rd rs1 rs2 s) := by
  unfold execOr
  try dsimp only
  repeat' first
    | (with_reducible first | assumption | apply good_issue | refine (goodNext_next _).2 ?_)
    | (intro _; intros; dsimp only) | (intro _; intros) | split | dsimp only

theorem good_execXor (x : Px) (rd rs1 rs2 : SReg) (s : State) (h : GoodS qq s) :
    GoodNext qq (execXor x rd rs1 rs2 s) := by
  unfold execXor
  try dsimp only
  repeat' first
    | (with_reducible first | assumption | apply good_issue | refine (goodNext_next _).2 ?_)
    | (intro _; intros; dsimp only) | (intro _; intros) | split | dsimp only

theorem good_execSll (x : Px) (rd rs1 rs2 : SReg) (s : State) (h : GoodS qq s) :
    GoodNext qq (execSll x rd rs1 rs2 s) := by
  unfold execSll
  try dsimp only
  repeat' first
    | (with_reducible first | assumption | apply good_issue | refine (goodNext_next _).2 ?_)
    | (intro _; intros; dsimp only) | (intro _; intros) | split | dsimp only

theorem good_execSrl (x : Px) (rd rs1 rs2 : SReg) (s : State) (h : GoodS qq s) :
    GoodNext qq (execSrl x rd rs1 rs2 s) := by
  unfold execSrl
  try dsimp only
  repeat' first
    | (with_reducible first | assumption | apply good_issue | refine (goodNext_next _).2 ?_)
    | (intro _; intros; dsimp only) | (intro _; intros) | split | dsimp only

theorem good_execSra (x : Px) (rd rs1 rs2 : SReg) (s : State) (h : GoodS qq s) :
    GoodNext qq (execSra x rd rs1 rs2 s) := by
  unfold execSra
  try dsimp only
  repeat' first
    | (with_reducible first | assumption | apply good_issue | refine (goodNext_next _).2 ?_)
    | (intro _; intros; dsimp only) | (intro _; intros) | split | dsimp only

theorem good_execSlt (x : Px) (rd rs1 rs2 : SReg) (s : State) (h : GoodS qq s) :
    GoodNext qq (execSlt x rd rs1 rs2 s) := by
  unfold execSlt
  try dsimp only
  repeat' first
    | (with_reducible first | assumption | apply good_issue | refine (goodNext_next _).2 ?_)
    | (intro _; intros; dsimp only) | (intro _; intros) | split | dsimp only

theorem good_execSltu (x : Px) (rd rs1 rs2 : SReg) (s : State) (h : GoodS qq s) :
    GoodNext qq (execSltu x rd rs1 rs2 s) := by
  unfold execSltu
  try dsimp only
  repeat' first
    | (with_reducible first | assumption | apply good_issue | refine (goodNext_next _).2 ?_)
    | (intro _; intros; dsimp only) | (intro _; intros) | split | dsimp only

theorem good_execMin (x : Px) (rd rs1 rs2 : SReg) (s : State) (h : GoodS qq s) :
    GoodNext qq (execMin x rd rs1 rs2 s) := by
  unfold execMin
  try dsimp only
  repeat' first
    | (with_reducible first | assumption | apply good_issue | apply good_ite | apply goodNext_ite | refine (goodNext_next _).2 ?_)
    | (intro _; intros; dsimp only) | (intro _; intros) | split | dsimp only

theorem good_execMax (x : Px) (rd rs1 rs2 : SReg) (s : State) (h : GoodS qq s) :
    GoodNext qq (execMax x rd rs1 rs2 s) := by
  unfold execMax
  try dsimp only
  repeat' first
    | (with_reducible first | assumption | apply good_issue | apply good_ite | apply goodNext_ite | refine (goodNext_next _).2 ?_)
    | (intro _; intros; dsimp only) | (intro _; intros) | split | dsimp only

theorem good_execMinu (x : Px) (rd rs1 rs2 : SReg) (s : State) (h : GoodS qq s) :
    GoodNext qq (execMinu x rd rs1 rs2 s) := by
  unfold execMinu
  try dsimp only
  repeat' first
    | (with_reducible first | assumption | apply good_issue | apply good_ite | apply goodNext_ite | refine (goodNext_next _).2 ?_)
    | (intro _; intros; dsimp only) | (intro _; intros) | split | dsimp only

theorem good_execMaxu (x : Px) (rd rs1 rs2 : SReg) (s : State) (h : GoodS qq s) :
    GoodNext qq (execMaxu x rd rs1 rs2 s) := by
  unfold execMaxu
  try dsimp only
  repeat' first
    | (with_reducible first | assumption | apply good_issue | apply good_ite | apply goodNext_ite | refine (goodNext_next _).2 ?_)
    | (intro _; intros; dsimp only) | (intro _; intros) | split | dsimp only

theorem good_execAndn (x : Px) (rd rs1 rs2 : SReg) (s : State) (h : GoodS qq s) :
    GoodNext qq (execAndn x rd rs1 rs2 s) := by
  unfold execAndn
  try dsimp only
  repeat' first
    | (with_reducible first | assumption | apply good_issue | apply good_ite | apply goodNext_ite | refine (goodNext_next _).2 ?_)
    | (intro _; intros; dsimp only) | (intro _; intros) | split | dsimp only

theorem good_execSel (x : Px) (rd rs1 rs2 : SReg) (s : State) (h : GoodS qq s) :
    GoodNext qq (execSel x rd rs1 rs2 s) := by
  unfold execSel
  try dsimp only
  repeat' first
    | (with_reducible first | assumption | apply good_issue | apply good_ite | apply goodNext_ite | refine (goodNext_next _).2 ?_)
    | (intro _; intros; dsimp only) | (intro _; intros) | split | dsimp only

theorem good_execMul (x : Px) (rd rs1 rs2 : SReg) (s : State) (h : GoodS qq s) :
    GoodNext qq (execMul x rd rs1 rs2 s) := by
  unfold execMul
  try dsimp only
  repeat' first
    | (with_reducible first | assumption | apply good_issue | refine (goodNext_next _).2 ?_)
    | (intro _; intros; dsimp only) | (intro _; intros) | split | dsimp only

theorem good_execMulh (x : Px) (rd rs1 rs2 : SReg) (s : State) (h : GoodS qq s) :
    GoodNext qq (execMulh x rd rs1 rs2 s) := by
  unfold execMulh
  try dsimp only
  repeat' first
    | (with_reducible first | assumption | apply good_issue | refine (goodNext_next _).2 ?_)
    | (intro _; intros; dsimp only) | (intro _; intros) | split | dsimp only

theorem good_execMulhu (x : Px) (rd rs1 rs2 : SReg) (s : State) (h : GoodS qq s) :
    GoodNext qq (execMulhu x rd rs1 rs2 s) := by
  unfold execMulhu
  try dsimp only
  repeat' first
    | (with_reducible first | assumption | apply good_issue | refine (goodNext_next _).2 ?_)
    | (intro _; intros; dsimp only) | (intro _; intros) | split | dsimp only

theorem good_execMulhsu (x : Px) (rd rs1 rs2 : SReg) (s : State) (h : GoodS qq s) :
    GoodNext qq (execMulhsu x rd rs1 rs2 s) := by
  unfold execMulhsu
  try dsimp only
  repeat' first
    | (with_reducible first | assumption | apply good_issue | refine (goodNext_next _).2 ?_)
    | (intro _; intros; dsimp only) | (intro _; intros) | split | dsimp only

theorem good_execDiv (x : Px) (rd rs1 rs2 : SReg) (s : State) (h : GoodS qq s) :
    GoodNext qq (execDiv x rd rs1 rs2 s) := by
  unfold execDiv
  try dsimp only
  repeat' first
    | (with_reducible first | assumption | apply good_issue | refine (goodNext_next _).2 ?_)
    | (intro _; intros; dsimp only) | (intro _; intros) | split | dsimp only

theorem good_execDivu (x : Px) (rd rs1 rs2 : SReg) (s : State) (h : GoodS qq s) :
    GoodNext qq (execDivu x rd rs1 rs2 s) := by
  unfold execDivu
  try dsimp only
  repeat' first
    | (with_reducible first | assumption | apply good_issue | refine (goodNext_next _).2 ?_)
    | (intro _; intros; dsimp only) | (intro _; intros) | split | dsimp only

theorem good_execRem (x : Px) (rd rs1 rs2 : SReg) (s : State) (h : GoodS qq s) :
    GoodNext qq (execRem x rd rs1 rs2 s) := by
  unfold execRem
  try dsimp only
  repeat' first
    | (with_reducible first | assumption | apply good_issue | refine (goodNext_next _).2 ?_)
    | (intro _; intros; dsimp only) | (intro _; intros) | split | dsimp only

theorem good_execRemu (x : Px) (rd rs1 rs2 : SReg) (s : State) (h : GoodS qq s) :
    GoodNext qq (execRemu x rd rs1 rs2 s) := by
  unfold execRemu
  try dsimp only
  repeat' first
    | (with_reducible first | assumption | apply good_issue | refine (goodNext_next _).2 ?_)
    | (intro _; intros; dsimp only) | (intro _; intros) | split | dsimp only

theorem good_execClz (x : Px) (rd rs1 : SReg) (s : State) (h : GoodS qq s) :
    GoodNext qq (execClz x rd rs1 s) := by
  unfold execClz
  try dsimp only
  repeat' first
    | (with_reducible first | assumption | apply good_issue | refine (goodNext_next _).2 ?_)
    | (intro _; intros; dsimp only) | (intro _; intros) | split | dsimp only

theorem good_execCtz (x : Px) (rd rs1 : SReg) (s : State) (h : GoodS qq s) :
    GoodNext qq (execCtz x rd rs1 s) := by
  unfold execCtz
  try dsimp only
  repeat' first
    | (with_reducible first | assumption | apply good_issue | refine (goodNext_next _).2 ?_)
    | (intro _; intros; dsimp only) | (intro _; intros) | split | dsimp only

theorem good_execPopc (x : Px) (rd rs1 : SReg) (s : State) (h : GoodS qq s) :
    GoodNext qq (execPopc x rd rs1 s) := by
  unfold execPopc
  try dsimp only
  repeat' first
    | (with_reducible first | assumption | apply good_issue | refine (goodNext_next _).2 ?_)
    | (intro _; intros; dsimp only) | (intro _; intros) | split | dsimp only

theorem good_execRev8 (x : Px) (rd rs1 : SReg) (s : State) (h : GoodS qq s) :
    GoodNext qq (execRev8 x rd rs1 s) := by
  unfold execRev8
  try dsimp only
  repeat' first
    | (with_reducible first | assumption | apply good_issue | refine (goodNext_next _).2 ?_)
    | (intro _; intros; dsimp only) | (intro _; intros) | split | dsimp only

theorem good_execRor (x : Px) (rd rs1 rs2 : SReg) (s : State) (h : GoodS qq s) :
    GoodNext qq (execRor x rd rs1 rs2 s) := by
  unfold execRor
  try dsimp only
  repeat' first
    | (with_reducible first | assumption | apply good_issue | refine (goodNext_next _).2 ?_)
    | (intro _; intros; dsimp only) | (intro _; intros) | split | dsimp only

theorem good_execRol (x : Px) (rd rs1 rs2 : SReg) (s : State) (h : GoodS qq s) :
    GoodNext qq (execRol x rd rs1 rs2 s) := by
  unfold execRol
  try dsimp only
  repeat' first
    | (with_reducible first | assumption | apply good_issue | refine (goodNext_next _).2 ?_)
    | (intro _; intros; dsimp only) | (intro _; intros) | split | dsimp only

theorem good_execSextB (x : Px) (rd rs1 : SReg) (s : State) (h : GoodS qq s) :
    GoodNext qq (execSextB x rd rs1 s) := by
  unfold execSextB
  try dsimp only
  repeat' first
    | (with_reducible first | assumption | apply good_issue | refine (goodNext_next _).2 ?_)
    | (intro _; intros; dsimp only) | (intro _; intros) | split | dsimp only

theorem good_execSextH (x : Px) (rd rs1 : SReg) (s : State) (h : GoodS qq s) :
    GoodNext qq (execSextH x rd rs1 s) := by
  unfold execSextH
  try dsimp only
  repeat' first
    | (with_reducible first | assumption | apply good_issue | refine (goodNext_next _).2 ?_)
    | (intro _; intros; dsimp only) | (intro _; intros) | split | dsimp only

theorem good_execSextW (x : Px) (rd rs1 : SReg) (s : State) (h : GoodS qq s) :
    GoodNext qq (execSextW x rd rs1 s) := by
  unfold execSextW
  try dsimp only
  repeat' first
    | (with_reducible first | assumption | apply good_issue | refine (goodNext_next _).2 ?_)
    | (intro _; intros; dsimp only) | (intro _; intros) | split | dsimp only

theorem good_execZextW (x : Px) (rd rs1 : SReg) (s : State) (h : GoodS qq s) :
    GoodNext qq (execZextW x rd rs1 s) := by
  unfold execZextW
  try dsimp only
  repeat' first
    | (with_reducible first | assumption | apply good_issue | refine (goodNext_next _).2 ?_)
    | (intro _; intros; dsimp only) | (intro _; intros) | split | dsimp only

theorem good_execMfc (x : Px) (rd : SReg) (imm16 : BitVec 16) (s : State) (h : GoodS qq s) :
    GoodNext qq (execMfc x rd imm16 s) := by
  unfold execMfc
  try dsimp only
  repeat' first
    | (with_reducible first | assumption | apply good_issue | refine (goodNext_next _).2 ?_)
    | (intro _; intros; dsimp only) | (intro _; intros) | split | dsimp only

theorem good_execMtc (x : Px) (rs : SReg) (imm16 : BitVec 16) (s : State) (h : GoodS qq s) :
    GoodNext qq (execMtc x rs imm16 s) := by
  unfold execMtc
  try dsimp only
  repeat' first
    | (with_reducible first | assumption | apply good_issue | refine (goodNext_next _).2 ?_)
    | (intro _; intros; dsimp only) | (intro _; intros) | split | dsimp only

theorem good_execAddi (x : Px) (rd rs1 : SReg) (imm10 : BitVec 10) (s : State) (h : GoodS qq s) :
    GoodNext qq (execAddi x rd rs1 imm10 s) := by
  unfold execAddi
  try dsimp only
  repeat' first
    | (with_reducible first | assumption | apply good_issue | refine (goodNext_next _).2 ?_)
    | (intro _; intros; dsimp only) | (intro _; intros) | split | dsimp only

theorem good_execAndi (x : Px) (rd rs1 : SReg) (imm10 : BitVec 10) (s : State) (h : GoodS qq s) :
    GoodNext qq (execAndi x rd rs1 imm10 s) := by
  unfold execAndi
  try dsimp only
  repeat' first
    | (with_reducible first | assumption | apply good_issue | refine (goodNext_next _).2 ?_)
    | (intro _; intros; dsimp only) | (intro _; intros) | split | dsimp only

theorem good_execOri (x : Px) (rd rs1 : SReg) (imm10 : BitVec 10) (s : State) (h : GoodS qq s) :
    GoodNext qq (execOri x rd rs1 imm10 s) := by
  unfold execOri
  try dsimp only
  repeat' first
    | (with_reducible first | assumption | apply good_issue | refine (goodNext_next _).2 ?_)
    | (intro _; intros; dsimp only) | (intro _; intros) | split | dsimp only

theorem good_execXori (x : Px) (rd rs1 : SReg) (imm10 : BitVec 10) (s : State) (h : GoodS qq s) :
    GoodNext qq (execXori x rd rs1 imm10 s) := by
  unfold execXori
  try dsimp only
  repeat' first
    | (with_reducible first | assumption | apply good_issue | refine (goodNext_next _).2 ?_)
    | (intro _; intros; dsimp only) | (intro _; intros) | split | dsimp only

theorem good_execSlli (x : Px) (rd rs1 : SReg) (imm10 : BitVec 10) (s : State) (h : GoodS qq s) :
    GoodNext qq (execSlli x rd rs1 imm10 s) := by
  unfold execSlli
  try dsimp only
  repeat' first
    | (with_reducible first | assumption | apply good_issue | refine (goodNext_next _).2 ?_)
    | (intro _; intros; dsimp only) | (intro _; intros) | split | dsimp only

theorem good_execSrli (x : Px) (rd rs1 : SReg) (imm10 : BitVec 10) (s : State) (h : GoodS qq s) :
    GoodNext qq (execSrli x rd rs1 imm10 s) := by
  unfold execSrli
  try dsimp only
  repeat' first
    | (with_reducible first | assumption | apply good_issue | refine (goodNext_next _).2 ?_)
    | (intro _; intros; dsimp only) | (intro _; intros) | split | dsimp only

theorem good_execSrai (x : Px) (rd rs1 : SReg) (imm10 : BitVec 10) (s : State) (h : GoodS qq s) :
    GoodNext qq (execSrai x rd rs1 imm10 s) := by
  unfold execSrai
  try dsimp only
  repeat' first
    | (with_reducible first | assumption | apply good_issue | refine (goodNext_next _).2 ?_)
    | (intro _; intros; dsimp only) | (intro _; intros) | split | dsimp only

theorem good_execSlti (x : Px) (rd rs1 : SReg) (imm10 : BitVec 10) (s : State) (h : GoodS qq s) :
    GoodNext qq (execSlti x rd rs1 imm10 s) := by
  unfold execSlti
  try dsimp only
  repeat' first
    | (with_reducible first | assumption | apply good_issue | refine (goodNext_next _).2 ?_)
    | (intro _; intros; dsimp only) | (intro _; intros) | split | dsimp only

theorem good_execSltiu (x : Px) (rd rs1 : SReg) (imm10 : BitVec 10) (s : State) (h : GoodS qq s) :
    GoodNext qq (execSltiu x rd rs1 imm10 s) := by
  unfold execSltiu
  try dsimp only
  repeat' first
    | (with_reducible first | assumption | apply good_issue | refine (goodNext_next _).2 ?_)
    | (intro _; intros; dsimp only) | (intro _; intros) | split | dsimp only

theorem good_execMuli (x : Px) (rd rs1 : SReg) (imm10 : BitVec 10) (s : State) (h : GoodS qq s) :
    GoodNext qq (execMuli x rd rs1 imm10 s) := by
  unfold execMuli
  try dsimp only
  repeat' first
    | (with_reducible first | assumption | apply good_issue | refine (goodNext_next _).2 ?_)
    | (intro _; intros; dsimp only) | (intro _; intros) | split | dsimp only

theorem good_execSli (x : Px) (rd : SReg) (imm16 : BitVec 16) (s : State) (h : GoodS qq s) :
    GoodNext qq (execSli x rd imm16 s) := by
  unfold execSli
  try dsimp only
  repeat' first
    | (with_reducible first | assumption | apply good_issue | refine (goodNext_next _).2 ?_)
    | (intro _; intros; dsimp only) | (intro _; intros) | split | dsimp only

theorem good_execSins1 (x : Px) (rd : SReg) (imm16 : BitVec 16) (s : State) (h : GoodS qq s) :
    GoodNext qq (execSins1 x rd imm16 s) := by
  unfold execSins1
  try dsimp only
  repeat' first
    | (with_reducible first | assumption | apply good_issue | refine (goodNext_next _).2 ?_)
    | (intro _; intros; dsimp only) | (intro _; intros) | split | dsimp only

theorem good_execSins2 (x : Px) (rd : SReg) (imm16 : BitVec 16) (s : State) (h : GoodS qq s) :
    GoodNext qq (execSins2 x rd imm16 s) := by
  unfold execSins2
  try dsimp only
  repeat' first
    | (with_reducible first | assumption | apply good_issue | refine (goodNext_next _).2 ?_)
    | (intro _; intros; dsimp only) | (intro _; intros) | split | dsimp only

theorem good_execSins3 (x : Px) (rd : SReg) (imm16 : BitVec 16) (s : State) (h : GoodS qq s) :
    GoodNext qq (execSins3 x rd imm16 s) := by
  unfold execSins3
  try dsimp only
  repeat' first
    | (with_reducible first | assumption | apply good_issue | refine (goodNext_next _).2 ?_)
    | (intro _; intros; dsimp only) | (intro _; intros) | split | dsimp only

theorem good_execSpc (x : Px) (rd : SReg) (imm16 : BitVec 16) (s : State) (h : GoodS qq s) :
    GoodNext qq (execSpc x rd imm16 s) := by
  unfold execSpc
  try dsimp only
  repeat' first
    | (with_reducible first | assumption | apply good_issue | refine (goodNext_next _).2 ?_)
    | (intro _; intros; dsimp only) | (intro _; intros) | split | dsimp only

/-! PxMem -/

theorem good_execLdB (x : Px) (rd rb : SReg) (off : BitVec 10) (s : State) (h : GoodS qq s) :
    GoodNext qq (execLdB x rd rb off s) := by
  unfold execLdB
  try dsimp only
  repeat' first
    | (with_reducible first | assumption | apply good_issue | refine (goodNext_next _).2 ?_)
    | (intro _; intros; dsimp only) | (intro _; intros) | split | dsimp only

theorem good_execLdBu (x : Px) (rd rb : SReg) (off : BitVec 10) (s : State) (h : GoodS qq s) :
    GoodNext qq (execLdBu x rd rb off s) := by
  unfold execLdBu
  try dsimp only
  repeat' first
    | (with_reducible first | assumption | apply good_issue | refine (goodNext_next _).2 ?_)
    | (intro _; intros; dsimp only) | (intro _; intros) | split | dsimp only

theorem good_execLdH (x : Px) (rd rb : SReg) (off : BitVec 10) (s : State) (h : GoodS qq s) :
    GoodNext qq (execLdH x rd rb off s) := by
  unfold execLdH
  try dsimp only
  repeat' first
    | (with_reducible first | assumption | apply good_issue | refine (goodNext_next _).2 ?_)
    | (intro _; intros; dsimp only) | (intro _; intros) | split | dsimp only

theorem good_execLdHu (x : Px) (rd rb : SReg) (off : BitVec 10) (s : State) (h : GoodS qq s) :
    GoodNext qq (execLdHu x rd rb off s) := by
  unfold execLdHu
  try dsimp only
  repeat' first
    | (with_reducible first | assumption | apply good_issue | refine (goodNext_next _).2 ?_)
    | (intro _; intros; dsimp only) | (intro _; intros) | split | dsimp only

theorem good_execLdW (x : Px) (rd rb : SReg) (off : BitVec 10) (s : State) (h : GoodS qq s) :
    GoodNext qq (execLdW x rd rb off s) := by
  unfold execLdW
  try dsimp only
  repeat' first
    | (with_reducible first | assumption | apply good_issue | refine (goodNext_next _).2 ?_)
    | (intro _; intros; dsimp only) | (intro _; intros) | split | dsimp only

theorem good_execLdWu (x : Px) (rd rb : SReg) (off : BitVec 10) (s : State) (h : GoodS qq s) :
    GoodNext qq (execLdWu x rd rb off s) := by
  unfold execLdWu
  try dsimp only
  repeat' first
    | (with_reducible first | assumption | apply good_issue | refine (goodNext_next _).2 ?_)
    | (intro _; intros; dsimp only) | (intro _; intros) | split | dsimp only

theorem good_execLdD (x : Px) (rd rb : SReg) (off : BitVec 10) (s : State) (h : GoodS qq s) :
    GoodNext qq (execLdD x rd rb off s) := by
  unfold execLdD
  try dsimp only
  repeat' first
    | (with_reducible first | assumption | apply good_issue | refine (goodNext_next _).2 ?_)
    | (intro _; intros; dsimp only) | (intro _; intros) | split | dsimp only

theorem good_execStB (x : Px) (rs rb : SReg) (off : BitVec 10) (s : State) (h : GoodS qq s) :
    GoodNext qq (execStB x rs rb off s) := by
  unfold execStB
  try dsimp only
  repeat' first
    | (with_reducible first | assumption | apply good_issue | refine (goodNext_next _).2 ?_)
    | (intro _; intros; dsimp only) | (intro _; intros) | split | dsimp only

theorem good_execStH (x : Px) (rs rb : SReg) (off : BitVec 10) (s : State) (h : GoodS qq s) :
    GoodNext qq (execStH x rs rb off s) := by
  unfold execStH
  try dsimp only
  repeat' first
    | (with_reducible first | assumption | apply good_issue | refine (goodNext_next _).2 ?_)
    | (intro _; intros; dsimp only) | (intro _; intros) | split | dsimp only

theorem good_execStW (x : Px) (rs rb : SReg) (off : BitVec 10) (s : State) (h : GoodS qq s) :
    GoodNext qq (execStW x rs rb off s) := by
  unfold execStW
  try dsimp only
  repeat' first
    | (with_reducible first | assumption | apply good_issue | refine (goodNext_next _).2 ?_)
    | (intro _; intros; dsimp only) | (intro _; intros) | split | dsimp only

theorem good_execStD (x : Px) (rs rb : SReg) (off : BitVec 10) (s : State) (h : GoodS qq s) :
    GoodNext qq (execStD x rs rb off s) := by
  unfold execStD
  try dsimp only
  repeat' first
    | (with_reducible first | assumption | apply good_issue | refine (goodNext_next _).2 ?_)
    | (intro _; intros; dsimp only) | (intro _; intros) | split | dsimp only

theorem good_execAmoaddD (x : Px) (rd rb rs : SReg) (s : State) (h : GoodS qq s) :
    GoodNext qq (execAmoaddD x rd rb rs s) := by
  unfold execAmoaddD
  try dsimp only
  repeat' first
    | (with_reducible first | assumption | apply good_issue | refine (goodNext_next _).2 ?_)
    | (intro _; intros; dsimp only) | (intro _; intros) | split | dsimp only

theorem good_execAmoswapD (x : Px) (rd rb rs : SReg) (s : State) (h : GoodS qq s) :
    GoodNext qq (execAmoswapD x rd rb rs s) := by
  unfold execAmoswapD
  try dsimp only
  repeat' first
    | (with_reducible first | assumption | apply good_issue | refine (goodNext_next _).2 ?_)
    | (intro _; intros; dsimp only) | (intro _; intros) | split | dsimp only

theorem good_execAmocasD (x : Px) (rd rb rs : SReg) (s : State) (h : GoodS qq s) :
    GoodNext qq (execAmocasD x rd rb rs s) := by
  unfold execAmocasD
  try dsimp only
  repeat' first
    | (with_reducible first | assumption | apply good_issue | refine (goodNext_next _).2 ?_)
    | (intro _; intros; dsimp only) | (intro _; intros) | split | dsimp only

theorem good_execSig (x : Px) (rs : SReg) (cc : BitVec 6) (s : State) (h : GoodS qq s) :
    GoodNext qq (execSig x rs cc s) := by
  unfold execSig
  try dsimp only
  repeat' first
    | (with_reducible first | assumption | apply good_issue | refine (goodNext_next _).2 ?_)
    | (intro _; intros; dsimp only) | (intro _; intros) | split | dsimp only

theorem good_execCcadd (x : Px) (rs : SReg) (cc : BitVec 6) (s : State) (h : GoodS qq s) :
    GoodNext qq (execCcadd x rs cc s) := by
  unfold execCcadd
  try dsimp only
  repeat' first
    | (with_reducible first | assumption | apply good_issue | refine (goodNext_next _).2 ?_)
    | (intro _; intros; dsimp only) | (intro _; intros) | split | dsimp only

theorem good_execCcset (x : Px) (rs : SReg) (cc : BitVec 6) (s : State) (h : GoodS qq s) :
    GoodNext qq (execCcset x rs cc s) := by
  unfold execCcset
  try dsimp only
  repeat' first
    | (with_reducible first | assumption | apply good_issue | refine (goodNext_next _).2 ?_)
    | (intro _; intros; dsimp only) | (intro _; intros) | split | dsimp only

theorem good_execCcrd (x : Px) (rd : SReg) (cc : BitVec 6) (s : State) (h : GoodS qq s) :
    GoodNext qq (execCcrd x rd cc s) := by
  unfold execCcrd
  try dsimp only
  repeat' first
    | (with_reducible first | assumption | apply good_issue | refine (goodNext_next _).2 ?_)
    | (intro _; intros; dsimp only) | (intro _; intros) | split | dsimp only

theorem good_execCcwait (x : Px) (rd rt : SReg) (cc : BitVec 6) (s : State) (h : GoodS qq s) :
    GoodNext qq (execCcwait x rd rt cc s) := by
  unfold execCcwait
  try dsimp only
  repeat' first
    | (with_reducible first | assumption | apply good_issue | refine (goodNext_next _).2 ?_)
    | (intro _; intros; dsimp only) | (intro _; intros) | split | dsimp only

theorem good_execFence (x : Px) (s : State) (h : GoodS qq s) :
    GoodNext qq (execFence x s) := by
  unfold execFence
  try dsimp only
  repeat' first
    | (with_reducible first | assumption | apply good_issue | refine (goodNext_next _).2 ?_)
    | (intro _; intros; dsimp only) | (intro _; intros) | split | dsimp only

theorem good_execIcinv (x : Px) (rb : SReg) (fn : BitVec 4) (s : State) (h : GoodS qq s) :
    GoodNext qq (execIcinv x rb fn s) := by
  unfold execIcinv
  try dsimp only
  repeat' first
    | (with_reducible first | assumption | apply good_issue | apply good_ite | apply goodNext_ite | refine (goodNext_next _).2 ?_)
    | (intro _; intros; dsimp only) | (intro _; intros) | split | dsimp only

theorem good_execLdg (x : Px) (rd rb : SReg) (off : BitVec 10) (s : State) (h : GoodS qq s) :
    GoodNext qq (execLdg x rd rb off s) := by
  unfold execLdg
  try dsimp only
  repeat' first
    | (with_reducible first | assumption | apply good_issue | apply good_ite | apply goodNext_ite | refine (goodNext_next _).2 ?_)
    | (intro _; intros; dsimp only) | (intro _; intros) | split | dsimp only

theorem good_execStg (x : Px) (rs rb : SReg) (off : BitVec 10) (s : State) (h : GoodS qq s) :
    GoodNext qq (execStg x rs rb off s) := by
  unfold execStg
  try dsimp only
  repeat' first
    | (with_reducible first | assumption | apply good_store | apply good_issue | apply good_ite | apply goodNext_ite | refine good_foldl _ _ ?_ _ ?_ | refine good_foldl_fst _ _ ?_ _ ?_ | refine good_foldl_snd _ _ ?_ _ ?_ | refine (goodNext_next _).2 ?_)
    | (intro _; intros; dsimp only) | (intro _; intros) | split | dsimp only

/-! PxCtl -/

theorem good_execBeq (x : Px) (rs1 rs2 : SReg) (off : BitVec 10) (s : State) (h : GoodS qq s) :
    GoodNext qq (execBeq x rs1 rs2 off s) := by
  unfold execBeq
  try dsimp only
  repeat' first
    | (with_reducible first | assumption | apply good_issue | refine (goodNext_next _).2 ?_)
    | (intro _; intros; dsimp only) | (intro _; intros) | split | dsimp only

theorem good_execBne (x : Px) (rs1 rs2 : SReg) (off : BitVec 10) (s : State) (h : GoodS qq s) :
    GoodNext qq (execBne x rs1 rs2 off s) := by
  unfold execBne
  try dsimp only
  repeat' first
    | (with_reducible first | assumption | apply good_issue | refine (goodNext_next _).2 ?_)
    | (intro _; intros; dsimp only) | (intro _; intros) | split | dsimp only

theorem good_execBlt (x : Px) (rs1 rs2 : SReg) (off : BitVec 10) (s : State) (h : GoodS qq s) :
    GoodNext qq (execBlt x rs1 rs2 off s) := by
  unfold execBlt
  try dsimp only
  repeat' first
    | (with_reducible first | assumption | apply good_issue | refine (goodNext_next _).2 ?_)
    | (intro _; intros; dsimp only) | (intro _; intros) | split | dsimp only

theorem good_execBge (x : Px) (rs1 rs2 : SReg) (off : BitVec 10) (s : State) (h : GoodS qq s) :
    GoodNext qq (execBge x rs1 rs2 off s) := by
  unfold execBge
  try dsimp only
  repeat' first
    | (with_reducible first | assumption | apply good_issue | refine (goodNext_next _).2 ?_)
    | (intro _; intros; dsimp only) | (intro _; intros) | split | dsimp only

theorem good_execBltu (x : Px) (rs1 rs2 : SReg) (off : BitVec 10) (s : State) (h : GoodS qq s) :
    GoodNext qq (execBltu x rs1 rs2 off s) := by
  unfold execBltu
  try dsimp only
  repeat' first
    | (with_reducible first | assumption | apply good_issue | refine (goodNext_next _).2 ?_)
    | (intro _; intros; dsimp only) | (intro _; intros) | split | dsimp only

theorem good_execBgeu (x : Px) (rs1 rs2 : SReg) (off : BitVec 10) (s : State) (h : GoodS qq s) :
    GoodNext qq (execBgeu x rs1 rs2 off s) := by
  unfold execBgeu
  try dsimp only
  repeat' first
    | (with_reducible first | assumption | apply good_issue | refine (goodNext_next _).2 ?_)
    | (intro _; intros; dsimp only) | (intro _; intros) | split | dsimp only

theorem good_execJmp (x : Px) (off : BitVec 22) (s : State) (h : GoodS qq s) :
    GoodNext qq (execJmp x off s) := by
  unfold execJmp
  try dsimp only
  repeat' first
    | (with_reducible first | assumption | apply good_issue | refine (goodNext_next _).2 ?_)
    | (intro _; intros; dsimp only) | (intro _; intros) | split | dsimp only

theorem good_execCall (x : Px) (off : BitVec 22) (s : State) (h : GoodS qq s) :
    GoodNext qq (execCall x off s) := by
  unfold execCall
  try dsimp only
  repeat' first
    | (with_reducible first | assumption | apply good_issue | refine (goodNext_next _).2 ?_)
    | (intro _; intros; dsimp only) | (intro _; intros) | split | dsimp only

theorem good_execJr (x : Px) (rs : SReg) (s : State) (h : GoodS qq s) :
    GoodNext qq (execJr x rs s) := by
  unfold execJr
  try dsimp only
  repeat' first
    | (with_reducible first | assumption | apply good_issue | refine (goodNext_next _).2 ?_)
    | (intro _; intros; dsimp only) | (intro _; intros) | split | dsimp only

theorem good_execJalr (x : Px) (rd rs : SReg) (s : State) (h : GoodS qq s) :
    GoodNext qq (execJalr x rd rs s) := by
  unfold execJalr
  try dsimp only
  repeat' first
    | (with_reducible first | assumption | apply good_issue | refine (goodNext_next _).2 ?_)
    | (intro _; intros; dsimp only) | (intro _; intros) | split | dsimp only

theorem good_execLoop (x : Px) (l : Fin 2) (rs : SReg) (endoff : BitVec 15) (s : State) (h : GoodS qq s) :
    GoodNext qq (execLoop x l rs endoff s) := by
  unfold execLoop
  try dsimp only
  repeat' first
    | (with_reducible first | assumption | apply good_issue | refine (goodNext_next _).2 ?_)
    | (intro _; intros; dsimp only) | (intro _; intros) | split | dsimp only

theorem good_execLoopi (x : Px) (l : Fin 2) (count : BitVec 10) (endoff : BitVec 11) (s : State) (h : GoodS qq s) :
    GoodNext qq (execLoopi x l count endoff s) := by
  unfold execLoopi
  try dsimp only
  repeat' first
    | (with_reducible first | assumption | apply good_issue | refine (goodNext_next _).2 ?_)
    | (intro _; intros; dsimp only) | (intro _; intros) | split | dsimp only

theorem good_execTrap (x : Px) (code : BitVec 16) (s : State) (h : GoodS qq s) :
    GoodNext qq (execTrap x code s) := by
  unfold execTrap
  try dsimp only
  repeat' first
    | (with_reducible first | assumption | apply good_issue | refine (goodNext_next _).2 ?_)
    | (intro _; intros; dsimp only) | (intro _; intros) | split | dsimp only

theorem good_execBrk (x : Px) (s : State) (h : GoodS qq s) :
    GoodNext qq (execBrk x s) := by
  unfold execBrk
  try dsimp only
  repeat' first
    | (with_reducible first | assumption | apply good_issue | refine (goodNext_next _).2 ?_)
    | (intro _; intros; dsimp only) | (intro _; intros) | split | dsimp only

theorem good_execRfe (x : Px) (s : State) (h : GoodS qq s) :
    GoodNext qq (execRfe x s) := by
  unfold execRfe
  try dsimp only
  repeat' first
    | (with_reducible first | assumption | apply good_issue | apply good_ite | apply goodNext_ite | refine (goodNext_next _).2 ?_)
    | (intro _; intros; dsimp only) | (intro _; intros) | split | dsimp only

theorem good_execWfi (x : Px) (s : State) (h : GoodS qq s) :
    GoodNext qq (execWfi x s) := by
  unfold execWfi
  try dsimp only
  repeat' first
    | (with_reducible first | assumption | apply good_issue | refine (goodNext_next _).2 ?_)
    | (intro _; intros; dsimp only) | (intro _; intros) | split | dsimp only

theorem good_execHalt (x : Px) (s : State) (h : GoodS qq s) :
    GoodNext qq (execHalt x s) := by
  unfold execHalt
  try dsimp only
  repeat' first
    | (with_reducible first | assumption | apply good_issue | apply good_ite | apply goodNext_ite | refine (goodNext_next _).2 ?_)
    | (intro _; intros; dsimp only) | (intro _; intros) | split | dsimp only

/-! PxVInt -/

theorem good_execVadd (x : Px) (o : VOp) (s : State) (h : GoodS qq s) :
    GoodNext qq (execVadd x o s) := by
  unfold execVadd
  try dsimp only
  repeat' first
    | (with_reducible first | assumption | apply good_issue | refine (goodNext_next _).2 ?_)
    | (intro _; intros; dsimp only) | (intro _; intros) | split | dsimp only

theorem good_execVsub (x : Px) (o : VOp) (s : State) (h : GoodS qq s) :
    GoodNext qq (execVsub x o s) := by
  unfold execVsub
  try dsimp only
  repeat' first
    | (with_reducible first | assumption | apply good_issue | refine (goodNext_next _).2 ?_)
    | (intro _; intros; dsimp only) | (intro _; intros) | split | dsimp only

theorem good_execVand (x : Px) (o : VOp) (s : State) (h : GoodS qq s) :
    GoodNext qq (execVand x o s) := by
  unfold execVand
  try dsimp only
  repeat' first
    | (with_reducible first | assumption | apply good_issue | refine (goodNext_next _).2 ?_)
    | (intro _; intros; dsimp only) | (intro _; intros) | split | dsimp only

theorem good_execVor (x : Px) (o : VOp) (s : State) (h : GoodS qq s) :
    GoodNext qq (execVor x o s) := by
  unfold execVor
  try dsimp only
  repeat' first
    | (with_reducible first | assumption | apply good_issue | refine (goodNext_next _).2 ?_)
    | (intro _; intros; dsimp only) | (intro _; intros) | split | dsimp only

theorem good_execVxor (x : Px) (o : VOp) (s : State) (h : GoodS qq s) :
    GoodNext qq (execVxor x o s) := by
  unfold execVxor
  try dsimp only
  repeat' first
    | (with_reducible first | assumption | apply good_issue | refine (goodNext_next _).2 ?_)
    | (intro _; intros; dsimp only) | (intro _; intros) | split | dsimp only

theorem good_execVsll (x : Px) (o : VOp) (s : State) (h : GoodS qq s) :
    GoodNext qq (execVsll x o s) := by
  unfold execVsll
  try dsimp only
  repeat' first
    | (with_reducible first | assumption | apply good_issue | refine (goodNext_next _).2 ?_)
    | (intro _; intros; dsimp only) | (intro _; intros) | split | dsimp only

theorem good_execVsrl (x : Px) (o : VOp) (s : State) (h : GoodS qq s) :
    GoodNext qq (execVsrl x o s) := by
  unfold execVsrl
  try dsimp only
  repeat' first
    | (with_reducible first | assumption | apply good_issue | refine (goodNext_next _).2 ?_)
    | (intro _; intros; dsimp only) | (intro _; intros) | split | dsimp only

theorem good_execVsra (x : Px) (o : VOp) (s : State) (h : GoodS qq s) :
    GoodNext qq (execVsra x o s) := by
  unfold execVsra
  try dsimp only
  repeat' first
    | (with_reducible first | assumption | apply good_issue | refine (goodNext_next _).2 ?_)
    | (intro _; intros; dsimp only) | (intro _; intros) | split | dsimp only

theorem good_execVmin (x : Px) (o : VOp) (s : State) (h : GoodS qq s) :
    GoodNext qq (execVmin x o s) := by
  unfold execVmin
  try dsimp only
  repeat' first
    | (with_reducible first | assumption | apply good_issue | refine (goodNext_next _).2 ?_)
    | (intro _; intros; dsimp only) | (intro _; intros) | split | dsimp only

theorem good_execVmax (x : Px) (o : VOp) (s : State) (h : GoodS qq s) :
    GoodNext qq (execVmax x o s) := by
  unfold execVmax
  try dsimp only
  repeat' first
    | (with_reducible first | assumption | apply good_issue | refine (goodNext_next _).2 ?_)
    | (intro _; intros; dsimp only) | (intro _; intros) | split | dsimp only

theorem good_execVminu (x : Px) (o : VOp) (s : State) (h : GoodS qq s) :
    GoodNext qq (execVminu x o s) := by
  unfold execVminu
  try dsimp only
  repeat' first
    | (with_reducible first | assumption | apply good_issue | refine (goodNext_next _).2 ?_)
    | (intro _; intros; dsimp only) | (intro _; intros) | split | dsimp only

theorem good_execVmaxu (x : Px) (o : VOp) (s : State) (h : GoodS qq s) :
    GoodNext qq (execVmaxu x o s) := by
  unfold execVmaxu
  try dsimp only
  repeat' first
    | (with_reducible first | assumption | apply good_issue | refine (goodNext_next _).2 ?_)
    | (intro _; intros; dsimp only) | (intro _; intros) | split | dsimp only

theorem good_execVsadd (x : Px) (o : VOp) (s : State) (h : GoodS qq s) :
    GoodNext qq (execVsadd x o s) := by
  unfold execVsadd
  try dsimp only
  repeat' first
    | (with_reducible first | assumption | apply good_issue | refine (goodNext_next _).2 ?_)
    | (intro _; intros; dsimp only) | (intro _; intros) | split | dsimp only

theorem good_execVsaddu (x : Px) (o : VOp) (s : State) (h : GoodS qq s) :
    GoodNext qq (execVsaddu x o s) := by
  unfold execVsaddu
  try dsimp only
  repeat' first
    | (with_reducible first | assumption | apply good_issue | refine (goodNext_next _).2 ?_)
    | (intro _; intros; dsimp only) | (intro _; intros) | split | dsimp only

theorem good_execVssub (x : Px) (o : VOp) (s : State) (h : GoodS qq s) :
    GoodNext qq (execVssub x o s) := by
  unfold execVssub
  try dsimp only
  repeat' first
    | (with_reducible first | assumption | apply good_issue | refine (goodNext_next _).2 ?_)
    | (intro _; intros; dsimp only) | (intro _; intros) | split | dsimp only

theorem good_execVssubu (x : Px) (o : VOp) (s : State) (h : GoodS qq s) :
    GoodNext qq (execVssubu x o s) := by
  unfold execVssubu
  try dsimp only
  repeat' first
    | (with_reducible first | assumption | apply good_issue | refine (goodNext_next _).2 ?_)
    | (intro _; intros; dsimp only) | (intro _; intros) | split | dsimp only

theorem good_execVmul (x : Px) (o : VOp) (s : State) (h : GoodS qq s) :
    GoodNext qq (execVmul x o s) := by
  unfold execVmul
  try dsimp only
  repeat' first
    | (with_reducible first | assumption | apply good_issue | refine (goodNext_next _).2 ?_)
    | (intro _; intros; dsimp only) | (intro _; intros) | split | dsimp only

theorem good_execVmulh (x : Px) (o : VOp) (s : State) (h : GoodS qq s) :
    GoodNext qq (execVmulh x o s) := by
  unfold execVmulh
  try dsimp only
  repeat' first
    | (with_reducible first | assumption | apply good_issue | refine (goodNext_next _).2 ?_)
    | (intro _; intros; dsimp only) | (intro _; intros) | split | dsimp only

theorem good_execVmulhu (x : Px) (o : VOp) (s : State) (h : GoodS qq s) :
    GoodNext qq (execVmulhu x o s) := by
  unfold execVmulhu
  try dsimp only
  repeat' first
    | (with_reducible first | assumption | apply good_issue | refine (goodNext_next _).2 ?_)
    | (intro _; intros; dsimp only) | (intro _; intros) | split | dsimp only

theorem good_execVmacc (x : Px) (o : VOp) (s : State) (h : GoodS qq s) :
    GoodNext qq (execVmacc x o s) := by
  unfold execVmacc
  try dsimp only
  repeat' first
    | (with_reducible first | assumption | apply good_issue | refine (goodNext_next _).2 ?_)
    | (intro _; intros; dsimp only) | (intro _; intros) | split | dsimp only

theorem good_execVabsd (x : Px) (o : VOp) (s : State) (h : GoodS qq s) :
    GoodNext qq (execVabsd x o s) := by
  unfold execVabsd
  try dsimp only
  repeat' first
    | (with_reducible first | assumption | apply good_issue | refine (goodNext_next _).2 ?_)
    | (intro _; intros; dsimp only) | (intro _; intros) | split | dsimp only

theorem good_execVsel (x : Px) (o : VOp) (s : State) (h : GoodS qq s) :
    GoodNext qq (execVsel x o s) := by
  unfold execVsel
  try dsimp only
  repeat' first
    | (with_reducible first | assumption | apply good_issue | apply good_ite | apply goodNext_ite | refine (goodNext_next _).2 ?_)
    | (intro _; intros; dsimp only) | (intro _; intros) | split | dsimp only

theorem good_execVcmpeq (x : Px) (o : VOp) (s : State) (h : GoodS qq s) :
    GoodNext qq (execVcmpeq x o s) := by
  unfold execVcmpeq
  try dsimp only
  repeat' first
    | (with_reducible first | assumption | apply good_issue | refine (goodNext_next _).2 ?_)
    | (intro _; intros; dsimp only) | (intro _; intros) | split | dsimp only

theorem good_execVcmpne (x : Px) (o : VOp) (s : State) (h : GoodS qq s) :
    GoodNext qq (execVcmpne x o s) := by
  unfold execVcmpne
  try dsimp only
  repeat' first
    | (with_reducible first | assumption | apply good_issue | refine (goodNext_next _).2 ?_)
    | (intro _; intros; dsimp only) | (intro _; intros) | split | dsimp only

theorem good_execVcmplt (x : Px) (o : VOp) (s : State) (h : GoodS qq s) :
    GoodNext qq (execVcmplt x o s) := by
  unfold execVcmplt
  try dsimp only
  repeat' first
    | (with_reducible first | assumption | apply good_issue | refine (goodNext_next _).2 ?_)
    | (intro _; intros; dsimp only) | (intro _; intros) | split | dsimp only

theorem good_execVcmpltu (x : Px) (o : VOp) (s : State) (h : GoodS qq s) :
    GoodNext qq (execVcmpltu x o s) := by
  unfold execVcmpltu
  try dsimp only
  repeat' first
    | (with_reducible first | assumption | apply good_issue | refine (goodNext_next _).2 ?_)
    | (intro _; intros; dsimp only) | (intro _; intros) | split | dsimp only

theorem good_execVcmple (x : Px) (o : VOp) (s : State) (h : GoodS qq s) :
    GoodNext qq (execVcmple x o s) := by
  unfold execVcmple
  try dsimp only
  repeat' first
    | (with_reducible first | assumption | apply good_issue | refine (goodNext_next _).2 ?_)
    | (intro _; intros; dsimp only) | (intro _; intros) | split | dsimp only

theorem good_execVcmpleu (x : Px) (o : VOp) (s : State) (h : GoodS qq s) :
    GoodNext qq (execVcmpleu x o s) := by
  unfold execVcmpleu
  try dsimp only
  repeat' first
    | (with_reducible first | assumption | apply good_issue | refine (goodNext_next _).2 ?_)
    | (intro _; intros; dsimp only) | (intro _; intros) | split | dsimp only

theorem good_execVmac2 (x : Px) (o : VOp) (s : State) (h : GoodS qq s) :
    GoodNext qq (execVmac2 x o s) := by
  unfold execVmac2
  try dsimp only
  repeat' first
    | (with_reducible first | assumption | apply good_issue | refine (goodNext_next _).2 ?_)
    | (intro _; intros; dsimp only) | (intro _; intros) | split | dsimp only

theorem good_execVmac4 (x : Px) (o : VOp) (s : State) (h : GoodS qq s) :
    GoodNext qq (execVmac4 x o s) := by
  unfold execVmac4
  try dsimp only
  repeat' first
    | (with_reducible first | assumption | apply good_issue | refine (goodNext_next _).2 ?_)
    | (intro _; intros; dsimp only) | (intro _; intros) | split | dsimp only

theorem good_execVwmacc (x : Px) (o : VOp) (s : State) (h : GoodS qq s) :
    GoodNext qq (execVwmacc x o s) := by
  unfold execVwmacc
  try dsimp only
  repeat' first
    | (with_reducible first | assumption | apply good_issue | refine (goodNext_next _).2 ?_)
    | (intro _; intros; dsimp only) | (intro _; intros) | split | dsimp only

theorem good_execVaccClr (x : Px) (o : VOp) (s : State) (h : GoodS qq s) :
    GoodNext qq (execVaccClr x o s) := by
  unfold execVaccClr
  try dsimp only
  repeat' first
    | (with_reducible first | assumption | apply good_issue | apply good_ite | apply goodNext_ite | refine (goodNext_next _).2 ?_)
    | (intro _; intros; dsimp only) | (intro _; intros) | split | dsimp only

theorem good_execVaccGet (x : Px) (o : VOp) (s : State) (h : GoodS qq s) :
    GoodNext qq (execVaccGet x o s) := by
  unfold execVaccGet
  try dsimp only
  repeat' first
    | (with_reducible first | assumption | apply good_issue | refine (goodNext_next _).2 ?_)
    | (intro _; intros; dsimp only) | (intro _; intros) | split | dsimp only

theorem good_execVaccSet (x : Px) (o : VOp) (s : State) (h : GoodS qq s) :
    GoodNext qq (execVaccSet x o s) := by
  unfold execVaccSet
  try dsimp only
  repeat' first
    | (with_reducible first | assumption | apply good_issue | refine (goodNext_next _).2 ?_)
    | (intro _; intros; dsimp only) | (intro _; intros) | split | dsimp only

theorem good_execVnsra (x : Px) (o : VOp) (s : State) (h : GoodS qq s) :
    GoodNext qq (execVnsra x o s) := by
  unfold execVnsra
  try dsimp only
  repeat' first
    | (with_reducible first | assumption | apply good_issue | refine (goodNext_next _).2 ?_)
    | (intro _; intros; dsimp only) | (intro _; intros) | split | dsimp only

theorem good_execVredsum (x : Px) (o : VOp) (s : State) (h : GoodS qq s) :
    GoodNext qq (execVredsum x o s) := by
  unfold execVredsum
  try dsimp only
  repeat' first
    | (with_reducible first | assumption | apply good_issue | refine good_foldl _ _ ?_ _ ?_ | refine good_foldl_fst _ _ ?_ _ ?_ | refine good_foldl_snd _ _ ?_ _ ?_ | refine (goodNext_next _).2 ?_)
    | (intro _; intros; dsimp only) | (intro _; intros) | split | dsimp only

theorem good_execVsetvl (x : Px) (o : VOp) (s : State) (h : GoodS qq s) :
    GoodNext qq (execVsetvl x o s) := by
  unfold execVsetvl
  try dsimp only
  repeat' first
    | (with_reducible first | assumption | apply good_issue | apply good_ite | apply goodNext_ite | refine (goodNext_next _).2 ?_)
    | (intro _; intros; dsimp only) | (intro _; intros) | split | dsimp only

theorem good_execVsetvli (x : Px) (rd : Fin 32) (imm10 : BitVec 10) (var ew : BitVec 2) (s : State) (h : GoodS qq s) :
    GoodNext qq (execVsetvli x rd imm10 var ew s) := by
  unfold execVsetvli
  try dsimp only
  repeat' first
    | (with_reducible first | assumption | apply good_issue | apply good_ite | apply goodNext_ite | refine (goodNext_next _).2 ?_)
    | (intro _; intros; dsimp only) | (intro _; intros) | split | dsimp only

/-! PxVFloat -/

theorem good_execVminiV (x : Px) (o : VOp) (n : AReg) (s : State) (h : GoodS qq s) :
    GoodNext qq (execVminiV x o n s) := by
  unfold execVminiV
  try dsimp only
  repeat' first
    | (with_reducible first | assumption | apply good_issue | refine (goodNext_next _).2 ?_)
    | (intro _; intros; dsimp only) | (intro _; intros) | split | dsimp only

theorem good_execVmaxiV (x : Px) (o : VOp) (n : AReg) (s : State) (h : GoodS qq s) :
    GoodNext qq (execVmaxiV x o n s) := by
  unfold execVmaxiV
  try dsimp only
  repeat' first
    | (with_reducible first | assumption | apply good_issue | refine (goodNext_next _).2 ?_)
    | (intro _; intros; dsimp only) | (intro _; intros) | split | dsimp only

theorem good_execVminiR (x : Px) (o : VOp) (n : AReg) (s : State) (h : GoodS qq s) :
    GoodNext qq (execVminiR x o n s) := by
  unfold execVminiR
  try dsimp only
  repeat' first
    | (with_reducible first | assumption | apply good_issue | refine (goodNext_next _).2 ?_)
    | (intro _; intros; dsimp only) | (intro _; intros) | split | dsimp only

theorem good_execVmaxiR (x : Px) (o : VOp) (n : AReg) (s : State) (h : GoodS qq s) :
    GoodNext qq (execVmaxiR x o n s) := by
  unfold execVmaxiR
  try dsimp only
  repeat' first
    | (with_reducible first | assumption | apply good_issue | refine (goodNext_next _).2 ?_)
    | (intro _; intros; dsimp only) | (intro _; intros) | split | dsimp only

theorem good_execVfadd (x : Px) (o : VOp) (s : State) (h : GoodS qq s) :
    GoodNext qq (execVfadd x o s) := by
  unfold execVfadd
  try dsimp only
  repeat' first
    | (with_reducible first | assumption | apply good_issue | refine (goodNext_next _).2 ?_)
    | (intro _; intros; dsimp only) | (intro _; intros) | split | dsimp only

theorem good_execVfsub (x : Px) (o : VOp) (s : State) (h : GoodS qq s) :
    GoodNext qq (execVfsub x o s) := by
  unfold execVfsub
  try dsimp only
  repeat' first
    | (with_reducible first | assumption | apply good_issue | refine (goodNext_next _).2 ?_)
    | (intro _; intros; dsimp only) | (intro _; intros) | split | dsimp only

theorem good_execVfmul (x : Px) (o : VOp) (s : State) (h : GoodS qq s) :
    GoodNext qq (execVfmul x o s) := by
  unfold execVfmul
  try dsimp only
  repeat' first
    | (with_reducible first | assumption | apply good_issue | refine (goodNext_next _).2 ?_)
    | (intro _; intros; dsimp only) | (intro _; intros) | split | dsimp only

theorem good_execVfma (x : Px) (o : VOp) (s : State) (h : GoodS qq s) :
    GoodNext qq (execVfma x o s) := by
  unfold execVfma
  try dsimp only
  repeat' first
    | (with_reducible first | assumption | apply good_issue | refine (goodNext_next _).2 ?_)
    | (intro _; intros; dsimp only) | (intro _; intros) | split | dsimp only

theorem good_execVfmin (x : Px) (o : VOp) (s : State) (h : GoodS qq s) :
    GoodNext qq (execVfmin x o s) := by
  unfold execVfmin
  try dsimp only
  repeat' first
    | (with_reducible first | assumption | apply good_issue | refine (goodNext_next _).2 ?_)
    | (intro _; intros; dsimp only) | (intro _; intros) | split | dsimp only

theorem good_execVfmax (x : Px) (o : VOp) (s : State) (h : GoodS qq s) :
    GoodNext qq (execVfmax x o s) := by
  unfold execVfmax
  try dsimp only
  repeat' first
    | (with_reducible first | assumption | apply good_issue | refine (goodNext_next _).2 ?_)
    | (intro _; intros; dsimp only) | (intro _; intros) | split | dsimp only

theorem good_execVfcmpeq (x : Px) (o : VOp) (s : State) (h : GoodS qq s) :
    GoodNext qq (execVfcmpeq x o s) := by
  unfold execVfcmpeq
  try dsimp only
  repeat' first
    | (with_reducible first | assumption | apply good_issue | refine (goodNext_next _).2 ?_)
    | (intro _; intros; dsimp only) | (intro _; intros) | split | dsimp only

theorem good_execVfcmplt (x : Px) (o : VOp) (s : State) (h : GoodS qq s) :
    GoodNext qq (execVfcmplt x o s) := by
  unfold execVfcmplt
  try dsimp only
  repeat' first
    | (with_reducible first | assumption | apply good_issue | refine (goodNext_next _).2 ?_)
    | (intro _; intros; dsimp only) | (intro _; intros) | split | dsimp only

theorem good_execVfcmple (x : Px) (o : VOp) (s : State) (h : GoodS qq s) :
    GoodNext qq (execVfcmple x o s) := by
  unfold execVfcmple
  try dsimp only
  repeat' first
    | (with_reducible first | assumption | apply good_issue | refine (goodNext_next _).2 ?_)
    | (intro _; intros; dsimp only) | (intro _; intros) | split | dsimp only

theorem good_execVcvtFX (x : Px) (o : VOp) (s : State) (h : GoodS qq s) :
    GoodNext qq (execVcvtFX x o s) := by
  unfold execVcvtFX
  try dsimp only
  repeat' first
    | (with_reducible first | assumption | apply good_issue | apply good_ite | apply goodNext_ite | refine (goodNext_next _).2 ?_)
    | (intro _; intros; dsimp only) | (intro _; intros) | split | dsimp only

theorem good_execVcvtXF (x : Px) (o : VOp) (s : State) (h : GoodS qq s) :
    GoodNext qq (execVcvtXF x o s) := by
  unfold execVcvtXF
  try dsimp only
  repeat' first
    | (with_reducible first | assumption | apply good_issue | refine (goodNext_next _).2 ?_)
    | (intro _; intros; dsimp only) | (intro _; intros) | split | dsimp only

theorem good_execVfwiden (x : Px) (o : VOp) (s : State) (h : GoodS qq s) :
    GoodNext qq (execVfwiden x o s) := by
  unfold execVfwiden
  try dsimp only
  repeat' first
    | (with_reducible first | assumption | apply good_issue | refine (goodNext_next _).2 ?_ | refine good_filterMem _ ?_ | refine good_filterRegs _ ?_)
    | (intro _; intros; dsimp only) | (intro _; intros) | split | dsimp only

theorem good_execVfnarrow (x : Px) (o : VOp) (s : State) (h : GoodS qq s) :
    GoodNext qq (execVfnarrow x o s) := by
  unfold execVfnarrow
  try dsimp only
  repeat' first
    | (with_reducible first | assumption | apply good_issue | refine (goodNext_next _).2 ?_)
    | (intro _; intros; dsimp only) | (intro _; intros) | split | dsimp only

theorem good_execVslideup (x : Px) (o : VOp) (s : State) (h : GoodS qq s) :
    GoodNext qq (execVslideup x o s) := by
  unfold execVslideup
  try dsimp only
  repeat' first
    | (with_reducible first | assumption | apply good_issue | apply good_ite | apply goodNext_ite | refine (goodNext_next _).2 ?_)
    | (intro _; intros; dsimp only) | (intro _; intros) | split | dsimp only

theorem good_execVslidedown (x : Px) (o : VOp) (s : State) (h : GoodS qq s) :
    GoodNext qq (execVslidedown x o s) := by
  unfold execVslidedown
  try dsimp only
  repeat' first
    | (with_reducible first | assumption | apply good_issue | apply good_ite | apply goodNext_ite | refine (goodNext_next _).2 ?_)
    | (intro _; intros; dsimp only) | (intro _; intros) | split | dsimp only

theorem good_execVrgather (x : Px) (o : VOp) (s : State) (h : GoodS qq s) :
    GoodNext qq (execVrgather x o s) := by
  unfold execVrgather
  try dsimp only
  repeat' first
    | (with_reducible first | assumption | apply good_issue | apply good_ite | apply goodNext_ite | refine (goodNext_next _).2 ?_)
    | (intro _; intros; dsimp only) | (intro _; intros) | split | dsimp only

theorem good_execVbcast (x : Px) (o : VOp) (s : State) (h : GoodS qq s) :
    GoodNext qq (execVbcast x o s) := by
  unfold execVbcast
  try dsimp only
  repeat' first
    | (with_reducible first | assumption | apply good_issue | refine (goodNext_next _).2 ?_)
    | (intro _; intros; dsimp only) | (intro _; intros) | split | dsimp only

theorem good_execVext (x : Px) (o : VOp) (s : State) (h : GoodS qq s) :
    GoodNext qq (execVext x o s) := by
  unfold execVext
  try dsimp only
  repeat' first
    | (with_reducible first | assumption | apply good_issue | apply good_ite | apply goodNext_ite | refine (goodNext_next _).2 ?_)
    | (intro _; intros; dsimp only) | (intro _; intros) | split | dsimp only

theorem good_execVins (x : Px) (o : VOp) (s : State) (h : GoodS qq s) :
    GoodNext qq (execVins x o s) := by
  unfold execVins
  try dsimp only
  repeat' first
    | (with_reducible first | assumption | apply good_issue | apply good_ite | apply goodNext_ite | refine (goodNext_next _).2 ?_)
    | (intro _; intros; dsimp only) | (intro _; intros) | split | dsimp only

theorem good_execVid (x : Px) (o : VOp) (s : State) (h : GoodS qq s) :
    GoodNext qq (execVid x o s) := by
  unfold execVid
  try dsimp only
  repeat' first
    | (with_reducible first | assumption | apply good_issue | refine (goodNext_next _).2 ?_)
    | (intro _; intros; dsimp only) | (intro _; intros) | split | dsimp only

theorem good_execPand (x : Px) (o : VOp) (s : State) (h : GoodS qq s) :
    GoodNext qq (execPand x o s) := by
  unfold execPand
  try dsimp only
  repeat' first
    | (with_reducible first | assumption | apply good_issue | refine (goodNext_next _).2 ?_)
    | (intro _; intros; dsimp only) | (intro _; intros) | split | dsimp only

theorem good_execPor (x : Px) (o : VOp) (s : State) (h : GoodS qq s) :
    GoodNext qq (execPor x o s) := by
  unfold execPor
  try dsimp only
  repeat' first
    | (with_reducible first | assumption | apply good_issue | refine (goodNext_next _).2 ?_)
    | (intro _; intros; dsimp only) | (intro _; intros) | split | dsimp only

theorem good_execPxor (x : Px) (o : VOp) (s : State) (h : GoodS qq s) :
    GoodNext qq (execPxor x o s) := by
  unfold execPxor
  try dsimp only
  repeat' first
    | (with_reducible first | assumption | apply good_issue | refine (goodNext_next _).2 ?_)
    | (intro _; intros; dsimp only) | (intro _; intros) | split | dsimp only

theorem good_execPandn (x : Px) (o : VOp) (s : State) (h : GoodS qq s) :
    GoodNext qq (execPandn x o s) := by
  unfold execPandn
  try dsimp only
  repeat' first
    | (with_reducible first | assumption | apply good_issue | refine (goodNext_next _).2 ?_)
    | (intro _; intros; dsimp only) | (intro _; intros) | split | dsimp only

theorem good_execPwhile (x : Px) (o : VOp) (s : State) (h : GoodS qq s) :
    GoodNext qq (execPwhile x o s) := by
  unfold execPwhile
  try dsimp only
  repeat' first
    | (with_reducible first | assumption | apply good_issue | refine (goodNext_next _).2 ?_)
    | (intro _; intros; dsimp only) | (intro _; intros) | split | dsimp only

theorem good_execPcount (x : Px) (o : VOp) (s : State) (h : GoodS qq s) :
    GoodNext qq (execPcount x o s) := by
  unfold execPcount
  try dsimp only
  repeat' first
    | (with_reducible first | assumption | apply good_issue | refine (goodNext_next _).2 ?_)
    | (intro _; intros; dsimp only) | (intro _; intros) | split | dsimp only

theorem good_execPfirst (x : Px) (o : VOp) (s : State) (h : GoodS qq s) :
    GoodNext qq (execPfirst x o s) := by
  unfold execPfirst
  try dsimp only
  repeat' first
    | (with_reducible first | assumption | apply good_issue | refine (goodNext_next _).2 ?_)
    | (intro _; intros; dsimp only) | (intro _; intros) | with_reducible refine good_of_fst (by assumption) ?_ | with_reducible refine good_of_snd (by assumption) ?_ | split | dsimp only | (rename_i hq; split at hq) | (rename_i hq; cases hq)

theorem good_execPget (x : Px) (o : VOp) (s : State) (h : GoodS qq s) :
    GoodNext qq (execPget x o s) := by
  unfold execPget
  try dsimp only
  repeat' first
    | (with_reducible first | assumption | apply good_issue | refine (goodNext_next _).2 ?_)
    | (intro _; intros; dsimp only) | (intro _; intros) | split | dsimp only

theorem good_execPset (x : Px) (o : VOp) (s : State) (h : GoodS qq s) :
    GoodNext qq (execPset x o s) := by
  unfold execPset
  try dsimp only
  repeat' first
    | (with_reducible first | assumption | apply good_issue | refine (goodNext_next _).2 ?_)
    | (intro _; intros; dsimp only) | (intro _; intros) | split | dsimp only

/-! PxVMem -/

theorem good_execVld (x : Px) (o : VOp) (stopAt : Option Nat) (s : State) (h : GoodS qq s) :
    GoodNext qq (execVld x o stopAt s) := by
  unfold execVld
  try dsimp only
  repeat' first
    | (with_reducible first | assumption | apply good_issue | refine (goodNext_next _).2 ?_)
    | (intro _; intros; dsimp only) | (intro _; intros) | split | dsimp only

theorem good_execVlds (x : Px) (o : VOp) (stopAt : Option Nat) (s : State) (h : GoodS qq s) :
    GoodNext qq (execVlds x o stopAt s) := by
  unfold execVlds
  try dsimp only
  repeat' first
    | (with_reducible first | assumption | apply good_issue | refine (goodNext_next _).2 ?_)
    | (intro _; intros; dsimp only) | (intro _; intros) | split | dsimp only

theorem good_execVgather (x : Px) (o : VOp) (stopAt : Option Nat) (s : State) (h : GoodS qq s) :
    GoodNext qq (execVgather x o stopAt s) := by
  unfold execVgather
  try dsimp only
  repeat' first
    | (with_reducible first | assumption | apply good_issue | refine (goodNext_next _).2 ?_)
    | (intro _; intros; dsimp only) | (intro _; intros) | split | dsimp only

theorem good_execVst (x : Px) (o : VOp) (stopAt : Option Nat) (s : State) (h : GoodS qq s) :
    GoodNext qq (execVst x o stopAt s) := by
  unfold execVst
  try dsimp only
  repeat' first
    | (with_reducible first | assumption | apply good_issue | refine (goodNext_next _).2 ?_)
    | (intro _; intros; dsimp only) | (intro _; intros) | split | dsimp only

theorem good_execVsts (x : Px) (o : VOp) (stopAt : Option Nat) (s : State) (h : GoodS qq s) :
    GoodNext qq (execVsts x o stopAt s) := by
  unfold execVsts
  try dsimp only
  repeat' first
    | (with_reducible first | assumption | apply good_issue | refine (goodNext_next _).2 ?_)
    | (intro _; intros; dsimp only) | (intro _; intros) | split | dsimp only

theorem good_execVscatter (x : Px) (o : VOp) (stopAt : Option Nat) (s : State) (h : GoodS qq s) :
    GoodNext qq (execVscatter x o stopAt s) := by
  unfold execVscatter
  try dsimp only
  repeat' first
    | (with_reducible first | assumption | apply good_issue | refine (goodNext_next _).2 ?_)
    | (intro _; intros; dsimp only) | (intro _; intros) | split | dsimp only

theorem good_execVlda (x : Px) (o : VOp) (stopAt : Option Nat) (s : State) (h : GoodS qq s) :
    GoodNext qq (execVlda x o stopAt s) := by
  unfold execVlda
  try dsimp only
  repeat' first
    | (with_reducible first | assumption | apply good_issue | refine (goodNext_next _).2 ?_)
    | (intro _; intros; dsimp only) | (intro _; intros) | split | dsimp only

theorem good_execVsta (x : Px) (o : VOp) (stopAt : Option Nat) (s : State) (h : GoodS qq s) :
    GoodNext qq (execVsta x o stopAt s) := by
  unfold execVsta
  try dsimp only
  repeat' first
    | (with_reducible first | assumption | apply good_issue | refine (goodNext_next _).2 ?_)
    | (intro _; intros; dsimp only) | (intro _; intros) | split | dsimp only

theorem good_execPld (x : Px) (o : VOp) (s : State) (h : GoodS qq s) :
    GoodNext qq (execPld x o s) := by
  unfold execPld
  try dsimp only
  repeat' first
    | (with_reducible first | assumption | apply good_issue | apply good_ite | apply goodNext_ite | refine (goodNext_next _).2 ?_)
    | (intro _; intros; dsimp only) | (intro _; intros) | split | dsimp only

theorem good_execPst (x : Px) (o : VOp) (s : State) (h : GoodS qq s) :
    GoodNext qq (execPst x o s) := by
  unfold execPst
  try dsimp only
  repeat' first
    | (with_reducible first | assumption | apply good_store | apply good_issue | apply good_ite | apply goodNext_ite | refine (goodNext_next _).2 ?_)
    | (intro _; intros; dsimp only) | (intro _; intros) | split | dsimp only

/-! PxThread -/

theorem good_setIp (s : State) (c t i : Nat) (h : GoodS qq s) :
    GoodS qq (setIp s c t i) := by
  unfold setIp
  try dsimp only
  repeat' first
    | (with_reducible first | assumption | apply good_modThread)
    | (intro _; intros; dsimp only) | (intro _; intros) | split | dsimp only

theorem good_startThread (s : State) (c t : Nat) (h : GoodS qq s) :
    GoodS qq (startThread s c t) := by
  unfold startThread
  try dsimp only
  repeat' first
    | (with_reducible first | assumption | apply good_raise | apply good_setThread | apply good_ite | apply goodNext_ite)
    | (intro _; intros; dsimp only) | (intro _; intros) | split | dsimp only

theorem good_leaveQueue (s : State) (c t : Nat) (h : GoodS qq s) :
    GoodS qq (leaveQueue s c t) := by
  unfold leaveQueue
  try dsimp only
  repeat' first
    | (with_reducible first | assumption | apply good_modThread | apply good_modTar | refine good_filterMem _ ?_ | refine good_filterRegs _ ?_)
    | (intro _; intros; dsimp only) | (intro _; intros) | split | dsimp only

theorem good_stopThread (s : State) (c t : Nat) (h : GoodS qq s) :
    GoodS qq (stopThread s c t) := by
  unfold stopThread
  try dsimp only
  repeat' first
    | (with_reducible first | assumption | apply good_when | apply good_setThread | apply good_stopIfDone | apply good_leaveQueue | apply good_ite | apply goodNext_ite | refine good_when _ _ _ ?_ ?_)
    | (intro _; intros; dsimp only) | (intro _; intros) | split | dsimp only

theorem good_stepThread (s : State) (c t : Nat) (h : GoodS qq s) :
    GoodS qq (stepThread s c t) := by
  unfold stepThread
  try dsimp only
  repeat' first
    | (with_reducible first | assumption | apply good_setThread | apply good_ite | apply goodNext_ite)
    | (intro _; intros; dsimp only) | (intro _; intros) | split | dsimp only

theorem good_writeThrCtrl (s : State) (c t : Nat) (v : Nat) (h : GoodS qq s) :
    GoodS qq (writeThrCtrl s c t v) := by
  unfold writeThrCtrl
  try dsimp only
  repeat' first
    | (with_reducible first | assumption | apply good_when | apply good_setFldAt | apply good_settle | apply good_setIp | apply good_startThread | apply good_stopThread | apply good_stepThread | refine good_when _ _ _ ?_ ?_)
    | (intro _; intros; dsimp only) | (intro _; intros) | split | dsimp only

theorem good_writeCoreCtrl (s : State) (c : Nat) (v : Nat) (h : GoodS qq s) :
    GoodS qq (writeCoreCtrl s c v) := by
  unfold writeCoreCtrl
  try dsimp only
  repeat' first
    | (with_reducible first | assumption | apply good_when | apply good_setFldAt | apply good_setCore | refine good_when _ _ _ ?_ ?_)
    | (intro _; intros; dsimp only) | (intro _; intros) | split | dsimp only

theorem good_writeSwi (s : State) (c : Nat) (v : Nat) (h : GoodS qq s) :
    GoodS qq (writeSwi s c v) := by
  unfold writeSwi
  try dsimp only
  repeat' first
    | (with_reducible first | assumption | apply good_each | apply good_settle | apply good_setIp | refine good_each _ _ _ ?_ ?_)
    | (intro _; intros; dsimp only) | (intro _; intros) | split | dsimp only

theorem good_execThrStart (who : Requester) (core : Fin 24) (thread : Fin 4) (val : BitVec 32) (s : State) (h : GoodS qq s) :
    GoodNext qq (execThrStart who core thread val s) := by
  unfold execThrStart
  try dsimp only
  repeat' first
    | (with_reducible first | assumption | apply good_writeGuard | apply good_writeThrCtrl | refine (goodNext_next _).2 ?_)
    | (intro _; intros; dsimp only) | (intro _; intros) | split | dsimp only

theorem good_execThrStop (who : Requester) (core : Fin 24) (thread : Fin 4) (val : BitVec 32) (s : State) (h : GoodS qq s) :
    GoodNext qq (execThrStop who core thread val s) := by
  unfold execThrStop
  try dsimp only
  repeat' first
    | (with_reducible first | assumption | apply good_writeGuard | apply good_writeThrCtrl | refine (goodNext_next _).2 ?_)
    | (intro _; intros; dsimp only) | (intro _; intros) | split | dsimp only

theorem good_execThrStep (who : Requester) (core : Fin 24) (thread : Fin 4) (val : BitVec 32) (s : State) (h : GoodS qq s) :
    GoodNext qq (execThrStep who core thread val s) := by
  unfold execThrStep
  try dsimp only
  repeat' first
    | (with_reducible first | assumption | apply good_writeGuard | apply good_writeThrCtrl | refine (goodNext_next _).2 ?_)
    | (intro _; intros; dsimp only) | (intro _; intros) | split | dsimp only

theorem good_execThrDbg (who : Requester) (core : Fin 24) (thread : Fin 4) (val : BitVec 32) (s : State) (h : GoodS qq s) :
    GoodNext qq (execThrDbg who core thread val s) := by
  unfold execThrDbg
  try dsimp only
  repeat' first
    | (with_reducible first | assumption | apply good_writeGuard | apply good_writeThrCtrl | refine (goodNext_next _).2 ?_)
    | (intro _; intros; dsimp only) | (intro _; intros) | split | dsimp only

theorem good_execCoreIcinv (who : Requester) (core : Fin 24) (val : BitVec 32) (s : State) (h : GoodS qq s) :
    GoodNext qq (execCoreIcinv who core val s) := by
  unfold execCoreIcinv
  try dsimp only
  repeat' first
    | (with_reducible first | assumption | apply good_writeGuard | apply good_writeCoreCtrl | refine (goodNext_next _).2 ?_)
    | (intro _; intros; dsimp only) | (intro _; intros) | split | dsimp only

theorem good_execSoftwareInterruptSet (who : Requester) (core : Fin 24) (val : BitVec 32) (s : State) (h : GoodS qq s) :
    GoodNext qq (execSoftwareInterruptSet who core val s) := by
  unfold execSoftwareInterruptSet
  try dsimp only
  repeat' first
    | (with_reducible first | assumption | apply good_writeGuard | apply good_writeSwi | refine good_each _ _ _ ?_ ?_ | refine (goodNext_next _).2 ?_)
    | (intro _; intros; dsimp only) | (intro _; intros) | split | dsimp only

theorem good_execTimecmpReached (core : Fin 24) (thread : Fin 4) (s : State) (h : GoodS qq s) :
    GoodNext qq (execTimecmpReached core thread s) := by
  unfold execTimecmpReached
  try dsimp only
  repeat' first
    | (with_reducible first | assumption | apply good_settle | apply good_setIp | apply good_ite | apply goodNext_ite | refine good_each _ _ _ ?_ ?_ | refine (goodNext_next _).2 ?_)
    | (intro _; intros; dsimp only) | (intro _; intros) | split | dsimp only

theorem good_execInterruptEntry (core : Fin 24) (thread : Fin 4) (s : State) (h : GoodS qq s) :
    GoodNext qq (execInterruptEntry core thread s) := by
  unfold execInterruptEntry
  try dsimp only
  repeat' first
    | (with_reducible first | assumption | apply good_when | apply good_takeInterrupt | apply good_leaveQueue | apply good_ite | apply goodNext_ite | refine good_each _ _ _ ?_ ?_ | refine good_when _ _ _ ?_ ?_ | refine (goodNext_next _).2 ?_)
    | (intro _; intros; dsimp only) | (intro _; intros) | with_reducible refine good_of_fst (by assumption) ?_ | with_reducible refine good_of_snd (by assumption) ?_ | split | dsimp only | (rename_i hq; split at hq) | (rename_i hq; cases hq)

theorem good_execScratchpadInitDone (core : Fin 24) (s : State) (h : GoodS qq s) :
    GoodNext qq (execScratchpadInitDone core s) := by
  unfold execScratchpadInitDone
  try dsimp only
  repeat' first
    | (with_reducible first | assumption | apply good_zeroMem | apply good_setCore | apply good_ite | apply goodNext_ite | refine (goodNext_next _).2 ?_)
    | (intro _; intros; dsimp only) | (intro _; intros) | split | dsimp only

end Sys2Proof.Machine
end

