-- ==== Sys2Proof/Laws/KeepTensor.lean ====
section
/-! SUPPORT. What Keep.lean says of the named operations, for the quantizer units and the tensor arrays. -/
namespace Sys2Proof.Machine

open Sys2Proof

variable {qq : List Instr}

/-! Quant -/

theorem good_recStore (s : State) (q o n x : Nat) (h : GoodS qq s) :
    GoodS qq (recStore s q o n x) := by
  unfold recStore
  try dsimp only
  repeat' first
    | (with_reducible first | assumption | apply good_putData)
    | (intro _; intros; dsimp only) | (intro _; intros) | split | dsimp only

theorem good_recRaise (s : State) (q i : Nat) (h : GoodS qq s) :
    GoodS qq (recRaise s q i) := by
  unfold recRaise
  try dsimp only
  repeat' first
    | (with_reducible first | assumption | apply good_recStore)
    | (intro _; intros; dsimp only) | (intro _; intros) | split | dsimp only

theorem good_recCount (s : State) (q o : Nat) (h : GoodS qq s) :
    GoodS qq (recCount s q o) := by
  unfold recCount
  try dsimp only
  repeat' first
    | (with_reducible first | assumption | apply good_recStore)
    | (intro _; intros; dsimp only) | (intro _; intros) | split | dsimp only

theorem good_clipOut (s : State) (c q ch : Nat) (stats : Bool) (h : GoodS qq s) :
    GoodS qq (clipOut s c q ch stats) := by
  unfold clipOut
  try dsimp only
  repeat' first
    | (with_reducible first | assumption | apply good_when | apply good_count | apply good_recRaise | apply good_recCount | apply good_ite | apply goodNext_ite | refine good_when _ _ _ ?_ ?_ | refine (goodNext_next _).2 ?_)
    | (intro _; intros; dsimp only) | (intro _; intros) | split | dsimp only

theorem good_quOut (s : State) (c q ch ty : Nat) (isF stats : Bool) (raw corr : Int) (off : Nat) (h : GoodS qq s) :
    GoodS qq (quOut s c q ch ty isF stats raw corr off).1 := by
  unfold quOut
  try dsimp only
  repeat' first
    | (with_reducible first | assumption | apply good_when | apply good_raise | apply good_count | apply good_putData | apply good_recStore | apply good_recRaise | apply good_recCount | apply good_clipOut | apply good_ite | apply goodNext_ite | refine good_each _ _ _ ?_ ?_ | refine good_when _ _ _ ?_ ?_ | refine (goodNext_next _).2 ?_)
    | (intro _; intros; dsimp only) | (intro _; intros) | with_reducible refine good_of_fst (by assumption) ?_ | with_reducible refine good_of_snd (by assumption) ?_ | split | dsimp only | (rename_i hq; split at hq) | (rename_i hq; cases hq)

theorem good_noteRerun (s : State) (c layer : Nat) (h : GoodS qq s) :
    GoodS qq (noteRerun s c layer) := by
  unfold noteRerun
  try dsimp only
  repeat' first
    | (with_reducible first | assumption | apply good_logRule | apply good_ite | apply goodNext_ite)
    | (intro _; intros; dsimp only) | (intro _; intros) | split | dsimp only

theorem good_checkRerun (s : State) (c q : Nat) (h : GoodS qq s) :
    GoodS qq (checkRerun s c q) := by
  unfold checkRerun
  try dsimp only
  repeat' first
    | (with_reducible first | assumption | apply good_setReg | apply good_raise | apply good_count | apply good_commit | apply good_recRaise | apply good_noteRerun | apply good_ite | apply goodNext_ite)
    | (intro _; intros; dsimp only) | (intro _; intros) | split | dsimp only

theorem good_touchSlot (s : State) (q : Nat) (h : GoodS qq s) :
    GoodS qq (touchSlot s q) := by
  unfold touchSlot
  try dsimp only
  repeat' first
    | (with_reducible first | assumption | apply good_recStore)
    | (intro _; intros; dsimp only) | (intro _; intros) | split | dsimp only

theorem good_countAtMax (s : State) (c t : Nat) (h : GoodS qq s) :
    GoodS qq (countAtMax s c t) := by
  unfold countAtMax
  try dsimp only
  repeat' first
    | (with_reducible first | assumption | apply good_raise | apply good_logRule | apply good_setQu | apply good_ite | apply goodNext_ite)
    | (intro _; intros; dsimp only) | (intro _; intros) | split | dsimp only

theorem good_updateSlot (s : State) (c : Nat) (recs : List Nat) (t : Nat) (h : GoodS qq s) :
    GoodS qq (updateSlot s c recs t) := by
  unfold updateSlot
  try dsimp only
  repeat' first
    | (with_reducible first | assumption | apply good_each | apply good_when | apply good_recStore | apply good_recRaise | apply good_countAtMax | apply good_ite | apply goodNext_ite | refine good_each _ _ _ ?_ ?_ | refine good_when _ _ _ ?_ ?_ | refine good_foldl _ _ ?_ _ ?_ | refine good_foldl_fst _ _ ?_ _ ?_ | refine good_foldl_snd _ _ ?_ _ ?_ | refine good_filterMem _ ?_ | refine good_filterRegs _ ?_)
    | (intro _; intros; dsimp only) | (intro _; intros) | split | dsimp only

theorem good_updateRecord (s : State) (q : Nat) (h : GoodS qq s) :
    GoodS qq (updateRecord s q) := by
  unfold updateRecord
  try dsimp only
  repeat' first
    | (with_reducible first | assumption | apply good_each | apply good_when | apply good_putData | apply good_commit | apply good_recStore | apply good_recRaise | apply good_ite | apply goodNext_ite | refine good_each _ _ _ ?_ ?_ | refine good_when _ _ _ ?_ ?_ | refine (goodNext_next _).2 ?_)
    | (intro _; intros; dsimp only) | (intro _; intros) | split | dsimp only

theorem good_runCommit (s : State) (c : Nat) (recs : List Nat) (h : GoodS qq s) :
    GoodS qq (runCommit s c recs) := by
  unfold runCommit
  try dsimp only
  repeat' first
    | (with_reducible first | assumption | apply good_each | apply good_uncorrectable | apply good_touchSlot | apply good_updateSlot | apply good_updateRecord | refine good_each _ _ _ ?_ ?_ | refine good_filterMem _ ?_ | refine good_filterRegs _ ?_)
    | (intro _; intros; dsimp only) | (intro _; intros) | split | dsimp only

theorem good_writeCommit (s : State) (c : Nat) (v : Nat) (h : GoodS qq s) :
    GoodS qq (writeCommit s c v) := by
  unfold writeCommit
  try dsimp only
  repeat' first
    | (with_reducible first | assumption | apply good_setFldAt | apply good_raise | apply good_setQu | apply good_commit | apply good_ite | apply goodNext_ite)
    | (intro _; intros; dsimp only) | (intro _; intros) | split | dsimp only

theorem good_commitOf (s : State) (c : Nat) (h : GoodS qq s) :
    GoodS qq (commitOf s c) := by
  unfold commitOf
  try dsimp only
  repeat' first
    | (with_reducible first | assumption | apply good_writeCommit | apply good_ite | apply goodNext_ite)
    | (intro _; intros; dsimp only) | (intro _; intros) | split | dsimp only

theorem good_commitWarning (s : State) (h : GoodS qq s) :
    GoodS qq (commitWarning s) := by
  unfold commitWarning
  try dsimp only
  repeat' first
    | (with_reducible first | assumption | apply good_each | apply good_commitOf | apply good_ite | apply goodNext_ite | refine good_each _ _ _ ?_ ?_)
    | (intro _; intros; dsimp only) | (intro _; intros) | split | dsimp only

theorem good_execQuCommitRequest (who : Requester) (qu : Fin 8) (val : BitVec 32) (s : State) (h : GoodS qq s) :
    GoodNext qq (execQuCommitRequest who qu val s) := by
  unfold execQuCommitRequest
  try dsimp only
  repeat' first
    | (with_reducible first | assumption | apply good_writeGuard | apply good_commit | apply good_writeCommit | refine (goodNext_next _).2 ?_)
    | (intro _; intros; dsimp only) | (intro _; intros) | split | dsimp only

theorem good_execQuCommit (qu : Fin 8) (readError : Bool) (s : State) (h : GoodS qq s) :
    GoodNext qq (execQuCommit qu readError s) := by
  unfold execQuCommit
  try dsimp only
  repeat' first
    | (with_reducible first | assumption | apply good_raise | apply good_count | apply good_setQu | apply good_runCommit | apply good_ite | apply goodNext_ite | refine (goodNext_next _).2 ?_)
    | (intro _; intros; dsimp only) | (intro _; intros) | with_reducible refine good_of_fst (by assumption) ?_ | with_reducible refine good_of_snd (by assumption) ?_ | split | dsimp only | (rename_i hq; split at hq) | (rename_i hq; cases hq)

/-! TensorMath -/

theorem good_putElem (s : State) (r : TRef) (y x ch : Nat) (v : Nat) (h : GoodS qq s) :
    GoodS qq (putElem s r y x ch v) := by
  unfold putElem
  try dsimp only
  repeat' first
    | (with_reducible first | assumption | apply good_putData | apply good_ite | apply goodNext_ite)
    | (intro _; intros; dsimp only) | (intro _; intros) | split | dsimp only

/-! Tensor -/

theorem good_tensorFault (s : State) (c : Nat) (i : TInstr) (code tval : Nat) (h : GoodS qq s) :
    GoodS qq (tensorFault s c i code tval) := by
  unfold tensorFault
  try dsimp only
  repeat' first
    | (with_reducible first | assumption | apply good_setReg | apply good_raise | apply good_takeCause | apply good_ite | apply goodNext_ite)
    | (intro _; intros; dsimp only) | (intro _; intros) | split | dsimp only

theorem good_stopRun (s : State) (c : Nat) (h : GoodS qq s) :
    GoodS qq (stopRun s c) := by
  unfold stopRun
  try dsimp only
  repeat' first
    | (with_reducible first | assumption | apply good_modTar)
    | (intro _; intros; dsimp only) | (intro _; intros) | split | dsimp only

theorem good_checkFailed (s : State) (c : Nat) (i : TInstr) (code : Nat) (h : GoodS qq s) :
    GoodS qq (checkFailed s c i code) := by
  unfold checkFailed
  try dsimp only
  repeat' first
    | (with_reducible first | assumption | apply good_offAccess | apply good_tensorFault | apply good_ite | apply goodNext_ite)
    | (intro _; intros; dsimp only) | (intro _; intros) | with_reducible refine good_of_fst (by assumption) ?_ | with_reducible refine good_of_snd (by assumption) ?_ | split | dsimp only | (rename_i hq; split at hq) | (rename_i hq; cases hq)

theorem good_countSat (s : State) (c n : Nat) (h : GoodS qq s) :
    GoodS qq (countSat s c n) := by
  unfold countSat
  try dsimp only
  repeat' first
    | (with_reducible first | assumption | apply good_raise | apply good_countBy | apply good_ite | apply goodNext_ite)
    | (intro _; intros; dsimp only) | (intro _; intros) | split | dsimp only

theorem good_rawOut (s : State) (c : Nat) (o : TOp) (tainted : Bool) (i ch : Nat) (h : GoodS qq s) :
    GoodS qq (rawOut s c o tainted i ch).1 := by
  unfold rawOut
  try dsimp only
  repeat' first
    | (with_reducible first | assumption | apply good_draw | apply good_countSat | apply good_ite | apply goodNext_ite | refine (goodNext_next _).2 ?_)
    | (intro _; intros; dsimp only) | (intro _; intros) | split | dsimp only

theorem good_writeOut (s : State) (c : Nat) (o : TOp) (tainted : Bool) (i ch : Nat) (h : GoodS qq s) :
    GoodS qq (writeOut s c o tainted i ch) := by
  unfold writeOut
  try dsimp only
  repeat' first
    | (with_reducible first | assumption | apply good_countBy | apply good_quOut | apply good_putElem | apply good_countSat | apply good_rawOut | apply good_ite | apply goodNext_ite | refine (goodNext_next _).2 ?_)
    | (intro _; intros; dsimp only) | (intro _; intros) | split | dsimp only

theorem good_writeTile (s : State) (c : Nat) (o : TOp) (tainted : Bool) (ob px n : Nat) (h : GoodS qq s) :
    GoodS qq (writeTile s c o tainted ob px n) := by
  unfold writeTile
  try dsimp only
  repeat' first
    | (with_reducible first | assumption | apply good_each | apply good_writeOut | refine good_each _ _ _ ?_ ?_ | refine (goodNext_next _).2 ?_ | refine good_filterMem _ ?_ | refine good_filterRegs _ ?_)
    | (intro _; intros; dsimp only) | (intro _; intros) | split | dsimp only

theorem good_countTernary (s : State) (c : Nat) (o : TOp) (ob : Nat) (h : GoodS qq s) :
    GoodS qq (countTernary s c o ob) := by
  unfold countTernary
  try dsimp only
  repeat' first
    | (with_reducible first | assumption | apply good_raise | apply good_countBy | apply good_ite | apply goodNext_ite | refine good_filterMem _ ?_ | refine good_filterRegs _ ?_)
    | (intro _; intros; dsimp only) | (intro _; intros) | split | dsimp only

theorem good_loadTable (s : State) (c : Nat) (o : TOp) (h : GoodS qq s) :
    GoodS qq (loadTable s c o) := by
  unfold loadTable
  try dsimp only
  repeat' first
    | (with_reducible first | assumption | apply good_modTar | apply good_ite | apply goodNext_ite | refine good_foldl _ _ ?_ _ ?_ | refine good_foldl_fst _ _ ?_ _ ?_ | refine good_foldl_snd _ _ ?_ _ ?_)
    | (intro _; intros; dsimp only) | (intro _; intros) | split | dsimp only

theorem good_putFree (s : State) (a n : Nat) (f : Nat → Byte) (h : GoodS qq s) :
    GoodS qq (putFree s a n f) := by
  unfold putFree
  try dsimp only
  repeat' first
    | (with_reducible first | assumption | apply good_putData)
    | (intro _; intros; dsimp only) | (intro _; intros) | split | dsimp only

theorem good_saveRun (s : State) (c : Nat) (r : TRun) (h : GoodS qq s) :
    ∀ t, saveRun s c r = some t → GoodS qq t := by
  intro t ht
  unfold saveRun at ht
  try dsimp only at ht
  try dsimp only
  repeat' first
    | (with_reducible first | assumption | apply good_draw | apply good_modThread | apply good_modTar | apply good_putFree | apply good_ite | apply goodNext_ite) | cases ht | split at ht
    | (intro _; intros; dsimp only) | (intro _; intros) | with_reducible refine good_of_fst (by assumption) ?_ | with_reducible refine good_of_snd (by assumption) ?_ | split | dsimp only | (rename_i hq; split at hq) | (rename_i hq; cases hq)

theorem good_stepBoundary (s : State) (c : Nat) (h : GoodS qq s) :
    GoodS qq (stepBoundary s c) := by
  unfold stepBoundary
  try dsimp only
  repeat' first
    | (with_reducible first | assumption | apply good_count | apply good_setThread | apply good_modTar | apply good_takeInterrupt | apply good_tensorFault | apply good_stopRun | apply good_ite | apply goodNext_ite)
    | exact good_saveRun _ _ _ (by assumption) _ (by assumption)
    | (intro _; intros; dsimp only) | (intro _; intros) | with_reducible refine good_of_fst (by assumption) ?_ | with_reducible refine good_of_snd (by assumption) ?_ | split | dsimp only | (rename_i hq; split at hq) | (rename_i hq; cases hq)

theorem good_execTconv (x : Px) (rs : SReg) (fields : BitVec 16) (s : State) (h : GoodS qq s) :
    GoodNext qq (execTconv x rs fields s) := by
  unfold execTconv
  try dsimp only
  repeat' first
    | (with_reducible first | assumption | apply good_issue | refine (goodNext_next _).2 ?_)
    | (intro _; intros; dsimp only) | (intro _; intros) | split | dsimp only

theorem good_execTmm (x : Px) (rs : SReg) (fields : BitVec 16) (s : State) (h : GoodS qq s) :
    GoodNext qq (execTmm x rs fields s) := by
  unfold execTmm
  try dsimp only
  repeat' first
    | (with_reducible first | assumption | apply good_issue | refine (goodNext_next _).2 ?_)
    | (intro _; intros; dsimp only) | (intro _; intros) | split | dsimp only

theorem good_execTpool (x : Px) (rs : SReg) (fields : BitVec 16) (s : State) (h : GoodS qq s) :
    GoodNext qq (execTpool x rs fields s) := by
  unfold execTpool
  try dsimp only
  repeat' first
    | (with_reducible first | assumption | apply good_issue | refine (goodNext_next _).2 ?_)
    | (intro _; intros; dsimp only) | (intro _; intros) | split | dsimp only

theorem good_execTdw (x : Px) (rs : SReg) (fields : BitVec 16) (s : State) (h : GoodS qq s) :
    GoodNext qq (execTdw x rs fields s) := by
  unfold execTdw
  try dsimp only
  repeat' first
    | (with_reducible first | assumption | apply good_issue | refine (goodNext_next _).2 ?_)
    | (intro _; intros; dsimp only) | (intro _; intros) | split | dsimp only

theorem good_execTload (x : Px) (rs : SReg) (fields : BitVec 16) (s : State) (h : GoodS qq s) :
    GoodNext qq (execTload x rs fields s) := by
  unfold execTload
  try dsimp only
  repeat' first
    | (with_reducible first | assumption | apply good_commit | apply good_issue | refine (goodNext_next _).2 ?_)
    | (intro _; intros; dsimp only) | (intro _; intros) | split | dsimp only

theorem good_execTensorStart (array : Fin 8) (s : State) (h : GoodS qq s) :
    GoodNext qq (execTensorStart array s) := by
  unfold execTensorStart
  try dsimp only
  repeat' first
    | (with_reducible first | assumption | apply good_setTar | apply good_modTar | apply good_tensorFault | apply good_checkFailed | apply good_ite | apply goodNext_ite | refine (goodNext_next _).2 ?_ | refine good_filterMem _ ?_ | refine good_filterRegs _ ?_)
    | (intro _; intros; dsimp only) | (intro _; intros) | with_reducible refine good_of_fst (by assumption) ?_ | with_reducible refine good_of_snd (by assumption) ?_ | split | dsimp only | (rename_i hq; split at hq) | (rename_i hq; cases hq)

theorem good_sliceError (s : State) (c : Nat) (r : TRun) (a : Nat) (h : GoodS qq s) :
    GoodS qq (sliceError s c r a) := by
  unfold sliceError
  try dsimp only
  repeat' first
    | (with_reducible first | assumption | apply good_uncorrectable | apply good_tensorFault | apply good_stopRun)
    | (intro _; intros; dsimp only) | (intro _; intros) | split | dsimp only

theorem good_stepRun (s : State) (c : Nat) (r : TRun) (o : TOp) (p sb : Nat) (h : GoodS qq s) :
    GoodS qq (stepRun s c r o p sb) := by
  unfold stepRun
  try dsimp only
  repeat' first
    | (with_reducible first | assumption | apply good_modTar | apply good_writeTile | apply good_countTernary | apply good_stepBoundary | apply good_sliceError | apply good_ite | apply goodNext_ite)
    | (intro _; intros; dsimp only) | (intro _; intros) | with_reducible refine good_of_fst (by assumption) ?_ | with_reducible refine good_of_snd (by assumption) ?_ | split | dsimp only | (rename_i hq; split at hq) | (rename_i hq; cases hq)

theorem good_stepDone (s : State) (c : Nat) (r : TRun) (h : GoodS qq s) :
    GoodS qq (stepDone s c r) := by
  unfold stepDone
  try dsimp only
  repeat' first
    | (with_reducible first | assumption | apply good_count | apply good_modTar | apply good_loadTable | apply good_stepRun | apply good_ite | apply goodNext_ite)
    | (intro _; intros; dsimp only) | (intro _; intros) | split | dsimp only

theorem good_execTensorStepDone (array : Fin 8) (s : State) (h : GoodS qq s) :
    GoodNext qq (execTensorStepDone array s) := by
  unfold execTensorStepDone
  try dsimp only
  repeat' first
    | (with_reducible first | assumption | apply good_stepDone | refine (goodNext_next _).2 ?_)
    | (intro _; intros; dsimp only) | (intro _; intros) | with_reducible refine good_of_fst (by assumption) ?_ | with_reducible refine good_of_snd (by assumption) ?_ | split | dsimp only | (rename_i hq; split at hq) | (rename_i hq; cases hq)

theorem good_execTensorComplete (array : Fin 8) (s : State) (h : GoodS qq s) :
    GoodNext qq (execTensorComplete array s) := by
  unfold execTensorComplete
  try dsimp only
  repeat' first
    | (with_reducible first | assumption | apply good_when | apply good_count | apply good_modThread | apply good_finish | apply good_settle | apply good_checkRerun | apply good_stopRun | apply good_ite | apply goodNext_ite | refine good_when _ _ _ ?_ ?_ | refine (goodNext_next _).2 ?_)
    | (intro _; intros; dsimp only) | (intro _; intros) | with_reducible refine good_of_fst (by assumption) ?_ | with_reducible refine good_of_snd (by assumption) ?_ | split | dsimp only | (rename_i hq; split at hq) | (rename_i hq; cases hq)

theorem good_execTensorWatchdog (array : Fin 8) (s : State) (h : GoodS qq s) :
    GoodNext qq (execTensorWatchdog array s) := by
  unfold execTensorWatchdog
  try dsimp only
  repeat' first
    | (with_reducible first | assumption | apply good_raise | apply good_count | apply good_uncorrectable | apply good_tensorFault | apply good_stopRun | refine (goodNext_next _).2 ?_)
    | (intro _; intros; dsimp only) | (intro _; intros) | with_reducible refine good_of_fst (by assumption) ?_ | with_reducible refine good_of_snd (by assumption) ?_ | split | dsimp only | (rename_i hq; split at hq) | (rename_i hq; cases hq)

theorem good_execTensorSliceError (array : Fin 8) (tablePe : Bool) (addr : BitVec 48) (s : State) (h : GoodS qq s) :
    GoodNext qq (execTensorSliceError array tablePe addr s) := by
  unfold execTensorSliceError
  try dsimp only
  repeat' first
    | (with_reducible first | assumption | apply good_raise | apply good_modTar | apply good_tensorFault | apply good_stopRun | apply good_sliceError | apply good_ite | apply goodNext_ite | refine (goodNext_next _).2 ?_)
    | (intro _; intros; dsimp only) | (intro _; intros) | with_reducible refine good_of_fst (by assumption) ?_ | with_reducible refine good_of_snd (by assumption) ?_ | split | dsimp only | (rename_i hq; split at hq) | (rename_i hq; cases hq)

theorem good_writeQmask (s : State) (c v : Nat) (h : GoodS qq s) :
    GoodS qq (writeQmask s c v) := by
  unfold writeQmask
  try dsimp only
  repeat' first
    | (with_reducible first | assumption | apply good_setReg | apply good_ite | apply goodNext_ite)
    | (intro _; intros; dsimp only) | (intro _; intros) | split | dsimp only

theorem good_execTarQmaskWrite (who : Requester) (array : Fin 8) (val : BitVec 32) (s : State) (h : GoodS qq s) :
    GoodNext qq (execTarQmaskWrite who array val s) := by
  unfold execTarQmaskWrite
  try dsimp only
  repeat' first
    | (with_reducible first | assumption | apply good_writeGuard | apply good_writeQmask | refine good_each _ _ _ ?_ ?_ | refine (goodNext_next _).2 ?_)
    | (intro _; intros; dsimp only) | (intro _; intros) | split | dsimp only

theorem good_execTableMemoryInitDone (array : Fin 8) (s : State) (h : GoodS qq s) :
    GoodNext qq (execTableMemoryInitDone array s) := by
  unfold execTableMemoryInitDone
  try dsimp only
  repeat' first
    | (with_reducible first | assumption | apply good_modTar | apply good_ite | apply goodNext_ite | refine (goodNext_next _).2 ?_)
    | (intro _; intros; dsimp only) | (intro _; intros) | split | dsimp only

end Sys2Proof.Machine
end

