-- ==== Sys2Proof/Laws/KeepFabric.lean ====
section
/-! SUPPORT. What Keep.lean says of the named operations, for the control ports, the fabric, the ITARD ports and the DMA engines. -/
namespace Sys2Proof.Machine

open Sys2Proof

variable {qq : List Instr}

/-! CtlPort -/

theorem good_setCtlCore (s : State) (n : Nat) (x : CtlCore) (h : GoodS qq s) :
    GoodS qq (setCtlCore s n x) := by
  unfold setCtlCore
  try dsimp only
  repeat' first
    | (with_reducible first | assumption)
    | (intro _; intros; dsimp only) | (intro _; intros) | split | dsimp only

theorem good_writeCsr (s : State) (n : Nat) (r : Csr) (v : Word) (h : GoodS qq s) :
    GoodS qq (writeCsr s n r v) := by
  unfold writeCsr
  try dsimp only
  repeat' first
    | (with_reducible first | assumption | apply good_answer | apply good_busError | apply good_setCtlCore | apply good_ite | apply goodNext_ite)
    | (intro _; intros; dsimp only) | (intro _; intros) | with_reducible refine good_of_fst (by assumption) ?_ | with_reducible refine good_of_snd (by assumption) ?_ | split | dsimp only | (rename_i hq; split at hq) | (rename_i hq; cases hq)

theorem good_setCtlLine (s : State) (k : Nat) (l : Option CtlLine) (h : GoodS qq s) :
    GoodS qq (setCtlLine s k l) := by
  unfold setCtlLine
  try dsimp only
  repeat' first
    | (with_reducible first | assumption)
    | (intro _; intros; dsimp only) | (intro _; intros) | split | dsimp only

theorem good_lineError (s : State) (a : Nat) (h : GoodS qq s) :
    ∀ t, lineError s a = some t → GoodS qq t := by
  intro t ht
  unfold lineError at ht
  try dsimp only at ht
  try dsimp only
  repeat' first
    | (with_reducible first | assumption | apply good_offAccess | apply good_uncorrectable | apply good_ite | apply goodNext_ite) | cases ht | split at ht
    | (intro _; intros; dsimp only) | (intro _; intros) | with_reducible refine good_of_fst (by assumption) ?_ | with_reducible refine good_of_snd (by assumption) ?_ | split | dsimp only | (rename_i hq; split at hq) | (rename_i hq; cases hq)

theorem good_evict (s : State) (k : Nat) (h : GoodS qq s) :
    GoodS qq (evict s k) := by
  unfold evict
  try dsimp only
  repeat' first
    | (with_reducible first | assumption | apply good_when | apply good_putData | apply good_setCtlLine | refine good_when _ _ _ ?_ ?_)
    | exact good_lineError _ _ (by assumption) _ (by assumption)
    | (intro _; intros; dsimp only) | (intro _; intros) | with_reducible refine good_of_fst (by assumption) ?_ | with_reducible refine good_of_snd (by assumption) ?_ | split | dsimp only | (rename_i hq; split at hq) | (rename_i hq; cases hq)

theorem good_evictSome (s : State) (h : GoodS qq s) :
    GoodS qq (evictSome s) := by
  unfold evictSome
  try dsimp only
  repeat' first
    | (with_reducible first | assumption | apply good_each | apply good_draw | apply good_evict | apply good_ite | apply goodNext_ite | refine good_each _ _ _ ?_ ?_)
    | (intro _; intros; dsimp only) | (intro _; intros) | split | dsimp only

theorem good_fillLine (s : State) (k : Nat) (h : GoodS qq s) :
    GoodS qq (fillLine s k) := by
  unfold fillLine
  try dsimp only
  repeat' first
    | (with_reducible first | assumption | apply good_setCtlLine | apply good_ite | apply goodNext_ite)
    | (intro _; intros; dsimp only) | (intro _; intros) | split | dsimp only

theorem good_storeCached (s : State) (a : Nat) (b : Byte) (h : GoodS qq s) :
    GoodS qq (storeCached s a b) := by
  unfold storeCached
  try dsimp only
  repeat' first
    | (with_reducible first | assumption | apply good_setCtlLine)
    | (intro _; intros; dsimp only) | (intro _; intros) | with_reducible refine good_of_fst (by assumption) ?_ | with_reducible refine good_of_snd (by assumption) ?_ | split | dsimp only | (rename_i hq; split at hq) | (rename_i hq; cases hq)

theorem good_cachedAccess (s : State) (n a size : Nat) (v : Option Nat) (h : GoodS qq s) :
    GoodS qq (cachedAccess s n a size v) := by
  unfold cachedAccess
  dsimp only
  have he := good_evictSome s h
  split
  · rename_i t ht
    refine good_findSome _ _ (fun k u hu => ?_) t ht
    split at hu
    · cases hu
    · exact good_lineError _ _ he u hu
  · repeat' first
      | (with_reducible first | assumption | apply good_each | apply good_answer | apply good_busError | apply good_guardDenied | apply good_fillLine | apply good_storeCached | apply good_ite)
      | (intro _; intros; dsimp only) | (intro _; intros) | split | dsimp only

theorem good_askFabric (s : State) (n a size : Nat) (h : GoodS qq s) :
    GoodS qq (askFabric s n a size) := by
  unfold askFabric
  try dsimp only
  repeat' first
    | (with_reducible first | assumption | apply good_sendRead | apply good_setCtlCore)
    | (intro _; intros; dsimp only) | (intro _; intros) | split | dsimp only

theorem good_ctlReturn (s : State) (n : Nat) (err : Bool) (data : List Byte) (h : GoodS qq s) :
    GoodS qq (ctlReturn s n err data) := by
  unfold ctlReturn
  try dsimp only
  repeat' first
    | (with_reducible first | assumption | apply good_answer | apply good_busError | apply good_setCtlCore | apply good_ite | apply goodNext_ite)
    | (intro _; intros; dsimp only) | (intro _; intros) | with_reducible refine good_of_fst (by assumption) ?_ | with_reducible refine good_of_snd (by assumption) ?_ | split | dsimp only | (rename_i hq; split at hq) | (rename_i hq; cases hq)

theorem good_ctlAccess (s : State) (n a size : Nat) (v : Option Nat) (h : GoodS qq s) :
    GoodS qq (ctlAccess s n a size v) := by
  unfold ctlAccess
  try dsimp only
  repeat' first
    | (with_reducible first | assumption | apply good_answer | apply good_busError | apply good_cachedAccess | apply good_askFabric | apply good_ite | apply goodNext_ite)
    | (intro _; intros; dsimp only) | (intro _; intros) | with_reducible refine good_of_fst (by assumption) ?_ | with_reducible refine good_of_snd (by assumption) ?_ | split | dsimp only | (rename_i hq; split at hq) | (rename_i hq; cases hq)

/-! Fabric -/

theorem good_logMalformed (s : State) (p : Packet) (h : GoodS qq s) :
    GoodS qq (logMalformed s p) := by
  unfold logMalformed
  try dsimp only
  repeat' first
    | (with_reducible first | assumption | apply good_raise | apply good_logged)
    | (intro _; intros; dsimp only) | (intro _; intros) | split | dsimp only

theorem good_malformedPacket (s : State) (p : Packet) (h : GoodS qq s) :
    GoodS qq (malformedPacket s p) := by
  unfold malformedPacket
  try dsimp only
  repeat' first
    | (with_reducible first | assumption | apply good_count | apply good_logMalformed)
    | (intro _; intros; dsimp only) | (intro _; intros) | split | dsimp only

theorem good_errAnswer (s : State) (p : Packet) (h : GoodS qq s) :
    GoodS qq (errAnswer s p) := by
  unfold errAnswer
  try dsimp only
  repeat' first
    | (with_reducible first | assumption | apply good_inject | apply good_ite | apply goodNext_ite)
    | (intro _; intros; dsimp only) | (intro _; intros) | split | dsimp only

theorem good_dropNoRoute (s : State) (p : Packet) (h : GoodS qq s) :
    GoodS qq (dropNoRoute s p) := by
  unfold dropNoRoute
  try dsimp only
  repeat' first
    | (with_reducible first | assumption | apply good_count | apply good_errAnswer)
    | (intro _; intros; dsimp only) | (intro _; intros) | split | dsimp only

theorem good_txDiscard (s : State) (f : Nat) (p : Packet) (h : GoodS qq s) :
    GoodS qq (txDiscard s f p) := by
  unfold txDiscard
  try dsimp only
  repeat' first
    | (with_reducible first | assumption | apply good_count | apply good_errAnswer)
    | (intro _; intros; dsimp only) | (intro _; intros) | split | dsimp only

theorem good_releaseHeld (s : State) (h : GoodS qq s) :
    GoodS qq (releaseHeld s) := by
  unfold releaseHeld
  try dsimp only
  repeat' first
    | (with_reducible first | assumption | apply good_each | apply good_release | apply good_settle | refine good_each _ _ _ ?_ ?_)
    | (intro _; intros; dsimp only) | (intro _; intros) | split | dsimp only

theorem good_leaveFabric (s : State) (p : Packet) (h : GoodS qq s) :
    GoodS qq (leaveFabric s p) := by
  unfold leaveFabric
  try dsimp only
  repeat' first
    | (with_reducible first | assumption | apply good_leave | apply good_settle | apply good_ite | apply goodNext_ite)
    | (intro _; intros; dsimp only) | (intro _; intros) | split | dsimp only

theorem good_pump (s : State) (f : Nat) (h : GoodS qq s) :
    GoodS qq (pump s f) := by
  unfold pump
  try dsimp only
  repeat' first
    | (with_reducible first | assumption | apply good_when | apply good_setPort | apply good_releaseHeld | refine good_when _ _ _ ?_ ?_)
    | (intro _; intros; dsimp only) | (intro _; intros) | split | dsimp only

theorem good_toPort (s : State) (f : Nat) (p : Packet) (h : GoodS qq s) :
    GoodS qq (toPort s f p) := by
  unfold toPort
  try dsimp only
  repeat' first
    | (with_reducible first | assumption | apply good_modPort | apply good_txDiscard | apply good_pump | apply good_ite | apply goodNext_ite | refine good_each _ _ _ ?_ ?_)
    | (intro _; intros; dsimp only) | (intro _; intros) | split | dsimp only

theorem good_carry (s : State) (p : Packet) (h : GoodS qq s) :
    GoodS qq (carry s p).1 := by
  unfold carry
  try dsimp only
  repeat' first
    | (with_reducible first | assumption | apply good_count | apply good_malformedPacket | apply good_errAnswer | apply good_dropNoRoute | apply good_toPort | apply good_ite | apply goodNext_ite | refine good_when _ _ _ ?_ ?_)
    | (intro _; intros; dsimp only) | (intro _; intros) | with_reducible refine good_of_fst (by assumption) ?_ | with_reducible refine good_of_snd (by assumption) ?_ | split | dsimp only | (rename_i hq; split at hq) | (rename_i hq; cases hq)

theorem good_counterMoved (s : State) (i cc : Nat) (h : GoodS qq s) :
    GoodS qq (counterMoved s i cc) := by
  unfold counterMoved
  try dsimp only
  repeat' first
    | (with_reducible first | assumption | apply good_counterIrq | apply good_settle | apply good_ite | apply goodNext_ite)
    | (intro _; intros; dsimp only) | (intro _; intros) | split | dsimp only

theorem good_tagged (s : State) (i : Nat) (p : Packet) (h : GoodS qq s) :
    GoodS qq (tagged s i p) := by
  unfold tagged
  try dsimp only
  repeat' first
    | (with_reducible first | assumption | apply good_ccArrive | apply good_counterMoved | apply good_ite | apply goodNext_ite)
    | (intro _; intros; dsimp only) | (intro _; intros) | split | dsimp only

theorem good_accessError (s : State) (i src a n : Nat) (write : Bool) (h : GoodS qq s) :
    ∀ t, accessError s i src a n write = some t → GoodS qq t := by
  intro t ht
  unfold accessError at ht
  try dsimp only at ht
  try dsimp only
  repeat' first
    | (with_reducible first | assumption | apply good_logMemErr | apply good_offAccess | apply good_uncorrectable | apply good_guardDenied | apply good_ite | apply goodNext_ite) | cases ht | split at ht
    | (intro _; intros; dsimp only) | (intro _; intros) | with_reducible refine good_of_fst (by assumption) ?_ | with_reducible refine good_of_snd (by assumption) ?_ | split | dsimp only | (rename_i hq; split at hq) | (rename_i hq; cases hq)

theorem good_writeInbox (s : State) (p : Packet) (h : GoodS qq s) :
    GoodS qq (writeInbox s p) := by
  unfold writeInbox
  try dsimp only
  repeat' first
    | (with_reducible first | assumption | apply good_setBytes | apply good_tagged | apply good_ite | apply goodNext_ite)
    | (intro _; intros; dsimp only) | (intro _; intros) | split | dsimp only

theorem good_wakeEngine (s : State) (halo : Bool) (c : Nat) (h : GoodS qq s) :
    GoodS qq (wakeEngine s halo c) := by
  unfold wakeEngine
  try dsimp only
  repeat' first
    | (with_reducible first | assumption | apply good_setEngine)
    | (intro _; intros; dsimp only) | (intro _; intros) | split | dsimp only

theorem good_queueHeld (fuel : Nat) (s : State) (i : Nat) (key : Nat) (h : GoodS qq s) :
    GoodS qq (queueHeld fuel s i key) := by
  induction fuel generalizing s i key with
  | zero  =>
    unfold queueHeld
    try dsimp only
    repeat' first
      | (with_reducible first | assumption | apply good_setBox | apply good_tagged | refine (goodNext_next _).2 ?_)
      | (intro _; intros; dsimp only) | (intro _; intros) | with_reducible refine good_of_fst (by assumption) ?_ | with_reducible refine good_of_snd (by assumption) ?_ | split | dsimp only | (rename_i hq; split at hq) | (rename_i hq; cases hq)
  | succ n ih =>
    unfold queueHeld
    try dsimp only
    repeat' first
      | (with_reducible first | assumption | apply ih | apply good_setBox | apply good_tagged | refine (goodNext_next _).2 ?_)
      | (intro _; intros; dsimp only) | (intro _; intros) | with_reducible refine good_of_fst (by assumption) ?_ | with_reducible refine good_of_snd (by assumption) ?_ | split | dsimp only | (rename_i hq; split at hq) | (rename_i hq; cases hq)

theorem good_takeMessage (s : State) (i : Nat) (p : Packet) (h : GoodS qq s) :
    GoodS qq (takeMessage s i p) := by
  unfold takeMessage
  try dsimp only
  repeat' first
    | (with_reducible first | assumption | apply good_each | apply good_count | apply good_setBox | apply good_settle | apply good_queueHeld | apply good_ite | apply goodNext_ite | refine good_each _ _ _ ?_ ?_ | refine (goodNext_next _).2 ?_)
    | (intro _; intros; dsimp only) | (intro _; intros) | split | dsimp only

theorem good_writeEffect (p : Packet) (s : State) (i : Nat) (h : GoodS qq s) :
    GoodS qq (writeEffect p s i) := by
  unfold writeEffect
  try dsimp only
  repeat' first
    | (with_reducible first | assumption | apply good_putData | apply good_tagged | apply good_writeInbox | apply good_ite | apply goodNext_ite)
    | exact good_accessError _ _ _ _ _ _ (by assumption) _ (by assumption)
    | (intro _; intros; dsimp only) | (intro _; intros) | with_reducible refine good_of_fst (by assumption) ?_ | with_reducible refine good_of_snd (by assumption) ?_ | split | dsimp only | (rename_i hq; split at hq) | (rename_i hq; cases hq)

theorem good_noteAsked (s : State) (i tag : Nat) (n : Option Nat) (h : GoodS qq s) :
    GoodS qq (noteAsked s i tag n) := by
  unfold noteAsked
  try dsimp only
  repeat' first
    | (with_reducible first | assumption)
    | (intro _; intros; dsimp only) | (intro _; intros) | split | dsimp only

theorem good_readReqEffect (p : Packet) (s : State) (i : Nat) (h : GoodS qq s) :
    GoodS qq (readReqEffect p s i) := by
  unfold readReqEffect
  try dsimp only
  repeat' first
    | (with_reducible first | assumption | apply good_inject | apply good_errAnswer)
    | exact good_accessError _ _ _ _ _ _ (by assumption) _ (by assumption)
    | (intro _; intros; dsimp only) | (intro _; intros) | with_reducible refine good_of_fst (by assumption) ?_ | with_reducible refine good_of_snd (by assumption) ?_ | split | dsimp only | (rename_i hq; split at hq) | (rename_i hq; cases hq)

theorem good_readRespEffect (p : Packet) (s : State) (i : Nat) (h : GoodS qq s) :
    GoodS qq (readRespEffect p s i) := by
  unfold readRespEffect
  try dsimp only
  repeat' first
    | (with_reducible first | assumption | apply good_when | apply good_settle | apply good_readReturn | apply good_ctlReturn | apply good_malformedPacket | apply good_tagged | apply good_noteAsked | apply good_ite | apply goodNext_ite | refine good_when _ _ _ ?_ ?_)
    | (intro _; intros; dsimp only) | (intro _; intros) | split | dsimp only

theorem good_atomicEffect (p : Packet) (s : State) (i : Nat) (h : GoodS qq s) :
    GoodS qq (atomicEffect p s i) := by
  unfold atomicEffect
  try dsimp only
  repeat' first
    | (with_reducible first | assumption | apply good_putData | apply good_inject | apply good_errAnswer)
    | exact good_accessError _ _ _ _ _ _ (by assumption) _ (by assumption)
    | (intro _; intros; dsimp only) | (intro _; intros) | with_reducible refine good_of_fst (by assumption) ?_ | with_reducible refine good_of_snd (by assumption) ?_ | split | dsimp only | (rename_i hq; split at hq) | (rename_i hq; cases hq)

theorem good_atomicRespEffect (p : Packet) (s : State) (i : Nat) (h : GoodS qq s) :
    GoodS qq (atomicRespEffect p s i) := by
  unfold atomicRespEffect
  try dsimp only
  repeat' first
    | (with_reducible first | assumption | apply good_settle | apply good_atomicReturn | apply good_tagged | apply good_ite | apply goodNext_ite)
    | (intro _; intros; dsimp only) | (intro _; intros) | split | dsimp only

theorem good_signalEffect (p : Packet) (s : State) (i : Nat) (h : GoodS qq s) :
    GoodS qq (signalEffect p s i) := by
  unfold signalEffect
  try dsimp only
  repeat' first
    | (with_reducible first | assumption | apply good_offAccess | apply good_tagged | apply good_wakeEngine | apply good_ite | apply goodNext_ite)
    | (intro _; intros; dsimp only) | (intro _; intros) | split | dsimp only

theorem good_mgmtAnswer (s : State) (p : Packet) (v : Nat) (h : GoodS qq s) :
    GoodS qq (mgmtAnswer s p v) := by
  unfold mgmtAnswer
  try dsimp only
  repeat' first
    | (with_reducible first | assumption | apply good_inject | apply good_takeSeq)
    | (intro _; intros; dsimp only) | (intro _; intros) | split | dsimp only

theorem good_mgmtAccess (s : State) (p : Packet) (h : GoodS qq s) :
    GoodS qq (mgmtAccess s p) := by
  unfold mgmtAccess
  try dsimp only
  repeat' first
    | (with_reducible first | assumption | apply good_setReg | apply good_setRoute | apply good_mgmtAnswer | apply good_ite | apply goodNext_ite)
    | (intro _; intros; dsimp only) | (intro _; intros) | with_reducible refine good_of_fst (by assumption) ?_ | with_reducible refine good_of_snd (by assumption) ?_ | split | dsimp only | (rename_i hq; split at hq) | (rename_i hq; cases hq)

theorem good_effectAt (ty : Nat) (p : Packet) (s : State) (i : Nat) (h : GoodS qq s) :
    GoodS qq (effectAt ty p s i) := by
  unfold effectAt
  try dsimp only
  repeat' first
    | (with_reducible first | assumption | apply good_tagged | apply good_takeMessage | apply good_writeEffect | apply good_readReqEffect | apply good_readRespEffect | apply good_atomicEffect | apply good_atomicRespEffect | apply good_signalEffect | apply good_mgmtAccess)
    | (intro _; intros; dsimp only) | (intro _; intros) | with_reducible refine good_of_fst (by assumption) ?_ | with_reducible refine good_of_snd (by assumption) ?_ | split | dsimp only | (rename_i hq; split at hq) | (rename_i hq; cases hq)

theorem good_setCrossing (s : State) (i : Nat) (l : List Packet) (h : GoodS qq s) :
    GoodS qq (setCrossing s i l) := by
  unfold setCrossing
  try dsimp only
  repeat' first
    | (with_reducible first | assumption)
    | (intro _; intros; dsimp only) | (intro _; intros) | split | dsimp only

theorem good_arrive (s : State) (i : Nat) (p : Packet) (h : GoodS qq s) :
    GoodS qq (arrive s i p) := by
  unfold arrive
  try dsimp only
  repeat' first
    | (with_reducible first | assumption | apply good_raise | apply good_count | apply good_effectAt | apply good_ite | apply goodNext_ite | refine good_each _ _ _ ?_ ?_)
    | (intro _; intros; dsimp only) | (intro _; intros) | split | dsimp only

theorem good_intoCrossing (s : State) (i : Nat) (p : Packet) (h : GoodS qq s) :
    GoodS qq (intoCrossing s i p) := by
  unfold intoCrossing
  try dsimp only
  repeat' first
    | (with_reducible first | assumption | apply good_setCrossing | apply good_arrive | apply good_ite | apply goodNext_ite | refine good_each _ _ _ ?_ ?_ | refine good_when _ _ _ ?_ ?_)
    | (intro _; intros; dsimp only) | (intro _; intros) | split | dsimp only

theorem good_deliver (s : State) (i : Nat) (h : GoodS qq s) :
    GoodS qq (deliver s i) := by
  unfold deliver
  try dsimp only
  repeat' first
    | (with_reducible first | assumption | apply good_each | apply good_setCrossing | apply good_arrive | apply good_ite | apply goodNext_ite | refine good_each _ _ _ ?_ ?_)
    | (intro _; intros; dsimp only) | (intro _; intros) | split | dsimp only

theorem good_deliverAll (s : State) (h : GoodS qq s) :
    GoodS qq (deliverAll s) := by
  unfold deliverAll
  try dsimp only
  repeat' first
    | (with_reducible first | assumption | apply good_each | apply good_deliver | refine good_each _ _ _ ?_ ?_)
    | (intro _; intros; dsimp only) | (intro _; intros) | split | dsimp only

theorem good_discardCrossing (s : State) (i : Nat) (h : GoodS qq s) :
    GoodS qq (discardCrossing s i) := by
  unfold discardCrossing
  try dsimp only
  repeat' first
    | (with_reducible first | assumption | apply good_countBy | apply good_setCrossing | apply good_ite | apply goodNext_ite)
    | (intro _; intros; dsimp only) | (intro _; intros) | split | dsimp only

theorem good_receive (ty : Nat) (p : Packet) (s : State) (h : GoodS qq s) :
    GoodS qq (receive ty p s) := by
  unfold receive
  try dsimp only
  repeat' first
    | (with_reducible first | assumption | apply good_count | apply good_bufferEcc | apply good_errAnswer | apply good_leaveFabric | apply good_carry | apply good_intoCrossing | apply good_ite | apply goodNext_ite)
    | (intro _; intros; dsimp only) | (intro _; intros) | with_reducible refine good_of_fst (by assumption) ?_ | with_reducible refine good_of_snd (by assumption) ?_ | split | dsimp only | (rename_i hq; split at hq) | (rename_i hq; cases hq)

theorem good_execWrite (p : Packet) (s : State) (h : GoodS qq s) :
    GoodNext qq (execWrite p s) := by
  unfold execWrite
  try dsimp only
  repeat' first
    | (with_reducible first | assumption | apply good_receive | refine (goodNext_next _).2 ?_)
    | (intro _; intros; dsimp only) | (intro _; intros) | split | dsimp only

theorem good_execReadReq (p : Packet) (s : State) (h : GoodS qq s) :
    GoodNext qq (execReadReq p s) := by
  unfold execReadReq
  try dsimp only
  repeat' first
    | (with_reducible first | assumption | apply good_when | apply good_noteAsked | apply good_receive | refine good_when _ _ _ ?_ ?_ | refine (goodNext_next _).2 ?_)
    | (intro _; intros; dsimp only) | (intro _; intros) | split | dsimp only

theorem good_execReadResp (p : Packet) (s : State) (h : GoodS qq s) :
    GoodNext qq (execReadResp p s) := by
  unfold execReadResp
  try dsimp only
  repeat' first
    | (with_reducible first | assumption | apply good_receive | refine (goodNext_next _).2 ?_)
    | (intro _; intros; dsimp only) | (intro _; intros) | split | dsimp only

theorem good_execAtomic (p : Packet) (s : State) (h : GoodS qq s) :
    GoodNext qq (execAtomic p s) := by
  unfold execAtomic
  try dsimp only
  repeat' first
    | (with_reducible first | assumption | apply good_receive | refine (goodNext_next _).2 ?_)
    | (intro _; intros; dsimp only) | (intro _; intros) | split | dsimp only

theorem good_execAtomicResp (p : Packet) (s : State) (h : GoodS qq s) :
    GoodNext qq (execAtomicResp p s) := by
  unfold execAtomicResp
  try dsimp only
  repeat' first
    | (with_reducible first | assumption | apply good_receive | refine (goodNext_next _).2 ?_)
    | (intro _; intros; dsimp only) | (intro _; intros) | split | dsimp only

theorem good_execMsg (p : Packet) (s : State) (h : GoodS qq s) :
    GoodNext qq (execMsg p s) := by
  unfold execMsg
  try dsimp only
  repeat' first
    | (with_reducible first | assumption | apply good_receive | refine (goodNext_next _).2 ?_)
    | (intro _; intros; dsimp only) | (intro _; intros) | split | dsimp only

theorem good_execSignal (p : Packet) (s : State) (h : GoodS qq s) :
    GoodNext qq (execSignal p s) := by
  unfold execSignal
  try dsimp only
  repeat' first
    | (with_reducible first | assumption | apply good_receive | refine (goodNext_next _).2 ?_)
    | (intro _; intros; dsimp only) | (intro _; intros) | split | dsimp only

theorem good_execMgmt (p : Packet) (s : State) (h : GoodS qq s) :
    GoodNext qq (execMgmt p s) := by
  unfold execMgmt
  try dsimp only
  repeat' first
    | (with_reducible first | assumption | apply good_receive | refine (goodNext_next _).2 ?_)
    | (intro _; intros; dsimp only) | (intro _; intros) | split | dsimp only

theorem good_writeCcSet (s : State) (v : BitVec 32) (h : GoodS qq s) :
    GoodS qq (writeCcSet s v) := by
  unfold writeCcSet
  try dsimp only
  repeat' first
    | (with_reducible first | assumption | apply good_ccWrite | apply good_counterMoved)
    | (intro _; intros; dsimp only) | (intro _; intros) | split | dsimp only

theorem good_writeCcAdd (s : State) (v : BitVec 32) (h : GoodS qq s) :
    GoodS qq (writeCcAdd s v) := by
  unfold writeCcAdd
  try dsimp only
  repeat' first
    | (with_reducible first | assumption | apply good_ccPut | apply good_counterMoved)
    | (intro _; intros; dsimp only) | (intro _; intros) | split | dsimp only

theorem good_writeRtData (s : State) (v : Nat) (h : GoodS qq s) :
    GoodS qq (writeRtData s v) := by
  unfold writeRtData
  try dsimp only
  repeat' first
    | (with_reducible first | assumption | apply good_setRoute | apply good_ite | apply goodNext_ite)
    | (intro _; intros; dsimp only) | (intro _; intros) | split | dsimp only

theorem good_writeRtRemote (s : State) (v : Nat) (h : GoodS qq s) :
    GoodS qq (writeRtRemote s v) := by
  unfold writeRtRemote
  try dsimp only
  repeat' first
    | (with_reducible first | assumption | apply good_setRoutes)
    | (intro _; intros; dsimp only) | (intro _; intros) | split | dsimp only

theorem good_execFabCcSet (who : Requester) (val : BitVec 32) (s : State) (h : GoodS qq s) :
    GoodNext qq (execFabCcSet who val s) := by
  unfold execFabCcSet
  try dsimp only
  repeat' first
    | (with_reducible first | assumption | apply good_writeGuard | apply good_writeCcSet | refine (goodNext_next _).2 ?_)
    | (intro _; intros; dsimp only) | (intro _; intros) | split | dsimp only

theorem good_execFabCcAdd (who : Requester) (val : BitVec 32) (s : State) (h : GoodS qq s) :
    GoodNext qq (execFabCcAdd who val s) := by
  unfold execFabCcAdd
  try dsimp only
  repeat' first
    | (with_reducible first | assumption | apply good_writeGuard | apply good_writeCcAdd | refine (goodNext_next _).2 ?_)
    | (intro _; intros; dsimp only) | (intro _; intros) | split | dsimp only

theorem good_execFabRtDataWrite (who : Requester) (val : BitVec 32) (s : State) (h : GoodS qq s) :
    GoodNext qq (execFabRtDataWrite who val s) := by
  unfold execFabRtDataWrite
  try dsimp only
  repeat' first
    | (with_reducible first | assumption | apply good_writeGuard | apply good_writeRtData | refine (goodNext_next _).2 ?_)
    | (intro _; intros; dsimp only) | (intro _; intros) | split | dsimp only

theorem good_execFabRtRemoteWrite (who : Requester) (val : BitVec 32) (s : State) (h : GoodS qq s) :
    GoodNext qq (execFabRtRemoteWrite who val s) := by
  unfold execFabRtRemoteWrite
  try dsimp only
  repeat' first
    | (with_reducible first | assumption | apply good_writeGuard | apply good_writeRtRemote | refine (goodNext_next _).2 ?_)
    | (intro _; intros; dsimp only) | (intro _; intros) | split | dsimp only

/-! Crossing -/

theorem good_execFllLock (change : Nat) (s : State) (h : GoodS qq s) :
    GoodNext qq (execFllLock change s) := by
  unfold execFllLock
  try dsimp only
  repeat' first
    | (with_reducible first | assumption | apply good_endPause | apply good_deliverAll | refine (goodNext_next _).2 ?_)
    | (intro _; intros; dsimp only) | (intro _; intros) | with_reducible refine good_of_fst (by assumption) ?_ | with_reducible refine good_of_snd (by assumption) ?_ | split | dsimp only | (rename_i hq; split at hq) | (rename_i hq; cases hq)

theorem good_execFllLockTimeout (island : Nat) (s : State) (h : GoodS qq s) :
    GoodNext qq (execFllLockTimeout island s) := by
  unfold execFllLockTimeout
  try dsimp only
  repeat' first
    | (with_reducible first | assumption | apply good_raise | apply good_count | apply good_modIsland | apply good_setChanges | apply good_endPause | apply good_deliverAll | apply good_ite | apply goodNext_ite | refine (goodNext_next _).2 ?_ | refine good_filterMem _ ?_ | refine good_filterRegs _ ?_)
    | (intro _; intros; dsimp only) | (intro _; intros) | with_reducible refine good_of_fst (by assumption) ?_ | with_reducible refine good_of_snd (by assumption) ?_ | split | dsimp only | (rename_i hq; split at hq) | (rename_i hq; cases hq)

theorem good_wakeIsland (s : State) (i : Nat) (h : GoodS qq s) :
    GoodS qq (wakeIsland s i) := by
  unfold wakeIsland
  try dsimp only
  repeat' first
    | (with_reducible first | assumption | apply good_each | apply good_when | apply good_raise | apply good_count | apply good_modIsland | apply good_requestChange | apply good_followQu | apply good_endAlarmPause | apply good_raiseBelowFloor | apply good_takeStored | apply good_ite | apply goodNext_ite | refine good_each _ _ _ ?_ ?_ | refine good_when _ _ _ ?_ ?_)
    | (intro _; intros; dsimp only) | (intro _; intros) | split | dsimp only

theorem good_execIslandWake (island : Nat) (s : State) (h : GoodS qq s) :
    GoodNext qq (execIslandWake island s) := by
  unfold execIslandWake
  try dsimp only
  repeat' first
    | (with_reducible first | assumption | apply good_deliverAll | apply good_wakeIsland | apply good_ite | apply goodNext_ite | refine (goodNext_next _).2 ?_)
    | (intro _; intros; dsimp only) | (intro _; intros) | split | dsimp only

theorem good_execRefClkLost (s : State) (h : GoodS qq s) :
    GoodNext qq (execRefClkLost s) := by
  unfold execRefClkLost
  try dsimp only
  repeat' first
    | (with_reducible first | assumption | apply good_each | apply good_raise | apply good_count | apply good_logRule | apply good_abortPause | apply good_deliverAll | apply good_ite | apply goodNext_ite | refine good_each _ _ _ ?_ ?_ | refine (goodNext_next _).2 ?_)
    | (intro _; intros; dsimp only) | (intro _; intros) | split | dsimp only

/-! Itard -/

theorem good_setLearned (s : State) (e : BitVec 12) (x : Learn) (h : GoodS qq s) :
    GoodS qq (State.setLearned s e x) := by
  unfold State.setLearned
  try dsimp only
  repeat' first
    | (with_reducible first | assumption)
    | (intro _; intros; dsimp only) | (intro _; intros) | split | dsimp only

theorem good_routeBySide (s : State) (e : BitVec 12) (f : Nat) (h : GoodS qq s) :
    GoodS qq (routeBySide s e f) := by
  unfold routeBySide
  try dsimp only
  repeat' first
    | (with_reducible first | assumption | apply good_setRoutes)
    | (intro _; intros; dsimp only) | (intro _; intros) | split | dsimp only

theorem good_learnConflict (s : State) (e : BitVec 12) (x : Learn) (side : Nat) (h : GoodS qq s) :
    GoodS qq (learnConflict s e x side) := by
  unfold learnConflict
  try dsimp only
  repeat' first
    | (with_reducible first | assumption | apply good_setReg | apply good_raise | apply good_setLearned | apply good_routeBySide)
    | (intro _; intros; dsimp only) | (intro _; intros) | split | dsimp only

theorem good_learnFrom (s : State) (e : BitVec 12) (f : Nat) (h : GoodS qq s) :
    GoodS qq (learnFrom s e f) := by
  unfold learnFrom
  try dsimp only
  repeat' first
    | (with_reducible first | assumption | apply good_count | apply good_setLearned | apply good_routeBySide | apply good_learnConflict | apply good_ite | apply goodNext_ite)
    | (intro _; intros; dsimp only) | (intro _; intros) | with_reducible refine good_of_fst (by assumption) ?_ | with_reducible refine good_of_snd (by assumption) ?_ | split | dsimp only | (rename_i hq; split at hq) | (rename_i hq; cases hq)

theorem good_sighted (s : State) (e : BitVec 12) (f : Nat) (h : GoodS qq s) :
    GoodS qq (sighted s e f) := by
  unfold sighted
  try dsimp only
  repeat' first
    | (with_reducible first | assumption | apply good_count | apply good_learnFrom | apply good_ite | apply goodNext_ite)
    | (intro _; intros; dsimp only) | (intro _; intros) | split | dsimp only

theorem good_writeLearn (s : State) (v : Nat) (h : GoodS qq s) :
    GoodS qq (writeLearn s v) := by
  unfold writeLearn
  try dsimp only
  repeat' first
    | (with_reducible first | assumption | apply good_setLearned | apply good_routeBySide | apply good_ite | apply goodNext_ite)
    | (intro _; intros; dsimp only) | (intro _; intros) | split | dsimp only

theorem good_execItdLearnWrite (who : Requester) (val : BitVec 32) (s : State) (h : GoodS qq s) :
    GoodNext qq (execItdLearnWrite who val s) := by
  unfold execItdLearnWrite
  try dsimp only
  repeat' first
    | (with_reducible first | assumption | apply good_writeGuard | apply good_writeLearn | refine (goodNext_next _).2 ?_)
    | (intro _; intros; dsimp only) | (intro _; intros) | split | dsimp only

theorem good_execLearnSuppressExpiry (eid : BitVec 12) (s : State) (h : GoodS qq s) :
    GoodNext qq (execLearnSuppressExpiry eid s) := by
  unfold execLearnSuppressExpiry
  try dsimp only
  repeat' first
    | (with_reducible first | assumption | apply good_raise | apply good_setLearned | apply good_ite | apply goodNext_ite | refine (goodNext_next _).2 ?_)
    | (intro _; intros; dsimp only) | (intro _; intros) | split | dsimp only

theorem good_managerPacket (s : State) (ty : Nat) (dst : BitVec 12) (payload : List Byte) (h : GoodS qq s) :
    GoodS qq (managerPacket s ty dst payload).2 := by
  unfold managerPacket
  try dsimp only
  repeat' first
    | (with_reducible first | assumption | apply good_takeSeq)
    | (intro _; intros; dsimp only) | (intro _; intros) | split | dsimp only

theorem good_sendNext (s : State) (f ty : Nat) (payload : List Byte) (h : GoodS qq s) :
    GoodS qq (sendNext s f ty payload) := by
  unfold sendNext
  try dsimp only
  repeat' first
    | (with_reducible first | assumption | apply good_toPort | apply good_managerPacket)
    | (intro _; intros; dsimp only) | (intro _; intros) | split | dsimp only

theorem good_routeVc3 (s : State) (n : Nat) (p : Packet) (h : GoodS qq s) :
    GoodS qq (routeVc3 s n p) := by
  unfold routeVc3
  try dsimp only
  repeat' first
    | (with_reducible first | assumption | apply good_dropNoRoute | apply good_toPort)
    | (intro _; intros; dsimp only) | (intro _; intros) | with_reducible refine good_of_fst (by assumption) ?_ | with_reducible refine good_of_snd (by assumption) ?_ | split | dsimp only | (rename_i hq; split at hq) | (rename_i hq; cases hq)

theorem good_sendVc3 (s : State) (k ty : Nat) (payload : List Byte) (h : GoodS qq s) :
    GoodS qq (sendVc3 s k ty payload) := by
  unfold sendVc3
  try dsimp only
  repeat' first
    | (with_reducible first | assumption | apply good_managerPacket | apply good_routeVc3)
    | (intro _; intros; dsimp only) | (intro _; intros) | split | dsimp only

theorem good_sendRemap (s : State) (k : Nat) (payload : List Byte) (h : GoodS qq s) :
    GoodS qq (sendRemap s k payload) := by
  unfold sendRemap
  try dsimp only
  repeat' first
    | (with_reducible first | assumption | apply good_sendVc3 | refine good_each _ _ _ ?_ ?_)
    | (intro _; intros; dsimp only) | (intro _; intros) | split | dsimp only

theorem good_floodFrom (s : State) (f : Nat) (h : GoodS qq s) :
    GoodS qq (floodFrom s f) := by
  unfold floodFrom
  try dsimp only
  repeat' first
    | (with_reducible first | assumption | apply good_sendNext | apply good_ite | apply goodNext_ite)
    | (intro _; intros; dsimp only) | (intro _; intros) | split | dsimp only

theorem good_inaugFail (s : State) (h : GoodS qq s) :
    GoodS qq (inaugFail s) := by
  unfold inaugFail
  try dsimp only
  repeat' first
    | (with_reducible first | assumption | apply good_each | apply good_raise | apply good_modPort | refine good_each _ _ _ ?_ ?_)
    | (intro _; intros; dsimp only) | (intro _; intros) | split | dsimp only

theorem good_clearRemote (s : State) (h : GoodS qq s) :
    GoodS qq (clearRemote s) := by
  unfold clearRemote
  try dsimp only
  repeat' first
    | (with_reducible first | assumption | refine good_filterMem _ ?_ | refine good_filterRegs _ ?_)
    | (intro _; intros; dsimp only) | (intro _; intros) | split | dsimp only

theorem good_reportSlots (s : State) (h : GoodS qq s) :
    GoodS qq (reportSlots s) := by
  unfold reportSlots
  try dsimp only
  repeat' first
    | (with_reducible first | assumption | apply good_sendRemap | apply good_ite | apply goodNext_ite)
    | (intro _; intros; dsimp only) | (intro _; intros) | split | dsimp only

theorem good_takeSlots (s : State) (h : GoodS qq s) :
    GoodS qq (takeSlots s) := by
  unfold takeSlots
  try dsimp only
  repeat' first
    | (with_reducible first | assumption | apply good_each | apply good_modPort | apply good_inaugFail | apply good_clearRemote | apply good_reportSlots | apply good_ite | apply goodNext_ite | refine good_each _ _ _ ?_ ?_)
    | (intro _; intros; dsimp only) | (intro _; intros) | with_reducible refine good_of_fst (by assumption) ?_ | with_reducible refine good_of_snd (by assumption) ?_ | split | dsimp only | (rename_i hq; split at hq) | (rename_i hq; cases hq)

theorem good_inaugHello (s : State) (h : GoodS qq s) :
    GoodS qq (inaugHello s) := by
  unfold inaugHello
  try dsimp only
  repeat' first
    | (with_reducible first | assumption | apply good_each | apply good_modPort | apply good_sendNext | apply good_floodFrom | apply good_takeSlots | apply good_ite | apply goodNext_ite | refine good_each _ _ _ ?_ ?_)
    | (intro _; intros; dsimp only) | (intro _; intros) | split | dsimp only

theorem good_startInaug (s : State) (h : GoodS qq s) :
    GoodS qq (startInaug s) := by
  unfold startInaug
  try dsimp only
  repeat' first
    | (with_reducible first | assumption | apply good_each | apply good_modPort | apply good_inaugFail | apply good_clearRemote | apply good_inaugHello | apply good_ite | apply goodNext_ite | refine good_each _ _ _ ?_ ?_)
    | (intro _; intros; dsimp only) | (intro _; intros) | split | dsimp only

theorem good_restartWithout (s : State) (k : Nat) (h : GoodS qq s) :
    GoodS qq (restartWithout s k) := by
  unfold restartWithout
  try dsimp only
  repeat' first
    | (with_reducible first | assumption | apply good_each | apply good_modPort | apply good_inaugFail | apply good_clearRemote | apply good_inaugHello | refine good_each _ _ _ ?_ ?_ | refine good_filterMem _ ?_ | refine good_filterRegs _ ?_)
    | (intro _; intros; dsimp only) | (intro _; intros) | split | dsimp only

theorem good_linkChanged (s : State) (h : GoodS qq s) :
    GoodS qq (linkChanged s) := by
  unfold linkChanged
  try dsimp only
  repeat' first
    | (with_reducible first | assumption | apply good_clearRemote | apply good_inaugHello | apply good_ite | apply goodNext_ite)
    | (intro _; intros; dsimp only) | (intro _; intros) | split | dsimp only

theorem good_portDown (s : State) (f : Nat) (h : GoodS qq s) :
    GoodS qq (portDown s f) := by
  unfold portDown
  try dsimp only
  repeat' first
    | (with_reducible first | assumption | apply good_each | apply good_setPort | apply good_txDiscard | apply good_releaseHeld | apply good_linkChanged | refine good_each _ _ _ ?_ ?_)
    | (intro _; intros; dsimp only) | (intro _; intros) | split | dsimp only

theorem good_writeItdCtrl (s : State) (f v : Nat) (h : GoodS qq s) :
    GoodS qq (writeItdCtrl s f v) := by
  unfold writeItdCtrl
  try dsimp only
  repeat' first
    | (with_reducible first | assumption | apply good_setFldAt | apply good_modPort | apply good_portDown | apply good_ite | apply goodNext_ite)
    | (intro _; intros; dsimp only) | (intro _; intros) | split | dsimp only

theorem good_execItdPortEnable (who : Requester) (port : Fin 2) (val : BitVec 32) (s : State) (h : GoodS qq s) :
    GoodNext qq (execItdPortEnable who port val s) := by
  unfold execItdPortEnable
  try dsimp only
  repeat' first
    | (with_reducible first | assumption | apply good_writeGuard | apply good_writeItdCtrl | refine (goodNext_next _).2 ?_)
    | (intro _; intros; dsimp only) | (intro _; intros) | split | dsimp only

theorem good_writeFabCtrl (s : State) (v : Nat) (h : GoodS qq s) :
    GoodS qq (writeFabCtrl s v) := by
  unfold writeFabCtrl
  try dsimp only
  repeat' first
    | (with_reducible first | assumption | apply good_startInaug | apply good_ite | apply goodNext_ite)
    | (intro _; intros; dsimp only) | (intro _; intros) | split | dsimp only

theorem good_execFabInaugStart (who : Requester) (val : BitVec 32) (s : State) (h : GoodS qq s) :
    GoodNext qq (execFabInaugStart who val s) := by
  unfold execFabInaugStart
  try dsimp only
  repeat' first
    | (with_reducible first | assumption | apply good_writeGuard | apply good_writeFabCtrl | refine good_when _ _ _ ?_ ?_ | refine (goodNext_next _).2 ?_)
    | (intro _; intros; dsimp only) | (intro _; intros) | split | dsimp only

theorem good_execItardTrainingEnd (port : Fin 2) (partner : Option Nat) (s : State) (h : GoodS qq s) :
    GoodNext qq (execItardTrainingEnd port partner s) := by
  unfold execItardTrainingEnd
  try dsimp only
  repeat' first
    | (with_reducible first | assumption | apply good_modPort | apply good_inaugHello | apply good_linkChanged | apply good_ite | apply goodNext_ite | refine (goodNext_next _).2 ?_)
    | (intro _; intros; dsimp only) | (intro _; intros) | with_reducible refine good_of_fst (by assumption) ?_ | with_reducible refine good_of_snd (by assumption) ?_ | split | dsimp only | (rename_i hq; split at hq) | (rename_i hq; cases hq)

theorem good_takeInaug (s : State) (f : Nat) (p : Packet) (h : GoodS qq s) :
    GoodS qq (takeInaug s f p) := by
  unfold takeInaug
  try dsimp only
  repeat' first
    | (with_reducible first | assumption | apply good_logged | apply good_setPort | apply good_modPort | apply good_floodFrom | apply good_inaugFail | apply good_takeSlots | apply good_ite | apply goodNext_ite)
    | (intro _; intros; dsimp only) | (intro _; intros) | with_reducible refine good_of_fst (by assumption) ?_ | with_reducible refine good_of_snd (by assumption) ?_ | split | dsimp only | (rename_i hq; split at hq) | (rename_i hq; cases hq)

theorem good_atManager (ty : Nat) (s : State) (f : Nat) (p : Packet) (k : State → Packet → State) (h : GoodS qq s) (hk : ∀ u m1, GoodS qq u → GoodS qq (k u m1)) :
    GoodS qq (atManager ty s f p k) := by
  unfold atManager
  try dsimp only
  repeat' first
    | (with_reducible first | assumption | apply good_raise | apply good_count | apply good_bufferEcc | apply good_malformedPacket | apply good_leaveFabric | apply good_tagged | apply good_routeVc3 | apply good_ite | apply goodNext_ite)
    | with_reducible apply hk
    | (intro _; intros; dsimp only) | (intro _; intros) | split | dsimp only

theorem good_execInaug (port : Fin 2) (p : Packet) (s : State) (h : GoodS qq s) :
    GoodNext qq (execInaug port p s) := by
  unfold execInaug
  try dsimp only
  repeat' first
    | (with_reducible first | assumption | apply good_takeInaug | apply good_atManager | refine (goodNext_next _).2 ?_)
    | (intro _; intros; dsimp only) | (intro _; intros) | split | dsimp only

theorem good_learnEnds (s : State) (h : GoodS qq s) :
    GoodS qq (learnEnds s) := by
  unfold learnEnds
  try dsimp only
  repeat' first
    | (with_reducible first | assumption | apply good_each | apply good_setFldAt | refine good_each _ _ _ ?_ ?_)
    | (intro _; intros; dsimp only) | (intro _; intros) | split | dsimp only

theorem good_execLearnWindowEnd (s : State) (h : GoodS qq s) :
    GoodNext qq (execLearnWindowEnd s) := by
  unfold execLearnWindowEnd
  try dsimp only
  repeat' first
    | (with_reducible first | assumption | apply good_learnEnds | apply good_ite | apply goodNext_ite | refine (goodNext_next _).2 ?_)
    | (intro _; intros; dsimp only) | (intro _; intros) | split | dsimp only

theorem good_accepted (s : State) (f : Nat) (p : Packet) (h : GoodS qq s) :
    GoodS qq (accepted s f p) := by
  unfold accepted
  try dsimp only
  repeat' first
    | (with_reducible first | assumption | apply good_count | apply good_logged | apply good_inject | apply good_logMalformed | apply good_errAnswer | apply good_sighted | apply good_ite | apply goodNext_ite)
    | (intro _; intros; dsimp only) | (intro _; intros) | split | dsimp only

theorem good_sendAck (s : State) (f : Nat) (h : GoodS qq s) :
    GoodS qq (sendAck s f) := by
  unfold sendAck
  try dsimp only
  repeat' first
    | (with_reducible first | assumption | apply good_modPort)
    | (intro _; intros; dsimp only) | (intro _; intros) | split | dsimp only

theorem good_sendNak (s : State) (f : Nat) (h : GoodS qq s) :
    GoodS qq (sendNak s f) := by
  unfold sendNak
  try dsimp only
  repeat' first
    | (with_reducible first | assumption | apply good_modPort)
    | (intro _; intros; dsimp only) | (intro _; intros) | split | dsimp only

theorem good_packetIn (s : State) (f : Nat) (bad : Bool) (n : Nat) (l : List Byte) (h : GoodS qq s) :
    GoodS qq (packetIn s f bad n l) := by
  unfold packetIn
  try dsimp only
  repeat' first
    | (with_reducible first | assumption | apply good_when | apply good_count | apply good_setPort | apply good_modPort | apply good_accepted | apply good_sendAck | apply good_sendNak | apply good_ite | apply goodNext_ite | refine good_when _ _ _ ?_ ?_)
    | (intro _; intros; dsimp only) | (intro _; intros) | split | dsimp only

theorem good_takeAck (s : State) (f n : Nat) (h : GoodS qq s) :
    GoodS qq (takeAck s f n) := by
  unfold takeAck
  try dsimp only
  repeat' first
    | (with_reducible first | assumption | apply good_setPort | apply good_pump | apply good_ite | apply goodNext_ite)
    | (intro _; intros; dsimp only) | (intro _; intros) | split | dsimp only

theorem good_takeCredit (s : State) (f : Nat) (c : Credits) (h : GoodS qq s) :
    GoodS qq (takeCredit s f c) := by
  unfold takeCredit
  try dsimp only
  repeat' first
    | (with_reducible first | assumption | apply good_modPort | apply good_pump)
    | (intro _; intros; dsimp only) | (intro _; intros) | split | dsimp only

theorem good_takeNak (s : State) (f n : Nat) (h : GoodS qq s) :
    GoodS qq (takeNak s f n) := by
  unfold takeNak
  try dsimp only
  repeat' first
    | (with_reducible first | assumption | apply good_count | apply good_setPort | apply good_ite | apply goodNext_ite)
    | (intro _; intros; dsimp only) | (intro _; intros) | split | dsimp only

theorem good_rxBlock (f : Nat) (st : State × Option RxPacket) (b : Block) (h : GoodS qq st.1) :
    GoodS qq (rxBlock f st b).1 := by
  unfold rxBlock
  try dsimp only
  repeat' first
    | (with_reducible first | assumption | apply good_packetIn | apply good_takeAck | apply good_takeCredit | apply good_takeNak)
    | (intro _; intros; dsimp only) | (intro _; intros) | with_reducible refine good_of_fst (by assumption) ?_ | with_reducible refine good_of_snd (by assumption) ?_ | split | dsimp only | (rename_i hq; split at hq) | (rename_i hq; cases hq)

theorem good_execItardPacketReceived (port first : Fin 2) (lane0 lane1 : List Block) (s : State) (h : GoodS qq s) :
    GoodNext qq (execItardPacketReceived port first lane0 lane1 s) := by
  unfold execItardPacketReceived
  try dsimp only
  repeat' first
    | (with_reducible first | assumption | apply good_rxBlock | apply good_ite | apply goodNext_ite | refine good_foldl _ _ ?_ _ ?_ | refine good_foldl_fst _ _ ?_ _ ?_ | refine good_foldl_snd _ _ ?_ _ ?_ | refine (goodNext_next _).2 ?_)
    | (intro _; intros; dsimp only) | (intro _; intros) | split | dsimp only

theorem good_execItardAck (port : Fin 2) (ack : LinkAck) (s : State) (h : GoodS qq s) :
    GoodNext qq (execItardAck port ack s) := by
  unfold execItardAck
  try dsimp only
  repeat' first
    | (with_reducible first | assumption | apply good_takeAck | apply good_takeCredit | refine (goodNext_next _).2 ?_)
    | (intro _; intros; dsimp only) | (intro _; intros) | split | dsimp only

theorem good_execItardNak (port : Fin 2) (linkSeq : BitVec 10) (s : State) (h : GoodS qq s) :
    GoodNext qq (execItardNak port linkSeq s) := by
  unfold execItardNak
  try dsimp only
  repeat' first
    | (with_reducible first | assumption | apply good_takeNak | refine (goodNext_next _).2 ?_)
    | (intro _; intros; dsimp only) | (intro _; intros) | split | dsimp only

theorem good_execItardRetrainDone (port : Fin 2) (ok : Bool) (s : State) (h : GoodS qq s) :
    GoodNext qq (execItardRetrainDone port ok s) := by
  unfold execItardRetrainDone
  try dsimp only
  repeat' first
    | (with_reducible first | assumption | apply good_modPort | apply good_pump | apply good_portDown | apply good_ite | apply goodNext_ite | refine (goodNext_next _).2 ?_)
    | (intro _; intros; dsimp only) | (intro _; intros) | split | dsimp only

theorem good_execItardAckTimer (port : Fin 2) (s : State) (h : GoodS qq s) :
    GoodNext qq (execItardAckTimer port s) := by
  unfold execItardAckTimer
  try dsimp only
  repeat' first
    | (with_reducible first | assumption | apply good_sendAck | apply good_ite | apply goodNext_ite | refine (goodNext_next _).2 ?_)
    | (intro _; intros; dsimp only) | (intro _; intros) | split | dsimp only

theorem good_execItardPortDown (port : Fin 2) (cause : ItdDown) (s : State) (h : GoodS qq s) :
    GoodNext qq (execItardPortDown port cause s) := by
  unfold execItardPortDown
  try dsimp only
  repeat' first
    | (with_reducible first | assumption | apply good_portDown | apply good_ite | apply goodNext_ite | refine (goodNext_next _).2 ?_)
    | (intro _; intros; dsimp only) | (intro _; intros) | with_reducible refine good_of_fst (by assumption) ?_ | with_reducible refine good_of_snd (by assumption) ?_ | split | dsimp only | (rename_i hq; split at hq) | (rename_i hq; cases hq)

theorem good_execHeartbeatSend (s : State) (h : GoodS qq s) :
    GoodNext qq (execHeartbeatSend s) := by
  unfold execHeartbeatSend
  try dsimp only
  repeat' first
    | (with_reducible first | assumption | apply good_each | apply good_sendVc3 | apply good_ite | apply goodNext_ite | refine good_each _ _ _ ?_ ?_ | refine (goodNext_next _).2 ?_)
    | (intro _; intros; dsimp only) | (intro _; intros) | with_reducible refine good_of_fst (by assumption) ?_ | with_reducible refine good_of_snd (by assumption) ?_ | split | dsimp only | (rename_i hq; split at hq) | (rename_i hq; cases hq)

theorem good_tellSet (s : State) (l : List Byte) (h : GoodS qq s) :
    GoodS qq (tellSet s l) := by
  unfold tellSet
  try dsimp only
  repeat' first
    | (with_reducible first | assumption | apply good_each | apply good_sendRemap | refine good_each _ _ _ ?_ ?_ | refine good_filterMem _ ?_ | refine good_filterRegs _ ?_)
    | (intro _; intros; dsimp only) | (intro _; intros) | split | dsimp only

theorem good_reportRunning (s : State) (j : Nat) (h : GoodS qq s) :
    GoodS qq (reportRunning s j) := by
  unfold reportRunning
  try dsimp only
  repeat' first
    | (with_reducible first | assumption | apply good_tellSet | apply good_ite | apply goodNext_ite)
    | (intro _; intros; dsimp only) | (intro _; intros) | split | dsimp only

theorem good_runPair (s : State) (sums : List RouterSums) (n o alt : Nat) (h : GoodS qq s) :
    GoodS qq (runPair s sums n o alt) := by
  unfold runPair
  try dsimp only
  repeat' first
    | (with_reducible first | assumption | apply good_ite | apply goodNext_ite)
    | (intro _; intros; dsimp only) | (intro _; intros) | split | dsimp only

theorem good_reselect (s : State) (sums : List RouterSums) (h : GoodS qq s) :
    GoodS qq (reselect s sums) := by
  unfold reselect
  try dsimp only
  repeat' first
    | (with_reducible first | assumption | apply good_each | apply good_runPair | apply good_ite | apply goodNext_ite | refine good_each _ _ _ ?_ ?_ | refine good_filterMem _ ?_ | refine good_filterRegs _ ?_)
    | (intro _; intros; dsimp only) | (intro _; intros) | with_reducible refine good_of_fst (by assumption) ?_ | with_reducible refine good_of_snd (by assumption) ?_ | split | dsimp only | (rename_i hq; split at hq) | (rename_i hq; cases hq)

theorem good_execCmapGather (sums : List RouterSums) (txOcc : List Nat) (s : State) (h : GoodS qq s) :
    GoodNext qq (execCmapGather sums txOcc s) := by
  unfold execCmapGather
  try dsimp only
  repeat' first
    | (with_reducible first | assumption | apply good_each | apply good_setReg | apply good_raise | apply good_modPort | apply good_putData | apply good_reselect | apply good_ite | apply goodNext_ite | refine good_each _ _ _ ?_ ?_ | refine (goodNext_next _).2 ?_)
    | (intro _; intros; dsimp only) | (intro _; intros) | split | dsimp only

/-! Dma -/

theorem good_readStop (s : State) (a n : Nat) (h : GoodS qq s) :
    ∀ t, readStop s a n = some t → GoodS qq t.2 := by
  intro t ht
  unfold readStop at ht
  try dsimp only at ht
  try dsimp only
  repeat' first
    | (with_reducible first | assumption | apply good_offAccess | apply good_uncorrectable | apply good_ite | apply goodNext_ite) | cases ht | split at ht
    | (intro _; intros; dsimp only) | (intro _; intros) | with_reducible refine good_of_fst (by assumption) ?_ | with_reducible refine good_of_snd (by assumption) ?_ | split | dsimp only | (rename_i hq; split at hq) | (rename_i hq; cases hq)

theorem good_writeStop (s : State) (halo : Bool) (c a : Nat) (h : GoodS qq s) :
    ∀ t, writeStop s halo c a = some t → GoodS qq t.2 := by
  intro t ht
  unfold writeStop at ht
  try dsimp only at ht
  try dsimp only
  repeat' first
    | (with_reducible first | assumption | apply good_count | apply good_offAccess | apply good_guardDenied | apply good_ite | apply goodNext_ite) | cases ht | split at ht
    | (intro _; intros; dsimp only) | (intro _; intros) | with_reducible refine good_of_fst (by assumption) ?_ | with_reducible refine good_of_snd (by assumption) ?_ | split | dsimp only | (rename_i hq; split at hq) | (rename_i hq; cases hq)

theorem good_engineWrite (s : State) (halo : Bool) (c e a : Nat) (data : List Byte) (h : GoodS qq s) :
    GoodS qq (engineWrite s halo c e a data) := by
  unfold engineWrite
  try dsimp only
  repeat' first
    | (with_reducible first | assumption | apply good_putData | apply good_ccPut | apply good_sendWrite | apply good_ite | apply goodNext_ite)
    | (intro _; intros; dsimp only) | (intro _; intros) | with_reducible refine good_of_fst (by assumption) ?_ | with_reducible refine good_of_snd (by assumption) ?_ | split | dsimp only | (rename_i hq; split at hq) | (rename_i hq; cases hq)

theorem good_moveLine (fuel : Nat) (s : State) (halo : Bool) (c e : Nat) (src : Option Nat) (dst o n : Nat) (h : GoodS qq s) :
    GoodS qq (moveLine fuel s halo c e src dst o n).1 := by
  induction fuel generalizing s halo c e src dst o n with
  | zero  =>
    unfold moveLine
    try dsimp only
    repeat' first
      | (with_reducible first | assumption | apply good_setEngine | apply good_engineWrite | apply good_ite | apply goodNext_ite)
      | exact good_readStop _ _ _ (by assumption) _ (by assumption)
      | exact good_writeStop _ _ _ _ (by assumption) _ (by assumption)
      | (intro _; intros; dsimp only) | (intro _; intros) | with_reducible refine good_of_fst (by assumption) ?_ | with_reducible refine good_of_snd (by assumption) ?_ | split | dsimp only | (rename_i hq; split at hq) | (rename_i hq; cases hq)
  | succ n ih =>
    unfold moveLine
    try dsimp only
    repeat' first
      | (with_reducible first | assumption | apply ih | apply good_setEngine | apply good_engineWrite | apply good_ite | apply goodNext_ite)
      | exact good_readStop _ _ _ (by assumption) _ (by assumption)
      | exact good_writeStop _ _ _ _ (by assumption) _ (by assumption)
      | (intro _; intros; dsimp only) | (intro _; intros) | with_reducible refine good_of_fst (by assumption) ?_ | with_reducible refine good_of_snd (by assumption) ?_ | split | dsimp only | (rename_i hq; split at hq) | (rename_i hq; cases hq)

theorem good_moveLines (fuel : Nat) (s : State) (halo : Bool) (c e l : Nat) (h : GoodS qq s) :
    GoodS qq (moveLines fuel s halo c e l).1 := by
  induction fuel generalizing s halo c e l with
  | zero  =>
    unfold moveLines
    try dsimp only
    repeat' first
      | (with_reducible first | assumption | apply good_moveLine | apply good_ite | apply goodNext_ite)
      | (intro _; intros; dsimp only) | (intro _; intros) | with_reducible refine good_of_fst (by assumption) ?_ | with_reducible refine good_of_snd (by assumption) ?_ | split | dsimp only | (rename_i hq; split at hq) | (rename_i hq; cases hq)
  | succ n ih =>
    unfold moveLines
    try dsimp only
    repeat' first
      | (with_reducible first | assumption | apply ih | apply good_moveLine | apply good_ite | apply goodNext_ite)
      | (intro _; intros; dsimp only) | (intro _; intros) | with_reducible refine good_of_fst (by assumption) ?_ | with_reducible refine good_of_snd (by assumption) ?_ | split | dsimp only | (rename_i hq; split at hq) | (rename_i hq; cases hq)

theorem good_lookNext (s : State) (halo : Bool) (c : Nat) (h : GoodS qq s) :
    GoodS qq (lookNext s halo c) := by
  unfold lookNext
  try dsimp only
  repeat' first
    | (with_reducible first | assumption | apply good_setEngine | apply good_ite | apply goodNext_ite)
    | (intro _; intros; dsimp only) | (intro _; intros) | split | dsimp only

theorem good_retire (s : State) (halo : Bool) (c status : Nat) (h : GoodS qq s) :
    GoodS qq (retire s halo c status) := by
  unfold retire
  try dsimp only
  repeat' first
    | (with_reducible first | assumption | apply good_setEngine | apply good_putData | apply good_lookNext)
    | (intro _; intros; dsimp only) | (intro _; intros) | split | dsimp only

theorem good_engineFail (s : State) (halo : Bool) (c code : Nat) (h : GoodS qq s) :
    GoodS qq (engineFail s halo c code) := by
  unfold engineFail
  try dsimp only
  repeat' first
    | (with_reducible first | assumption | apply good_raise | apply good_count | apply good_setEngine | apply good_retire | apply good_ite | apply goodNext_ite)
    | (intro _; intros; dsimp only) | (intro _; intros) | split | dsimp only

theorem good_startDescriptor (s : State) (halo : Bool) (c : Nat) (ok : Nat → Bool) (h : GoodS qq s) :
    GoodS qq (startDescriptor s halo c ok) := by
  unfold startDescriptor
  try dsimp only
  repeat' first
    | (with_reducible first | assumption | apply good_each | apply good_setEngine | apply good_ccPut | apply good_moveLines | apply good_engineFail | apply good_ite | apply goodNext_ite | refine good_each _ _ _ ?_ ?_)
    | (intro _; intros; dsimp only) | (intro _; intros) | with_reducible refine good_of_fst (by assumption) ?_ | with_reducible refine good_of_snd (by assumption) ?_ | split | dsimp only | (rename_i hq; split at hq) | (rename_i hq; cases hq)

theorem good_execDmaCopy (cluster : Fin 8) (s : State) (h : GoodS qq s) :
    GoodNext qq (execDmaCopy cluster s) := by
  unfold execDmaCopy
  try dsimp only
  repeat' first
    | (with_reducible first | assumption | apply good_startDescriptor | refine (goodNext_next _).2 ?_)
    | (intro _; intros; dsimp only) | (intro _; intros) | split | dsimp only

theorem good_execDmaCopy2d (cluster : Fin 8) (s : State) (h : GoodS qq s) :
    GoodNext qq (execDmaCopy2d cluster s) := by
  unfold execDmaCopy2d
  try dsimp only
  repeat' first
    | (with_reducible first | assumption | apply good_startDescriptor | refine (goodNext_next _).2 ?_)
    | (intro _; intros; dsimp only) | (intro _; intros) | split | dsimp only

theorem good_execDmaFill (cluster : Fin 8) (s : State) (h : GoodS qq s) :
    GoodNext qq (execDmaFill cluster s) := by
  unfold execDmaFill
  try dsimp only
  repeat' first
    | (with_reducible first | assumption | apply good_startDescriptor | refine (goodNext_next _).2 ?_)
    | (intro _; intros; dsimp only) | (intro _; intros) | split | dsimp only

theorem good_execHaloCopy (cluster : Fin 8) (s : State) (h : GoodS qq s) :
    GoodNext qq (execHaloCopy cluster s) := by
  unfold execHaloCopy
  try dsimp only
  repeat' first
    | (with_reducible first | assumption | apply good_startDescriptor | refine (goodNext_next _).2 ?_)
    | (intro _; intros; dsimp only) | (intro _; intros) | split | dsimp only

theorem good_execHaloCopy2d (cluster : Fin 8) (s : State) (h : GoodS qq s) :
    GoodNext qq (execHaloCopy2d cluster s) := by
  unfold execHaloCopy2d
  try dsimp only
  repeat' first
    | (with_reducible first | assumption | apply good_startDescriptor | refine (goodNext_next _).2 ?_)
    | (intro _; intros; dsimp only) | (intro _; intros) | split | dsimp only

theorem good_execDmaDescriptorDone (cluster : Fin 8) (halo : Bool) (s : State) (h : GoodS qq s) :
    GoodNext qq (execDmaDescriptorDone cluster halo s) := by
  unfold execDmaDescriptorDone
  try dsimp only
  repeat' first
    | (with_reducible first | assumption | apply good_when | apply good_raise | apply good_count | apply good_sendSignal | apply good_retire | apply good_ite | apply goodNext_ite | refine good_when _ _ _ ?_ ?_ | refine (goodNext_next _).2 ?_)
    | (intro _; intros; dsimp only) | (intro _; intros) | split | dsimp only

theorem good_execDmaConfirmTimeout (cluster : Fin 8) (halo : Bool) (s : State) (h : GoodS qq s) :
    GoodNext qq (execDmaConfirmTimeout cluster halo s) := by
  unfold execDmaConfirmTimeout
  try dsimp only
  repeat' first
    | (with_reducible first | assumption | apply good_engineFail | apply good_ite | apply goodNext_ite | refine (goodNext_next _).2 ?_)
    | (intro _; intros; dsimp only) | (intro _; intros) | split | dsimp only

theorem good_writeTail (s : State) (halo : Bool) (c v : Nat) (h : GoodS qq s) :
    GoodS qq (writeTail s halo c v) := by
  unfold writeTail
  try dsimp only
  repeat' first
    | (with_reducible first | assumption | apply good_setReg | apply good_wakeEngine | apply good_lookNext)
    | (intro _; intros; dsimp only) | (intro _; intros) | split | dsimp only

theorem good_execDmaWake (cluster : Fin 8) (halo : Bool) (who : Option Requester) (val : BitVec 32) (s : State) (h : GoodS qq s) :
    GoodNext qq (execDmaWake cluster halo who val s) := by
  unfold execDmaWake
  try dsimp only
  repeat' first
    | (with_reducible first | assumption | apply good_writeGuard | apply good_wakeEngine | apply good_lookNext | apply good_writeTail | refine (goodNext_next _).2 ?_)
    | (intro _; intros; dsimp only) | (intro _; intros) | with_reducible refine good_of_fst (by assumption) ?_ | with_reducible refine good_of_snd (by assumption) ?_ | split | dsimp only | (rename_i hq; split at hq) | (rename_i hq; cases hq)

theorem good_writeDmaCtrl (s : State) (c v : Nat) (h : GoodS qq s) :
    GoodS qq (writeDmaCtrl s c v) := by
  unfold writeDmaCtrl
  try dsimp only
  repeat' first
    | (with_reducible first | assumption | apply good_when | apply good_setFldAt | apply good_setEngine | apply good_lookNext | refine good_when _ _ _ ?_ ?_)
    | (intro _; intros; dsimp only) | (intro _; intros) | split | dsimp only

theorem good_execDmaResume (who : Requester) (cluster : Fin 8) (val : BitVec 32) (s : State) (h : GoodS qq s) :
    GoodNext qq (execDmaResume who cluster val s) := by
  unfold execDmaResume
  try dsimp only
  repeat' first
    | (with_reducible first | assumption | apply good_writeGuard | apply good_writeDmaCtrl | refine (goodNext_next _).2 ?_)
    | (intro _; intros; dsimp only) | (intro _; intros) | split | dsimp only

theorem good_execHaloResume (who : Requester) (cluster : Fin 8) (val : BitVec 32) (s : State) (h : GoodS qq s) :
    GoodNext qq (execHaloResume who cluster val s) := by
  unfold execHaloResume
  try dsimp only
  repeat' first
    | (with_reducible first | assumption | apply good_writeGuard | apply good_writeDmaCtrl | refine (goodNext_next _).2 ?_)
    | (intro _; intros; dsimp only) | (intro _; intros) | split | dsimp only

theorem good_writeRingSize (s : State) (halo : Bool) (c v : Nat) (h : GoodS qq s) :
    GoodS qq (writeRingSize s halo c v) := by
  unfold writeRingSize
  try dsimp only
  repeat' first
    | (with_reducible first | assumption | apply good_setEngine | apply good_ite | apply goodNext_ite)
    | (intro _; intros; dsimp only) | (intro _; intros) | split | dsimp only

theorem good_writeSliceCfg (s : State) (c v : Nat) (h : GoodS qq s) :
    GoodS qq (writeSliceCfg s c v) := by
  unfold writeSliceCfg
  try dsimp only
  repeat' first
    | (with_reducible first | assumption | apply good_setFldAt | apply good_raise | apply good_ite | apply goodNext_ite)
    | (intro _; intros; dsimp only) | (intro _; intros) | split | dsimp only

theorem good_execSliceMapWrite (who : Requester) (slice : Fin 8) (val : BitVec 32) (s : State) (h : GoodS qq s) :
    GoodNext qq (execSliceMapWrite who slice val s) := by
  unfold execSliceMapWrite
  try dsimp only
  repeat' first
    | (with_reducible first | assumption | apply good_writeGuard | apply good_writeSliceCfg | refine (goodNext_next _).2 ?_)
    | (intro _; intros; dsimp only) | (intro _; intros) | split | dsimp only

theorem good_writeMemIrqStat (s : State) (v : Nat) (h : GoodS qq s) :
    GoodS qq (writeMemIrqStat s v) := by
  unfold writeMemIrqStat
  try dsimp only
  repeat' first
    | (with_reducible first | assumption | apply good_setReg | apply good_setFldAt | apply good_uncorrectable | apply good_ite | apply goodNext_ite)
    | (intro _; intros; dsimp only) | (intro _; intros) | split | dsimp only

theorem good_scrubbed (s : State) (counter kind a : Nat) (h : GoodS qq s) :
    GoodS qq (scrubbed s counter kind a) := by
  unfold scrubbed
  try dsimp only
  repeat' first
    | (with_reducible first | assumption | apply good_raise | apply good_count | apply good_setPoison | apply good_logMemErr)
    | (intro _; intros; dsimp only) | (intro _; intros) | split | dsimp only

theorem good_passDone (s : State) (k : Nat) (h : GoodS qq s) :
    GoodS qq (passDone s k) := by
  unfold passDone
  try dsimp only
  repeat' first
    | (with_reducible first | assumption | apply good_count)
    | (intro _; intros; dsimp only) | (intro _; intros) | split | dsimp only

theorem good_execSramScrub (group : Fin 64) (corrected : Nat) (uncorrectable : List Nat) (s : State) (h : GoodS qq s) :
    GoodNext qq (execSramScrub group corrected uncorrectable s) := by
  unfold execSramScrub
  try dsimp only
  repeat' first
    | (with_reducible first | assumption | apply good_each | apply good_countBy | apply good_uncorrectable | apply good_corrected | apply good_scrubbed | apply good_passDone | apply good_ite | apply goodNext_ite | refine good_each _ _ _ ?_ ?_ | refine (goodNext_next _).2 ?_ | refine good_filterMem _ ?_ | refine good_filterRegs _ ?_)
    | (intro _; intros; dsimp only) | (intro _; intros) | split | dsimp only

theorem good_execDramScrub (channel : Fin 4) (corrected : Nat) (uncorrectable : List Nat) (s : State) (h : GoodS qq s) :
    GoodNext qq (execDramScrub channel corrected uncorrectable s) := by
  unfold execDramScrub
  try dsimp only
  repeat' first
    | (with_reducible first | assumption | apply good_each | apply good_countBy | apply good_uncorrectable | apply good_corrected | apply good_scrubbed | apply good_passDone | apply good_ite | apply goodNext_ite | refine good_each _ _ _ ?_ ?_ | refine (goodNext_next _).2 ?_ | refine good_filterMem _ ?_ | refine good_filterRegs _ ?_)
    | (intro _; intros; dsimp only) | (intro _; intros) | split | dsimp only

theorem good_execBankGroupInitDone (group : Fin 64) (s : State) (h : GoodS qq s) :
    GoodNext qq (execBankGroupInitDone group s) := by
  unfold execBankGroupInitDone
  try dsimp only
  repeat' first
    | (with_reducible first | assumption | apply good_ite | apply goodNext_ite | refine (goodNext_next _).2 ?_ | refine good_filterMem _ ?_ | refine good_filterRegs _ ?_)
    | (intro _; intros; dsimp only) | (intro _; intros) | split | dsimp only

end Sys2Proof.Machine
end

