-- ==== Sys2Proof/Machine/Pins.lean ====
section
/-! DEFINITION. What the device drives its output balls to (R536, R541, R542, R555, Table 16-12): a view of the state. -/
namespace Sys2Proof.Machine

open Sys2Proof

/-- The output balls that stand at a level; true is high. -/
structure Balls where
  warnA : Bool
  warnB : Bool
  safeCut : Bool
  gpo : BitVec 6
  thermtripN : Bool
  xspiRstN : Bool
  bayPerstN : Bool
  bayPwrEn : Bool
  vehPhyRstN : Bool
  maintPhyRstN : Bool
  /-- One bit per DDR controller. -/
  ddrResetN : BitVec 4
  deriving DecidableEq, Repr

/-- The state of domain d is ON. -/
def domainOn (s : State) (d : Nat) : Bool := decide ((s.dom d).st = .on)

/-- A reset is asserted: at power-on, and from a WARM request that no save holds to its release (R505). -/
def inReset (s : State) : Bool := s.sys.porHeld || (s.sys.warmAt.isSome && decide (s.hld.phase ≠ .saving))

/-- The balls (R108, Table 16-12). All but THERMTRIP_N and XSPI_RST_N are low in a reset; BAY_PWR_EN is high while the BAY domain is ON.
(DEDUCED, log 204) -/
def State.balls (s : State) : Balls :=
  let run := !inReset s
  { warnA := run && driven s false, warnB := run && driven s true, safeCut := run && cutClosed s
    gpo := if run then BitVec.ofNat 6 s.cab.balls else 0
    thermtripN := !s.sys.tripPin, xspiRstN := true
    bayPerstN := run && domainOn s 171, bayPwrEn := run && domainOn s 171
    vehPhyRstN := run && domainOn s 167, maintPhyRstN := run && domainOn s 168
    ddrResetN := if run then s.memb.trained else 0 }

end Sys2Proof.Machine
end

