-- ==== Sys2Proof/Laws/KeepCab.lean ====
section
/-! SUPPORT. What Keep.lean says of the named operations, for Thyme, the cab outputs, and the cartridge with its journal and clips. -/
namespace Sys2Proof.Machine

open Sys2Proof

variable {qq : List Instr}

/-! Thyme -/

theorem good_modThy (s : State) (f : Thyme → Thyme) (h : GoodS qq s) :
    GoodS qq (State.modThy s f) := by
  unfold State.modThy
  try dsimp only
  repeat' first
    | (with_reducible first | assumption | apply good_ite | apply goodNext_ite)
    | (intro _; intros; dsimp only) | (intro _; intros) | split | dsimp only

theorem good_closeInterval (s : State) (h : GoodS qq s) :
    GoodS qq (closeInterval s) := by
  unfold closeInterval
  try dsimp only
  repeat' first
    | (with_reducible first | assumption | apply good_count | apply good_modThy | apply good_ite | apply goodNext_ite)
    | (intro _; intros; dsimp only) | (intro _; intros) | split | dsimp only

theorem good_hear (s : State) (master : Nat) (h : GoodS qq s) :
    GoodS qq (hear s master) := by
  unfold hear
  try dsimp only
  repeat' first
    | (with_reducible first | assumption | apply good_modThy | apply good_closeInterval | apply good_ite | apply goodNext_ite)
    | (intro _; intros; dsimp only) | (intro _; intros) | split | dsimp only

theorem good_stepWindows (s : State) (h : GoodS qq s) :
    GoodS qq (stepWindows s) := by
  unfold stepWindows
  try dsimp only
  repeat' first
    | (with_reducible first | assumption | apply good_corrected | refine good_each _ _ _ ?_ ?_)
    | (intro _; intros; dsimp only) | (intro _; intros) | split | dsimp only

theorem good_correct (s : State) (offset : Int) (h : GoodS qq s) :
    GoodS qq (correct s offset) := by
  unfold correct
  try dsimp only
  repeat' first
    | (with_reducible first | assumption | apply good_count | apply good_logRule | apply good_draw | apply good_irq | apply good_modThy | apply good_stepWindows | apply good_ite | apply goodNext_ite)
    | (intro _; intros; dsimp only) | (intro _; intros) | split | dsimp only

theorem good_execPtpSync (source : PtpSource) (offset : Int) (interval : Nat) (s : State) (h : GoodS qq s) :
    GoodNext qq (execPtpSync source offset interval s) := by
  unfold execPtpSync
  try dsimp only
  repeat' first
    | (with_reducible first | assumption | apply good_irq | apply good_modThy | apply good_hear | apply good_correct | apply good_ite | apply goodNext_ite | refine (goodNext_next _).2 ?_)
    | (intro _; intros; dsimp only) | (intro _; intros) | split | dsimp only

theorem good_execPtpAnnounce (source : PtpSource) (clockClass : Byte) (better : Bool) (s : State) (h : GoodS qq s) :
    GoodNext qq (execPtpAnnounce source clockClass better s) := by
  unfold execPtpAnnounce
  try dsimp only
  repeat' first
    | (with_reducible first | assumption | apply good_modThy | apply good_hear | apply good_ite | apply goodNext_ite | refine (goodNext_next _).2 ?_)
    | (intro _; intros; dsimp only) | (intro _; intros) | split | dsimp only

theorem good_execPtpSyncTimeout (s : State) (h : GoodS qq s) :
    GoodNext qq (execPtpSyncTimeout s) := by
  unfold execPtpSyncTimeout
  try dsimp only
  repeat' first
    | (with_reducible first | assumption | apply good_irq | apply good_modThy | apply good_ite | apply goodNext_ite | refine (goodNext_next _).2 ?_)
    | (intro _; intros; dsimp only) | (intro _; intros) | split | dsimp only

theorem good_execHoldoverExpiry (s : State) (h : GoodS qq s) :
    GoodNext qq (execHoldoverExpiry s) := by
  unfold execHoldoverExpiry
  try dsimp only
  repeat' first
    | (with_reducible first | assumption | apply good_irq | apply good_modThy | apply good_ite | apply goodNext_ite | refine (goodNext_next _).2 ?_)
    | (intro _; intros; dsimp only) | (intro _; intros) | split | dsimp only

theorem good_execMasterInterval (s : State) (h : GoodS qq s) :
    GoodNext qq (execMasterInterval s) := by
  unfold execMasterInterval
  try dsimp only
  repeat' first
    | (with_reducible first | assumption | apply good_closeInterval | refine (goodNext_next _).2 ?_)
    | (intro _; intros; dsimp only) | (intro _; intros) | split | dsimp only

theorem good_execTimeStepFlagExpiry (s : State) (h : GoodS qq s) :
    GoodNext qq (execTimeStepFlagExpiry s) := by
  unfold execTimeStepFlagExpiry
  try dsimp only
  repeat' first
    | (with_reducible first | assumption | apply good_modThy | apply good_ite | apply goodNext_ite | refine (goodNext_next _).2 ?_)
    | (intro _; intros; dsimp only) | (intro _; intros) | with_reducible refine good_of_fst (by assumption) ?_ | with_reducible refine good_of_snd (by assumption) ?_ | split | dsimp only | (rename_i hq; split at hq) | (rename_i hq; cases hq)

theorem good_latchPtp (s : State) (h : GoodS qq s) :
    GoodS qq (latchPtp s) := by
  unfold latchPtp
  try dsimp only
  repeat' first
    | (with_reducible first | assumption | apply good_modThy)
    | (intro _; intros; dsimp only) | (intro _; intros) | split | dsimp only

/-! Cab -/

theorem good_modCab (s : State) (f : Cab → Cab) (h : GoodS qq s) :
    GoodS qq (State.modCab s f) := by
  unfold State.modCab
  try dsimp only
  repeat' first
    | (with_reducible first | assumption | refine (goodNext_next _).2 ?_)
    | (intro _; intros; dsimp only) | (intro _; intros) | split | dsimp only

theorem good_modPin (s : State) (out : Bool) (f : OutPin → OutPin) (h : GoodS qq s) :
    GoodS qq (State.modPin s out f) := by
  unfold State.modPin
  try dsimp only
  repeat' first
    | (with_reducible first | assumption | apply good_modCab | apply good_ite | apply goodNext_ite | refine (goodNext_next _).2 ?_)
    | (intro _; intros; dsimp only) | (intro _; intros) | split | dsimp only

theorem good_writeOutCmd (s : State) (v : Nat) (h : GoodS qq s) :
    GoodS qq (writeOutCmd s v) := by
  unfold writeOutCmd
  try dsimp only
  repeat' first
    | (with_reducible first | assumption | apply good_each | apply good_setFldAt | apply good_modPin | apply good_ite | apply goodNext_ite | refine good_each _ _ _ ?_ ?_ | refine (goodNext_next _).2 ?_)
    | (intro _; intros; dsimp only) | (intro _; intros) | split | dsimp only

theorem good_writeSafeCut (s : State) (v : Nat) (h : GoodS qq s) :
    GoodS qq (writeSafeCut s v) := by
  unfold writeSafeCut
  try dsimp only
  repeat' first
    | (with_reducible first | assumption | apply good_setFldAt | apply good_modCab | apply good_ite | apply goodNext_ite)
    | (intro _; intros; dsimp only) | (intro _; intros) | split | dsimp only

theorem good_awaitPath (s : State) (a b : Bool) (h : GoodS qq s) :
    GoodS qq (awaitPath s a b) := by
  unfold awaitPath
  try dsimp only
  repeat' first
    | (with_reducible first | assumption | apply good_modCab)
    | (intro _; intros; dsimp only) | (intro _; intros) | split | dsimp only

theorem good_safePair (s : State) (h : GoodS qq s) :
    GoodS qq (safePair s) := by
  unfold safePair
  try dsimp only
  repeat' first
    | (with_reducible first | assumption | apply good_writeOutCmd | apply good_writeSafeCut | apply good_awaitPath | refine (goodNext_next _).2 ?_)
    | (intro _; intros; dsimp only) | (intro _; intros) | split | dsimp only

theorem good_sageSafe (s : State) (h : GoodS qq s) :
    GoodS qq (sageSafe s) := by
  unfold sageSafe
  try dsimp only
  repeat' first
    | (with_reducible first | assumption | apply good_safePair | apply good_ite | apply goodNext_ite)
    | (intro _; intros; dsimp only) | (intro _; intros) | split | dsimp only

theorem good_holdSafe (s : State) (h : GoodS qq s) :
    GoodS qq (holdSafe s) := by
  unfold holdSafe
  try dsimp only
  repeat' first
    | (with_reducible first | assumption)
    | (intro _; intros; dsimp only) | (intro _; intros) | split | dsimp only

theorem good_readbackFault (s : State) (a b : Bool) (h : GoodS qq s) :
    GoodS qq (readbackFault s a b) := by
  unfold readbackFault
  try dsimp only
  repeat' first
    | (with_reducible first | assumption | apply good_modCab | apply good_sageSafe | apply good_holdSafe)
    | (intro _; intros; dsimp only) | (intro _; intros) | rw [Function.comp_apply] | split | dsimp only

theorem good_execCabOutCommand (who : Requester) (val : BitVec 32) (s : State) (h : GoodS qq s) :
    GoodNext qq (execCabOutCommand who val s) := by
  unfold execCabOutCommand
  try dsimp only
  repeat' first
    | (with_reducible first | assumption | apply good_writeGuard | apply good_writeOutCmd | refine (goodNext_next _).2 ?_)
    | (intro _; intros; dsimp only) | (intro _; intros) | split | dsimp only

theorem good_execSafeCutWrite (who : Requester) (val : BitVec 32) (s : State) (h : GoodS qq s) :
    GoodNext qq (execSafeCutWrite who val s) := by
  unfold execSafeCutWrite
  try dsimp only
  repeat' first
    | (with_reducible first | assumption | apply good_writeGuard | apply good_writeSafeCut | refine (goodNext_next _).2 ?_)
    | (intro _; intros; dsimp only) | (intro _; intros) | split | dsimp only

theorem good_selfTest (s : State) (r : SelfTest) (h : GoodS qq s) :
    GoodS qq (selfTest s r) := by
  unfold selfTest
  try dsimp only
  repeat' first
    | (with_reducible first | assumption | apply good_modCab | apply good_readbackFault | apply good_ite | apply goodNext_ite)
    | (intro _; intros; dsimp only) | (intro _; intros) | split | dsimp only

theorem good_afterSelfTest (s : State) (h : GoodS qq s) :
    GoodS qq (afterSelfTest s) := by
  unfold afterSelfTest
  try dsimp only
  repeat' first
    | (with_reducible first | assumption | apply good_ite | apply goodNext_ite)
    | (intro _; intros; dsimp only) | (intro _; intros) | split | dsimp only

theorem good_writeCabTest (s : State) (v : Nat) (r : SelfTest) (h : GoodS qq s) :
    GoodS qq (writeCabTest s v r) := by
  unfold writeCabTest
  try dsimp only
  repeat' first
    | (with_reducible first | assumption | apply good_selfTest | apply good_afterSelfTest | apply good_ite | apply goodNext_ite)
    | (intro _; intros; dsimp only) | (intro _; intros) | split | dsimp only

theorem good_execCabSelftest (who : Requester) (val : BitVec 32) (result : SelfTest) (s : State) (h : GoodS qq s) :
    GoodNext qq (execCabSelftest who val result s) := by
  unfold execCabSelftest
  try dsimp only
  repeat' first
    | (with_reducible first | assumption | apply good_writeGuard | apply good_writeCabTest | refine (goodNext_next _).2 ?_)
    | (intro _; intros; dsimp only) | (intro _; intros) | split | dsimp only

theorem good_execSelftestRepeat (result : SelfTest) (s : State) (h : GoodS qq s) :
    GoodNext qq (execSelftestRepeat result s) := by
  unfold execSelftestRepeat
  try dsimp only
  repeat' first
    | (with_reducible first | assumption | apply good_selfTest | apply good_ite | apply goodNext_ite | refine (goodNext_next _).2 ?_)
    | (intro _; intros; dsimp only) | (intro _; intros) | split | dsimp only

theorem good_evalExtDrive (s : State) (h : GoodS qq s) :
    GoodS qq (evalExtDrive s) := by
  unfold evalExtDrive
  try dsimp only
  repeat' first
    | (with_reducible first | assumption | apply good_release | apply good_modCab | apply good_holdSafe | apply good_ite | apply goodNext_ite)
    | (intro _; intros; dsimp only) | (intro _; intros) | split | dsimp only

theorem good_execReadbackChange (out : Bool) (level : ReadBack) (s : State) (h : GoodS qq s) :
    GoodNext qq (execReadbackChange out level s) := by
  unfold execReadbackChange
  try dsimp only
  repeat' first
    | (with_reducible first | assumption | apply good_modPin | apply good_readbackFault | apply good_evalExtDrive | apply good_ite | apply goodNext_ite | refine good_when _ _ _ ?_ ?_ | refine (goodNext_next _).2 ?_)
    | (intro _; intros; dsimp only) | (intro _; intros) | with_reducible refine good_of_fst (by assumption) ?_ | with_reducible refine good_of_snd (by assumption) ?_ | split | dsimp only | (rename_i hq; split at hq) | (rename_i hq; cases hq)

theorem good_execReadbackConfirmSample (out : Bool) (s : State) (h : GoodS qq s) :
    GoodNext qq (execReadbackConfirmSample out s) := by
  unfold execReadbackConfirmSample
  try dsimp only
  repeat' first
    | (with_reducible first | assumption | apply good_logRule | apply good_modPin | apply good_awaitPath | apply good_ite | apply goodNext_ite | refine (goodNext_next _).2 ?_)
    | (intro _; intros; dsimp only) | (intro _; intros) | with_reducible refine good_of_fst (by assumption) ?_ | with_reducible refine good_of_snd (by assumption) ?_ | split | dsimp only | (rename_i hq; split at hq) | (rename_i hq; cases hq)

theorem good_execReadbackMismatchTimeout (out : Bool) (s : State) (h : GoodS qq s) :
    GoodNext qq (execReadbackMismatchTimeout out s) := by
  unfold execReadbackMismatchTimeout
  try dsimp only
  repeat' first
    | (with_reducible first | assumption | apply good_readbackFault | apply good_ite | apply goodNext_ite | refine (goodNext_next _).2 ?_)
    | (intro _; intros; dsimp only) | (intro _; intros) | with_reducible refine good_of_fst (by assumption) ?_ | with_reducible refine good_of_snd (by assumption) ?_ | split | dsimp only | (rename_i hq; split at hq) | (rename_i hq; cases hq)

theorem good_execTestPulse (out : Bool) (s : State) (h : GoodS qq s) :
    GoodNext qq (execTestPulse out s) := by
  unfold execTestPulse
  try dsimp only
  repeat' first
    | (with_reducible first | assumption | apply good_release | apply good_modPin | apply good_ite | apply goodNext_ite | refine (goodNext_next _).2 ?_)
    | (intro _; intros; dsimp only) | (intro _; intros) | split | dsimp only

theorem good_execTestPulseEnd (out : Bool) (s : State) (h : GoodS qq s) :
    GoodNext qq (execTestPulseEnd out s) := by
  unfold execTestPulseEnd
  try dsimp only
  repeat' first
    | (with_reducible first | assumption | apply good_commit | apply good_modPin | apply good_readbackFault | apply good_ite | apply goodNext_ite | refine (goodNext_next _).2 ?_)
    | (intro _; intros; dsimp only) | (intro _; intros) | with_reducible refine good_of_fst (by assumption) ?_ | with_reducible refine good_of_snd (by assumption) ?_ | split | dsimp only | (rename_i hq; split at hq) | (rename_i hq; cases hq)

theorem good_writeGpo (s : State) (v : Nat) (h : GoodS qq s) :
    GoodS qq (writeGpo s v) := by
  unfold writeGpo
  try dsimp only
  repeat' first
    | (with_reducible first | assumption | apply good_setReg | apply good_modCab | apply good_ite | apply goodNext_ite)
    | (intro _; intros; dsimp only) | (intro _; intros) | split | dsimp only

theorem good_execGpoWrite (who : Requester) (val : BitVec 32) (s : State) (h : GoodS qq s) :
    GoodNext qq (execGpoWrite who val s) := by
  unfold execGpoWrite
  try dsimp only
  repeat' first
    | (with_reducible first | assumption | apply good_writeGuard | apply good_writeGpo | refine (goodNext_next _).2 ?_)
    | (intro _; intros; dsimp only) | (intro _; intros) | split | dsimp only

theorem good_execExtDriveCheck (s : State) (h : GoodS qq s) :
    GoodNext qq (execExtDriveCheck s) := by
  unfold execExtDriveCheck
  try dsimp only
  repeat' first
    | (with_reducible first | assumption | apply good_evalExtDrive | apply good_ite | apply goodNext_ite | refine (goodNext_next _).2 ?_)
    | (intro _; intros; dsimp only) | (intro _; intros) | split | dsimp only

theorem good_execInputChatter (input : Fin 8) (s : State) (h : GoodS qq s) :
    GoodNext qq (execInputChatter input s) := by
  unfold execInputChatter
  try dsimp only
  repeat' first
    | (with_reducible first | assumption | apply good_raise | apply good_logRule | apply good_irq | apply good_ite | apply goodNext_ite | refine (goodNext_next _).2 ?_)
    | (intro _; intros; dsimp only) | (intro _; intros) | split | dsimp only

theorem good_sampleInput (s : State) (i : Nat) (level : Bool) (h : GoodS qq s) :
    GoodS qq (sampleInput s i level) := by
  unfold sampleInput
  try dsimp only
  repeat' first
    | (with_reducible first | assumption | apply good_modCab | apply good_ite | apply goodNext_ite)
    | (intro _; intros; dsimp only) | (intro _; intros) | split | dsimp only

/-! Journal -/

theorem good_modBay (s : State) (f : Bay → Bay) (h : GoodS qq s) :
    GoodS qq (State.modBay s f) := by
  unfold State.modBay
  try dsimp only
  repeat' first
    | (with_reducible first | assumption)
    | (intro _; intros; dsimp only) | (intro _; intros) | split | dsimp only

theorem good_bayIssue (s : State) (w : BayIo) (h : GoodS qq s) :
    GoodS qq (bayIssue s w) := by
  unfold bayIssue
  try dsimp only
  repeat' first
    | (with_reducible first | assumption | apply good_modBay)
    | (intro _; intros; dsimp only) | (intro _; intros) | split | dsimp only

theorem good_writeHeader (s : State) (hint : Nat) (h : GoodS qq s) :
    GoodS qq (writeHeader s hint) := by
  unfold writeHeader
  try dsimp only
  repeat' first
    | (with_reducible first | assumption | apply good_modBay | apply good_bayIssue)
    | (intro _; intros; dsimp only) | (intro _; intros) | split | dsimp only

theorem good_sendBlock (s : State) (h : GoodS qq s) :
    GoodS qq (sendBlock s) := by
  unfold sendBlock
  try dsimp only
  repeat' first
    | (with_reducible first | assumption | apply good_modBay | apply good_bayIssue | apply good_writeHeader | apply good_ite | apply goodNext_ite)
    | (intro _; intros; dsimp only) | (intro _; intros) | split | dsimp only

theorem good_sendBlocks (n : Nat) (s : State) (h : GoodS qq s) :
    GoodS qq (sendBlocks n s) := by
  induction n generalizing s with
  | zero  =>
    unfold sendBlocks
    try dsimp only
    repeat' first
      | (with_reducible first | assumption | apply good_sendBlock | apply good_ite | apply goodNext_ite)
      | (intro _; intros; dsimp only) | (intro _; intros) | with_reducible refine good_of_fst (by assumption) ?_ | with_reducible refine good_of_snd (by assumption) ?_ | split | dsimp only | (rename_i hq; split at hq) | (rename_i hq; cases hq)
  | succ n ih =>
    unfold sendBlocks
    try dsimp only
    repeat' first
      | (with_reducible first | assumption | apply ih | apply good_sendBlock | apply good_ite | apply goodNext_ite)
      | (intro _; intros; dsimp only) | (intro _; intros) | with_reducible refine good_of_fst (by assumption) ?_ | with_reducible refine good_of_snd (by assumption) ?_ | split | dsimp only | (rename_i hq; split at hq) | (rename_i hq; cases hq)

theorem good_writeBlock (s : State) (h : GoodS qq s) :
    GoodS qq (writeBlock s) := by
  unfold writeBlock
  try dsimp only
  repeat' first
    | (with_reducible first | assumption | apply good_sendBlocks)
    | (intro _; intros; dsimp only) | (intro _; intros) | split | dsimp only

theorem good_queueEntry (s : State) (kind flags incident car slots : Nat) (body : List Nat) (h : GoodS qq s) :
    GoodS qq (queueEntry s kind flags incident car slots body) := by
  unfold queueEntry
  try dsimp only
  repeat' first
    | (with_reducible first | assumption | apply good_modBay)
    | (intro _; intros; dsimp only) | (intro _; intros) | split | dsimp only

theorem good_addEntry (s : State) (kind flags incident car slots : Nat) (body : List Nat) (h : GoodS qq s) :
    GoodS qq (addEntry s kind flags incident car slots body) := by
  unfold addEntry
  try dsimp only
  repeat' first
    | (with_reducible first | assumption | apply good_writeBlock | apply good_queueEntry | apply good_ite | apply goodNext_ite)
    | (intro _; intros; dsimp only) | (intro _; intros) | split | dsimp only

theorem good_modIncident (s : State) (id : Nat) (f : Incident → Incident) (h : GoodS qq s) :
    GoodS qq (modIncident s id f) := by
  unfold modIncident
  try dsimp only
  repeat' first
    | (with_reducible first | assumption | apply good_ite | apply goodNext_ite)
    | (intro _; intros; dsimp only) | (intro _; intros) | split | dsimp only

theorem good_modClip (s : State) (id : Nat) (f : Clip → Clip) (h : GoodS qq s) :
    GoodS qq (modClip s id f) := by
  unfold modClip
  try dsimp only
  repeat' first
    | (with_reducible first | assumption | apply good_modBay | apply good_ite | apply goodNext_ite)
    | (intro _; intros; dsimp only) | (intro _; intros) | split | dsimp only

theorem good_openClip (s : State) (i : Incident) (flags : Nat) (h : GoodS qq s) :
    GoodS qq (openClip s i flags) := by
  unfold openClip
  try dsimp only
  repeat' first
    | (with_reducible first | assumption | apply good_modBay | apply good_addEntry | apply good_modIncident | apply good_ite | apply goodNext_ite)
    | (intro _; intros; dsimp only) | (intro _; intros) | split | dsimp only

theorem good_endExtent (s : State) (id : Nat) (put : State → Nat → Nat → Nat → Nat → Nat → List Nat → State) (h : GoodS qq s) (hput : ∀ u m1 m2 m3 m4 m5 m6, GoodS qq u → GoodS qq (put u m1 m2 m3 m4 m5 m6)) :
    GoodS qq (endExtent s id put) := by
  unfold endExtent
  try dsimp only
  repeat' first
    | (with_reducible first | assumption | apply good_modClip | apply good_ite | apply goodNext_ite)
    | with_reducible apply hput
    | (intro _; intros; dsimp only) | (intro _; intros) | with_reducible refine good_of_fst (by assumption) ?_ | with_reducible refine good_of_snd (by assumption) ?_ | split | dsimp only | (rename_i hq; split at hq) | (rename_i hq; cases hq)

theorem good_closeClipBy (put : State → Nat → Nat → Nat → Nat → Nat → List Nat → State) (s : State) (id flags : Nat) (h : GoodS qq s) (hput : ∀ u m1 m2 m3 m4 m5 m6, GoodS qq u → GoodS qq (put u m1 m2 m3 m4 m5 m6)) :
    GoodS qq (closeClipBy put s id flags) := by
  unfold closeClipBy
  try dsimp only
  repeat' first
    | (with_reducible first | assumption | apply good_modBay | apply good_modIncident | apply good_endExtent | refine good_filterMem _ ?_ | refine good_filterRegs _ ?_)
    | with_reducible apply hput
    | (intro _; intros; dsimp only) | (intro _; intros) | with_reducible refine good_of_fst (by assumption) ?_ | with_reducible refine good_of_snd (by assumption) ?_ | split | dsimp only | (rename_i hq; split at hq) | (rename_i hq; cases hq)

theorem good_closeClip (s : State) (id flags : Nat) (h : GoodS qq s) :
    GoodS qq (closeClip s id flags) := by
  unfold closeClip
  try dsimp only
  repeat' first
    | (with_reducible first | assumption | apply good_addEntry | apply good_closeClipBy)
    | (intro _; intros; dsimp only) | (intro _; intros) | split | dsimp only

/-! Life -/

theorem good_modHld (s : State) (f : Hld → Hld) (h : GoodS qq s) :
    GoodS qq (State.modHld s f) := by
  unfold State.modHld
  try dsimp only
  repeat' first
    | (with_reducible first | assumption)
    | (intro _; intros; dsimp only) | (intro _; intros) | split | dsimp only

theorem good_putImage (s : State) (t : List (BitVec 64 × Ledger)) (h : GoodS qq s) :
    GoodS qq (putImage s t) := by
  unfold putImage
  try dsimp only
  repeat' first
    | (with_reducible first | assumption | apply good_putData)
    | (intro _; intros; dsimp only) | (intro _; intros) | split | dsimp only

theorem good_writeLedger (s : State) (h : GoodS qq s) :
    GoodS qq (writeLedger s) := by
  unfold writeLedger
  try dsimp only
  repeat' first
    | (with_reducible first | assumption | apply good_modHld)
    | (intro _; intros; dsimp only) | (intro _; intros) | with_reducible refine good_of_fst (by assumption) ?_ | with_reducible refine good_of_snd (by assumption) ?_ | split | dsimp only | (rename_i hq; split at hq) | (rename_i hq; cases hq)

theorem good_ledgerGo (s : State) (h : GoodS qq s) :
    GoodS qq (ledgerGo s) := by
  unfold ledgerGo
  try dsimp only
  repeat' first
    | (with_reducible first | assumption | apply good_raise | apply good_writeLedger)
    | (intro _; intros; dsimp only) | (intro _; intros) | split | dsimp only

theorem good_setEntry (s : State) (serial : BitVec 64) (l : Ledger) (h : GoodS qq s) :
    GoodS qq (setEntry s serial l) := by
  unfold setEntry
  try dsimp only
  repeat' first
    | (with_reducible first | assumption | apply good_putImage | apply good_ledgerGo)
    | (intro _; intros; dsimp only) | (intro _; intros) | split | dsimp only

theorem good_mountEntry (s : State) (serial : BitVec 64) (l : Ledger) (h : GoodS qq s) :
    GoodS qq (mountEntry s serial l) := by
  unfold mountEntry
  try dsimp only
  repeat' first
    | (with_reducible first | assumption | apply good_putImage | apply good_ledgerGo | refine good_filterMem _ ?_ | refine good_filterRegs _ ?_)
    | (intro _; intros; dsimp only) | (intro _; intros) | split | dsimp only

theorem good_addLedger (s : State) (st : Nat) (h : GoodS qq s) :
    GoodS qq (addLedger s st) := by
  unfold addLedger
  try dsimp only
  repeat' first
    | (with_reducible first | assumption | apply good_modBay | apply good_setEntry | refine good_each _ _ _ ?_ ?_)
    | (intro _; intros; dsimp only) | (intro _; intros) | split | dsimp only

theorem good_keepCounted (s : State) (h : GoodS qq s) :
    GoodS qq (keepCounted s) := by
  unfold keepCounted
  try dsimp only
  repeat' first
    | (with_reducible first | assumption | apply good_modBay | apply good_setEntry | apply good_ite | apply goodNext_ite)
    | (intro _; intros; dsimp only) | (intro _; intros) | split | dsimp only

theorem good_changeLife (s : State) (st cause : Nat) (h : GoodS qq s) :
    GoodS qq (changeLife s st cause) := by
  unfold changeLife
  try dsimp only
  repeat' first
    | (with_reducible first | assumption | apply good_each | apply good_when | apply good_raise | apply good_retire | apply good_modBay | apply good_writeBlock | apply good_addEntry | apply good_closeClip | apply good_addLedger | refine good_each _ _ _ ?_ ?_ | refine good_when _ _ _ ?_ ?_)
    | (intro _; intros; dsimp only) | (intro _; intros) | split | dsimp only

theorem good_followLife (s : State) (h : GoodS qq s) :
    GoodS qq (followLife s) := by
  unfold followLife
  try dsimp only
  repeat' first
    | (with_reducible first | assumption | apply good_modBay | apply good_changeLife | apply good_ite | apply goodNext_ite)
    | (intro _; intros; dsimp only) | (intro _; intros) | split | dsimp only

theorem good_ledgerUpdate (s : State) (h : GoodS qq s) :
    GoodS qq (ledgerUpdate s) := by
  unfold ledgerUpdate
  try dsimp only
  repeat' first
    | (with_reducible first | assumption | apply good_addEntry | apply good_addLedger | apply good_followLife | apply good_ite | apply goodNext_ite)
    | (intro _; intros; dsimp only) | (intro _; intros) | split | dsimp only

/-! Clips -/

theorem good_freeExtents (s : State) (id body : Nat) (p : Extent → Bool) (h : GoodS qq s) :
    GoodS qq (freeExtents s id body p) := by
  unfold freeExtents
  try dsimp only
  repeat' first
    | (with_reducible first | assumption | apply good_count | apply good_modBay | apply good_addEntry | refine good_when _ _ _ ?_ ?_ | refine good_filterMem _ ?_ | refine good_filterRegs _ ?_)
    | (intro _; intros; dsimp only) | (intro _; intros) | split | dsimp only

theorem good_reclaim (s : State) (h : GoodS qq s) :
    GoodS qq (reclaim s) := by
  unfold reclaim
  try dsimp only
  repeat' first
    | (with_reducible first | assumption | apply good_freeExtents | apply good_ite | apply goodNext_ite | refine good_filterMem _ ?_ | refine good_filterRegs _ ?_)
    | (intro _; intros; dsimp only) | (intro _; intros) | with_reducible refine good_of_fst (by assumption) ?_ | with_reducible refine good_of_snd (by assumption) ?_ | split | dsimp only | (rename_i hq; split at hq) | (rename_i hq; cases hq)

theorem good_takeExtent (s : State) (id : Nat) (h : GoodS qq s) :
    GoodS qq (takeExtent s id) := by
  unfold takeExtent
  try dsimp only
  repeat' first
    | (with_reducible first | assumption | apply good_modBay | apply good_modClip | apply good_reclaim | apply good_ite | apply goodNext_ite)
    | (intro _; intros; dsimp only) | (intro _; intros) | with_reducible refine good_of_fst (by assumption) ?_ | with_reducible refine good_of_snd (by assumption) ?_ | split | dsimp only | (rename_i hq; split at hq) | (rename_i hq; cases hq)

theorem good_writeRecord (s : State) (c : Clip) (slot number index : Nat) (r : List Byte) (h : GoodS qq s) :
    GoodS qq (writeRecord s c slot number index r) := by
  unfold writeRecord
  try dsimp only
  repeat' first
    | (with_reducible first | assumption | apply good_bayIssue | apply good_modClip)
    | (intro _; intros; dsimp only) | (intro _; intros) | split | dsimp only

theorem good_clipStep (s : State) (c : Clip) (h : GoodS qq s) :
    ∀ t, clipStep s c = some t → GoodS qq t := by
  intro t ht
  unfold clipStep at ht
  dsimp only at ht
  have e (u : State) (hu : some u = some t) : u = t := Option.some.inj hu
  split at ht
  · split at ht
    · rw [← e _ ht]
      exact good_closeClip _ _ _ h
    · exact absurd ht (by simp)
  · split at ht
    · split at ht
      · split at ht
        · exact absurd ht (by simp)
        · rw [← e _ ht]
          exact good_closeClip _ _ _ h
      · split at ht
        · rw [← e _ ht]
          exact good_takeExtent _ _ h
        · exact absurd ht (by simp)
    · split at ht
      · split at ht
        · exact absurd ht (by simp)
        · rw [← e _ ht]
          exact good_endExtent _ _ _ h (fun _ _ _ _ _ _ _ hu => good_addEntry _ _ _ _ _ _ _ hu)
      · split at ht
        · rw [← e _ ht]
          exact good_writeRecord _ _ _ _ _ _ h
        · exact absurd ht (by simp)

theorem good_pumpClip (fuel : Nat) (s : State) (id : Nat) (h : GoodS qq s) :
    GoodS qq (pumpClip fuel s id) := by
  induction fuel generalizing s id with
  | zero => exact h
  | succ n ih =>
    unfold pumpClip
    split
    · rename_i t ht
      obtain ⟨c, _, hc⟩ := Option.bind_eq_some_iff.1 ht
      exact ih _ _ (good_clipStep _ _ h _ hc)
    · exact h

theorem good_settleRetire (s : State) (h : GoodS qq s) :
    GoodS qq (settleRetire s) := by
  unfold settleRetire
  try dsimp only
  repeat' first
    | (with_reducible first | assumption | apply good_changeLife | apply good_ite | apply goodNext_ite)
    | (intro _; intros; dsimp only) | (intro _; intros) | with_reducible refine good_of_fst (by assumption) ?_ | with_reducible refine good_of_snd (by assumption) ?_ | split | dsimp only | (rename_i hq; split at hq) | (rename_i hq; cases hq)

theorem good_startArchive (s : State) (h : GoodS qq s) :
    GoodS qq (startArchive s) := by
  unfold startArchive
  try dsimp only
  repeat' first
    | (with_reducible first | assumption | apply good_modBay | apply good_addEntry | apply good_ite | apply goodNext_ite)
    | (intro _; intros; dsimp only) | (intro _; intros) | split | dsimp only

theorem good_pumpClips (s : State) (h : GoodS qq s) :
    GoodS qq (pumpClips s) := by
  unfold pumpClips
  try dsimp only
  repeat' first
    | (with_reducible first | assumption | apply good_each | apply good_pumpClip | apply good_settleRetire | apply good_startArchive | apply good_ite | apply goodNext_ite | refine good_each _ _ _ ?_ ?_)
    | (intro _; intros; dsimp only) | (intro _; intros) | split | dsimp only

theorem good_releaseClips (s : State) (h : GoodS qq s) :
    GoodS qq (releaseClips s) := by
  unfold releaseClips
  try dsimp only
  repeat' first
    | (with_reducible first | assumption | apply good_each | apply good_modBay | apply good_modIncident | apply good_ite | apply goodNext_ite | refine good_each _ _ _ ?_ ?_)
    | (intro _; intros; dsimp only) | (intro _; intros) | split | dsimp only

theorem good_noteClipLost (s : State) (k : Nat) (gone : List (Nat × RingUnit)) (h : GoodS qq s) :
    GoodS qq (noteClipLost s k gone) := by
  unfold noteClipLost
  try dsimp only
  repeat' first
    | (with_reducible first | assumption | apply good_each | apply good_count | apply good_modIncident | apply good_ite | apply goodNext_ite | refine good_each _ _ _ ?_ ?_ | refine good_filterMem _ ?_ | refine good_filterRegs _ ?_)
    | (intro _; intros; dsimp only) | (intro _; intros) | split | dsimp only

theorem good_giveUp (s : State) (k n : Nat) (h : GoodS qq s) :
    GoodS qq (giveUp s k n) := by
  unfold giveUp
  try dsimp only
  repeat' first
    | (with_reducible first | assumption | apply good_noteClipLost)
    | (intro _; intros; dsimp only) | (intro _; intros) | split | dsimp only

theorem good_clearRing (s : State) (k : Nat) (h : GoodS qq s) :
    GoodS qq (clearRing s k) := by
  unfold clearRing
  try dsimp only
  repeat' first
    | (with_reducible first | assumption | apply good_giveUp)
    | (intro _; intros; dsimp only) | (intro _; intros) | split | dsimp only

theorem good_keepUnit (s : State) (k : Nat) (u : RingUnit) (h : GoodS qq s) :
    GoodS qq (keepUnit s k u) := by
  unfold keepUnit
  try dsimp only
  repeat' first
    | (with_reducible first | assumption | apply good_giveUp)
    | (intro _; intros; dsimp only) | (intro _; intros) | split | dsimp only

theorem good_markShed (s : State) (k : Nat) (h : GoodS qq s) :
    GoodS qq (markShed s k) := by
  unfold markShed
  try dsimp only
  repeat' first
    | (with_reducible first | assumption)
    | (intro _; intros; dsimp only) | (intro _; intros) | with_reducible refine good_of_fst (by assumption) ?_ | with_reducible refine good_of_snd (by assumption) ?_ | split | dsimp only | (rename_i hq; split at hq) | (rename_i hq; cases hq)

end Sys2Proof.Machine
end

