-- ==== Sys2Proof/Laws/KeepServices.lean ====
section
/-! SUPPORT. What Keep.lean says of the named operations, for the services, the ingress, the tram link and the fabric manager. -/
namespace Sys2Proof.Machine

open Sys2Proof

variable {qq : List Instr}

/-! Svc -/

theorem good_setSlot (s : State) (k : Nat) (x : Slot) (h : GoodS qq s) :
    GoodS qq (State.setSlot s k x) := by
  unfold State.setSlot
  try dsimp only
  repeat' first
    | (with_reducible first | assumption)
    | (intro _; intros; dsimp only) | (intro _; intros) | split | dsimp only

theorem good_modSlot (s : State) (k : Nat) (f : Slot → Slot) (h : GoodS qq s) :
    GoodS qq (State.modSlot s k f) := by
  unfold State.modSlot
  try dsimp only
  repeat' first
    | (with_reducible first | assumption | apply good_setSlot)
    | (intro _; intros; dsimp only) | (intro _; intros) | split | dsimp only

theorem good_loadTask (s : State) (t : TaskId) (h : GoodS qq s) :
    GoodS qq (loadTask s t) := by
  unfold loadTask
  try dsimp only
  repeat' first
    | (with_reducible first | assumption)
    | (intro _; intros; dsimp only) | (intro _; intros) | split | dsimp only

theorem good_modWindows (s : State) (p : Window → Bool) (f : Window → Window) (h : GoodS qq s) :
    GoodS qq (State.modWindows s p f) := by
  unfold State.modWindows
  try dsimp only
  repeat' first
    | (with_reducible first | assumption | apply good_ite | apply goodNext_ite)
    | (intro _; intros; dsimp only) | (intro _; intros) | split | dsimp only

theorem good_stopView (s : State) (h : GoodS qq s) :
    GoodS qq (stopView s) := by
  unfold stopView
  try dsimp only
  repeat' first
    | (with_reducible first | assumption | apply good_raise | apply good_ite | apply goodNext_ite)
    | (intro _; intros; dsimp only) | (intro _; intros) | split | dsimp only

theorem good_queueRecord (s : State) (kind : Nat) (data : List Byte) (h : GoodS qq s) :
    GoodS qq (queueRecord s kind data) := by
  unfold queueRecord
  try dsimp only
  repeat' first
    | (with_reducible first | assumption | apply good_count | apply good_ite | apply goodNext_ite | refine (goodNext_next _).2 ?_)
    | (intro _; intros; dsimp only) | (intro _; intros) | split | dsimp only

theorem good_sendTelegram (s : State) (kind car : Nat) (data : List Byte) (h : GoodS qq s) :
    GoodS qq (sendTelegram s kind car data) := by
  unfold sendTelegram
  try dsimp only
  repeat' first
    | (with_reducible first | assumption)
    | (intro _; intros; dsimp only) | (intro _; intros) | split | dsimp only

theorem good_sendRecords (s : State) (h : GoodS qq s) :
    GoodS qq (sendRecords s) := by
  unfold sendRecords
  try dsimp only
  repeat' first
    | (with_reducible first | assumption | apply good_each | apply good_sendTelegram | apply good_ite | apply goodNext_ite | refine good_each _ _ _ ?_ ?_ | refine good_filterMem _ ?_ | refine good_filterRegs _ ?_)
    | (intro _; intros; dsimp only) | (intro _; intros) | split | dsimp only

theorem good_logReasons (s : State) (h : GoodS qq s) :
    GoodS qq (logReasons s) := by
  unfold logReasons
  try dsimp only
  repeat' first
    | (with_reducible first | assumption | apply good_each | apply good_logRule | apply good_ite | apply goodNext_ite | refine good_each _ _ _ ?_ ?_ | refine good_filterMem _ ?_ | refine good_filterRegs _ ?_)
    | (intro _; intros; dsimp only) | (intro _; intros) | split | dsimp only

theorem good_newIncident (s : State) (h : GoodS qq s) :
    GoodS qq (newIncident s) := by
  unfold newIncident
  try dsimp only
  repeat' first
    | (with_reducible first | assumption | apply good_setReg | apply good_ite | apply goodNext_ite | refine (goodNext_next _).2 ?_)
    | (intro _; intros; dsimp only) | (intro _; intros) | split | dsimp only

theorem good_trigger (s : State) (t car : Nat) (slots : BitVec 12) (request : BitVec 32) (h : GoodS qq s) :
    GoodS qq (trigger s t car slots request).1 := by
  unfold trigger
  try dsimp only
  repeat' first
    | (with_reducible first | assumption | apply good_openClip | apply good_pumpClips | apply good_newIncident | apply good_ite | apply goodNext_ite | refine (goodNext_next _).2 ?_)
    | (intro _; intros; dsimp only) | (intro _; intros) | with_reducible refine good_of_fst (by assumption) ?_ | with_reducible refine good_of_snd (by assumption) ?_ | split | dsimp only | (rename_i hq; split at hq) | (rename_i hq; cases hq)

/-! SageOps -/

theorem good_modSage (s : State) (f : Sage → Sage) (h : GoodS qq s) :
    GoodS qq (State.modSage s f) := by
  unfold State.modSage
  try dsimp only
  repeat' first
    | (with_reducible first | assumption)
    | (intro _; intros; dsimp only) | (intro _; intros) | split | dsimp only

theorem good_setCar (s : State) (c : Nat) (x : CarView) (h : GoodS qq s) :
    GoodS qq (State.setCar s c x) := by
  unfold State.setCar
  try dsimp only
  repeat' first
    | (with_reducible first | assumption | apply good_modSage)
    | (intro _; intros; dsimp only) | (intro _; intros) | split | dsimp only

theorem good_drivePair (s : State) (a : Bool) (h : GoodS qq s) :
    GoodS qq (drivePair s a) := by
  unfold drivePair
  try dsimp only
  repeat' first
    | (with_reducible first | assumption | apply good_writeOutCmd | apply good_writeSafeCut | apply good_ite | apply goodNext_ite | refine (goodNext_next _).2 ?_)
    | (intro _; intros; dsimp only) | (intro _; intros) | split | dsimp only

theorem good_commitPattern (s : State) (h : GoodS qq s) :
    GoodS qq (commitPattern s) := by
  unfold commitPattern
  try dsimp only
  repeat' first
    | (with_reducible first | assumption | apply good_logRule | apply good_awaitPath | apply good_safePair | apply good_modSage | apply good_drivePair | apply good_ite | apply goodNext_ite)
    | (intro _; intros; dsimp only) | (intro _; intros) | split | dsimp only

theorem good_withPattern (s : State) (f : State → State) (h : GoodS qq s) (hf : ∀ u, GoodS qq u → GoodS qq (f u)) :
    GoodS qq (withPattern s f) := by
  unfold withPattern
  try dsimp only
  repeat' first
    | (with_reducible first | assumption | apply good_commit | apply good_commitPattern | apply good_ite | apply goodNext_ite)
    | with_reducible apply hf
    | (intro _; intros; dsimp only) | (intro _; intros) | split | dsimp only

theorem good_sageEval (s : State) (h : GoodS qq s) :
    GoodS qq (sageEval s) := by
  unfold sageEval
  try dsimp only
  repeat' first
    | (with_reducible first | assumption | apply good_sageSafe | apply good_logReasons | apply good_modSage | apply good_commitPattern | apply good_ite | apply goodNext_ite)
    | (intro _; intros; dsimp only) | (intro _; intros) | split | dsimp only

theorem good_followDirection (s : State) (h : GoodS qq s) :
    GoodS qq (followDirection s) := by
  unfold followDirection
  try dsimp only
  repeat' first
    | (with_reducible first | assumption | apply good_modSage | apply good_withPattern | apply good_sageEval | apply good_ite | apply goodNext_ite | refine good_filterMem _ ?_ | refine good_filterRegs _ ?_)
    | (intro _; intros; dsimp only) | (intro _; intros) | split | dsimp only

theorem good_trackShedding (s : State) (h : GoodS qq s) :
    GoodS qq (trackShedding s) := by
  unfold trackShedding
  try dsimp only
  repeat' first
    | (with_reducible first | assumption | apply good_raise | apply good_ite | apply goodNext_ite)
    | (intro _; intros; dsimp only) | (intro _; intros) | with_reducible refine good_of_fst (by assumption) ?_ | with_reducible refine good_of_snd (by assumption) ?_ | split | dsimp only | (rename_i hq; split at hq) | (rename_i hq; cases hq)

theorem good_slotTo (s : State) (k : Nat) (st : SlotSt) (h : GoodS qq s) :
    GoodS qq (slotTo s k st) := by
  unfold slotTo
  try dsimp only
  repeat' first
    | (with_reducible first | assumption | apply good_raise | apply good_modSlot | apply good_modWindows | apply good_stopView | apply good_sageEval | apply good_trackShedding | apply good_ite | apply goodNext_ite)
    | (intro _; intros; dsimp only) | (intro _; intros) | split | dsimp only

/-! Ingress -/

theorem good_dropUnits (s : State) (k : Nat) (h : GoodS qq s) :
    GoodS qq (dropUnits s k) := by
  unfold dropUnits
  try dsimp only
  repeat' first
    | (with_reducible first | assumption | apply good_each | apply good_modSlot | apply good_ite | apply goodNext_ite | refine good_each _ _ _ ?_ ?_)
    | (intro _; intros; dsimp only) | (intro _; intros) | split | dsimp only

theorem good_endSession (s : State) (k : Nat) (h : GoodS qq s) :
    GoodS qq (endSession s k) := by
  unfold endSession
  try dsimp only
  repeat' first
    | (with_reducible first | assumption | apply good_modSlot | apply good_dropUnits)
    | (intro _; intros; dsimp only) | (intro _; intros) | split | dsimp only

theorem good_rejectSlot (s : State) (k code : Nat) (h : GoodS qq s) :
    GoodS qq (rejectSlot s k code) := by
  unfold rejectSlot
  try dsimp only
  repeat' first
    | (with_reducible first | assumption | apply good_modSlot | apply good_slotTo | apply good_endSession)
    | (intro _; intros; dsimp only) | (intro _; intros) | split | dsimp only

theorem good_attempt (s : State) (k : Nat) (h : GoodS qq s) :
    GoodS qq (attempt s k) := by
  unfold attempt
  try dsimp only
  repeat' first
    | (with_reducible first | assumption | apply good_count | apply good_modSlot | apply good_slotTo | apply good_endSession)
    | (intro _; intros; dsimp only) | (intro _; intros) | split | dsimp only

theorem good_failAttempt (s : State) (k : Nat) (h : GoodS qq s) :
    GoodS qq (failAttempt s k) := by
  unfold failAttempt
  try dsimp only
  repeat' first
    | (with_reducible first | assumption | apply good_modSlot | apply good_endSession)
    | (intro _; intros; dsimp only) | (intro _; intros) | split | dsimp only

theorem good_loseSlot (s : State) (k : Nat) (linkDown : Bool) (h : GoodS qq s) :
    GoodS qq (loseSlot s k linkDown) := by
  unfold loseSlot
  try dsimp only
  repeat' first
    | (with_reducible first | assumption | apply good_slotTo | apply good_attempt | apply good_failAttempt | apply good_ite | apply goodNext_ite)
    | (intro _; intros; dsimp only) | (intro _; intros) | split | dsimp only

theorem good_startSlot (s : State) (k : Nat) (h : GoodS qq s) :
    GoodS qq (startSlot s k) := by
  unfold startSlot
  try dsimp only
  repeat' first
    | (with_reducible first | assumption | apply good_clearRing | apply good_modSlot | apply good_rejectSlot | apply good_attempt | apply good_ite | apply goodNext_ite | refine good_filterMem _ ?_ | refine good_filterRegs _ ?_)
    | (intro _; intros; dsimp only) | (intro _; intros) | split | dsimp only

theorem good_stopSlot (s : State) (k : Nat) (h : GoodS qq s) :
    GoodS qq (stopSlot s k) := by
  unfold stopSlot
  try dsimp only
  repeat' first
    | (with_reducible first | assumption | apply good_setSlot | apply good_slotTo | apply good_endSession)
    | (intro _; intros; dsimp only) | (intro _; intros) | split | dsimp only

theorem good_writeSlotCtrl (s : State) (k v : Nat) (h : GoodS qq s) :
    GoodS qq (writeSlotCtrl s k v) := by
  unfold writeSlotCtrl
  try dsimp only
  repeat' first
    | (with_reducible first | assumption | apply good_setReg | apply good_startSlot | apply good_stopSlot | apply good_ite | apply goodNext_ite)
    | (intro _; intros; dsimp only) | (intro _; intros) | split | dsimp only

theorem good_execSlotStart (who : Requester) (slot : Fin 12) (val : BitVec 32) (s : State) (h : GoodS qq s) :
    GoodNext qq (execSlotStart who slot val s) := by
  unfold execSlotStart
  try dsimp only
  repeat' first
    | (with_reducible first | assumption | apply good_writeGuard | apply good_writeSlotCtrl | refine (goodNext_next _).2 ?_)
    | (intro _; intros; dsimp only) | (intro _; intros) | split | dsimp only

theorem good_execSlotStop (who : Requester) (slot : Fin 12) (val : BitVec 32) (s : State) (h : GoodS qq s) :
    GoodNext qq (execSlotStop who slot val s) := by
  unfold execSlotStop
  try dsimp only
  repeat' first
    | (with_reducible first | assumption | apply good_writeGuard | apply good_writeSlotCtrl | refine (goodNext_next _).2 ?_)
    | (intro _; intros; dsimp only) | (intro _; intros) | split | dsimp only

theorem good_rtspOk (s : State) (k : Nat) (a : RtspAnswer) (h : GoodS qq s) :
    GoodS qq (rtspOk s k a) := by
  unfold rtspOk
  try dsimp only
  repeat' first
    | (with_reducible first | assumption | apply good_modSlot | apply good_rejectSlot | apply good_ite | apply goodNext_ite)
    | (intro _; intros; dsimp only) | (intro _; intros) | with_reducible refine good_of_fst (by assumption) ?_ | with_reducible refine good_of_snd (by assumption) ?_ | split | dsimp only | (rename_i hq; split at hq) | (rename_i hq; cases hq)

theorem good_rtspAnswer (s : State) (k : Nat) (a : RtspAnswer) (h : GoodS qq s) :
    GoodS qq (rtspAnswer s k a) := by
  unfold rtspAnswer
  try dsimp only
  repeat' first
    | (with_reducible first | assumption | apply good_modSlot | apply good_rejectSlot | apply good_failAttempt | apply good_loseSlot | apply good_rtspOk | apply good_ite | apply goodNext_ite)
    | (intro _; intros; dsimp only) | (intro _; intros) | split | dsimp only

theorem good_execRtspResponse (slot : Fin 12) (answer : RtspAnswer) (s : State) (h : GoodS qq s) :
    GoodNext qq (execRtspResponse slot answer s) := by
  unfold execRtspResponse
  try dsimp only
  repeat' first
    | (with_reducible first | assumption | apply good_rtspAnswer | refine (goodNext_next _).2 ?_)
    | (intro _; intros; dsimp only) | (intro _; intros) | split | dsimp only

theorem good_execRtspSessionClosed (slot : Fin 12) (s : State) (h : GoodS qq s) :
    GoodNext qq (execRtspSessionClosed slot s) := by
  unfold execRtspSessionClosed
  try dsimp only
  repeat' first
    | (with_reducible first | assumption | apply good_attempt | apply good_failAttempt | apply good_loseSlot | apply good_ite | apply goodNext_ite | refine (goodNext_next _).2 ?_)
    | (intro _; intros; dsimp only) | (intro _; intros) | split | dsimp only

theorem good_execRtspAnswerTimeout (slot : Fin 12) (s : State) (h : GoodS qq s) :
    GoodNext qq (execRtspAnswerTimeout slot s) := by
  unfold execRtspAnswerTimeout
  try dsimp only
  repeat' first
    | (with_reducible first | assumption | apply good_failAttempt | apply good_loseSlot | apply good_ite | apply goodNext_ite | refine (goodNext_next _).2 ?_)
    | (intro _; intros; dsimp only) | (intro _; intros) | split | dsimp only

theorem good_execIrapTimeout (slot : Fin 12) (s : State) (h : GoodS qq s) :
    GoodNext qq (execIrapTimeout slot s) := by
  unfold execIrapTimeout
  try dsimp only
  repeat' first
    | (with_reducible first | assumption | apply good_attempt | apply good_failAttempt | apply good_ite | apply goodNext_ite | refine (goodNext_next _).2 ?_)
    | (intro _; intros; dsimp only) | (intro _; intros) | split | dsimp only

theorem good_execConnectBackoffExpiry (slot : Fin 12) (s : State) (h : GoodS qq s) :
    GoodNext qq (execConnectBackoffExpiry slot s) := by
  unfold execConnectBackoffExpiry
  try dsimp only
  repeat' first
    | (with_reducible first | assumption | apply good_modSlot | apply good_attempt | apply good_ite | apply goodNext_ite | refine (goodNext_next _).2 ?_)
    | (intro _; intros; dsimp only) | (intro _; intros) | split | dsimp only

theorem good_execRtspKeepalive (slot : Fin 12) (s : State) (h : GoodS qq s) :
    GoodNext qq (execRtspKeepalive slot s) := by
  unfold execRtspKeepalive
  try dsimp only
  repeat' first
    | (with_reducible first | assumption | apply good_modSlot | apply good_ite | apply goodNext_ite | refine (goodNext_next _).2 ?_)
    | (intro _; intros; dsimp only) | (intro _; intros) | split | dsimp only

theorem good_execSlotLostTimeout (slot : Fin 12) (s : State) (h : GoodS qq s) :
    GoodNext qq (execSlotLostTimeout slot s) := by
  unfold execSlotLostTimeout
  try dsimp only
  repeat' first
    | (with_reducible first | assumption | apply good_loseSlot | apply good_ite | apply goodNext_ite | refine (goodNext_next _).2 ?_)
    | (intro _; intros; dsimp only) | (intro _; intros) | split | dsimp only

theorem good_execRtcpReceiverReport (slot : Fin 12) (s : State) (h : GoodS qq s) :
    GoodNext qq (execRtcpReceiverReport slot s) := by
  unfold execRtcpReceiverReport
  try dsimp only
  repeat' first
    | (with_reducible first | assumption | apply good_modSlot | apply good_ite | apply goodNext_ite | refine (goodNext_next _).2 ?_)
    | (intro _; intros; dsimp only) | (intro _; intros) | split | dsimp only

theorem good_portLink (s : State) (p : Nat) (up : Bool) (h : GoodS qq s) :
    GoodS qq (portLink s p up) := by
  unfold portLink
  try dsimp only
  repeat' first
    | (with_reducible first | assumption | apply good_each | apply good_raise | apply good_failAttempt | apply good_loseSlot | apply good_ite | apply goodNext_ite | refine good_each _ _ _ ?_ ?_ | refine good_filterMem _ ?_ | refine good_filterRegs _ ?_)
    | (intro _; intros; dsimp only) | (intro _; intros) | split | dsimp only

theorem good_execCamLinkChange (port : Fin 2) (up : Bool) (s : State) (h : GoodS qq s) :
    GoodNext qq (execCamLinkChange port up s) := by
  unfold execCamLinkChange
  try dsimp only
  repeat' first
    | (with_reducible first | assumption | apply good_portLink | apply good_ite | apply goodNext_ite | refine (goodNext_next _).2 ?_)
    | (intro _; intros; dsimp only) | (intro _; intros) | split | dsimp only

theorem good_writePortCtrl (s : State) (p v : Nat) (h : GoodS qq s) :
    GoodS qq (writePortCtrl s p v) := by
  unfold writePortCtrl
  try dsimp only
  repeat' first
    | (with_reducible first | assumption | apply good_setReg | apply good_portLink | apply good_ite | apply goodNext_ite)
    | (intro _; intros; dsimp only) | (intro _; intros) | split | dsimp only

theorem good_execCamPortEnable (who : Requester) (port : Fin 2) (val : BitVec 32) (s : State) (h : GoodS qq s) :
    GoodNext qq (execCamPortEnable who port val s) := by
  unfold execCamPortEnable
  try dsimp only
  repeat' first
    | (with_reducible first | assumption | apply good_writeGuard | apply good_writePortCtrl | refine (goodNext_next _).2 ?_)
    | (intro _; intros; dsimp only) | (intro _; intros) | split | dsimp only

theorem good_skipFrame (s : State) (k : Nat) (rest : Bool) (h : GoodS qq s) :
    GoodS qq (skipFrame s k rest) := by
  unfold skipFrame
  try dsimp only
  repeat' first
    | (with_reducible first | assumption | apply good_count | apply good_modSlot)
    | (intro _; intros; dsimp only) | (intro _; intros) | split | dsimp only

theorem good_skipGop (s : State) (k : Nat) (h : GoodS qq s) :
    GoodS qq (skipGop s k) := by
  unfold skipGop
  try dsimp only
  repeat' first
    | (with_reducible first | assumption | apply good_count | apply good_modSlot | apply good_ite | apply goodNext_ite)
    | (intro _; intros; dsimp only) | (intro _; intros) | split | dsimp only

theorem good_takeUnit (s : State) (k : Nat) (u : AUnit) (h : GoodS qq s) :
    GoodS qq (takeUnit s k u) := by
  unfold takeUnit
  try dsimp only
  repeat' first
    | (with_reducible first | assumption | apply good_modSlot)
    | (intro _; intros; dsimp only) | (intro _; intros) | split | dsimp only

theorem good_gopUnit (s : State) (k : Nat) (u : AUnit) (h : GoodS qq s) :
    GoodS qq (gopUnit s k u) := by
  unfold gopUnit
  try dsimp only
  repeat' first
    | (with_reducible first | assumption | apply good_modSlot | apply good_skipGop | apply good_takeUnit | apply good_ite | apply goodNext_ite | refine good_each _ _ _ ?_ ?_)
    | (intro _; intros; dsimp only) | (intro _; intros) | split | dsimp only

theorem good_frameUnit (s : State) (k : Nat) (u : AUnit) (h : GoodS qq s) :
    GoodS qq (frameUnit s k u) := by
  unfold frameUnit
  try dsimp only
  repeat' first
    | (with_reducible first | assumption | apply good_skipFrame | apply good_takeUnit | apply good_ite | apply goodNext_ite)
    | (intro _; intros; dsimp only) | (intro _; intros) | split | dsimp only

theorem good_poolUnit (s : State) (k : Nat) (u : AUnit) (h : GoodS qq s) :
    GoodS qq (poolUnit s k u) := by
  unfold poolUnit
  try dsimp only
  repeat' first
    | (with_reducible first | assumption | apply good_count | apply good_gopUnit | apply good_frameUnit | apply good_ite | apply goodNext_ite)
    | (intro _; intros; dsimp only) | (intro _; intros) | split | dsimp only

theorem good_classAUnit (s : State) (k : Nat) (u : AUnit) (h : GoodS qq s) :
    GoodS qq (classAUnit s k u) := by
  unfold classAUnit
  try dsimp only
  repeat' first
    | (with_reducible first | assumption | apply good_count | apply good_modSlot | apply good_ite | apply goodNext_ite)
    | (intro _; intros; dsimp only) | (intro _; intros) | split | dsimp only

theorem good_poolUnitKept (s : State) (k : Nat) (u : AUnit) (h : GoodS qq s) :
    GoodS qq (poolUnitKept s k u) := by
  unfold poolUnitKept
  try dsimp only
  repeat' first
    | (with_reducible first | assumption | apply good_markShed | apply good_poolUnit | apply good_ite | apply goodNext_ite)
    | (intro _; intros; dsimp only) | (intro _; intros) | split | dsimp only

theorem good_unitArrived (s : State) (k : Nat) (u : AUnit) (h : GoodS qq s) :
    GoodS qq (unitArrived s k u) := by
  unfold unitArrived
  try dsimp only
  repeat' first
    | (with_reducible first | assumption | apply good_keepUnit | apply good_modSlot | apply good_rejectSlot | apply good_classAUnit | apply good_poolUnitKept | apply good_ite | apply goodNext_ite)
    | (intro _; intros; dsimp only) | (intro _; intros) | with_reducible refine good_of_fst (by assumption) ?_ | with_reducible refine good_of_snd (by assumption) ?_ | split | dsimp only | (rename_i hq; split at hq) | (rename_i hq; cases hq)

theorem good_takeUnits (fuel : Nat) (s : State) (k : Nat) (h : GoodS qq s) :
    GoodS qq (takeUnits fuel s k) := by
  induction fuel generalizing s k with
  | zero  =>
    unfold takeUnits
    try dsimp only
    repeat' first
      | (with_reducible first | assumption | apply good_pumpClips | apply good_setSlot | apply good_logReasons | apply good_unitArrived)
      | (intro _; intros; dsimp only) | (intro _; intros) | with_reducible refine good_of_fst (by assumption) ?_ | with_reducible refine good_of_snd (by assumption) ?_ | split | dsimp only | (rename_i hq; split at hq) | (rename_i hq; cases hq)
  | succ n ih =>
    unfold takeUnits
    try dsimp only
    repeat' first
      | (with_reducible first | assumption | apply ih | apply good_pumpClips | apply good_setSlot | apply good_logReasons | apply good_unitArrived)
      | (intro _; intros; dsimp only) | (intro _; intros) | with_reducible refine good_of_fst (by assumption) ?_ | with_reducible refine good_of_snd (by assumption) ?_ | split | dsimp only | (rename_i hq; split at hq) | (rename_i hq; cases hq)

theorem good_rtpPacket (s : State) (port k : Nat) (p : RtpPacket) (h : GoodS qq s) :
    GoodS qq (rtpPacket s port k p) := by
  unfold rtpPacket
  try dsimp only
  repeat' first
    | (with_reducible first | assumption | apply good_count | apply good_setSlot | apply good_modSlot | apply good_takeUnits | apply good_ite | apply goodNext_ite)
    | (intro _; intros; dsimp only) | (intro _; intros) | split | dsimp only

theorem good_execReorderWaitExpiry (slot : Fin 12) (s : State) (h : GoodS qq s) :
    GoodNext qq (execReorderWaitExpiry slot s) := by
  unfold execReorderWaitExpiry
  try dsimp only
  repeat' first
    | (with_reducible first | assumption | apply good_countBy | apply good_count | apply good_setSlot | apply good_takeUnits | apply good_ite | apply goodNext_ite | refine (goodNext_next _).2 ?_)
    | (intro _; intros; dsimp only) | (intro _; intros) | with_reducible refine good_of_fst (by assumption) ?_ | with_reducible refine good_of_snd (by assumption) ?_ | split | dsimp only | (rename_i hq; split at hq) | (rename_i hq; cases hq)

theorem good_camKind (s : State) (port : Nat) (k : CamKind) (h : GoodS qq s) :
    GoodS qq (camKind s port k) := by
  unfold camKind
  try dsimp only
  repeat' first
    | (with_reducible first | assumption | apply good_count | apply good_modSlot | apply good_failAttempt | apply good_rtpPacket | apply good_ite | apply goodNext_ite | refine good_each _ _ _ ?_ ?_)
    | (intro _; intros; dsimp only) | (intro _; intros) | with_reducible refine good_of_fst (by assumption) ?_ | with_reducible refine good_of_snd (by assumption) ?_ | split | dsimp only | (rename_i hq; split at hq) | (rename_i hq; cases hq)

theorem good_execCamFrameReceived (port : Fin 2) (frame : CamFrame) (s : State) (h : GoodS qq s) :
    GoodNext qq (execCamFrameReceived port frame s) := by
  unfold execCamFrameReceived
  try dsimp only
  repeat' first
    | (with_reducible first | assumption | apply good_count | apply good_camKind | apply good_ite | apply goodNext_ite | refine (goodNext_next _).2 ?_)
    | (intro _; intros; dsimp only) | (intro _; intros) | split | dsimp only

theorem good_setDecEngine (s : State) (n : Nat) (e : DecEngine) (h : GoodS qq s) :
    GoodS qq (State.setDecEngine s n e) := by
  unfold State.setDecEngine
  try dsimp only
  repeat' first
    | (with_reducible first | assumption)
    | (intro _; intros; dsimp only) | (intro _; intros) | split | dsimp only

theorem good_execDecodeStart (engine : Fin 6) (slot : Fin 12) (s : State) (h : GoodS qq s) :
    GoodNext qq (execDecodeStart engine slot s) := by
  unfold execDecodeStart
  try dsimp only
  repeat' first
    | (with_reducible first | assumption | apply good_modSlot | apply good_rejectSlot | apply good_setDecEngine | apply good_ite | apply goodNext_ite | refine (goodNext_next _).2 ?_)
    | (intro _; intros; dsimp only) | (intro _; intros) | with_reducible refine good_of_fst (by assumption) ?_ | with_reducible refine good_of_snd (by assumption) ?_ | split | dsimp only | (rename_i hq; split at hq) | (rename_i hq; cases hq)

theorem good_resyncSlot (s : State) (k : Nat) (h : GoodS qq s) :
    GoodS qq (resyncSlot s k) := by
  unfold resyncSlot
  try dsimp only
  repeat' first
    | (with_reducible first | assumption | apply good_modSlot | refine good_each _ _ _ ?_ ?_ | refine good_when _ _ _ ?_ ?_)
    | (intro _; intros; dsimp only) | (intro _; intros) | split | dsimp only

theorem good_viewPicture (s : State) (k : Nat) (irap : Bool) (h : GoodS qq s) :
    GoodS qq (viewPicture s k irap) := by
  unfold viewPicture
  try dsimp only
  repeat' first
    | (with_reducible first | assumption | apply good_raise | apply good_count | apply good_stopView | apply good_ite | apply goodNext_ite)
    | (intro _; intros; dsimp only) | (intro _; intros) | split | dsimp only

theorem good_cameToRun (s : State) (k : Nat) (h : GoodS qq s) :
    GoodS qq (cameToRun s k) := by
  unfold cameToRun
  try dsimp only
  repeat' first
    | (with_reducible first | assumption | apply good_reportRunning | apply good_ite | apply goodNext_ite)
    | (intro _; intros; dsimp only) | (intro _; intros) | split | dsimp only

theorem good_doorbell (s : State) (n k : Nat) (h : GoodS qq s) :
    GoodS qq (doorbell s n k) := by
  unfold doorbell
  try dsimp only
  repeat' first
    | (with_reducible first | assumption | apply good_sendSignal | apply good_ite | apply goodNext_ite)
    | (intro _; intros; dsimp only) | (intro _; intros) | split | dsimp only

theorem good_execDecodeComplete (engine : Fin 6) (s : State) (h : GoodS qq s) :
    GoodNext qq (execDecodeComplete engine s) := by
  unfold execDecodeComplete
  try dsimp only
  repeat' first
    | (with_reducible first | assumption | apply good_when | apply good_count | apply good_draw | apply good_irq | apply good_modSlot | apply good_slotTo | apply good_setDecEngine | apply good_viewPicture | apply good_cameToRun | apply good_doorbell | apply good_ite | apply goodNext_ite | refine good_when _ _ _ ?_ ?_ | refine (goodNext_next _).2 ?_ | refine good_filterMem _ ?_ | refine good_filterRegs _ ?_)
    | (intro _; intros; dsimp only) | (intro _; intros) | with_reducible refine good_of_fst (by assumption) ?_ | with_reducible refine good_of_snd (by assumption) ?_ | split | dsimp only | (rename_i hq; split at hq) | (rename_i hq; cases hq)

theorem good_execDecoderBitstreamError (engine : Fin 6) (s : State) (h : GoodS qq s) :
    GoodNext qq (execDecoderBitstreamError engine s) := by
  unfold execDecoderBitstreamError
  try dsimp only
  repeat' first
    | (with_reducible first | assumption | apply good_count | apply good_irq | apply good_setDecEngine | apply good_resyncSlot | apply good_ite | apply goodNext_ite | refine (goodNext_next _).2 ?_)
    | (intro _; intros; dsimp only) | (intro _; intros) | with_reducible refine good_of_fst (by assumption) ?_ | with_reducible refine good_of_snd (by assumption) ?_ | split | dsimp only | (rename_i hq; split at hq) | (rename_i hq; cases hq)

theorem good_moveReserve (s : State) (h : GoodS qq s) :
    GoodS qq (moveReserve s) := by
  unfold moveReserve
  try dsimp only
  repeat' first
    | (with_reducible first | assumption | apply good_setReg | apply good_setFldAt | apply good_ite | apply goodNext_ite)
    | (intro _; intros; dsimp only) | (intro _; intros) | split | dsimp only

theorem good_execDecoderWatchdog (engine : Fin 6) (resetFailed : Bool) (s : State) (h : GoodS qq s) :
    GoodNext qq (execDecoderWatchdog engine resetFailed s) := by
  unfold execDecoderWatchdog
  try dsimp only
  repeat' first
    | (with_reducible first | assumption | apply good_count | apply good_setDecEngine | apply good_resyncSlot | apply good_moveReserve | apply good_ite | apply goodNext_ite | refine (goodNext_next _).2 ?_ | refine good_filterMem _ ?_ | refine good_filterRegs _ ?_)
    | (intro _; intros; dsimp only) | (intro _; intros) | with_reducible refine good_of_fst (by assumption) ?_ | with_reducible refine good_of_snd (by assumption) ?_ | split | dsimp only | (rename_i hq; split at hq) | (rename_i hq; cases hq)

theorem good_measure (s : State) (k : Nat) (h : GoodS qq s) :
    GoodS qq (measure s k) := by
  unfold measure
  try dsimp only
  repeat' first
    | (with_reducible first | assumption | apply good_modSlot)
    | (intro _; intros; dsimp only) | (intro _; intros) | split | dsimp only

theorem good_startShedding (s : State) (k : Nat) (h : GoodS qq s) :
    GoodS qq (startShedding s k) := by
  unfold startShedding
  try dsimp only
  repeat' first
    | (with_reducible first | assumption | apply good_modSlot | apply good_slotTo)
    | (intro _; intros; dsimp only) | (intro _; intros) | split | dsimp only

theorem good_takeRate (s : State) (k rate : Nat) (h : GoodS qq s) :
    GoodS qq (takeRate s k rate) := by
  unfold takeRate
  try dsimp only
  repeat' first
    | (with_reducible first | assumption | apply good_setSlot | apply good_modSlot | apply good_slotTo | apply good_startShedding | apply good_ite | apply goodNext_ite)
    | (intro _; intros; dsimp only) | (intro _; intros) | with_reducible refine good_of_fst (by assumption) ?_ | with_reducible refine good_of_snd (by assumption) ?_ | split | dsimp only | (rename_i hq; split at hq) | (rename_i hq; cases hq)

theorem good_stopClassC (s : State) (h : GoodS qq s) :
    GoodS qq (stopClassC s) := by
  unfold stopClassC
  try dsimp only
  repeat' first
    | (with_reducible first | assumption | apply good_each | apply good_modSlot | apply good_skipGop | apply good_startShedding | apply good_ite | apply goodNext_ite | refine good_each _ _ _ ?_ ?_)
    | (intro _; intros; dsimp only) | (intro _; intros) | split | dsimp only

theorem good_narrationAdmission (s : State) (h : GoodS qq s) :
    GoodS qq (narrationAdmission s) := by
  unfold narrationAdmission
  try dsimp only
  repeat' first
    | (with_reducible first | assumption)
    | (intro _; intros; dsimp only) | (intro _; intros) | split | dsimp only

theorem good_execShedEpoch (s : State) (h : GoodS qq s) :
    GoodNext qq (execShedEpoch s) := by
  unfold execShedEpoch
  try dsimp only
  repeat' first
    | (with_reducible first | assumption | apply good_each | apply good_measure | apply good_takeRate | apply good_narrationAdmission | apply good_ite | apply goodNext_ite | refine good_each _ _ _ ?_ ?_ | refine (goodNext_next _).2 ?_)
    | (intro _; intros; dsimp only) | (intro _; intros) | split | dsimp only

theorem good_execSlotRateWindow (slot : Fin 12) (s : State) (h : GoodS qq s) :
    GoodNext qq (execSlotRateWindow slot s) := by
  unfold execSlotRateWindow
  try dsimp only
  repeat' first
    | (with_reducible first | assumption | apply good_modSlot | apply good_modWindows | apply good_ite | apply goodNext_ite | refine (goodNext_next _).2 ?_ | refine good_filterMem _ ?_ | refine good_filterRegs _ ?_)
    | (intro _; intros; dsimp only) | (intro _; intros) | with_reducible refine good_of_fst (by assumption) ?_ | with_reducible refine good_of_snd (by assumption) ?_ | split | dsimp only | (rename_i hq; split at hq) | (rename_i hq; cases hq)

theorem good_sendDegradation (s : State) (kind began : Nat) (h : GoodS qq s) :
    GoodS qq (sendDegradation s kind began) := by
  unfold sendDegradation
  try dsimp only
  repeat' first
    | (with_reducible first | assumption | apply good_each | apply good_modSlot | apply good_queueRecord | apply good_sendRecords | apply good_ite | apply goodNext_ite | refine good_each _ _ _ ?_ ?_)
    | (intro _; intros; dsimp only) | (intro _; intros) | split | dsimp only

theorem good_execDegradationRecord (s : State) (h : GoodS qq s) :
    GoodNext qq (execDegradationRecord s) := by
  unfold execDegradationRecord
  try dsimp only
  repeat' first
    | (with_reducible first | assumption | apply good_raise | apply good_sendDegradation | apply good_ite | apply goodNext_ite | refine (goodNext_next _).2 ?_)
    | (intro _; intros; dsimp only) | (intro _; intros) | with_reducible refine good_of_fst (by assumption) ?_ | with_reducible refine good_of_snd (by assumption) ?_ | split | dsimp only | (rename_i hq; split at hq) | (rename_i hq; cases hq)

/-! Adapt -/

theorem good_modAdapt (s : State) (f : Adapt → Adapt) (h : GoodS qq s) :
    GoodS qq (State.modAdapt s f) := by
  unfold State.modAdapt
  try dsimp only
  repeat' first
    | (with_reducible first | assumption)
    | (intro _; intros; dsimp only) | (intro _; intros) | split | dsimp only

theorem good_takeSamples (s : State) (l : List Crossing) (h : GoodS qq s) :
    GoodS qq (takeSamples s l) := by
  unfold takeSamples
  try dsimp only
  repeat' first
    | (with_reducible first | assumption | apply good_modAdapt | refine good_foldl _ _ ?_ _ ?_ | refine good_foldl_fst _ _ ?_ _ ?_ | refine good_foldl_snd _ _ ?_ _ ?_ | refine good_filterMem _ ?_ | refine good_filterRegs _ ?_)
    | (intro _; intros; dsimp only) | (intro _; intros) | split | dsimp only

theorem good_writeHeads (s : State) (p : Package) (l : List Trained) (h : GoodS qq s) :
    GoodS qq (writeHeads s p l) := by
  unfold writeHeads
  try dsimp only
  repeat' first
    | (with_reducible first | assumption | apply good_each | apply good_putData | apply good_accepted | refine good_each _ _ _ ?_ ?_)
    | (intro _; intros; dsimp only) | (intro _; intros) | split | dsimp only

theorem good_useWeights (s : State) (l : List Trained) (h : GoodS qq s) :
    GoodS qq (useWeights s l) := by
  unfold useWeights
  try dsimp only
  repeat' first
    | (with_reducible first | assumption | apply good_modAdapt | apply good_writeHeads)
    | (intro _; intros; dsimp only) | (intro _; intros) | with_reducible refine good_of_fst (by assumption) ?_ | with_reducible refine good_of_snd (by assumption) ?_ | split | dsimp only | (rename_i hq; split at hq) | (rename_i hq; cases hq)

theorem good_takeWeights (s : State) (h : GoodS qq s) :
    GoodS qq (takeWeights s) := by
  unfold takeWeights
  try dsimp only
  repeat' first
    | (with_reducible first | assumption | apply good_useWeights | apply good_ite | apply goodNext_ite)
    | (intro _; intros; dsimp only) | (intro _; intros) | with_reducible refine good_of_fst (by assumption) ?_ | with_reducible refine good_of_snd (by assumption) ?_ | split | dsimp only | (rename_i hq; split at hq) | (rename_i hq; cases hq)

/-! Tram -/

theorem good_modVeh (s : State) (f : Veh → Veh) (h : GoodS qq s) :
    GoodS qq (State.modVeh s f) := by
  unfold State.modVeh
  try dsimp only
  repeat' first
    | (with_reducible first | assumption)
    | (intro _; intros; dsimp only) | (intro _; intros) | split | dsimp only

theorem good_modTram (s : State) (f : Tram → Tram) (h : GoodS qq s) :
    GoodS qq (State.modTram s f) := by
  unfold State.modTram
  try dsimp only
  repeat' first
    | (with_reducible first | assumption | apply good_release)
    | (intro _; intros; dsimp only) | (intro _; intros) | split | dsimp only

theorem good_openWindow (s : State) (d : DoorId) (car : Nat) (k : Option Nat) (h : GoodS qq s) :
    GoodS qq (openWindow s d car k) := by
  unfold openWindow
  try dsimp only
  repeat' first
    | (with_reducible first | assumption | apply good_setReg | apply good_draw | apply good_release | apply good_modTram | apply good_ite | apply goodNext_ite | refine (goodNext_next _).2 ?_)
    | (intro _; intros; dsimp only) | (intro _; intros) | split | dsimp only

theorem good_openWindows (s : State) (began : DoorId → Bool) (h : GoodS qq s) :
    GoodS qq (openWindows s began) := by
  unfold openWindows
  try dsimp only
  repeat' first
    | (with_reducible first | assumption | apply good_each | apply good_openWindow | apply good_ite | apply goodNext_ite | refine good_each _ _ _ ?_ ?_)
    | (intro _; intros; dsimp only) | (intro _; intros) | with_reducible refine good_of_fst (by assumption) ?_ | with_reducible refine good_of_snd (by assumption) ?_ | split | dsimp only | (rename_i hq; split at hq) | (rename_i hq; cases hq)

theorem good_followDoors (s : State) (h : GoodS qq s) :
    GoodS qq (followDoors s) := by
  unfold followDoors
  try dsimp only
  repeat' first
    | (with_reducible first | assumption | apply good_modWindows | apply good_logReasons | apply good_modTram | apply good_ite | apply goodNext_ite | refine good_filterMem _ ?_ | refine good_filterRegs _ ?_)
    | (intro _; intros; dsimp only) | (intro _; intros) | split | dsimp only

theorem good_closeWindow (s : State) (w : Window) (h : GoodS qq s) :
    GoodS qq (closeWindow s w) := by
  unfold closeWindow
  try dsimp only
  repeat' first
    | (with_reducible first | assumption | apply good_queueRecord | apply good_sendRecords | apply good_takeWeights | apply good_modTram | refine good_each _ _ _ ?_ ?_ | refine good_filterMem _ ?_ | refine good_filterRegs _ ?_)
    | (intro _; intros; dsimp only) | (intro _; intros) | split | dsimp only

theorem good_closeDoor (s : State) (d : DoorId) (p : Window → Bool) (h : GoodS qq s) :
    GoodS qq (closeDoor s d p) := by
  unfold closeDoor
  try dsimp only
  repeat' first
    | (with_reducible first | assumption | apply good_each | apply good_closeWindow | refine good_each _ _ _ ?_ ?_ | refine good_filterMem _ ?_ | refine good_filterRegs _ ?_)
    | (intro _; intros; dsimp only) | (intro _; intros) | split | dsimp only

theorem good_execCountWindowClose (close : WindowEnd) (s : State) (h : GoodS qq s) :
    GoodNext qq (execCountWindowClose close s) := by
  unfold execCountWindowClose
  try dsimp only
  repeat' first
    | (with_reducible first | assumption | apply good_release | apply good_takeSamples | apply good_closeDoor | refine (goodNext_next _).2 ?_)
    | (intro _; intros; dsimp only) | (intro _; intros) | split | dsimp only

theorem good_execCountWindowLong (close : WindowEnd) (s : State) (h : GoodS qq s) :
    GoodNext qq (execCountWindowLong close s) := by
  unfold execCountWindowLong
  try dsimp only
  repeat' first
    | (with_reducible first | assumption | apply good_each | apply good_takeSamples | apply good_openWindow | apply good_closeWindow | apply good_ite | apply goodNext_ite | refine good_each _ _ _ ?_ ?_ | refine (goodNext_next _).2 ?_ | refine good_filterMem _ ?_ | refine good_filterRegs _ ?_)
    | (intro _; intros; dsimp only) | (intro _; intros) | with_reducible refine good_of_fst (by assumption) ?_ | with_reducible refine good_of_snd (by assumption) ?_ | split | dsimp only | (rename_i hq; split at hq) | (rename_i hq; cases hq)

theorem good_execNoVideoTimeout (door : DoorId) (s : State) (h : GoodS qq s) :
    GoodNext qq (execNoVideoTimeout door s) := by
  unfold execNoVideoTimeout
  try dsimp only
  repeat' first
    | (with_reducible first | assumption | apply good_modWindows | refine (goodNext_next _).2 ?_)
    | (intro _; intros; dsimp only) | (intro _; intros) | with_reducible refine good_of_fst (by assumption) ?_ | with_reducible refine good_of_snd (by assumption) ?_ | split | dsimp only | (rename_i hq; split at hq) | (rename_i hq; cases hq)

theorem good_execDoorReleaseDisagree (door : DoorId) (s : State) (h : GoodS qq s) :
    GoodNext qq (execDoorReleaseDisagree door s) := by
  unfold execDoorReleaseDisagree
  try dsimp only
  repeat' first
    | (with_reducible first | assumption | apply good_modWindows | apply good_logReasons | apply good_modTram | apply good_ite | apply goodNext_ite | refine (goodNext_next _).2 ?_)
    | (intro _; intros; dsimp only) | (intro _; intros) | split | dsimp only

theorem good_followCab (s : State) (h : GoodS qq s) :
    GoodS qq (followCab s) := by
  unfold followCab
  try dsimp only
  repeat' first
    | (with_reducible first | assumption | apply good_sageEval | apply good_modVeh | apply good_ite | apply goodNext_ite)
    | (intro _; intros; dsimp only) | (intro _; intros) | split | dsimp only

theorem good_execCabDisagreeTimeout (reverse : Bool) (s : State) (h : GoodS qq s) :
    GoodNext qq (execCabDisagreeTimeout reverse s) := by
  unfold execCabDisagreeTimeout
  try dsimp only
  repeat' first
    | (with_reducible first | assumption | apply good_logRule | apply good_sageEval | apply good_modVeh | apply good_ite | apply goodNext_ite | refine (goodNext_next _).2 ?_)
    | (intro _; intros; dsimp only) | (intro _; intros) | split | dsimp only

theorem good_execVehFrameReceived (frame : VehFrame) (s : State) (h : GoodS qq s) :
    GoodNext qq (execVehFrameReceived frame s) := by
  unfold execVehFrameReceived
  try dsimp only
  repeat' first
    | (with_reducible first | assumption | apply good_count | apply good_ite | apply goodNext_ite | refine (goodNext_next _).2 ?_)
    | (intro _; intros; dsimp only) | (intro _; intros) | with_reducible refine good_of_fst (by assumption) ?_ | with_reducible refine good_of_snd (by assumption) ?_ | split | dsimp only | (rename_i hq; split at hq) | (rename_i hq; cases hq)

theorem good_sendVehicleArea (s : State) (h : GoodS qq s) :
    GoodS qq (sendVehicleArea s) := by
  unfold sendVehicleArea
  try dsimp only
  repeat' first
    | (with_reducible first | assumption | apply good_inject | apply good_takeSeq)
    | (intro _; intros; dsimp only) | (intro _; intros) | split | dsimp only

theorem good_execVehicleStateTelegram (t : Telegram) (s : State) (h : GoodS qq s) :
    GoodNext qq (execVehicleStateTelegram t s) := by
  unfold execVehicleStateTelegram
  try dsimp only
  repeat' first
    | (with_reducible first | assumption | apply good_count | apply good_irq | apply good_modVeh | apply good_openWindows | apply good_followDoors | apply good_followCab | apply good_sendVehicleArea | apply good_ite | apply goodNext_ite | refine (goodNext_next _).2 ?_)
    | (intro _; intros; dsimp only) | (intro _; intros) | split | dsimp only

theorem good_vehLink (s : State) (up : Bool) (h : GoodS qq s) :
    GoodS qq (vehLink s up) := by
  unfold vehLink
  try dsimp only
  repeat' first
    | (with_reducible first | assumption | apply good_each | apply good_logRule | apply good_irq | apply good_sendTelegram | apply good_sendRecords | apply good_modVeh | apply good_modTram | apply good_followDoors | apply good_followCab | apply good_ite | apply goodNext_ite | refine good_each _ _ _ ?_ ?_)
    | (intro _; intros; dsimp only) | (intro _; intros) | split | dsimp only

theorem good_execVehLinkChange (up : Bool) (s : State) (h : GoodS qq s) :
    GoodNext qq (execVehLinkChange up s) := by
  unfold execVehLinkChange
  try dsimp only
  repeat' first
    | (with_reducible first | assumption | apply good_vehLink | apply good_ite | apply goodNext_ite | refine good_each _ _ _ ?_ ?_ | refine (goodNext_next _).2 ?_)
    | (intro _; intros; dsimp only) | (intro _; intros) | split | dsimp only

theorem good_execWarningDatasetCycle (s : State) (h : GoodS qq s) :
    GoodNext qq (execWarningDatasetCycle s) := by
  unfold execWarningDatasetCycle
  try dsimp only
  repeat' first
    | (with_reducible first | assumption | apply good_each | apply good_sendTelegram | apply good_modVeh | apply good_ite | apply goodNext_ite | refine good_each _ _ _ ?_ ?_ | refine (goodNext_next _).2 ?_)
    | (intro _; intros; dsimp only) | (intro _; intros) | with_reducible refine good_of_fst (by assumption) ?_ | with_reducible refine good_of_snd (by assumption) ?_ | split | dsimp only | (rename_i hq; split at hq) | (rename_i hq; cases hq)

theorem good_execMdReply (record : Nat) (s : State) (h : GoodS qq s) :
    GoodNext qq (execMdReply record s) := by
  unfold execMdReply
  try dsimp only
  repeat' first
    | (with_reducible first | assumption | apply good_sendRecords | apply good_modVeh | apply good_ite | apply goodNext_ite | refine (goodNext_next _).2 ?_ | refine good_filterMem _ ?_ | refine good_filterRegs _ ?_)
    | (intro _; intros; dsimp only) | (intro _; intros) | split | dsimp only

theorem good_execMdResendTimer (record : Nat) (s : State) (h : GoodS qq s) :
    GoodNext qq (execMdResendTimer record s) := by
  unfold execMdResendTimer
  try dsimp only
  repeat' first
    | (with_reducible first | assumption | apply good_sendTelegram | apply good_modVeh | apply good_ite | apply goodNext_ite | refine (goodNext_next _).2 ?_)
    | (intro _; intros; dsimp only) | (intro _; intros) | with_reducible refine good_of_fst (by assumption) ?_ | with_reducible refine good_of_snd (by assumption) ?_ | split | dsimp only | (rename_i hq; split at hq) | (rename_i hq; cases hq)

theorem good_pruneIncidents (s : State) (h : GoodS qq s) :
    GoodS qq (pruneIncidents s) := by
  unfold pruneIncidents
  try dsimp only
  repeat' first
    | (with_reducible first | assumption | apply good_trigger | apply good_modTram | refine good_filterMem _ ?_ | refine good_filterRegs _ ?_)
    | (intro _; intros; dsimp only) | (intro _; intros) | split | dsimp only

theorem good_execClipPostTriggerEnd (incident : BitVec 32) (s : State) (h : GoodS qq s) :
    GoodNext qq (execClipPostTriggerEnd incident s) := by
  unfold execClipPostTriggerEnd
  try dsimp only
  repeat' first
    | (with_reducible first | assumption | apply good_modIncident | apply good_pumpClips | apply good_logReasons | apply good_trigger | apply good_pruneIncidents | apply good_ite | apply goodNext_ite | refine (goodNext_next _).2 ?_)
    | (intro _; intros; dsimp only) | (intro _; intros) | with_reducible refine good_of_fst (by assumption) ?_ | with_reducible refine good_of_snd (by assumption) ?_ | split | dsimp only | (rename_i hq; split at hq) | (rename_i hq; cases hq)

theorem good_execNarrationStart (s : State) (h : GoodS qq s) :
    GoodNext qq (execNarrationStart s) := by
  unfold execNarrationStart
  try dsimp only
  repeat' first
    | (with_reducible first | assumption | apply good_modIncident | apply good_modTram | apply good_ite | apply goodNext_ite | refine (goodNext_next _).2 ?_)
    | (intro _; intros; dsimp only) | (intro _; intros) | with_reducible refine good_of_fst (by assumption) ?_ | with_reducible refine good_of_snd (by assumption) ?_ | split | dsimp only | (rename_i hq; split at hq) | (rename_i hq; cases hq)

theorem good_sendSegment (s : State) (id n : Nat) (final truncated : Bool) (h : GoodS qq s) :
    GoodS qq (sendSegment s id n final truncated) := by
  unfold sendSegment
  try dsimp only
  repeat' first
    | (with_reducible first | assumption | apply good_modIncident | apply good_sendTelegram | apply good_ite | apply goodNext_ite)
    | (intro _; intros; dsimp only) | (intro _; intros) | with_reducible refine good_of_fst (by assumption) ?_ | with_reducible refine good_of_snd (by assumption) ?_ | split | dsimp only | (rename_i hq; split at hq) | (rename_i hq; cases hq)

theorem good_sendReady (fuel : Nat) (s : State) (id : Nat) (final truncated : Bool) (h : GoodS qq s) :
    GoodS qq (sendReady fuel s id final truncated) := by
  induction fuel generalizing s id final truncated with
  | zero  =>
    unfold sendReady
    try dsimp only
    repeat' first
      | (with_reducible first | assumption | apply good_sendSegment | apply good_ite | apply goodNext_ite)
      | (intro _; intros; dsimp only) | (intro _; intros) | with_reducible refine good_of_fst (by assumption) ?_ | with_reducible refine good_of_snd (by assumption) ?_ | split | dsimp only | (rename_i hq; split at hq) | (rename_i hq; cases hq)
  | succ n ih =>
    unfold sendReady
    try dsimp only
    repeat' first
      | (with_reducible first | assumption | apply ih | apply good_sendSegment | apply good_ite | apply goodNext_ite)
      | (intro _; intros; dsimp only) | (intro _; intros) | with_reducible refine good_of_fst (by assumption) ?_ | with_reducible refine good_of_snd (by assumption) ?_ | split | dsimp only | (rename_i hq; split at hq) | (rename_i hq; cases hq)

theorem good_endAccount (s : State) (i : Incident) (truncated : Bool) (h : GoodS qq s) :
    GoodS qq (endAccount s i truncated) := by
  unfold endAccount
  try dsimp only
  repeat' first
    | (with_reducible first | assumption | apply good_modIncident | apply good_pruneIncidents | apply good_sendReady)
    | (intro _; intros; dsimp only) | (intro _; intros) | split | dsimp only

theorem good_execNarrationToken (text : List Byte) (last : Bool) (s : State) (h : GoodS qq s) :
    GoodNext qq (execNarrationToken text last s) := by
  unfold execNarrationToken
  try dsimp only
  repeat' first
    | (with_reducible first | assumption | apply good_each | apply good_commitOf | apply good_modIncident | apply good_modTram | apply good_sendReady | apply good_endAccount | apply good_ite | apply goodNext_ite | refine good_each _ _ _ ?_ ?_ | refine (goodNext_next _).2 ?_)
    | (intro _; intros; dsimp only) | (intro _; intros) | with_reducible refine good_of_fst (by assumption) ?_ | with_reducible refine good_of_snd (by assumption) ?_ | split | dsimp only | (rename_i hq; split at hq) | (rename_i hq; cases hq)

theorem good_execNarrationSegmentTimer (s : State) (h : GoodS qq s) :
    GoodNext qq (execNarrationSegmentTimer s) := by
  unfold execNarrationSegmentTimer
  try dsimp only
  repeat' first
    | (with_reducible first | assumption | apply good_sendSegment | apply good_ite | apply goodNext_ite | refine (goodNext_next _).2 ?_)
    | (intro _; intros; dsimp only) | (intro _; intros) | with_reducible refine good_of_fst (by assumption) ?_ | with_reducible refine good_of_snd (by assumption) ?_ | split | dsimp only | (rename_i hq; split at hq) | (rename_i hq; cases hq)

theorem good_execEncPictureDone (bytes : Nat) (irap : Bool) (s : State) (h : GoodS qq s) :
    GoodNext qq (execEncPictureDone bytes irap s) := by
  unfold execEncPictureDone
  try dsimp only
  repeat' first
    | (with_reducible first | assumption | apply good_when | apply good_raise | apply good_count | apply good_ite | apply goodNext_ite | refine good_when _ _ _ ?_ ?_ | refine (goodNext_next _).2 ?_)
    | (intro _; intros; dsimp only) | (intro _; intros) | split | dsimp only

/-! FabMgr -/

theorem good_sendDescs (s : State) (h : GoodS qq s) :
    GoodS qq (sendDescs s) := by
  unfold sendDescs
  try dsimp only
  repeat' first
    | (with_reducible first | assumption | apply good_each | apply good_sendRemap | refine good_each _ _ _ ?_ ?_ | refine good_filterMem _ ?_ | refine good_filterRegs _ ?_)
    | (intro _; intros; dsimp only) | (intro _; intros) | split | dsimp only

theorem good_issuePlan (s : State) (h : GoodS qq s) :
    GoodS qq (issuePlan s) := by
  unfold issuePlan
  try dsimp only
  repeat' first
    | (with_reducible first | assumption | apply good_putData | apply good_tellSet | apply good_sendDescs | apply good_ite | apply goodNext_ite)
    | (intro _; intros; dsimp only) | (intro _; intros) | split | dsimp only

theorem good_askPlan (s : State) (h : GoodS qq s) :
    GoodS qq (askPlan s) := by
  unfold askPlan
  try dsimp only
  repeat' first
    | (with_reducible first | assumption | apply good_sendRemap | apply good_issuePlan | apply good_ite | apply goodNext_ite)
    | (intro _; intros; dsimp only) | (intro _; intros) | split | dsimp only

theorem good_setView (s : State) (k v : Nat) (h : GoodS qq s) :
    GoodS qq (setView s k v) := by
  unfold setView
  try dsimp only
  repeat' first
    | (with_reducible first | assumption | refine good_each _ _ _ ?_ ?_)
    | (intro _; intros; dsimp only) | (intro _; intros) | split | dsimp only

theorem good_sendNotice (s : State) (k v : Nat) (h : GoodS qq s) :
    GoodS qq (sendNotice s k v) := by
  unfold sendNotice
  try dsimp only
  repeat' first
    | (with_reducible first | assumption | apply good_tellSet)
    | (intro _; intros; dsimp only) | (intro _; intros) | split | dsimp only

theorem good_noteLost (s : State) (k : Nat) (h : GoodS qq s) :
    GoodS qq (noteLost s k) := by
  unfold noteLost
  try dsimp only
  repeat' first
    | (with_reducible first | assumption | apply good_each | apply good_raise | apply good_setView | refine good_each _ _ _ ?_ ?_ | refine good_filterMem _ ?_ | refine good_filterRegs _ ?_)
    | (intro _; intros; dsimp only) | (intro _; intros) | split | dsimp only

theorem good_adopt (s : State) (lost j k : Nat) (h : GoodS qq s) :
    GoodS qq (adopt s lost j k) := by
  unfold adopt
  try dsimp only
  repeat' first
    | (with_reducible first | assumption | apply good_modSlot | apply good_loadTask | apply good_writeSlotCtrl | apply good_modTram | apply good_openWindow | apply good_ite | apply goodNext_ite)
    | (intro _; intros; dsimp only) | (intro _; intros) | with_reducible refine good_of_fst (by assumption) ?_ | with_reducible refine good_of_snd (by assumption) ?_ | split | dsimp only | (rename_i hq; split at hq) | (rename_i hq; cases hq)

theorem good_placeAmong (s : State) (lost j : Nat) (l : List (Nat × Nat)) (h : GoodS qq s) :
    GoodS qq (placeAmong s lost j l) := by
  unfold placeAmong
  try dsimp only
  repeat' first
    | (with_reducible first | assumption | apply good_sendRemap | apply good_modTram | apply good_adopt | apply good_ite | apply goodNext_ite)
    | (intro _; intros; dsimp only) | (intro _; intros) | with_reducible refine good_of_fst (by assumption) ?_ | with_reducible refine good_of_snd (by assumption) ?_ | split | dsimp only | (rename_i hq; split at hq) | (rename_i hq; cases hq)

theorem good_placeJob (s : State) (lost j : Nat) (h : GoodS qq s) :
    GoodS qq (placeJob s lost j) := by
  unfold placeJob
  try dsimp only
  repeat' first
    | (with_reducible first | assumption | apply good_placeAmong)
    | (intro _; intros; dsimp only) | (intro _; intros) | split | dsimp only

theorem good_endMoving (s : State) (l : List Nat) (h : GoodS qq s) :
    GoodS qq (endMoving s l) := by
  unfold endMoving
  try dsimp only
  repeat' first
    | (with_reducible first | assumption | apply good_modTram | refine good_filterMem _ ?_ | refine good_filterRegs _ ?_)
    | (intro _; intros; dsimp only) | (intro _; intros) | split | dsimp only

theorem good_applyPlan (s : State) (h : GoodS qq s) :
    GoodS qq (applyPlan s) := by
  unfold applyPlan
  try dsimp only
  repeat' first
    | (with_reducible first | assumption | apply good_each | apply good_askPlan | apply good_placeJob | apply good_endMoving | apply good_ite | apply goodNext_ite | refine good_each _ _ _ ?_ ?_ | refine good_foldl _ _ ?_ _ ?_ | refine good_foldl_fst _ _ ?_ _ ?_ | refine good_foldl_snd _ _ ?_ _ ?_ | refine good_filterMem _ ?_ | refine good_filterRegs _ ?_)
    | (intro _; intros; dsimp only) | (intro _; intros) | split | dsimp only

theorem good_placeAgain (s : State) (k : Nat) (h : GoodS qq s) :
    GoodS qq (placeAgain s k) := by
  unfold placeAgain
  try dsimp only
  repeat' first
    | (with_reducible first | assumption | apply good_each | apply good_modTram | apply good_placeJob | refine good_each _ _ _ ?_ ?_ | refine good_filterMem _ ?_ | refine good_filterRegs _ ?_)
    | (intro _; intros; dsimp only) | (intro _; intros) | split | dsimp only

theorem good_moveJobs (s : State) (k : Nat) (h : GoodS qq s) :
    GoodS qq (moveJobs s k) := by
  unfold moveJobs
  try dsimp only
  repeat' first
    | (with_reducible first | assumption | apply good_modTram | apply good_applyPlan | apply good_placeAgain | apply good_ite | apply goodNext_ite)
    | (intro _; intros; dsimp only) | (intro _; intros) | split | dsimp only

theorem good_declareLost (s : State) (k : Nat) (h : GoodS qq s) :
    GoodS qq (declareLost s k) := by
  unfold declareLost
  try dsimp only
  repeat' first
    | (with_reducible first | assumption | apply good_noteLost | apply good_moveJobs | refine good_each _ _ _ ?_ ?_)
    | (intro _; intros; dsimp only) | (intro _; intros) | split | dsimp only

theorem good_rejoin (s : State) (k : Nat) (h : GoodS qq s) :
    GoodS qq (rejoin s k) := by
  unfold rejoin
  try dsimp only
  repeat' first
    | (with_reducible first | assumption | apply good_each | apply good_raise | apply good_reportRunning | apply good_modTram | apply good_setView | refine good_each _ _ _ ?_ ?_ | refine good_filterMem _ ?_ | refine good_filterRegs _ ?_)
    | (intro _; intros; dsimp only) | (intro _; intros) | split | dsimp only

theorem good_takeHeartbeat (s : State) (f : Nat) (p : Packet) (h : GoodS qq s) :
    GoodS qq (takeHeartbeat s f p) := by
  unfold takeHeartbeat
  try dsimp only
  repeat' first
    | (with_reducible first | assumption | apply good_setPort | apply good_setView | apply good_sendNotice | apply good_rejoin | apply good_ite | apply goodNext_ite)
    | (intro _; intros; dsimp only) | (intro _; intros) | split | dsimp only

theorem good_execHeartbeat (port : Fin 2) (p : Packet) (s : State) (h : GoodS qq s) :
    GoodNext qq (execHeartbeat port p s) := by
  unfold execHeartbeat
  try dsimp only
  repeat' first
    | (with_reducible first | assumption | apply good_atManager | apply good_takeHeartbeat | refine (goodNext_next _).2 ?_)
    | (intro _; intros; dsimp only) | (intro _; intros) | split | dsimp only

theorem good_execHeartbeatMissed (port : Fin 2) (warningSeen : Bool) (s : State) (h : GoodS qq s) :
    GoodNext qq (execHeartbeatMissed port warningSeen s) := by
  unfold execHeartbeatMissed
  try dsimp only
  repeat' first
    | (with_reducible first | assumption | apply good_raise | apply good_setPort | apply good_setView | apply good_sendNotice | apply good_noteLost | apply good_moveJobs | apply good_ite | apply goodNext_ite | refine (goodNext_next _).2 ?_)
    | (intro _; intros; dsimp only) | (intro _; intros) | with_reducible refine good_of_fst (by assumption) ?_ | with_reducible refine good_of_snd (by assumption) ?_ | split | dsimp only | (rename_i hq; split at hq) | (rename_i hq; cases hq)

theorem good_handBack (s : State) (lost j : Nat) (h : GoodS qq s) :
    GoodS qq (handBack s lost j) := by
  unfold handBack
  try dsimp only
  repeat' first
    | (with_reducible first | assumption | apply good_each | apply good_stopSlot | apply good_modTram | apply good_closeWindow | refine good_each _ _ _ ?_ ?_ | refine good_filterMem _ ?_ | refine good_filterRegs _ ?_)
    | (intro _; intros; dsimp only) | (intro _; intros) | with_reducible refine good_of_fst (by assumption) ?_ | with_reducible refine good_of_snd (by assumption) ?_ | split | dsimp only | (rename_i hq; split at hq) | (rename_i hq; cases hq)

theorem good_takeNotice (s : State) (k v : Nat) (h : GoodS qq s) :
    GoodS qq (takeNotice s k v) := by
  unfold takeNotice
  try dsimp only
  repeat' first
    | (with_reducible first | assumption | apply good_raise | apply good_restartWithout | apply good_setView | apply good_declareLost | apply good_rejoin | apply good_ite | apply goodNext_ite)
    | (intro _; intros; dsimp only) | (intro _; intros) | with_reducible refine good_of_fst (by assumption) ?_ | with_reducible refine good_of_snd (by assumption) ?_ | split | dsimp only | (rename_i hq; split at hq) | (rename_i hq; cases hq)

theorem good_refusedJob (s : State) (d lost j : Nat) (h : GoodS qq s) :
    GoodS qq (refusedJob s d lost j) := by
  unfold refusedJob
  try dsimp only
  repeat' first
    | (with_reducible first | assumption | apply good_modTram | apply good_placeAmong | apply good_endMoving)
    | (intro _; intros; dsimp only) | (intro _; intros) | with_reducible refine good_of_fst (by assumption) ?_ | with_reducible refine good_of_snd (by assumption) ?_ | split | dsimp only | (exfalso; first | omega | (simp_all; done)) | (rename_i hq; split at hq) | (rename_i hq; cases hq)

theorem good_startedJob (s : State) (d lost j : Nat) (h : GoodS qq s) :
    GoodS qq (startedJob s d lost j) := by
  unfold startedJob
  try dsimp only
  repeat' first
    | (with_reducible first | assumption | apply good_modTram | apply good_endMoving | apply good_ite | apply goodNext_ite)
    | (intro _; intros; dsimp only) | (intro _; intros) | split | dsimp only

theorem good_takeJob (s : State) (from' lost j k : Nat) (h : GoodS qq s) :
    GoodS qq (takeJob s from' lost j k) := by
  unfold takeJob
  try dsimp only
  repeat' first
    | (with_reducible first | assumption | apply good_sendRemap | apply good_askPlan | apply good_adopt | apply good_ite | apply goodNext_ite)
    | (intro _; intros; dsimp only) | (intro _; intros) | split | dsimp only

theorem good_takeRemap (s : State) (p : Packet) (h : GoodS qq s) :
    GoodS qq (takeRemap s p) := by
  unfold takeRemap
  try dsimp only
  repeat' first
    | (with_reducible first | assumption | apply good_putData | apply good_sendRemap | apply good_sendDescs | apply good_issuePlan | apply good_askPlan | apply good_applyPlan | apply good_handBack | apply good_takeNotice | apply good_refusedJob | apply good_startedJob | apply good_takeJob | apply good_ite | apply goodNext_ite)
    | (intro _; intros; dsimp only) | (intro _; intros) | with_reducible refine good_of_fst (by assumption) ?_ | with_reducible refine good_of_snd (by assumption) ?_ | split | dsimp only | (exfalso; first | omega | (simp_all; done)) | (rename_i hq; split at hq) | (rename_i hq; cases hq)

theorem good_execRemap (port : Fin 2) (p : Packet) (s : State) (h : GoodS qq s) :
    GoodNext qq (execRemap port p s) := by
  unfold execRemap
  try dsimp only
  repeat' first
    | (with_reducible first | assumption | apply good_carry | apply good_atManager | apply good_takeRemap | refine (goodNext_next _).2 ?_)
    | (intro _; intros; dsimp only) | (intro _; intros) | split | dsimp only

theorem good_execInaugComplete (s : State) (h : GoodS qq s) :
    GoodNext qq (execInaugComplete s) := by
  unfold execInaugComplete
  try dsimp only
  repeat' first
    | (with_reducible first | assumption | apply good_each | apply good_raise | apply good_modPort | apply good_learnEnds | apply good_askPlan | apply good_ite | apply goodNext_ite | refine good_each _ _ _ ?_ ?_ | refine (goodNext_next _).2 ?_ | refine good_filterMem _ ?_ | refine good_filterRegs _ ?_)
    | (intro _; intros; dsimp only) | (intro _; intros) | split | dsimp only

end Sys2Proof.Machine
end

