-- ==== Sys2Proof/Laws/KeepSage.lean ====
section
/-! SUPPORT. What Keep.lean says of the named operations, for the power domains, Sage and the policy packages. -/
namespace Sys2Proof.Machine

open Sys2Proof

variable {qq : List Instr}

/-! Warm -/

theorem good_hardwareSafe (s : State) (h : GoodS qq s) :
    GoodS qq (hardwareSafe s) := by
  unfold hardwareSafe
  try dsimp only
  repeat' first
    | (with_reducible first | assumption | apply good_modCab | apply good_sageSafe)
    | (intro _; intros; dsimp only) | (intro _; intros) | split | dsimp only

theorem good_requestWarm (s : State) (bit dom : Nat) (h : GoodS qq s) :
    GoodS qq (requestWarm s bit dom) := by
  unfold requestWarm
  try dsimp only
  repeat' first
    | (with_reducible first | assumption | apply good_setReg | apply good_hardwareSafe | apply good_ite | apply goodNext_ite)
    | (intro _; intros; dsimp only) | (intro _; intros) | with_reducible refine good_of_fst (by assumption) ?_ | with_reducible refine good_of_snd (by assumption) ?_ | split | dsimp only | (rename_i hq; split at hq) | (rename_i hq; cases hq)

/-! Power -/

theorem good_modPwr (s : State) (f : Pwr → Pwr) (h : GoodS qq s) :
    GoodS qq (State.modPwr s f) := by
  unfold State.modPwr
  try dsimp only
  repeat' first
    | (with_reducible first | assumption)
    | (intro _; intros; dsimp only) | (intro _; intros) | split | dsimp only

theorem good_resetUnit (s : State) (d : Nat) (h : GoodS qq s) :
    GoodS qq (resetUnit s d) := by
  unfold resetUnit
  try dsimp only
  repeat' first
    | (with_reducible first | assumption | apply good_resetRegs | apply good_setEngine | apply good_modTar | apply good_setQu | apply good_setCtlCore | apply good_portDown | apply good_releaseClips | apply good_portLink | apply good_vehLink | apply good_ite | apply goodNext_ite | refine good_filterMem _ ?_ | refine good_filterRegs _ ?_)
    | (intro _; intros; dsimp only) | (intro _; intros) | split | dsimp only

theorem good_resetDomain (s : State) (d : Nat) (h : GoodS qq s) :
    GoodS qq (resetDomain s d) := by
  unfold resetDomain
  try dsimp only
  repeat' first
    | (with_reducible first | assumption | apply good_each | apply good_setCcSet | apply good_resetUnit | refine good_each _ _ _ ?_ ?_)
    | (intro _; intros; dsimp only) | (intro _; intros) | split | dsimp only

theorem good_loseArrays (s : State) (d : Nat) (h : GoodS qq s) :
    GoodS qq (loseArrays s d) := by
  unfold loseArrays
  try dsimp only
  repeat' first
    | (with_reducible first | assumption | apply good_modDom | apply good_modTar | apply good_release | apply good_ite | apply goodNext_ite)
    | (intro _; intros; dsimp only) | (intro _; intros) | split | dsimp only

theorem good_keptArrays (s : State) (d : Nat) (h : GoodS qq s) :
    GoodS qq (keptArrays s d) := by
  unfold keptArrays
  try dsimp only
  repeat' first
    | (with_reducible first | assumption | apply good_setCore | apply good_modTar | apply good_ite | apply goodNext_ite)
    | (intro _; intros; dsimp only) | (intro _; intros) | split | dsimp only

theorem good_holdIslands (s : State) (d : Nat) (h : GoodS qq s) :
    GoodS qq (holdIslands s d) := by
  unfold holdIslands
  try dsimp only
  repeat' first
    | (with_reducible first | assumption | apply good_each | apply good_modIsland | apply good_pruneChanges | refine good_each _ _ _ ?_ ?_)
    | (intro _; intros; dsimp only) | (intro _; intros) | split | dsimp only

theorem good_restartIslands (s : State) (d : Nat) (h : GoodS qq s) :
    GoodS qq (restartIslands s d) := by
  unfold restartIslands
  try dsimp only
  repeat' first
    | (with_reducible first | assumption | apply good_each | apply good_modIsland | apply good_followQu | apply good_endAlarmPause | apply good_raiseBelowFloor | apply good_ite | apply goodNext_ite | refine good_each _ _ _ ?_ ?_ | refine good_filterMem _ ?_ | refine good_filterRegs _ ?_)
    | (intro _; intros; dsimp only) | (intro _; intros) | split | dsimp only

theorem good_markQueued (s : State) (h : GoodS qq s) :
    GoodS qq (markQueued s) := by
  unfold markQueued
  try dsimp only
  repeat' first
    | (with_reducible first | assumption | apply good_each | apply good_modDom | apply good_ite | apply goodNext_ite | refine good_each _ _ _ ?_ ?_ | refine good_filterMem _ ?_ | refine good_filterRegs _ ?_)
    | (intro _; intros; dsimp only) | (intro _; intros) | split | dsimp only

theorem good_admitWake (s : State) (d : Nat) (h : GoodS qq s) :
    GoodS qq (admitWake s d) := by
  unfold admitWake
  try dsimp only
  repeat' first
    | (with_reducible first | assumption | apply good_modDom | apply good_markQueued)
    | (intro _; intros; dsimp only) | (intro _; intros) | split | dsimp only

theorem good_admitAll (n : Nat) (s : State) (h : GoodS qq s) :
    GoodS qq (admitAll n s) := by
  induction n generalizing s with
  | zero  =>
    unfold admitAll
    try dsimp only
    repeat' first
      | (with_reducible first | assumption | apply good_admitWake | apply good_ite | apply goodNext_ite)
      | (intro _; intros; dsimp only) | (intro _; intros) | with_reducible refine good_of_fst (by assumption) ?_ | with_reducible refine good_of_snd (by assumption) ?_ | split | dsimp only | (rename_i hq; split at hq) | (rename_i hq; cases hq)
  | succ n ih =>
    unfold admitAll
    try dsimp only
    repeat' first
      | (with_reducible first | assumption | apply ih | apply good_admitWake | apply good_ite | apply goodNext_ite)
      | (intro _; intros; dsimp only) | (intro _; intros) | with_reducible refine good_of_fst (by assumption) ?_ | with_reducible refine good_of_snd (by assumption) ?_ | split | dsimp only | (rename_i hq; split at hq) | (rename_i hq; cases hq)

theorem good_takeCourse (s : State) (d : Nat) (h : GoodS qq s) :
    GoodS qq (takeCourse s d) := by
  unfold takeCourse
  try dsimp only
  repeat' first
    | (with_reducible first | assumption | apply good_raise | apply good_modDom | apply good_modPwr | apply good_ite | apply goodNext_ite | refine good_each _ _ _ ?_ ?_ | refine (goodNext_next _).2 ?_)
    | (intro _; intros; dsimp only) | (intro _; intros) | with_reducible refine good_of_fst (by assumption) ?_ | with_reducible refine good_of_snd (by assumption) ?_ | split | dsimp only | (rename_i hq; split at hq) | (rename_i hq; cases hq)

theorem good_checkGroup (s : State) (h : GoodS qq s) :
    GoodS qq (checkGroup s) := by
  unfold checkGroup
  try dsimp only
  repeat' first
    | (with_reducible first | assumption | apply good_when | apply good_raise | apply good_modPwr | apply good_ite | apply goodNext_ite | refine good_each _ _ _ ?_ ?_ | refine good_when _ _ _ ?_ ?_ | refine good_filterMem _ ?_ | refine good_filterRegs _ ?_)
    | (intro _; intros; dsimp only) | (intro _; intros) | split | dsimp only

theorem good_atRest (s : State) (d t : Nat) (h : GoodS qq s) :
    GoodS qq (atRest s d t) := by
  unfold atRest
  try dsimp only
  repeat' first
    | (with_reducible first | assumption | apply good_each | apply good_when | apply good_raise | apply good_count | apply good_admitAll | apply good_takeCourse | apply good_checkGroup | refine good_each _ _ _ ?_ ?_ | refine good_when _ _ _ ?_ ?_)
    | (intro _; intros; dsimp only) | (intro _; intros) | split | dsimp only

theorem good_reachOn (s : State) (d : Nat) (h : GoodS qq s) :
    GoodS qq (reachOn s d) := by
  unfold reachOn
  try dsimp only
  repeat' first
    | (with_reducible first | assumption | apply good_when | apply good_modDom | apply good_deliverAll | apply good_keptArrays | apply good_atRest | refine good_each _ _ _ ?_ ?_ | refine good_when _ _ _ ?_ ?_)
    | (intro _; intros; dsimp only) | (intro _; intros) | split | dsimp only

theorem good_discardEntries (s : State) (d : Nat) (h : GoodS qq s) :
    GoodS qq (discardEntries s d) := by
  unfold discardEntries
  try dsimp only
  repeat' first
    | (with_reducible first | assumption | apply good_each | apply good_discardCrossing | refine good_each _ _ _ ?_ ?_)
    | (intro _; intros; dsimp only) | (intro _; intros) | split | dsimp only

theorem good_reachOff (s : State) (d : Nat) (h : GoodS qq s) :
    GoodS qq (reachOff s d) := by
  unfold reachOff
  try dsimp only
  repeat' first
    | (with_reducible first | assumption | apply good_modDom | apply good_loseArrays | apply good_atRest | refine good_each _ _ _ ?_ ?_)
    | (intro _; intros; dsimp only) | (intro _; intros) | split | dsimp only

theorem good_reachRetained (s : State) (d : Nat) (h : GoodS qq s) :
    GoodS qq (reachRetained s d) := by
  unfold reachRetained
  try dsimp only
  repeat' first
    | (with_reducible first | assumption | apply good_modDom | apply good_atRest | refine good_each _ _ _ ?_ ?_)
    | (intro _; intros; dsimp only) | (intro _; intros) | split | dsimp only

theorem good_reversal (s : State) (d : Nat) (viaOff : Bool) (h : GoodS qq s) :
    GoodS qq (reversal s d viaOff) := by
  unfold reversal
  try dsimp only
  repeat' first
    | (with_reducible first | assumption | apply good_raise | apply good_count | apply good_modDom)
    | (intro _; intros; dsimp only) | (intro _; intros) | split | dsimp only

theorem good_reverseCourse (s : State) (d : Nat) (h : GoodS qq s) :
    GoodS qq (reverseCourse s d) := by
  unfold reverseCourse
  try dsimp only
  repeat' first
    | (with_reducible first | assumption | apply good_modDom | apply good_reversal | refine good_each _ _ _ ?_ ?_)
    | (intro _; intros; dsimp only) | (intro _; intros) | split | dsimp only

theorem good_openSwitches (s : State) (d : Nat) (h : GoodS qq s) :
    GoodS qq (openSwitches s d) := by
  unfold openSwitches
  try dsimp only
  repeat' first
    | (with_reducible first | assumption | apply good_when | apply good_modDom | apply good_reversal | refine good_when _ _ _ ?_ ?_)
    | (intro _; intros; dsimp only) | (intro _; intros) | split | dsimp only

theorem good_setTarget (s : State) (d t : Nat) (h : GoodS qq s) :
    GoodS qq (setTarget s d t) := by
  unfold setTarget
  try dsimp only
  repeat' first
    | (with_reducible first | assumption | apply good_modDom | apply good_takeCourse | apply good_reversal | apply good_reverseCourse | apply good_ite | apply goodNext_ite)
    | (intro _; intros; dsimp only) | (intro _; intros) | with_reducible refine good_of_fst (by assumption) ?_ | with_reducible refine good_of_snd (by assumption) ?_ | split | dsimp only | (rename_i hq; split at hq) | (rename_i hq; cases hq)

theorem good_beginForced (s : State) (d : Nat) (h : GoodS qq s) :
    GoodS qq (beginForced s d) := by
  unfold beginForced
  try dsimp only
  repeat' first
    | (with_reducible first | assumption | apply good_modDom | apply good_commit | apply good_discardEntries | apply good_ite | apply goodNext_ite)
    | (intro _; intros; dsimp only) | (intro _; intros) | split | dsimp only

theorem good_forceOff (s : State) (d : Nat) (h : GoodS qq s) :
    GoodS qq (forceOff s d) := by
  unfold forceOff
  try dsimp only
  repeat' first
    | (with_reducible first | assumption | apply good_modDom | apply good_resetDomain | apply good_loseArrays | apply good_holdIslands | apply good_discardEntries | apply good_ite | apply goodNext_ite)
    | (intro _; intros; dsimp only) | (intro _; intros) | split | dsimp only

theorem good_refuseWrite (s : State) (d code : Nat) (h : GoodS qq s) :
    GoodS qq (refuseWrite s d code) := by
  unfold refuseWrite
  try dsimp only
  repeat' first
    | (with_reducible first | assumption | apply good_setReg | apply good_raise)
    | (intro _; intros; dsimp only) | (intro _; intros) | split | dsimp only

theorem good_clearFault (s : State) (d : Nat) (h : GoodS qq s) :
    GoodS qq (clearFault s d) := by
  unfold clearFault
  try dsimp only
  repeat' first
    | (with_reducible first | assumption | apply good_modDom | apply good_ite | apply goodNext_ite)
    | (intro _; intros; dsimp only) | (intro _; intros) | split | dsimp only

theorem good_cycleDomain (s : State) (d : Nat) (h : GoodS qq s) :
    GoodS qq (cycleDomain s d) := by
  unfold cycleDomain
  try dsimp only
  repeat' first
    | (with_reducible first | assumption | apply good_modDom | apply good_admitAll | apply good_takeCourse | apply good_beginForced | apply good_refuseWrite | apply good_ite | apply goodNext_ite)
    | (intro _; intros; dsimp only) | (intro _; intros) | split | dsimp only

theorem good_writeDomCtrl (s : State) (d v : Nat) (h : GoodS qq s) :
    GoodS qq (writeDomCtrl s d v) := by
  unfold writeDomCtrl
  try dsimp only
  repeat' first
    | (with_reducible first | assumption | apply good_admitAll | apply good_setTarget | apply good_refuseWrite | apply good_clearFault | apply good_cycleDomain | apply good_ite | apply goodNext_ite)
    | (intro _; intros; dsimp only) | (intro _; intros) | split | dsimp only | (exfalso; first | omega | (simp_all; done))

theorem good_groupTarget (s : State) (sel : List Nat) (t : Nat) (override : Bool) (h : GoodS qq s) :
    GoodS qq (groupTarget s sel t override) := by
  unfold groupTarget
  try dsimp only
  repeat' first
    | (with_reducible first | assumption | apply good_each | apply good_modPwr | apply good_admitAll | apply good_checkGroup | apply good_setTarget | apply good_refuseWrite | refine good_each _ _ _ ?_ ?_)
    | (intro _; intros; dsimp only) | (intro _; intros) | with_reducible refine good_of_fst (by assumption) ?_ | with_reducible refine good_of_snd (by assumption) ?_ | split | dsimp only | (rename_i hq; split at hq) | (rename_i hq; cases hq)

theorem good_execDomainTargetWrite (who : Requester) (domain : Nat) (val : BitVec 32) (s : State) (h : GoodS qq s) :
    GoodNext qq (execDomainTargetWrite who domain val s) := by
  unfold execDomainTargetWrite
  try dsimp only
  repeat' first
    | (with_reducible first | assumption | apply good_writeGuard | apply good_writeDomCtrl | refine (goodNext_next _).2 ?_)
    | (intro _; intros; dsimp only) | (intro _; intros) | split | dsimp only

theorem good_execDomainGroupTarget (who : Requester) (val : BitVec 32) (s : State) (h : GoodS qq s) :
    GoodNext qq (execDomainGroupTarget who val s) := by
  unfold execDomainGroupTarget
  try dsimp only
  repeat' first
    | (with_reducible first | assumption | apply good_writeGuard | apply good_groupTarget | refine (goodNext_next _).2 ?_)
    | (intro _; intros; dsimp only) | (intro _; intros) | split | dsimp only

theorem good_execDomainCycle (who : Requester) (domain : Nat) (val : BitVec 32) (s : State) (h : GoodS qq s) :
    GoodNext qq (execDomainCycle who domain val s) := by
  unfold execDomainCycle
  try dsimp only
  repeat' first
    | (with_reducible first | assumption | apply good_writeGuard | apply good_writeDomCtrl | refine (goodNext_next _).2 ?_)
    | (intro _; intros; dsimp only) | (intro _; intros) | split | dsimp only

theorem good_execDomainClear (who : Requester) (domain : Nat) (val : BitVec 32) (s : State) (h : GoodS qq s) :
    GoodNext qq (execDomainClear who domain val s) := by
  unfold execDomainClear
  try dsimp only
  repeat' first
    | (with_reducible first | assumption | apply good_writeGuard | apply good_writeDomCtrl | refine (goodNext_next _).2 ?_)
    | (intro _; intros; dsimp only) | (intro _; intros) | split | dsimp only

theorem good_leaveDrain (s : State) (d : Nat) (h : GoodS qq s) :
    GoodS qq (leaveDrain s d) := by
  unfold leaveDrain
  try dsimp only
  repeat' first
    | (with_reducible first | assumption | apply good_modDom)
    | (intro _; intros; dsimp only) | (intro _; intros) | split | dsimp only

theorem good_execDrainComplete (domain : Nat) (s : State) (h : GoodS qq s) :
    GoodNext qq (execDrainComplete domain s) := by
  unfold execDrainComplete
  try dsimp only
  repeat' first
    | (with_reducible first | assumption | apply good_each | apply good_leaveDrain | apply good_ite | apply goodNext_ite | refine good_each _ _ _ ?_ ?_ | refine (goodNext_next _).2 ?_)
    | (intro _; intros; dsimp only) | (intro _; intros) | split | dsimp only

theorem good_execDrainFail (domain : Nat) (s : State) (h : GoodS qq s) :
    GoodNext qq (execDrainFail domain s) := by
  unfold execDrainFail
  try dsimp only
  repeat' first
    | (with_reducible first | assumption | apply good_raise | apply good_count | apply good_modDom | apply good_reversal | apply good_ite | apply goodNext_ite | refine (goodNext_next _).2 ?_)
    | (intro _; intros; dsimp only) | (intro _; intros) | split | dsimp only

theorem good_stepOr (s : State) (d : Nat) (next : State → State) (h : GoodS qq s) (hnext : ∀ u, GoodS qq u → GoodS qq (next u)) :
    GoodS qq (stepOr s d next) := by
  unfold stepOr
  try dsimp only
  repeat' first
    | (with_reducible first | assumption | apply good_reverseCourse | apply good_ite | apply goodNext_ite)
    | with_reducible apply hnext
    | (intro _; intros; dsimp only) | (intro _; intros) | split | dsimp only

theorem good_endStep (s : State) (d : Nat) (h : GoodS qq s) :
    GoodS qq (endStep s d) := by
  unfold endStep
  try dsimp only
  repeat' first
    | (with_reducible first | assumption | apply good_when | apply good_modDom | apply good_resetDomain | apply good_holdIslands | apply good_restartIslands | apply good_reachOn | apply good_reachRetained | apply good_openSwitches | apply good_stepOr | apply good_ite | apply goodNext_ite | refine good_each _ _ _ ?_ ?_ | refine good_when _ _ _ ?_ ?_)
    | (intro _; intros; dsimp only) | (intro _; intros) | with_reducible refine good_of_fst (by assumption) ?_ | with_reducible refine good_of_snd (by assumption) ?_ | split | dsimp only | (rename_i hq; split at hq) | (rename_i hq; cases hq)

theorem good_execSequencerStepDone (domain : Nat) (s : State) (h : GoodS qq s) :
    GoodNext qq (execSequencerStepDone domain s) := by
  unfold execSequencerStepDone
  try dsimp only
  repeat' first
    | (with_reducible first | assumption | apply good_endStep | apply good_ite | apply goodNext_ite | refine (goodNext_next _).2 ?_)
    | (intro _; intros; dsimp only) | (intro _; intros) | split | dsimp only

theorem good_execWakeAdmit (domain : Nat) (s : State) (h : GoodS qq s) :
    GoodNext qq (execWakeAdmit domain s) := by
  unfold execWakeAdmit
  try dsimp only
  repeat' first
    | (with_reducible first | assumption | apply good_admitWake | apply good_ite | apply goodNext_ite | refine (goodNext_next _).2 ?_)
    | (intro _; intros; dsimp only) | (intro _; intros) | split | dsimp only

theorem good_execSupplyGood (domain : Nat) (s : State) (h : GoodS qq s) :
    GoodNext qq (execSupplyGood domain s) := by
  unfold execSupplyGood
  try dsimp only
  repeat' first
    | (with_reducible first | assumption | apply good_raise | apply good_modDom | apply good_ite | apply goodNext_ite | refine (goodNext_next _).2 ?_)
    | (intro _; intros; dsimp only) | (intro _; intros) | split | dsimp only

theorem good_targetOn (s : State) (d : Nat) (h : GoodS qq s) :
    GoodS qq (targetOn s d) := by
  unfold targetOn
  try dsimp only
  repeat' first
    | (with_reducible first | assumption | apply good_writeDomCtrl | apply good_groupTarget | apply good_ite | apply goodNext_ite)
    | (intro _; intros; dsimp only) | (intro _; intros) | split | dsimp only

theorem good_tryAgain (s : State) (d : Nat) (h : GoodS qq s) :
    GoodS qq (tryAgain s d) := by
  unfold tryAgain
  try dsimp only
  repeat' first
    | (with_reducible first | assumption | apply good_logRule | apply good_modPwr | apply good_writeDomCtrl | apply good_targetOn | apply good_ite | apply goodNext_ite)
    | (intro _; intros; dsimp only) | (intro _; intros) | split | dsimp only

theorem good_execDischargeDone (domain : Nat) (s : State) (h : GoodS qq s) :
    GoodNext qq (execDischargeDone domain s) := by
  unfold execDischargeDone
  try dsimp only
  repeat' first
    | (with_reducible first | assumption | apply good_reachOff | apply good_tryAgain | apply good_ite | apply goodNext_ite | refine good_each _ _ _ ?_ ?_ | refine (goodNext_next _).2 ?_)
    | (intro _; intros; dsimp only) | (intro _; intros) | split | dsimp only

theorem good_faultDomain (s : State) (d code bit : Nat) (h : GoodS qq s) :
    GoodS qq (faultDomain s d code bit) := by
  unfold faultDomain
  try dsimp only
  repeat' first
    | (with_reducible first | assumption | apply good_each | apply good_when | apply good_raise | apply good_count | apply good_modDom | apply good_modSage | apply good_sageEval | apply good_requestWarm | apply good_beginForced | apply good_ite | apply goodNext_ite | refine good_each _ _ _ ?_ ?_ | refine good_when _ _ _ ?_ ?_ | refine good_filterMem _ ?_ | refine good_filterRegs _ ?_)
    | (intro _; intros; dsimp only) | (intro _; intros) | split | dsimp only

theorem good_execSwOpen (domain : Nat) (s : State) (h : GoodS qq s) :
    GoodNext qq (execSwOpen domain s) := by
  unfold execSwOpen
  try dsimp only
  repeat' first
    | (with_reducible first | assumption | apply good_openSwitches | apply good_faultDomain | apply good_ite | apply goodNext_ite | refine (goodNext_next _).2 ?_)
    | (intro _; intros; dsimp only) | (intro _; intros) | split | dsimp only

theorem good_execStuckOn (domain : Nat) (s : State) (h : GoodS qq s) :
    GoodNext qq (execStuckOn domain s) := by
  unfold execStuckOn
  try dsimp only
  repeat' first
    | (with_reducible first | assumption | apply good_reachOff | apply good_tryAgain | apply good_faultDomain | apply good_ite | apply goodNext_ite | refine good_each _ _ _ ?_ ?_ | refine (goodNext_next _).2 ?_)
    | (intro _; intros; dsimp only) | (intro _; intros) | split | dsimp only

theorem good_execDroop (domain : Nat) (s : State) (h : GoodS qq s) :
    GoodNext qq (execDroop domain s) := by
  unfold execDroop
  try dsimp only
  repeat' first
    | (with_reducible first | assumption | apply good_beginForced | apply good_faultDomain | apply good_ite | apply goodNext_ite | refine (goodNext_next _).2 ?_)
    | (intro _; intros; dsimp only) | (intro _; intros) | split | dsimp only

theorem good_execRetDroop (domain : Nat) (s : State) (h : GoodS qq s) :
    GoodNext qq (execRetDroop domain s) := by
  unfold execRetDroop
  try dsimp only
  repeat' first
    | (with_reducible first | assumption | apply good_modDom | apply good_reachOff | apply good_tryAgain | apply good_faultDomain | apply good_ite | apply goodNext_ite | refine good_each _ _ _ ?_ ?_ | refine (goodNext_next _).2 ?_)
    | (intro _; intros; dsimp only) | (intro _; intros) | split | dsimp only

theorem good_execIso (domain : Nat) (s : State) (h : GoodS qq s) :
    GoodNext qq (execIso domain s) := by
  unfold execIso
  try dsimp only
  repeat' first
    | (with_reducible first | assumption | apply good_beginForced | apply good_tryAgain | apply good_faultDomain | apply good_ite | apply goodNext_ite | refine (goodNext_next _).2 ?_)
    | (intro _; intros; dsimp only) | (intro _; intros) | split | dsimp only

theorem good_execStepLate (domain : Nat) (s : State) (h : GoodS qq s) :
    GoodNext qq (execStepLate domain s) := by
  unfold execStepLate
  try dsimp only
  repeat' first
    | (with_reducible first | assumption | apply good_modDom | apply good_resetDomain | apply good_holdIslands | apply good_openSwitches | apply good_faultDomain | apply good_ite | apply goodNext_ite | refine (goodNext_next _).2 ?_)
    | (intro _; intros; dsimp only) | (intro _; intros) | split | dsimp only

/-! Triggers -/

theorem good_targetCluster (s : State) (c t : Nat) (h : GoodS qq s) :
    GoodS qq (targetCluster s c t) := by
  unfold targetCluster
  try dsimp only
  repeat' first
    | (with_reducible first | assumption | apply good_each | apply good_admitAll | apply good_setTarget | apply good_groupTarget | apply good_ite | apply goodNext_ite | refine good_each _ _ _ ?_ ?_)
    | (intro _; intros; dsimp only) | (intro _; intros) | split | dsimp only

theorem good_wakeNarration (s : State) (h : GoodS qq s) :
    GoodS qq (wakeNarration s) := by
  unfold wakeNarration
  try dsimp only
  repeat' first
    | (with_reducible first | assumption | apply good_modTram | apply good_targetCluster | refine good_foldl _ _ ?_ _ ?_ | refine good_foldl_fst _ _ ?_ _ ?_ | refine good_foldl_snd _ _ ?_ _ ?_ | refine good_filterMem _ ?_ | refine good_filterRegs _ ?_)
    | (intro _; intros; dsimp only) | (intro _; intros) | split | dsimp only

theorem good_execCabInputDebounced (input : Fin 8) (level : Bool) (s : State) (h : GoodS qq s) :
    GoodNext qq (execCabInputDebounced input level s) := by
  unfold execCabInputDebounced
  try dsimp only
  repeat' first
    | (with_reducible first | assumption | apply good_irq | apply good_modCab | apply good_sampleInput | apply good_stopView | apply good_trigger | apply good_withPattern | apply good_followDirection | apply good_openWindows | apply good_followDoors | apply good_followCab | apply good_wakeNarration | apply good_ite | apply goodNext_ite | refine (goodNext_next _).2 ?_)
    | (intro _; intros; dsimp only) | (intro _; intros) | split | dsimp only

theorem good_execOperatorRequest (head : RequestHead) (carSlot : Byte) (slots : BitVec 16) (requestId : BitVec 32) (s : State) (h : GoodS qq s) :
    GoodNext qq (execOperatorRequest head carSlot slots requestId s) := by
  unfold execOperatorRequest
  try dsimp only
  repeat' first
    | (with_reducible first | assumption | apply good_count | apply good_sendTelegram | apply good_trigger | apply good_wakeNarration | apply good_ite | apply goodNext_ite | refine (goodNext_next _).2 ?_)
    | (intro _; intros; dsimp only) | (intro _; intros) | split | dsimp only

theorem good_execClusterRetain (cluster : Fin 8) (s : State) (h : GoodS qq s) :
    GoodNext qq (execClusterRetain cluster s) := by
  unfold execClusterRetain
  try dsimp only
  repeat' first
    | (with_reducible first | assumption | apply good_targetCluster | apply good_ite | apply goodNext_ite | refine (goodNext_next _).2 ?_)
    | (intro _; intros; dsimp only) | (intro _; intros) | split | dsimp only

/-! BootRec -/

theorem good_setFlashByte (s : State) (a : Nat) (b : Byte) (h : GoodS qq s) :
    GoodS qq (State.setFlashByte s a b) := by
  unfold State.setFlashByte
  try dsimp only
  repeat' first
    | (with_reducible first | assumption)
    | (intro _; intros; dsimp only) | (intro _; intros) | split | dsimp only

theorem good_setFlash (s : State) (a : Nat) (l : List Byte) (h : GoodS qq s) :
    GoodS qq (State.setFlash s a l) := by
  induction l generalizing s a with
  | nil  =>
    unfold State.setFlash
    try dsimp only
    repeat' first
      | (with_reducible first | assumption | apply good_setFlashByte)
      | (intro _; intros; dsimp only) | (intro _; intros) | with_reducible refine good_of_fst (by assumption) ?_ | with_reducible refine good_of_snd (by assumption) ?_ | split | dsimp only | (rename_i hq; split at hq) | (rename_i hq; cases hq)
  | cons hd tl ih =>
    unfold State.setFlash
    try dsimp only
    repeat' first
      | (with_reducible first | assumption | apply ih | apply good_setFlashByte)
      | (intro _; intros; dsimp only) | (intro _; intros) | with_reducible refine good_of_fst (by assumption) ?_ | with_reducible refine good_of_snd (by assumption) ?_ | split | dsimp only | (rename_i hq; split at hq) | (rename_i hq; cases hq)

theorem good_eraseFlash (s : State) (lo hi : Nat) (h : GoodS qq s) :
    GoodS qq (State.eraseFlash s lo hi) := by
  unfold State.eraseFlash
  try dsimp only
  repeat' first
    | (with_reducible first | assumption | refine good_filterMem _ ?_ | refine good_filterRegs _ ?_)
    | (intro _; intros; dsimp only) | (intro _; intros) | split | dsimp only

theorem good_modSys (s : State) (f : Sys → Sys) (h : GoodS qq s) :
    GoodS qq (State.modSys s f) := by
  unfold State.modSys
  try dsimp only
  repeat' first
    | (with_reducible first | assumption)
    | (intro _; intros; dsimp only) | (intro _; intros) | split | dsimp only

theorem good_fillFlash (s : State) (lo n : Nat) (f : Nat → Byte) (h : GoodS qq s) :
    GoodS qq (State.fillFlash s lo n f) := by
  unfold State.fillFlash
  try dsimp only
  repeat' first
    | (with_reducible first | assumption | apply good_modSys | apply good_ite | apply goodNext_ite | refine good_filterMem _ ?_ | refine good_filterRegs _ ?_)
    | (intro _; intros; dsimp only) | (intro _; intros) | split | dsimp only

theorem good_appendRecord (s : State) (r : BootRec) (h : GoodS qq s) :
    GoodS qq (appendRecord s r) := by
  unfold appendRecord
  try dsimp only
  repeat' first
    | (with_reducible first | assumption | apply good_setFlash | apply good_eraseFlash)
    | (intro _; intros; dsimp only) | (intro _; intros) | with_reducible refine good_of_fst (by assumption) ?_ | with_reducible refine good_of_snd (by assumption) ?_ | split | dsimp only | (rename_i hq; split at hq) | (rename_i hq; cases hq)

/-! Sage -/

theorem good_writeStatus (s : State) (h : GoodS qq s) :
    GoodS qq (writeStatus s) := by
  unfold writeStatus
  try dsimp only
  repeat' first
    | (with_reducible first | assumption | apply good_putData | apply good_modSage | apply good_sageEval | apply good_ite | apply goodNext_ite)
    | (intro _; intros; dsimp only) | (intro _; intros) | with_reducible refine good_of_fst (by assumption) ?_ | with_reducible refine good_of_snd (by assumption) ?_ | split | dsimp only | (rename_i hq; split at hq) | (rename_i hq; cases hq)

theorem good_execSageStatusBlock (s : State) (h : GoodS qq s) :
    GoodNext qq (execSageStatusBlock s) := by
  unfold execSageStatusBlock
  try dsimp only
  repeat' first
    | (with_reducible first | assumption | apply good_writeStatus | apply good_ite | apply goodNext_ite | refine (goodNext_next _).2 ?_)
    | (intro _; intros; dsimp only) | (intro _; intros) | split | dsimp only

theorem good_execSageStatusStale (s : State) (h : GoodS qq s) :
    GoodNext qq (execSageStatusStale s) := by
  unfold execSageStatusStale
  try dsimp only
  repeat' first
    | (with_reducible first | assumption | apply good_modSage | apply good_sageEval | apply good_ite | apply goodNext_ite | refine (goodNext_next _).2 ?_)
    | (intro _; intros; dsimp only) | (intro _; intros) | split | dsimp only

theorem good_measurePath (s : State) (start : Nat) (h : GoodS qq s) :
    GoodS qq (measurePath s start) := by
  unfold measurePath
  try dsimp only
  repeat' first
    | (with_reducible first | assumption | apply good_setReg | apply good_raise | apply good_count | apply good_modSage | apply good_ite | apply goodNext_ite)
    | (intro _; intros; dsimp only) | (intro _; intros) | split | dsimp only

theorem good_releaseFault (s : State) (h : GoodS qq s) :
    GoodS qq (releaseFault s) := by
  unfold releaseFault
  try dsimp only
  repeat' first
    | (with_reducible first | assumption | apply good_modSage | apply good_ite | apply goodNext_ite)
    | (intro _; intros; dsimp only) | (intro _; intros) | split | dsimp only

theorem good_endStarting (s : State) (k : Nat) (h : GoodS qq s) :
    GoodS qq (endStarting s k) := by
  unfold endStarting
  try dsimp only
  repeat' first
    | (with_reducible first | assumption | apply good_setFldAt | apply good_ite | apply goodNext_ite)
    | (intro _; intros; dsimp only) | (intro _; intros) | split | dsimp only

theorem good_detectedFrame (s : State) (car k n start : Nat) (b survivor : Bool) (assoc : List Assoc) (h : GoodS qq s) :
    GoodS qq (detectedFrame s car k n start b survivor assoc) := by
  unfold detectedFrame
  try dsimp only
  repeat' first
    | (with_reducible first | assumption | apply good_raise | apply good_countBy | apply good_accepted | apply good_trigger | apply good_modSage | apply good_setCar | apply good_withPattern | apply good_sageEval | apply good_wakeNarration | apply good_measurePath | apply good_releaseFault | apply good_endStarting | apply good_ite | apply goodNext_ite)
    | (intro _; intros; dsimp only) | (intro _; intros) | split | dsimp only

theorem good_takeList (s : State) (b : Bool) (assoc : List Assoc) (h : GoodS qq s) :
    GoodS qq (takeList s b assoc) := by
  unfold takeList
  try dsimp only
  repeat' first
    | (with_reducible first | assumption | apply good_raise | apply good_count | apply good_setCar | apply good_writeStatus | apply good_detectedFrame | apply good_ite | apply goodNext_ite)
    | (intro _; intros; dsimp only) | (intro _; intros) | split | dsimp only

theorem good_execSageListTake (bufB : Bool) (assoc : List Assoc) (s : State) (h : GoodS qq s) :
    GoodNext qq (execSageListTake bufB assoc s) := by
  unfold execSageListTake
  try dsimp only
  repeat' first
    | (with_reducible first | assumption | apply good_ccPut | apply good_sendSignal | apply good_commitWarning | apply good_takeList | apply good_ite | apply goodNext_ite | refine (goodNext_next _).2 ?_)
    | (intro _; intros; dsimp only) | (intro _; intros) | split | dsimp only

theorem good_execEgoSpeedStale (s : State) (h : GoodS qq s) :
    GoodNext qq (execEgoSpeedStale s) := by
  unfold execEgoSpeedStale
  try dsimp only
  repeat' first
    | (with_reducible first | assumption | apply good_modSage | apply good_sageEval | apply good_ite | apply goodNext_ite | refine (goodNext_next _).2 ?_)
    | (intro _; intros; dsimp only) | (intro _; intros) | split | dsimp only

theorem good_execPatternPhaseTimer (s : State) (h : GoodS qq s) :
    GoodNext qq (execPatternPhaseTimer s) := by
  unfold execPatternPhaseTimer
  try dsimp only
  repeat' first
    | (with_reducible first | assumption | apply good_awaitPath | apply good_modSage | apply good_drivePair | apply good_ite | apply goodNext_ite | refine (goodNext_next _).2 ?_)
    | (intro _; intros; dsimp only) | (intro _; intros) | with_reducible refine good_of_fst (by assumption) ?_ | with_reducible refine good_of_snd (by assumption) ?_ | split | dsimp only | (rename_i hq; split at hq) | (rename_i hq; cases hq)

theorem good_execDetectionTimeout (s : State) (h : GoodS qq s) :
    GoodNext qq (execDetectionTimeout s) := by
  unfold execDetectionTimeout
  try dsimp only
  repeat' first
    | (with_reducible first | assumption | apply good_modSage | apply good_sageEval | apply good_ite | apply goodNext_ite | refine (goodNext_next _).2 ?_)
    | (intro _; intros; dsimp only) | (intro _; intros) | split | dsimp only

theorem good_execLateClear (s : State) (h : GoodS qq s) :
    GoodNext qq (execLateClear s) := by
  unfold execLateClear
  try dsimp only
  repeat' first
    | (with_reducible first | assumption | apply good_modSage | apply good_sageEval | apply good_ite | apply goodNext_ite | refine good_each _ _ _ ?_ ?_ | refine good_when _ _ _ ?_ ?_ | refine (goodNext_next _).2 ?_)
    | (intro _; intros; dsimp only) | (intro _; intros) | split | dsimp only

theorem good_execSageVehicleArea (s : State) (h : GoodS qq s) :
    GoodNext qq (execSageVehicleArea s) := by
  unfold execSageVehicleArea
  try dsimp only
  repeat' first
    | (with_reducible first | assumption | apply good_ccPut | apply good_accepted | apply good_modSage | apply good_sageEval | apply good_followDirection | apply good_ite | apply goodNext_ite | refine (goodNext_next _).2 ?_)
    | (intro _; intros; dsimp only) | (intro _; intros) | split | dsimp only

theorem good_startSage (s : State) (h : GoodS qq s) :
    GoodS qq (startSage s) := by
  unfold startSage
  try dsimp only
  repeat' first
    | (with_reducible first | assumption | apply good_setReg | apply good_ccPut | apply good_modSage)
    | (intro _; intros; dsimp only) | (intro _; intros) | split | dsimp only

theorem good_resetSage (s : State) (h : GoodS qq s) :
    GoodS qq (resetSage s) := by
  unfold resetSage
  try dsimp only
  repeat' first
    | (with_reducible first | assumption | apply good_resetRegs | apply good_setReg | apply good_setCcSet | apply good_modSage)
    | (intro _; intros; dsimp only) | (intro _; intros) | with_reducible refine good_of_fst (by assumption) ?_ | with_reducible refine good_of_snd (by assumption) ?_ | split | dsimp only | (rename_i hq; split at hq) | (rename_i hq; cases hq)

theorem good_sageEvent (s : State) (wdog : Bool) (h : GoodS qq s) :
    GoodS qq (sageEvent s wdog) := by
  unfold sageEvent
  try dsimp only
  repeat' first
    | (with_reducible first | assumption | apply good_raise | apply good_count | apply good_sageSafe | apply good_modSage | apply good_sageEval | apply good_startSage | apply good_resetSage | apply good_ite | apply goodNext_ite | refine good_filterMem _ ?_ | refine good_filterRegs _ ?_)
    | (intro _; intros; dsimp only) | (intro _; intros) | with_reducible refine good_of_fst (by assumption) ?_ | with_reducible refine good_of_snd (by assumption) ?_ | split | dsimp only | (rename_i hq; split at hq) | (rename_i hq; cases hq)

theorem good_execLockstepMismatch (s : State) (h : GoodS qq s) :
    GoodNext qq (execLockstepMismatch s) := by
  unfold execLockstepMismatch
  try dsimp only
  repeat' first
    | (with_reducible first | assumption | apply good_sageEvent | apply good_ite | apply goodNext_ite | refine (goodNext_next _).2 ?_)
    | (intro _; intros; dsimp only) | (intro _; intros) | with_reducible refine good_of_fst (by assumption) ?_ | with_reducible refine good_of_snd (by assumption) ?_ | split | dsimp only | (rename_i hq; split at hq) | (rename_i hq; cases hq)

theorem good_execSageWdogExpiry (s : State) (h : GoodS qq s) :
    GoodNext qq (execSageWdogExpiry s) := by
  unfold execSageWdogExpiry
  try dsimp only
  repeat' first
    | (with_reducible first | assumption | apply good_sageEvent | apply good_ite | apply goodNext_ite | refine (goodNext_next _).2 ?_)
    | (intro _; intros; dsimp only) | (intro _; intros) | split | dsimp only

theorem good_writeSageWdog (s : State) (v : Nat) (h : GoodS qq s) :
    GoodS qq (writeSageWdog s v) := by
  unfold writeSageWdog
  try dsimp only
  repeat' first
    | (with_reducible first | assumption | apply good_modSage | apply good_sageEvent | apply good_ite | apply goodNext_ite)
    | (intro _; intros; dsimp only) | (intro _; intros) | split | dsimp only

theorem good_execSgeWdogKick (who : Requester) (val : BitVec 32) (s : State) (h : GoodS qq s) :
    GoodNext qq (execSgeWdogKick who val s) := by
  unfold execSgeWdogKick
  try dsimp only
  repeat' first
    | (with_reducible first | assumption | apply good_writeGuard | apply good_writeSageWdog | refine (goodNext_next _).2 ?_)
    | (intro _; intros; dsimp only) | (intro _; intros) | split | dsimp only

theorem good_writeSageHb (s : State) (v : Nat) (h : GoodS qq s) :
    GoodS qq (writeSageHb s v) := by
  unfold writeSageHb
  try dsimp only
  repeat' first
    | (with_reducible first | assumption | apply good_modSage | apply good_ite | apply goodNext_ite)
    | (intro _; intros; dsimp only) | (intro _; intros) | split | dsimp only

theorem good_execSgeHbBeat (who : Requester) (val : BitVec 32) (s : State) (h : GoodS qq s) :
    GoodNext qq (execSgeHbBeat who val s) := by
  unfold execSgeHbBeat
  try dsimp only
  repeat' first
    | (with_reducible first | assumption | apply good_writeGuard | apply good_writeSageHb | refine (goodNext_next _).2 ?_)
    | (intro _; intros; dsimp only) | (intro _; intros) | split | dsimp only

theorem good_execHbMiss (s : State) (h : GoodS qq s) :
    GoodNext qq (execHbMiss s) := by
  unfold execHbMiss
  try dsimp only
  repeat' first
    | (with_reducible first | assumption | apply good_raise | apply good_modSage | apply good_ite | apply goodNext_ite | refine (goodNext_next _).2 ?_)
    | (intro _; intros; dsimp only) | (intro _; intros) | split | dsimp only

theorem good_execSageHbResetRequest (s : State) (h : GoodS qq s) :
    GoodNext qq (execSageHbResetRequest s) := by
  unfold execSageHbResetRequest
  try dsimp only
  repeat' first
    | (with_reducible first | assumption | apply good_requestWarm | apply good_ite | apply goodNext_ite | refine (goodNext_next _).2 ?_)
    | (intro _; intros; dsimp only) | (intro _; intros) | split | dsimp only

theorem good_writeSageCcAdd (s : State) (v : BitVec 32) (h : GoodS qq s) :
    GoodS qq (writeSageCcAdd s v) := by
  unfold writeSageCcAdd
  try dsimp only
  repeat' first
    | (with_reducible first | assumption | apply good_ccPut)
    | (intro _; intros; dsimp only) | (intro _; intros) | split | dsimp only

theorem good_execSgeCcAdd (who : Requester) (val : BitVec 32) (s : State) (h : GoodS qq s) :
    GoodNext qq (execSgeCcAdd who val s) := by
  unfold execSgeCcAdd
  try dsimp only
  repeat' first
    | (with_reducible first | assumption | apply good_writeGuard | apply good_writeSageCcAdd | refine (goodNext_next _).2 ?_)
    | (intro _; intros; dsimp only) | (intro _; intros) | split | dsimp only

/-! Policy -/

theorem good_faultTask (s : State) (t : TaskId) (h : GoodS qq s) :
    GoodS qq (faultTask s t) := by
  unfold faultTask
  try dsimp only
  repeat' first
    | (with_reducible first | assumption | apply good_modTram | refine good_filterMem _ ?_ | refine good_filterRegs _ ?_)
    | (intro _; intros; dsimp only) | (intro _; intros) | split | dsimp only

theorem good_restartThread (s : State) (c t : Nat) (h : GoodS qq s) :
    GoodS qq (restartThread s c t) := by
  unfold restartThread
  try dsimp only
  repeat' first
    | (with_reducible first | assumption | apply good_setThread | apply good_startThread | apply good_stopThread | apply good_ite | apply goodNext_ite)
    | (intro _; intros; dsimp only) | (intro _; intros) | split | dsimp only

theorem good_taskFault (s : State) (task : TaskId) (cause pc tval : Nat) (h : GoodS qq s) :
    GoodS qq (taskFault s task cause pc tval) := by
  unfold taskFault
  try dsimp only
  repeat' first
    | (with_reducible first | assumption | apply good_each | apply good_when | apply good_logRule | apply good_stopThread | apply good_accepted | apply good_modWindows | apply good_sageEval | apply good_endAccount | apply good_faultTask | apply good_restartThread | apply good_ite | apply goodNext_ite | refine good_each _ _ _ ?_ ?_ | refine good_when _ _ _ ?_ ?_)
    | (intro _; intros; dsimp only) | (intro _; intros) | with_reducible refine good_of_fst (by assumption) ?_ | with_reducible refine good_of_snd (by assumption) ?_ | split | dsimp only | (rename_i hq; split at hq) | (rename_i hq; cases hq)

theorem good_execTaskFault (task : TaskId) (cause : Byte) (pc tval : BitVec 64) (s : State) (h : GoodS qq s) :
    GoodNext qq (execTaskFault task cause pc tval s) := by
  unfold execTaskFault
  try dsimp only
  repeat' first
    | (with_reducible first | assumption | apply good_taskFault | apply good_ite | apply goodNext_ite | refine (goodNext_next _).2 ?_)
    | (intro _; intros; dsimp only) | (intro _; intros) | split | dsimp only

theorem good_abandonFrame (s : State) (h : GoodS qq s) :
    GoodS qq (abandonFrame s) := by
  unfold abandonFrame
  try dsimp only
  repeat' first
    | (with_reducible first | assumption | apply good_logRule | apply good_commitWarning | apply good_modTram | apply good_ite | apply goodNext_ite)
    | (intro _; intros; dsimp only) | (intro _; intros) | split | dsimp only

theorem good_waitTimedOut (s : State) (c pc : Nat) (h : GoodS qq s) :
    GoodS qq (waitTimedOut s c pc) := by
  unfold waitTimedOut
  try dsimp only
  repeat' first
    | (with_reducible first | assumption | apply good_taskFault | apply good_abandonFrame | refine (goodNext_next _).2 ?_)
    | (intro _; intros; dsimp only) | (intro _; intros) | with_reducible refine good_of_fst (by assumption) ?_ | with_reducible refine good_of_snd (by assumption) ?_ | split | dsimp only | (rename_i hq; split at hq) | (rename_i hq; cases hq)

theorem good_execCcwaitTimeout (core : Fin 24) (thread : Fin 4) (s : State) (h : GoodS qq s) :
    GoodNext qq (execCcwaitTimeout core thread s) := by
  unfold execCcwaitTimeout
  try dsimp only
  repeat' first
    | (with_reducible first | assumption | apply good_commit | apply good_settle | apply good_waitTimedOut | apply good_ite | apply goodNext_ite | refine (goodNext_next _).2 ?_)
    | (intro _; intros; dsimp only) | (intro _; intros) | with_reducible refine good_of_fst (by assumption) ?_ | with_reducible refine good_of_snd (by assumption) ?_ | split | dsimp only | (rename_i hq; split at hq) | (rename_i hq; cases hq)

theorem good_execCcUnresponsive (cc : Fin 4) (s : State) (h : GoodS qq s) :
    GoodNext qq (execCcUnresponsive cc s) := by
  unfold execCcUnresponsive
  try dsimp only
  repeat' first
    | (with_reducible first | assumption | apply good_logRule | apply good_modDom | apply good_resetDomain | apply good_ite | apply goodNext_ite | refine (goodNext_next _).2 ?_)
    | (intro _; intros; dsimp only) | (intro _; intros) | split | dsimp only

theorem good_logNight (s : State) (cause steps validation heldOut : Nat) (accepted : Bool) (h : GoodS qq s) :
    GoodS qq (logNight s cause steps validation heldOut accepted) := by
  unfold logNight
  try dsimp only
  repeat' first
    | (with_reducible first | assumption | apply good_logRule | apply good_accepted | refine (goodNext_next _).2 ?_)
    | (intro _; intros; dsimp only) | (intro _; intros) | split | dsimp only

theorem good_stopAdaptation (s : State) (h : GoodS qq s) :
    GoodS qq (stopAdaptation s) := by
  unfold stopAdaptation
  try dsimp only
  repeat' first
    | (with_reducible first | assumption | apply good_modAdapt | apply good_logNight | apply good_ite | apply goodNext_ite)
    | (intro _; intros; dsimp only) | (intro _; intros) | split | dsimp only

theorem good_execAdaptationStart (s : State) (h : GoodS qq s) :
    GoodNext qq (execAdaptationStart s) := by
  unfold execAdaptationStart
  try dsimp only
  repeat' first
    | (with_reducible first | assumption | apply good_modAdapt | apply good_ite | apply goodNext_ite | refine (goodNext_next _).2 ?_)
    | (intro _; intros; dsimp only) | (intro _; intros) | split | dsimp only

theorem good_execAdaptationStop (s : State) (h : GoodS qq s) :
    GoodNext qq (execAdaptationStop s) := by
  unfold execAdaptationStop
  try dsimp only
  repeat' first
    | (with_reducible first | assumption | apply good_stopAdaptation | apply good_ite | apply goodNext_ite | refine (goodNext_next _).2 ?_)
    | (intro _; intros; dsimp only) | (intro _; intros) | split | dsimp only

theorem good_execAdaptationEnd (gradients : List Gradient) (validation heldOut : ErrorPair) (s : State) (h : GoodS qq s) :
    GoodNext qq (execAdaptationEnd gradients validation heldOut s) := by
  unfold execAdaptationEnd
  try dsimp only
  repeat' first
    | (with_reducible first | assumption | apply good_modAdapt | apply good_takeWeights | apply good_logNight | apply good_ite | apply goodNext_ite | refine (goodNext_next _).2 ?_)
    | (intro _; intros; dsimp only) | (intro _; intros) | with_reducible refine good_of_fst (by assumption) ?_ | with_reducible refine good_of_snd (by assumption) ?_ | split | dsimp only | (rename_i hq; split at hq) | (rename_i hq; cases hq)

theorem good_execDeltaReset (authenticated : Bool) (s : State) (h : GoodS qq s) :
    GoodNext qq (execDeltaReset authenticated s) := by
  unfold execDeltaReset
  try dsimp only
  repeat' first
    | (with_reducible first | assumption | apply good_useWeights | apply good_ite | apply goodNext_ite | refine (goodNext_next _).2 ?_)
    | (intro _; intros; dsimp only) | (intro _; intros) | with_reducible refine good_of_fst (by assumption) ?_ | with_reducible refine good_of_snd (by assumption) ?_ | split | dsimp only | (rename_i hq; split at hq) | (rename_i hq; cases hq)

theorem good_execWeightHashCheck (hashOk : Bool) (s : State) (h : GoodS qq s) :
    GoodNext qq (execWeightHashCheck hashOk s) := by
  unfold execWeightHashCheck
  try dsimp only
  repeat' first
    | (with_reducible first | assumption | apply good_logRule | apply good_sageEval | apply good_modAdapt | apply good_ite | apply goodNext_ite | refine (goodNext_next _).2 ?_)
    | (intro _; intros; dsimp only) | (intro _; intros) | split | dsimp only

theorem good_setFreqs (s : State) (l : List (Nat × Nat)) (h : GoodS qq s) :
    GoodS qq (setFreqs s l) := by
  unfold setFreqs
  try dsimp only
  repeat' first
    | (with_reducible first | assumption | apply good_each | apply good_setFldAt | apply good_requestChange | refine good_each _ _ _ ?_ ?_)
    | (intro _; intros; dsimp only) | (intro _; intros) | split | dsimp only

theorem good_targetEach (s : State) (l : List Nat) (t : Nat) (h : GoodS qq s) :
    GoodS qq (targetEach s l t) := by
  unfold targetEach
  try dsimp only
  repeat' first
    | (with_reducible first | assumption | apply good_each | apply good_admitAll | apply good_setTarget | apply good_ite | apply goodNext_ite | refine good_each _ _ _ ?_ ?_)
    | (intro _; intros; dsimp only) | (intro _; intros) | split | dsimp only

theorem good_forceC (s : State) (b : Bool) (h : GoodS qq s) :
    GoodS qq (forceC s b) := by
  unfold forceC
  try dsimp only
  repeat' first
    | (with_reducible first | assumption | apply good_setFldAt | apply good_modTram | apply good_ite | apply goodNext_ite)
    | (intro _; intros; dsimp only) | (intro _; intros) | split | dsimp only

theorem good_stageAction (s : State) (n : Nat) (enter : Bool) (h : GoodS qq s) :
    GoodS qq (stageAction s n enter) := by
  unfold stageAction
  try dsimp only
  repeat' first
    | (with_reducible first | assumption | apply good_enter | apply good_stopView | apply good_modTram | apply good_stopAdaptation | apply good_setFreqs | apply good_targetEach | apply good_forceC | apply good_ite | apply goodNext_ite | refine good_each _ _ _ ?_ ?_)
    | (intro _; intros; dsimp only) | (intro _; intros) | split | dsimp only

theorem good_execThermalStageEnter (temps : List Int) (s : State) (h : GoodS qq s) :
    GoodNext qq (execThermalStageEnter temps s) := by
  unfold execThermalStageEnter
  try dsimp only
  repeat' first
    | (with_reducible first | assumption | apply good_each | apply good_sampleTemps | apply good_checkWarn | apply good_enter | apply good_sageEval | apply good_modTram | apply good_stageAction | refine good_each _ _ _ ?_ ?_ | refine (goodNext_next _).2 ?_ | refine good_filterMem _ ?_ | refine good_filterRegs _ ?_)
    | (intro _; intros; dsimp only) | (intro _; intros) | split | dsimp only

theorem good_execThermalStageLeave (temps : List Int) (s : State) (h : GoodS qq s) :
    GoodNext qq (execThermalStageLeave temps s) := by
  unfold execThermalStageLeave
  try dsimp only
  repeat' first
    | (with_reducible first | assumption | apply good_noteCool | apply good_sampleTemps | apply good_checkWarn | apply good_sageEval | apply good_modTram | apply good_stageAction | apply good_ite | apply goodNext_ite | refine (goodNext_next _).2 ?_)
    | (intro _; intros; dsimp only) | (intro _; intros) | split | dsimp only

theorem good_writeImage (s : State) (p : Package) (h : GoodS qq s) :
    GoodS qq (writeImage s p) := by
  unfold writeImage
  try dsimp only
  repeat' first
    | (with_reducible first | assumption | apply good_each | apply good_putData | apply good_ite | apply goodNext_ite | refine good_each _ _ _ ?_ ?_)
    | (intro _; intros; dsimp only) | (intro _; intros) | split | dsimp only

theorem good_loadPackage (s : State) (p : Package) (h : GoodS qq s) :
    GoodS qq (loadPackage s p) := by
  unfold loadPackage
  try dsimp only
  repeat' first
    | (with_reducible first | assumption | apply good_loadTask | apply good_writeImage)
    | (intro _; intros; dsimp only) | (intro _; intros) | with_reducible refine good_of_fst (by assumption) ?_ | with_reducible refine good_of_snd (by assumption) ?_ | split | dsimp only | (rename_i hq; split at hq) | (rename_i hq; cases hq)

theorem good_recordIfNew (s : State) (r : BootRec) (h : GoodS qq s) :
    GoodS qq (recordIfNew s r) := by
  unfold recordIfNew
  try dsimp only
  repeat' first
    | (with_reducible first | assumption | apply good_appendRecord | apply good_ite | apply goodNext_ite)
    | (intro _; intros; dsimp only) | (intro _; intros) | split | dsimp only

theorem good_takeScales (s : State) (table : Nat) (saved : List Byte) (h : GoodS qq s) :
    GoodS qq (takeScales s table saved) := by
  unfold takeScales
  try dsimp only
  repeat' first
    | (with_reducible first | assumption | apply good_each | apply good_putData | refine good_each _ _ _ ?_ ?_)
    | (intro _; intros; dsimp only) | (intro _; intros) | split | dsimp only

theorem good_restoreSlots (s : State) (p : Package) (h : GoodS qq s) :
    GoodS qq (restoreSlots s p) := by
  unfold restoreSlots
  try dsimp only
  repeat' first
    | (with_reducible first | assumption | apply good_each | apply good_takeScales | refine good_each _ _ _ ?_ ?_)
    | (intro _; intros; dsimp only) | (intro _; intros) | with_reducible refine good_of_fst (by assumption) ?_ | with_reducible refine good_of_snd (by assumption) ?_ | split | dsimp only | (rename_i hq; split at hq) | (rename_i hq; cases hq)

theorem good_reserve (s : State) (h : GoodS qq s) :
    GoodS qq (reserve s) := by
  unfold reserve
  try dsimp only
  repeat' first
    | (with_reducible first | assumption | apply good_each | apply good_setReg | apply good_setFldAt | apply good_recap | refine good_each _ _ _ ?_ ?_)
    | (intro _; intros; dsimp only) | (intro _; intros) | split | dsimp only

theorem good_startPackage (s : State) (p : Package) (copyB : Bool) (h : GoodS qq s) :
    GoodS qq (startPackage s p copyB) := by
  unfold startPackage
  try dsimp only
  repeat' first
    | (with_reducible first | assumption | apply good_useWeights | apply good_startSage | apply good_loadPackage | apply good_recordIfNew | apply good_restoreSlots | apply good_reserve | apply good_ite | apply goodNext_ite)
    | (intro _; intros; dsimp only) | (intro _; intros) | split | dsimp only

theorem good_waitPackage (s : State) (p : Package) (h : GoodS qq s) :
    GoodS qq (waitPackage s p) := by
  unfold waitPackage
  try dsimp only
  repeat' first
    | (with_reducible first | assumption | apply good_draw | apply good_fillFlash | apply good_recordIfNew | refine good_filterMem _ ?_ | refine good_filterRegs _ ?_)
    | (intro _; intros; dsimp only) | (intro _; intros) | with_reducible refine good_of_fst (by assumption) ?_ | with_reducible refine good_of_snd (by assumption) ?_ | split | dsimp only | (rename_i hq; split at hq) | (rename_i hq; cases hq)

theorem good_execPackageVerify (pkg : Package) (copy : PackageCopy) (sigOk tableHashOk sectionsOk : Bool) (s : State) (h : GoodS qq s) :
    GoodNext qq (execPackageVerify pkg copy sigOk tableHashOk sectionsOk s) := by
  unfold execPackageVerify
  try dsimp only
  repeat' first
    | (with_reducible first | assumption | apply good_logRule | apply good_sageEval | apply good_modAdapt | apply good_startPackage | apply good_waitPackage | apply good_ite | apply goodNext_ite | refine (goodNext_next _).2 ?_)
    | (intro _; intros; dsimp only) | (intro _; intros) | with_reducible refine good_of_fst (by assumption) ?_ | with_reducible refine good_of_snd (by assumption) ?_ | split | dsimp only | (rename_i hq; split at hq) | (rename_i hq; cases hq)

theorem good_execPackageActivate (kind : PkgKind) (s : State) (h : GoodS qq s) :
    GoodNext qq (execPackageActivate kind s) := by
  unfold execPackageActivate
  try dsimp only
  repeat' first
    | (with_reducible first | assumption | apply good_sageEval | apply good_useWeights | apply good_loadPackage | apply good_recordIfNew | apply good_ite | apply goodNext_ite | refine (goodNext_next _).2 ?_ | refine good_filterMem _ ?_ | refine good_filterRegs _ ?_)
    | (intro _; intros; dsimp only) | (intro _; intros) | with_reducible refine good_of_fst (by assumption) ?_ | with_reducible refine good_of_snd (by assumption) ?_ | split | dsimp only | (rename_i hq; split at hq) | (rename_i hq; cases hq)

end Sys2Proof.Machine
end

