-- ==== Sys2Proof/Laws/KeepBay.lean ====
section
/-! SUPPORT. What Keep.lean says of the named operations, for the Bay, Rosemary, the resets and the boot. -/
namespace Sys2Proof.Machine

open Sys2Proof

variable {qq : List Instr}

/-! Bay -/

theorem good_dropTail (s : State) (h : GoodS qq s) :
    GoodS qq (dropTail s) := by
  unfold dropTail
  try dsimp only
  repeat' first
    | (with_reducible first | assumption | apply good_logRule | apply good_modBay)
    | (intro _; intros; dsimp only) | (intro _; intros) | with_reducible refine good_of_fst (by assumption) ?_ | with_reducible refine good_of_snd (by assumption) ?_ | split | dsimp only | (rename_i hq; split at hq) | (rename_i hq; cases hq)

theorem good_goOffline (s : State) (cause : Nat) (h : GoodS qq s) :
    GoodS qq (goOffline s cause) := by
  unfold goOffline
  try dsimp only
  repeat' first
    | (with_reducible first | assumption | apply good_raise | apply good_modBay | apply good_keepCounted | apply good_releaseClips | apply good_sageEval | apply good_dropTail | apply good_ite | apply goodNext_ite)
    | (intro _; intros; dsimp only) | (intro _; intros) | split | dsimp only

theorem good_startInsertion (s : State) (h : GoodS qq s) :
    GoodS qq (startInsertion s) := by
  unfold startInsertion
  try dsimp only
  repeat' first
    | (with_reducible first | assumption | apply good_modBay | apply good_ite | apply goodNext_ite)
    | (intro _; intros; dsimp only) | (intro _; intros) | split | dsimp only

theorem good_reachSafe (s : State) (h : GoodS qq s) :
    GoodS qq (reachSafe s) := by
  unfold reachSafe
  try dsimp only
  repeat' first
    | (with_reducible first | assumption | apply good_raise | apply good_modBay | apply good_releaseClips | apply good_sageEval | apply good_dropTail | apply good_startInsertion | apply good_ite | apply goodNext_ite | refine good_each _ _ _ ?_ ?_)
    | (intro _; intros; dsimp only) | (intro _; intros) | split | dsimp only

theorem good_closingBlock (s : State) (h : GoodS qq s) :
    GoodS qq (closingBlock s) := by
  unfold closingBlock
  try dsimp only
  repeat' first
    | (with_reducible first | assumption | apply good_each | apply good_writeBlock | apply good_queueEntry | apply good_closeClipBy | apply good_ite | apply goodNext_ite | refine good_each _ _ _ ?_ ?_)
    | (intro _; intros; dsimp only) | (intro _; intros) | split | dsimp only

theorem good_goOnRemoving (s : State) (h : GoodS qq s) :
    GoodS qq (goOnRemoving s) := by
  unfold goOnRemoving
  try dsimp only
  repeat' first
    | (with_reducible first | assumption | apply good_modBay | apply good_closingBlock | apply good_ite | apply goodNext_ite)
    | (intro _; intros; dsimp only) | (intro _; intros) | split | dsimp only

theorem good_startRemoval (s : State) (t : Nat) (h : GoodS qq s) :
    GoodS qq (startRemoval s t) := by
  unfold startRemoval
  try dsimp only
  repeat' first
    | (with_reducible first | assumption | apply good_modBay | apply good_sageEval | apply good_reachSafe | apply good_goOnRemoving | refine good_each _ _ _ ?_ ?_)
    | (intro _; intros; dsimp only) | (intro _; intros) | with_reducible refine good_of_fst (by assumption) ?_ | with_reducible refine good_of_snd (by assumption) ?_ | split | dsimp only | (rename_i hq; split at hq) | (rename_i hq; cases hq)

theorem good_surpriseRemoval (s : State) (h : GoodS qq s) :
    GoodS qq (surpriseRemoval s) := by
  unfold surpriseRemoval
  try dsimp only
  repeat' first
    | (with_reducible first | assumption | apply good_raise | apply good_count | apply good_modBay | apply good_keepCounted | apply good_releaseClips | apply good_sageEval | apply good_dropTail)
    | (intro _; intros; dsimp only) | (intro _; intros) | split | dsimp only

theorem good_presenceChange (s : State) (present : Bool) (h : GoodS qq s) :
    GoodS qq (presenceChange s present) := by
  unfold presenceChange
  try dsimp only
  repeat' first
    | (with_reducible first | assumption | apply good_raise | apply good_release | apply good_modBay | apply good_startInsertion | apply good_surpriseRemoval | apply good_ite | apply goodNext_ite)
    | (intro _; intros; dsimp only) | (intro _; intros) | split | dsimp only

theorem good_execBayPresentChange (present : Bool) (s : State) (h : GoodS qq s) :
    GoodNext qq (execBayPresentChange present s) := by
  unfold execBayPresentChange
  try dsimp only
  repeat' first
    | (with_reducible first | assumption | apply good_modBay | apply good_presenceChange | apply good_ite | apply goodNext_ite | refine (goodNext_next _).2 ?_)
    | (intro _; intros; dsimp only) | (intro _; intros) | split | dsimp only

theorem good_latchChange (s : State) (closed : Bool) (h : GoodS qq s) :
    GoodS qq (latchChange s closed) := by
  unfold latchChange
  try dsimp only
  repeat' first
    | (with_reducible first | assumption | apply good_raise | apply good_modBay | apply good_startInsertion | apply good_startRemoval | apply good_ite | apply goodNext_ite)
    | (intro _; intros; dsimp only) | (intro _; intros) | split | dsimp only

theorem good_execBayLatchChange (closed : Bool) (s : State) (h : GoodS qq s) :
    GoodNext qq (execBayLatchChange closed s) := by
  unfold execBayLatchChange
  try dsimp only
  repeat' first
    | (with_reducible first | assumption | apply good_modBay | apply good_latchChange | apply good_ite | apply goodNext_ite | refine (goodNext_next _).2 ?_)
    | (intro _; intros; dsimp only) | (intro _; intros) | split | dsimp only

theorem good_writeBayCtrl (s : State) (v : Nat) (h : GoodS qq s) :
    GoodS qq (writeBayCtrl s v) := by
  unfold writeBayCtrl
  try dsimp only
  repeat' first
    | (with_reducible first | assumption | apply good_setReg | apply good_pumpClips | apply good_startRemoval | apply good_ite | apply goodNext_ite)
    | (intro _; intros; dsimp only) | (intro _; intros) | split | dsimp only

theorem good_execBayEject (who : Requester) (val : BitVec 32) (s : State) (h : GoodS qq s) :
    GoodNext qq (execBayEject who val s) := by
  unfold execBayEject
  try dsimp only
  repeat' first
    | (with_reducible first | assumption | apply good_writeGuard | apply good_writeBayCtrl | refine (goodNext_next _).2 ?_)
    | (intro _; intros; dsimp only) | (intro _; intros) | split | dsimp only

theorem good_retireAuth (s : State) (h : GoodS qq s) :
    GoodS qq (retireAuth s) := by
  unfold retireAuth
  try dsimp only
  repeat' first
    | (with_reducible first | assumption | apply good_raise | apply good_retire | apply good_modBay | apply good_releaseClips | apply good_sageEval | apply good_attempt | apply good_dropTail)
    | (intro _; intros; dsimp only) | (intro _; intros) | split | dsimp only

theorem good_authFails (s : State) (serial : BitVec 64) (h : GoodS qq s) :
    GoodS qq (authFails s serial) := by
  unfold authFails
  try dsimp only
  repeat' first
    | (with_reducible first | assumption | apply good_raise | apply good_count | apply good_logRule | apply good_modBay | apply good_retireAuth | apply good_ite | apply goodNext_ite)
    | (intro _; intros; dsimp only) | (intro _; intros) | split | dsimp only

theorem good_execBayCertReadDone (cert : CartCert) (sigOk : Bool) (s : State) (h : GoodS qq s) :
    GoodNext qq (execBayCertReadDone cert sigOk s) := by
  unfold execBayCertReadDone
  try dsimp only
  repeat' first
    | (with_reducible first | assumption | apply good_modBay | apply good_authFails | apply good_ite | apply goodNext_ite | refine (goodNext_next _).2 ?_)
    | (intro _; intros; dsimp only) | (intro _; intros) | split | dsimp only

theorem good_execBayChallengeDone (ledger : Ledger) (sigOk : Bool) (s : State) (h : GoodS qq s) :
    GoodNext qq (execBayChallengeDone ledger sigOk s) := by
  unfold execBayChallengeDone
  try dsimp only
  repeat' first
    | (with_reducible first | assumption | apply good_modBay | apply good_pumpClips | apply good_attempt | apply good_authFails | apply good_ite | apply goodNext_ite | refine (goodNext_next _).2 ?_)
    | (intro _; intros; dsimp only) | (intro _; intros) | split | dsimp only

theorem good_execBayAuthRetry (s : State) (h : GoodS qq s) :
    GoodNext qq (execBayAuthRetry s) := by
  unfold execBayAuthRetry
  try dsimp only
  repeat' first
    | (with_reducible first | assumption | apply good_modBay | apply good_ite | apply goodNext_ite | refine (goodNext_next _).2 ?_)
    | (intro _; intros; dsimp only) | (intro _; intros) | split | dsimp only

theorem good_execBayReauthTimer (s : State) (h : GoodS qq s) :
    GoodNext qq (execBayReauthTimer s) := by
  unfold execBayReauthTimer
  try dsimp only
  repeat' first
    | (with_reducible first | assumption | apply good_modBay | apply good_ite | apply goodNext_ite | refine (goodNext_next _).2 ?_)
    | (intro _; intros; dsimp only) | (intro _; intros) | split | dsimp only

theorem good_execBayLinkTrained (gen lanes : Nat) (s : State) (h : GoodS qq s) :
    GoodNext qq (execBayLinkTrained gen lanes s) := by
  unfold execBayLinkTrained
  try dsimp only
  repeat' first
    | (with_reducible first | assumption | apply good_modBay | apply good_goOffline | apply good_ite | apply goodNext_ite | refine (goodNext_next _).2 ?_)
    | (intro _; intros; dsimp only) | (intro _; intros) | split | dsimp only

theorem good_execBayControllerReady (subsetOk : Bool) (s : State) (h : GoodS qq s) :
    GoodNext qq (execBayControllerReady subsetOk s) := by
  unfold execBayControllerReady
  try dsimp only
  repeat' first
    | (with_reducible first | assumption | apply good_modBay | apply good_goOffline | apply good_ite | apply goodNext_ite | refine (goodNext_next _).2 ?_)
    | (intro _; intros; dsimp only) | (intro _; intros) | split | dsimp only

theorem good_execBayReadyTimeout (s : State) (h : GoodS qq s) :
    GoodNext qq (execBayReadyTimeout s) := by
  unfold execBayReadyTimeout
  try dsimp only
  repeat' first
    | (with_reducible first | assumption | apply good_goOffline | apply good_ite | apply goodNext_ite | refine (goodNext_next _).2 ?_)
    | (intro _; intros; dsimp only) | (intro _; intros) | split | dsimp only

theorem good_reconcile (s : State) (h : GoodS qq s) :
    GoodS qq (reconcile s) := by
  unfold reconcile
  try dsimp only
  repeat' first
    | (with_reducible first | assumption | apply good_modBay | apply good_mountEntry | apply good_ite | apply goodNext_ite)
    | (intro _; intros; dsimp only) | (intro _; intros) | with_reducible refine good_of_fst (by assumption) ?_ | with_reducible refine good_of_snd (by assumption) ?_ | split | dsimp only | (rename_i hq; split at hq) | (rename_i hq; cases hq)

theorem good_formatMedium (s : State) (h : GoodS qq s) :
    GoodS qq (formatMedium s) := by
  unfold formatMedium
  try dsimp only
  repeat' first
    | (with_reducible first | assumption | apply good_draw | apply good_modBay | apply good_writeHeader)
    | (intro _; intros; dsimp only) | (intro _; intros) | split | dsimp only

theorem good_readJournal (s : State) (d : CartIdent) (at' : Nat) (hdr : BayHeader) (h : GoodS qq s) :
    GoodS qq (readJournal s d at' hdr).1 := by
  unfold readJournal
  try dsimp only
  repeat' first
    | (with_reducible first | assumption | apply good_modBay | refine good_foldl _ _ ?_ _ ?_ | refine good_foldl_fst _ _ ?_ _ ?_ | refine good_foldl_snd _ _ ?_ _ ?_)
    | (intro _; intros; dsimp only) | (intro _; intros) | split | dsimp only

theorem good_takeTail (s : State) (h : GoodS qq s) :
    GoodS qq (takeTail s).1 := by
  unfold takeTail
  try dsimp only
  repeat' first
    | (with_reducible first | assumption | apply good_modBay | apply good_dropTail | apply good_ite | apply goodNext_ite | refine good_foldl _ _ ?_ _ ?_ | refine good_foldl_fst _ _ ?_ _ ?_ | refine good_foldl_snd _ _ ?_ _ ?_)
    | (intro _; intros; dsimp only) | (intro _; intros) | with_reducible refine good_of_fst (by assumption) ?_ | with_reducible refine good_of_snd (by assumption) ?_ | split | dsimp only | (rename_i hq; split at hq) | (rename_i hq; cases hq)

theorem good_closeTorn (s : State) (l : List JEntry) (h : GoodS qq s) :
    GoodS qq (closeTorn s l) := by
  unfold closeTorn
  try dsimp only
  repeat' first
    | (with_reducible first | assumption | apply good_each | apply good_addEntry | apply good_takeTail | apply good_ite | apply goodNext_ite | refine good_each _ _ _ ?_ ?_)
    | (intro _; intros; dsimp only) | (intro _; intros) | split | dsimp only

theorem good_continueClips (s : State) (h : GoodS qq s) :
    GoodS qq (continueClips s) := by
  unfold continueClips
  try dsimp only
  repeat' first
    | (with_reducible first | assumption | apply good_each | apply good_modIncident | apply good_openClip | apply good_ite | apply goodNext_ite | refine good_each _ _ _ ?_ ?_ | refine good_filterMem _ ?_ | refine good_filterRegs _ ?_)
    | (intro _; intros; dsimp only) | (intro _; intros) | split | dsimp only

theorem good_mountCartridge (s : State) (d : CartIdent) (found : Option (Nat × BayHeader)) (h : GoodS qq s) :
    GoodS qq (mountCartridge s d found) := by
  unfold mountCartridge
  try dsimp only
  repeat' first
    | (with_reducible first | assumption | apply good_when | apply good_raise | apply good_retire | apply good_modBay | apply good_addEntry | apply good_addLedger | apply good_pumpClips | apply good_sageEval | apply good_dropTail | apply good_reconcile | apply good_formatMedium | apply good_readJournal | apply good_closeTorn | apply good_continueClips | apply good_ite | apply goodNext_ite | refine good_when _ _ _ ?_ ?_)
    | (intro _; intros; dsimp only) | (intro _; intros) | with_reducible refine good_of_fst (by assumption) ?_ | with_reducible refine good_of_snd (by assumption) ?_ | split | dsimp only | (rename_i hq; split at hq) | (rename_i hq; cases hq)

theorem good_execBayIdentifyDone (ident : CartIdent) (s : State) (h : GoodS qq s) :
    GoodNext qq (execBayIdentifyDone ident s) := by
  unfold execBayIdentifyDone
  try dsimp only
  repeat' first
    | (with_reducible first | assumption | apply good_modBay | apply good_goOffline | apply good_authFails | apply good_mountCartridge | apply good_ite | apply goodNext_ite | refine (goodNext_next _).2 ?_)
    | (intro _; intros; dsimp only) | (intro _; intros) | split | dsimp only

theorem good_execNvmeWriteComplete (what : BayWrite) (bytes : Nat) (s : State) (h : GoodS qq s) :
    GoodNext qq (execNvmeWriteComplete what bytes s) := by
  unfold execNvmeWriteComplete
  try dsimp only
  repeat' first
    | (with_reducible first | assumption | apply good_modBay | apply good_ledgerUpdate | apply good_pumpClips | apply good_sageEval | apply good_goOnRemoving | apply good_ite | apply goodNext_ite | refine (goodNext_next _).2 ?_)
    | (intro _; intros; dsimp only) | (intro _; intros) | with_reducible refine good_of_fst (by assumption) ?_ | with_reducible refine good_of_snd (by assumption) ?_ | split | dsimp only | (rename_i hq; split at hq) | (rename_i hq; cases hq)

theorem good_abandonExtent (s : State) (id : Nat) (h : GoodS qq s) :
    GoodS qq (abandonExtent s id) := by
  unfold abandonExtent
  try dsimp only
  repeat' first
    | (with_reducible first | assumption | apply good_modBay | apply good_modClip | apply good_ite | apply goodNext_ite | refine good_filterMem _ ?_ | refine good_filterRegs _ ?_)
    | (intro _; intros; dsimp only) | (intro _; intros) | split | dsimp only

theorem good_giveUpWrite (s : State) (w : BayIo) (h : GoodS qq s) :
    GoodS qq (giveUpWrite s w) := by
  unfold giveUpWrite
  try dsimp only
  repeat' first
    | (with_reducible first | assumption | apply good_modBay | apply good_abandonExtent)
    | (intro _; intros; dsimp only) | (intro _; intros) | with_reducible refine good_of_fst (by assumption) ?_ | with_reducible refine good_of_snd (by assumption) ?_ | split | dsimp only | (rename_i hq; split at hq) | (rename_i hq; cases hq)

theorem good_execNvmeWriteFail (what : BayWrite) (retryFailed : Bool) (s : State) (h : GoodS qq s) :
    GoodNext qq (execNvmeWriteFail what retryFailed s) := by
  unfold execNvmeWriteFail
  try dsimp only
  repeat' first
    | (with_reducible first | assumption | apply good_count | apply good_modBay | apply good_pumpClips | apply good_sageEval | apply good_goOffline | apply good_goOnRemoving | apply good_giveUpWrite | apply good_ite | apply goodNext_ite | refine (goodNext_next _).2 ?_)
    | (intro _; intros; dsimp only) | (intro _; intros) | with_reducible refine good_of_fst (by assumption) ?_ | with_reducible refine good_of_snd (by assumption) ?_ | split | dsimp only | (rename_i hq; split at hq) | (rename_i hq; cases hq)

theorem good_execJournalBlockTimer (s : State) (h : GoodS qq s) :
    GoodNext qq (execJournalBlockTimer s) := by
  unfold execJournalBlockTimer
  try dsimp only
  repeat' first
    | (with_reducible first | assumption | apply good_writeBlock | apply good_ite | apply goodNext_ite | refine (goodNext_next _).2 ?_)
    | (intro _; intros; dsimp only) | (intro _; intros) | split | dsimp only

theorem good_execBayHourly (smart : Byte) (s : State) (h : GoodS qq s) :
    GoodNext qq (execBayHourly smart s) := by
  unfold execBayHourly
  try dsimp only
  repeat' first
    | (with_reducible first | assumption | apply good_modBay | apply good_ledgerUpdate | apply good_sageEval | apply good_ite | apply goodNext_ite | refine (goodNext_next _).2 ?_)
    | (intro _; intros; dsimp only) | (intro _; intros) | split | dsimp only

theorem good_execNvmeFlushComplete (s : State) (h : GoodS qq s) :
    GoodNext qq (execNvmeFlushComplete s) := by
  unfold execNvmeFlushComplete
  try dsimp only
  repeat' first
    | (with_reducible first | assumption | apply good_modBay | apply good_ite | apply goodNext_ite | refine (goodNext_next _).2 ?_)
    | (intro _; intros; dsimp only) | (intro _; intros) | split | dsimp only

theorem good_removalUpdate (s : State) (h : GoodS qq s) :
    GoodS qq (removalUpdate s) := by
  unfold removalUpdate
  try dsimp only
  repeat' first
    | (with_reducible first | assumption | apply good_raise | apply good_retire | apply good_modBay | apply good_addLedger | apply good_ite | apply goodNext_ite)
    | (intro _; intros; dsimp only) | (intro _; intros) | split | dsimp only

theorem good_execLedgerAddDone (s : State) (h : GoodS qq s) :
    GoodNext qq (execLedgerAddDone s) := by
  unfold execLedgerAddDone
  try dsimp only
  repeat' first
    | (with_reducible first | assumption | apply good_modBay | apply good_removalUpdate | apply good_ite | apply goodNext_ite | refine (goodNext_next _).2 ?_)
    | (intro _; intros; dsimp only) | (intro _; intros) | split | dsimp only

theorem good_execNvmeShutdownComplete (s : State) (h : GoodS qq s) :
    GoodNext qq (execNvmeShutdownComplete s) := by
  unfold execNvmeShutdownComplete
  try dsimp only
  repeat' first
    | (with_reducible first | assumption | apply good_reachSafe | apply good_ite | apply goodNext_ite | refine good_each _ _ _ ?_ ?_ | refine (goodNext_next _).2 ?_)
    | (intro _; intros; dsimp only) | (intro _; intros) | split | dsimp only

theorem good_execBayRemoveDeadline (s : State) (h : GoodS qq s) :
    GoodNext qq (execBayRemoveDeadline s) := by
  unfold execBayRemoveDeadline
  try dsimp only
  repeat' first
    | (with_reducible first | assumption | apply good_raise | apply good_count | apply good_keepCounted | apply good_reachSafe | apply good_ite | apply goodNext_ite | refine good_each _ _ _ ?_ ?_ | refine (goodNext_next _).2 ?_)
    | (intro _; intros; dsimp only) | (intro _; intros) | split | dsimp only

theorem good_execBayLinkDown (cause : BayLinkFault) (s : State) (h : GoodS qq s) :
    GoodNext qq (execBayLinkDown cause s) := by
  unfold execBayLinkDown
  try dsimp only
  repeat' first
    | (with_reducible first | assumption | apply good_logRule | apply good_modBay | apply good_ite | apply goodNext_ite | refine (goodNext_next _).2 ?_)
    | (intro _; intros; dsimp only) | (intro _; intros) | with_reducible refine good_of_fst (by assumption) ?_ | with_reducible refine good_of_snd (by assumption) ?_ | split | dsimp only | (rename_i hq; split at hq) | (rename_i hq; cases hq)

theorem good_execBayRecoveryAttempt (result : BayRecovery) (s : State) (h : GoodS qq s) :
    GoodNext qq (execBayRecoveryAttempt result s) := by
  unfold execBayRecoveryAttempt
  try dsimp only
  repeat' first
    | (with_reducible first | assumption | apply good_modBay | apply good_pumpClips | apply good_goOffline | apply good_authFails | apply good_ite | apply goodNext_ite | refine (goodNext_next _).2 ?_)
    | (intro _; intros; dsimp only) | (intro _; intros) | with_reducible refine good_of_fst (by assumption) ?_ | with_reducible refine good_of_snd (by assumption) ?_ | split | dsimp only | (rename_i hq; split at hq) | (rename_i hq; cases hq)

theorem good_execNvmeReadComplete (readError : Bool) (s : State) (h : GoodS qq s) :
    GoodNext qq (execNvmeReadComplete readError s) := by
  unfold execNvmeReadComplete
  try dsimp only
  repeat' first
    | (with_reducible first | assumption | apply good_count | apply good_ite | apply goodNext_ite | refine (goodNext_next _).2 ?_)
    | (intro _; intros; dsimp only) | (intro _; intros) | split | dsimp only

/-! Rosemary -/

theorem good_takeSample (s : State) (x : SupplySample) (h : GoodS qq s) :
    GoodS qq (takeSample s x) := by
  unfold takeSample
  try dsimp only
  repeat' first
    | (with_reducible first | assumption | apply good_count | apply good_modHld | apply good_ite | apply goodNext_ite)
    | (intro _; intros; dsimp only) | (intro _; intros) | split | dsimp only

theorem good_setSave (s : State) (k : Nat) (x : Save) (h : GoodS qq s) :
    GoodS qq (State.setSave s k x) := by
  unfold State.setSave
  try dsimp only
  repeat' first
    | (with_reducible first | assumption | apply good_modHld)
    | (intro _; intros; dsimp only) | (intro _; intros) | split | dsimp only

theorem good_stageLedger (s : State) (h : GoodS qq s) :
    GoodS qq (stageLedger s) := by
  unfold stageLedger
  try dsimp only
  repeat' first
    | (with_reducible first | assumption | apply good_commit | apply good_putImage | apply good_ite | apply goodNext_ite)
    | (intro _; intros; dsimp only) | (intro _; intros) | split | dsimp only

theorem good_commitSave (s : State) (flags : Nat) (h : GoodS qq s) :
    GoodS qq (commitSave s flags) := by
  unfold commitSave
  try dsimp only
  repeat' first
    | (with_reducible first | assumption | apply good_each | apply good_raise | apply good_count | apply good_commit | apply good_modHld | apply good_sageEval | apply good_hardwareSafe | apply good_modPwr | apply good_forceOff | apply good_setSave | apply good_stageLedger | refine good_each _ _ _ ?_ ?_ | refine good_filterMem _ ?_ | refine good_filterRegs _ ?_)
    | (intro _; intros; dsimp only) | (intro _; intros) | split | dsimp only

theorem good_signalStaged (s : State) (h : GoodS qq s) :
    GoodS qq (signalStaged s) := by
  unfold signalStaged
  try dsimp only
  repeat' first
    | (with_reducible first | assumption | apply good_inject | apply good_takeSeq)
    | (intro _; intros; dsimp only) | (intro _; intros) | split | dsimp only

theorem good_arm (s : State) (h : GoodS qq s) :
    GoodS qq (arm s) := by
  unfold arm
  try dsimp only
  repeat' first
    | (with_reducible first | assumption | apply good_setFldAt | apply good_raise | apply good_count | apply good_recap | apply good_ccPut | apply good_modHld | apply good_pumpClips | apply good_stopView | apply good_sageEval | apply good_stopClassC | apply good_modTram | apply good_stopAdaptation | apply good_commitSave | apply good_signalStaged | apply good_ite | apply goodNext_ite)
    | (intro _; intros; dsimp only) | (intro _; intros) | split | dsimp only

theorem good_disarm (s : State) (h : GoodS qq s) :
    GoodS qq (disarm s) := by
  unfold disarm
  try dsimp only
  repeat' first
    | (with_reducible first | assumption | apply good_setFldAt | apply good_raise | apply good_count | apply good_recap | apply good_modHld | apply good_pumpClips | apply good_sageEval | apply good_modTram | apply good_ite | apply goodNext_ite)
    | (intro _; intros; dsimp only) | (intro _; intros) | with_reducible refine good_of_fst (by assumption) ?_ | with_reducible refine good_of_snd (by assumption) ?_ | split | dsimp only | (rename_i hq; split at hq) | (rename_i hq; cases hq)

theorem good_execSupplyArm (sample : SupplySample) (s : State) (h : GoodS qq s) :
    GoodNext qq (execSupplyArm sample s) := by
  unfold execSupplyArm
  try dsimp only
  repeat' first
    | (with_reducible first | assumption | apply good_takeSample | apply good_arm | apply good_ite | apply goodNext_ite | refine (goodNext_next _).2 ?_)
    | (intro _; intros; dsimp only) | (intro _; intros) | split | dsimp only

theorem good_execSupplyBack (sample : SupplySample) (s : State) (h : GoodS qq s) :
    GoodNext qq (execSupplyBack sample s) := by
  unfold execSupplyBack
  try dsimp only
  repeat' first
    | (with_reducible first | assumption | apply good_takeSample | apply good_disarm | apply good_ite | apply goodNext_ite | refine (goodNext_next _).2 ?_)
    | (intro _; intros; dsimp only) | (intro _; intros) | split | dsimp only

theorem good_execSupplyCrit (sample : SupplySample) (s : State) (h : GoodS qq s) :
    GoodNext qq (execSupplyCrit sample s) := by
  unfold execSupplyCrit
  try dsimp only
  repeat' first
    | (with_reducible first | assumption | apply good_takeSample | apply good_commitSave | apply good_ite | apply goodNext_ite | refine (goodNext_next _).2 ?_)
    | (intro _; intros; dsimp only) | (intro _; intros) | split | dsimp only

theorem good_execRideThroughWindowEnd (code : Nat) (failLow : Bool) (s : State) (h : GoodS qq s) :
    GoodNext qq (execRideThroughWindowEnd code failLow s) := by
  unfold execRideThroughWindowEnd
  try dsimp only
  repeat' first
    | (with_reducible first | assumption | apply good_takeSample | apply good_commitSave | apply good_disarm | apply good_ite | apply goodNext_ite | refine (goodNext_next _).2 ?_)
    | (intro _; intros; dsimp only) | (intro _; intros) | split | dsimp only

theorem good_execSaveDone (badItems : BitVec 16) (rewrite : Bool) (vDone : BitVec 16) (s : State) (h : GoodS qq s) :
    GoodNext qq (execSaveDone badItems rewrite vDone s) := by
  unfold execSaveDone
  try dsimp only
  repeat' first
    | (with_reducible first | assumption | apply good_each | apply good_setReg | apply good_count | apply good_modHld | apply good_writeLedger | apply good_forceOff | apply good_setSave | apply good_ite | apply goodNext_ite | refine good_each _ _ _ ?_ ?_ | refine (goodNext_next _).2 ?_ | refine good_filterMem _ ?_ | refine good_filterRegs _ ?_)
    | (intro _; intros; dsimp only) | (intro _; intros) | split | dsimp only

theorem good_execSupplyReturnReset (sample : SupplySample) (s : State) (h : GoodS qq s) :
    GoodNext qq (execSupplyReturnReset sample s) := by
  unfold execSupplyReturnReset
  try dsimp only
  repeat' first
    | (with_reducible first | assumption | apply good_requestWarm | apply good_takeSample | apply good_ite | apply goodNext_ite | refine (goodNext_next _).2 ?_)
    | (intro _; intros; dsimp only) | (intro _; intros) | split | dsimp only

theorem good_execRosemaryIdle (sample : SupplySample) (s : State) (h : GoodS qq s) :
    GoodNext qq (execRosemaryIdle sample s) := by
  unfold execRosemaryIdle
  try dsimp only
  repeat' first
    | (with_reducible first | assumption | apply good_modHld | apply good_takeSample | apply good_ite | apply goodNext_ite | refine (goodNext_next _).2 ?_)
    | (intro _; intros; dsimp only) | (intro _; intros) | split | dsimp only

theorem good_restore (s : State) (h : GoodS qq s) :
    GoodS qq (restore s) := by
  unfold restore
  try dsimp only
  repeat' first
    | (with_reducible first | assumption | apply good_putData | apply good_release | apply good_modHld)
    | (intro _; intros; dsimp only) | (intro _; intros) | with_reducible refine good_of_fst (by assumption) ?_ | with_reducible refine good_of_snd (by assumption) ?_ | split | dsimp only | (rename_i hq; split at hq) | (rename_i hq; cases hq)

theorem good_restoreWindow (s : State) (w : Window) (h : GoodS qq s) :
    GoodS qq (restoreWindow s w) := by
  unfold restoreWindow
  try dsimp only
  repeat' first
    | (with_reducible first | assumption | apply good_modTram | apply good_closeWindow | apply good_ite | apply goodNext_ite | refine (goodNext_next _).2 ?_)
    | (intro _; intros; dsimp only) | (intro _; intros) | split | dsimp only

theorem good_restoreIncident (s : State) (i : Incident) (h : GoodS qq s) :
    GoodS qq (restoreIncident s i) := by
  unfold restoreIncident
  try dsimp only
  repeat' first
    | (with_reducible first | assumption | apply good_modTram | refine (goodNext_next _).2 ?_)
    | (intro _; intros; dsimp only) | (intro _; intros) | split | dsimp only

theorem good_offerTail (s : State) (t : Option JTail) (h : GoodS qq s) :
    GoodS qq (offerTail s t) := by
  unfold offerTail
  try dsimp only
  repeat' first
    | (with_reducible first | assumption | apply good_modBay | apply good_dropTail | apply good_closeTorn | apply good_ite | apply goodNext_ite)
    | (intro _; intros; dsimp only) | (intro _; intros) | split | dsimp only

theorem good_useSave (s : State) (k : Nat) (h : GoodS qq s) :
    GoodS qq (useSave s k) := by
  unfold useSave
  try dsimp only
  repeat' first
    | (with_reducible first | assumption | apply good_each | apply good_logRule | apply good_modHld | apply good_modVeh | apply good_setSave | apply good_restoreWindow | apply good_restoreIncident | apply good_offerTail | apply good_ite | apply goodNext_ite | refine good_each _ _ _ ?_ ?_ | refine good_foldl _ _ ?_ _ ?_ | refine good_foldl_fst _ _ ?_ _ ?_ | refine good_foldl_snd _ _ ?_ _ ?_ | refine (goodNext_next _).2 ?_)
    | (intro _; intros; dsimp only) | (intro _; intros) | split | dsimp only

theorem good_execRestoreDone (s : State) (h : GoodS qq s) :
    GoodNext qq (execRestoreDone s) := by
  unfold execRestoreDone
  try dsimp only
  repeat' first
    | (with_reducible first | assumption | apply good_raise | apply good_putData | apply good_modHld | apply good_sageEval | apply good_useSave | apply good_ite | apply goodNext_ite | refine (goodNext_next _).2 ?_)
    | (intro _; intros; dsimp only) | (intro _; intros) | with_reducible refine good_of_fst (by assumption) ?_ | with_reducible refine good_of_snd (by assumption) ?_ | split | dsimp only | (rename_i hq; split at hq) | (rename_i hq; cases hq)

theorem good_consume (s : State) (h : GoodS qq s) :
    GoodS qq (consume s) := by
  unfold consume
  try dsimp only
  repeat' first
    | (with_reducible first | assumption | apply good_setSave)
    | (intro _; intros; dsimp only) | (intro _; intros) | with_reducible refine good_of_fst (by assumption) ?_ | with_reducible refine good_of_snd (by assumption) ?_ | split | dsimp only | (rename_i hq; split at hq) | (rename_i hq; cases hq)

theorem good_testSave (s : State) (h : GoodS qq s) :
    GoodS qq (testSave s) := by
  unfold testSave
  try dsimp only
  repeat' first
    | (with_reducible first | assumption | apply good_commitSave | apply good_ite | apply goodNext_ite)
    | (intro _; intros; dsimp only) | (intro _; intros) | split | dsimp only

theorem good_writeHldCtrl (s : State) (v : Nat) (h : GoodS qq s) :
    GoodS qq (writeHldCtrl s v) := by
  unfold writeHldCtrl
  try dsimp only
  repeat' first
    | (with_reducible first | assumption | apply good_setReg | apply good_recap | apply good_modHld | apply good_ledgerGo | apply good_restore | apply good_consume | apply good_testSave | apply good_ite | apply goodNext_ite)
    | (intro _; intros; dsimp only) | (intro _; intros) | split | dsimp only

theorem good_execLedgerGo (who : Requester) (val : BitVec 32) (s : State) (h : GoodS qq s) :
    GoodNext qq (execLedgerGo who val s) := by
  unfold execLedgerGo
  try dsimp only
  repeat' first
    | (with_reducible first | assumption | apply good_writeGuard | apply good_writeHldCtrl | refine (goodNext_next _).2 ?_)
    | (intro _; intros; dsimp only) | (intro _; intros) | split | dsimp only

theorem good_execRestore (who : Requester) (val : BitVec 32) (s : State) (h : GoodS qq s) :
    GoodNext qq (execRestore who val s) := by
  unfold execRestore
  try dsimp only
  repeat' first
    | (with_reducible first | assumption | apply good_writeGuard | apply good_writeHldCtrl | refine (goodNext_next _).2 ?_)
    | (intro _; intros; dsimp only) | (intro _; intros) | split | dsimp only

theorem good_execConsume (who : Requester) (val : BitVec 32) (s : State) (h : GoodS qq s) :
    GoodNext qq (execConsume who val s) := by
  unfold execConsume
  try dsimp only
  repeat' first
    | (with_reducible first | assumption | apply good_writeGuard | apply good_writeHldCtrl | refine (goodNext_next _).2 ?_)
    | (intro _; intros; dsimp only) | (intro _; intros) | split | dsimp only

theorem good_execTestSave (who : Requester) (val : BitVec 32) (s : State) (h : GoodS qq s) :
    GoodNext qq (execTestSave who val s) := by
  unfold execTestSave
  try dsimp only
  repeat' first
    | (with_reducible first | assumption | apply good_writeGuard | apply good_writeHldCtrl | refine (goodNext_next _).2 ?_)
    | (intro _; intros; dsimp only) | (intro _; intros) | split | dsimp only

theorem good_execSenseFault (sample : SupplySample) (s : State) (h : GoodS qq s) :
    GoodNext qq (execSenseFault sample s) := by
  unfold execSenseFault
  try dsimp only
  repeat' first
    | (with_reducible first | assumption | apply good_raise | apply good_count | apply good_modHld | apply good_takeSample | apply good_ite | apply goodNext_ite | refine (goodNext_next _).2 ?_)
    | (intro _; intros; dsimp only) | (intro _; intros) | split | dsimp only

theorem good_execFailNFault (sample : SupplySample) (s : State) (h : GoodS qq s) :
    GoodNext qq (execFailNFault sample s) := by
  unfold execFailNFault
  try dsimp only
  repeat' first
    | (with_reducible first | assumption | apply good_raise | apply good_modHld | apply good_takeSample | apply good_ite | apply goodNext_ite | refine (goodNext_next _).2 ?_)
    | (intro _; intros; dsimp only) | (intro _; intros) | split | dsimp only

theorem good_thReject (s : State) (h : GoodS qq s) :
    GoodS qq (thReject s) := by
  unfold thReject
  try dsimp only
  repeat' first
    | (with_reducible first | assumption | apply good_raise)
    | (intro _; intros; dsimp only) | (intro _; intros) | split | dsimp only

theorem good_writeHldTh (s : State) (v : Nat) (h : GoodS qq s) :
    GoodS qq (writeHldTh s v) := by
  unfold writeHldTh
  try dsimp only
  repeat' first
    | (with_reducible first | assumption | apply good_setReg | apply good_thReject | apply good_ite | apply goodNext_ite)
    | (intro _; intros; dsimp only) | (intro _; intros) | split | dsimp only

theorem good_writeHldThCrit (s : State) (v : Nat) (h : GoodS qq s) :
    GoodS qq (writeHldThCrit s v) := by
  unfold writeHldThCrit
  try dsimp only
  repeat' first
    | (with_reducible first | assumption | apply good_setReg | apply good_thReject | apply good_ite | apply goodNext_ite)
    | (intro _; intros; dsimp only) | (intro _; intros) | split | dsimp only

theorem good_execHldThWrite (who : Requester) (crit : Bool) (val : BitVec 32) (s : State) (h : GoodS qq s) :
    GoodNext qq (execHldThWrite who crit val s) := by
  unfold execHldThWrite
  try dsimp only
  repeat' first
    | (with_reducible first | assumption | apply good_writeGuard | apply good_writeHldTh | apply good_writeHldThCrit | apply good_ite | apply goodNext_ite | refine (goodNext_next _).2 ?_)
    | (intro _; intros; dsimp only) | (intro _; intros) | split | dsimp only

/-! Restart -/

theorem good_spoilRecords (s : State) (lo n : Nat) (h : GoodS qq s) :
    GoodS qq (spoilRecords s lo n) := by
  unfold spoilRecords
  try dsimp only
  repeat' first
    | (with_reducible first | assumption | apply good_modSys | apply good_ite | apply goodNext_ite)
    | (intro _; intros; dsimp only) | (intro _; intros) | split | dsimp only

theorem good_cutFlash (s : State) (h : GoodS qq s) :
    GoodS qq (cutFlash s) := by
  unfold cutFlash
  try dsimp only
  repeat' first
    | (with_reducible first | assumption | apply good_draw | apply good_modSys | apply good_fillFlash | apply good_spoilRecords | apply good_ite | apply goodNext_ite)
    | (intro _; intros; dsimp only) | (intro _; intros) | with_reducible refine good_of_fst (by assumption) ?_ | with_reducible refine good_of_snd (by assumption) ?_ | split | dsimp only | (rename_i hq; split at hq) | (rename_i hq; cases hq)

theorem good_reportTorn (s : State) (h : GoodS qq s) :
    GoodS qq (reportTorn s) := by
  unfold reportTorn
  try dsimp only
  repeat' first
    | (with_reducible first | assumption | apply good_each | apply good_raise | apply good_count | refine good_each _ _ _ ?_ ?_ | refine good_filterMem _ ?_ | refine good_filterRegs _ ?_)
    | (intro _; intros; dsimp only) | (intro _; intros) | split | dsimp only

theorem good_keepAcross (s : State) (h : GoodS qq s) :
    GoodS qq (keepAcross s) := by
  exact ⟨(good_cutFlash s h).1, (by decide : Memory.wf State.reset.mem = true), (by decide : Registers.wf State.reset.regs = true)⟩

theorem good_coldReset (s : State) (cause : Word) (h : GoodS qq s) :
    GoodS qq (coldReset s cause) := by
  unfold coldReset
  try dsimp only
  repeat' first
    | (with_reducible first | assumption | apply good_setReg | apply good_logRule | apply good_reportTorn | apply good_keepAcross | apply good_ite | apply goodNext_ite)
    | (intro _; intros; dsimp only) | (intro _; intros) | split | dsimp only

theorem good_warmReset (s : State) (h : GoodS qq s) :
    GoodS qq (warmReset s) := by
  unfold warmReset
  try dsimp only
  repeat' first
    | (with_reducible first | assumption | apply good_each | apply good_setReg | apply good_modTram | apply good_modSys | apply good_reportTorn | apply good_keepAcross | apply good_ite | apply goodNext_ite | refine good_each _ _ _ ?_ ?_)
    | (intro _; intros; dsimp only) | (intro _; intros) | split | dsimp only

theorem good_execPowerOnReset (release : Bool) (s : State) (h : GoodS qq s) :
    GoodNext qq (execPowerOnReset release s) := by
  unfold execPowerOnReset
  try dsimp only
  repeat' first
    | (with_reducible first | assumption | apply good_release | apply good_modSys | apply good_coldReset | apply good_ite | apply goodNext_ite | refine (goodNext_next _).2 ?_)
    | (intro _; intros; dsimp only) | (intro _; intros) | split | dsimp only

theorem good_execResetNPin (lowNs : Nat) (s : State) (h : GoodS qq s) :
    GoodNext qq (execResetNPin lowNs s) := by
  unfold execResetNPin
  try dsimp only
  repeat' first
    | (with_reducible first | assumption | apply good_modSys | apply good_coldReset | apply good_ite | apply goodNext_ite | refine (goodNext_next _).2 ?_)
    | (intro _; intros; dsimp only) | (intro _; intros) | split | dsimp only

theorem good_writeRstCtrl (s : State) (v : Nat) (h : GoodS qq s) :
    GoodS qq (writeRstCtrl s v) := by
  unfold writeRstCtrl
  try dsimp only
  repeat' first
    | (with_reducible first | assumption | apply good_requestWarm | apply good_ite | apply goodNext_ite)
    | (intro _; intros; dsimp only) | (intro _; intros) | split | dsimp only

theorem good_execSoftReset (who : Requester) (val : BitVec 32) (s : State) (h : GoodS qq s) :
    GoodNext qq (execSoftReset who val s) := by
  unfold execSoftReset
  try dsimp only
  repeat' first
    | (with_reducible first | assumption | apply good_writeGuard | apply good_writeRstCtrl | refine (goodNext_next _).2 ?_)
    | (intro _; intros; dsimp only) | (intro _; intros) | split | dsimp only

theorem good_execWarmReset (s : State) (h : GoodS qq s) :
    GoodNext qq (execWarmReset s) := by
  unfold execWarmReset
  try dsimp only
  repeat' first
    | (with_reducible first | assumption | apply good_warmReset | apply good_ite | apply goodNext_ite | refine (goodNext_next _).2 ?_)
    | (intro _; intros; dsimp only) | (intro _; intros) | split | dsimp only

theorem good_writeWdog (s : State) (v : Nat) (h : GoodS qq s) :
    GoodS qq (writeWdog s v) := by
  unfold writeWdog
  try dsimp only
  repeat' first
    | (with_reducible first | assumption | apply good_requestWarm | apply good_modSys | apply good_ite | apply goodNext_ite)
    | (intro _; intros; dsimp only) | (intro _; intros) | split | dsimp only

theorem good_writeWdogCfg (s : State) (v : Nat) (h : GoodS qq s) :
    GoodS qq (writeWdogCfg s v) := by
  unfold writeWdogCfg
  try dsimp only
  repeat' first
    | (with_reducible first | assumption | apply good_setReg | apply good_modSys)
    | (intro _; intros; dsimp only) | (intro _; intros) | split | dsimp only

theorem good_execSysWdogKick (who : Requester) (val : BitVec 32) (s : State) (h : GoodS qq s) :
    GoodNext qq (execSysWdogKick who val s) := by
  unfold execSysWdogKick
  try dsimp only
  repeat' first
    | (with_reducible first | assumption | apply good_writeGuard | apply good_writeWdog | refine (goodNext_next _).2 ?_)
    | (intro _; intros; dsimp only) | (intro _; intros) | split | dsimp only

theorem good_execSysWdogCfgWrite (who : Requester) (val : BitVec 32) (s : State) (h : GoodS qq s) :
    GoodNext qq (execSysWdogCfgWrite who val s) := by
  unfold execSysWdogCfgWrite
  try dsimp only
  repeat' first
    | (with_reducible first | assumption | apply good_writeGuard | apply good_writeWdogCfg | refine (goodNext_next _).2 ?_)
    | (intro _; intros; dsimp only) | (intro _; intros) | split | dsimp only

theorem good_execSystemWdogExpiry (s : State) (h : GoodS qq s) :
    GoodNext qq (execSystemWdogExpiry s) := by
  unfold execSystemWdogExpiry
  try dsimp only
  repeat' first
    | (with_reducible first | assumption | apply good_requestWarm | apply good_ite | apply goodNext_ite | refine (goodNext_next _).2 ?_)
    | (intro _; intros; dsimp only) | (intro _; intros) | split | dsimp only

theorem good_startFail (s : State) (code : Nat) (h : GoodS qq s) :
    GoodS qq (startFail s code) := by
  unfold startFail
  try dsimp only
  repeat' first
    | (with_reducible first | assumption | apply good_setFldAt | apply good_modSys)
    | (intro _; intros; dsimp only) | (intro _; intros) | split | dsimp only

theorem good_execDdrTrainingDone (ok : Bool) (s : State) (h : GoodS qq s) :
    GoodNext qq (execDdrTrainingDone ok s) := by
  unfold execDdrTrainingDone
  try dsimp only
  repeat' first
    | (with_reducible first | assumption | apply good_draw | apply good_modSys | apply good_startFail | apply good_ite | apply goodNext_ite | refine (goodNext_next _).2 ?_)
    | (intro _; intros; dsimp only) | (intro _; intros) | split | dsimp only

theorem good_commission (s : State) (h : GoodS qq s) :
    GoodS qq (commission s) := by
  unfold commission
  try dsimp only
  repeat' first
    | (with_reducible first | assumption | apply good_each | apply good_plainWrite | apply good_sageEval | apply good_followDirection | refine good_each _ _ _ ?_ ?_ | refine good_filterMem _ ?_ | refine good_filterRegs _ ?_)
    | (intro _; intros; dsimp only) | (intro _; intros) | with_reducible refine good_of_fst (by assumption) ?_ | with_reducible refine good_of_snd (by assumption) ?_ | split | dsimp only | (rename_i hq; split at hq) | (rename_i hq; cases hq)

theorem good_checkRecords (s : State) (h : GoodS qq s) :
    GoodS qq (checkRecords s) := by
  unfold checkRecords
  try dsimp only
  repeat' first
    | (with_reducible first | assumption | apply good_setFldAt | apply good_commission | apply good_ite | apply goodNext_ite)
    | (intro _; intros; dsimp only) | (intro _; intros) | split | dsimp only

theorem good_execDdrEccInitDone (s : State) (h : GoodS qq s) :
    GoodNext qq (execDdrEccInitDone s) := by
  unfold execDdrEccInitDone
  try dsimp only
  repeat' first
    | (with_reducible first | assumption | apply good_checkRecords | apply good_ite | apply goodNext_ite | refine (goodNext_next _).2 ?_ | refine good_filterMem _ ?_ | refine good_filterRegs _ ?_)
    | (intro _; intros; dsimp only) | (intro _; intros) | split | dsimp only

theorem good_execDdrTrainingLost (channel : Fin 4) (s : State) (h : GoodS qq s) :
    GoodNext qq (execDdrTrainingLost channel s) := by
  unfold execDdrTrainingLost
  try dsimp only
  repeat' first
    | (with_reducible first | assumption | apply good_raise | apply good_sageEval | apply good_modTram | apply good_requestWarm | apply good_ite | apply goodNext_ite | refine (goodNext_next _).2 ?_)
    | (intro _; intros; dsimp only) | (intro _; intros) | split | dsimp only

theorem good_execStartFailReset (s : State) (h : GoodS qq s) :
    GoodNext qq (execStartFailReset s) := by
  unfold execStartFailReset
  try dsimp only
  repeat' first
    | (with_reducible first | assumption | apply good_requestWarm | apply good_startFail | apply good_ite | apply goodNext_ite | refine (goodNext_next _).2 ?_)
    | (intro _; intros; dsimp only) | (intro _; intros) | with_reducible refine good_of_fst (by assumption) ?_ | with_reducible refine good_of_snd (by assumption) ?_ | split | dsimp only | (rename_i hq; split at hq) | (rename_i hq; cases hq)

theorem good_tripOff (s : State) (h : GoodS qq s) :
    GoodS qq (tripOff s) := by
  unfold tripOff
  try dsimp only
  repeat' first
    | (with_reducible first | assumption | apply good_each | apply good_forceOff | apply good_modSys | refine good_each _ _ _ ?_ ?_)
    | (intro _; intros; dsimp only) | (intro _; intros) | split | dsimp only

theorem good_execThermalTrip (temps : List Int) (s : State) (h : GoodS qq s) :
    GoodNext qq (execThermalTrip temps s) := by
  unfold execThermalTrip
  try dsimp only
  repeat' first
    | (with_reducible first | assumption | apply good_sampleTemps | apply good_checkWarn | apply good_modHld | apply good_hardwareSafe | apply good_modSys | apply good_commitSave | apply good_tripOff | apply good_ite | apply goodNext_ite | refine (goodNext_next _).2 ?_)
    | (intro _; intros; dsimp only) | (intro _; intros) | with_reducible refine good_of_fst (by assumption) ?_ | with_reducible refine good_of_snd (by assumption) ?_ | split | dsimp only | (rename_i hq; split at hq) | (rename_i hq; cases hq)

/-! Boot -/

theorem good_bringSlice (s : State) (h : GoodS qq s) :
    GoodS qq (bringSlice s) := by
  unfold bringSlice
  try dsimp only
  repeat' first
    | (with_reducible first | assumption | apply good_setReg | apply good_setFldAt | apply good_groupTarget | apply good_ite | apply goodNext_ite | refine good_foldl _ _ ?_ _ ?_ | refine good_foldl_fst _ _ ?_ _ ?_ | refine good_foldl_snd _ _ ?_ _ ?_)
    | (intro _; intros; dsimp only) | (intro _; intros) | split | dsimp only

theorem good_copyImage (s : State) (x : Nat) (h : GoodS qq s) :
    GoodS qq (copyImage s x) := by
  unfold copyImage
  try dsimp only
  repeat' first
    | (with_reducible first | assumption | apply good_putData)
    | (intro _; intros; dsimp only) | (intro _; intros) | split | dsimp only

theorem good_jump (s : State) (x : Nat) (first : Nat) (trial : Bool) (trials : Nat) (h : GoodS qq s) :
    GoodS qq (jump s x first trial trials) := by
  unfold jump
  try dsimp only
  repeat' first
    | (with_reducible first | assumption | apply good_setReg | apply good_modSys | apply good_startFail | apply good_ite | apply goodNext_ite)
    | (intro _; intros; dsimp only) | (intro _; intros) | split | dsimp only

theorem good_trySlot (s : State) (x first : Nat) (c : ImageCheck) (h : GoodS qq s) :
    GoodS qq (trySlot s x first c).1 := by
  unfold trySlot
  try dsimp only
  repeat' first
    | (with_reducible first | assumption | apply good_appendRecord | apply good_copyImage | apply good_jump | apply good_ite | apply goodNext_ite)
    | (intro _; intros; dsimp only) | (intro _; intros) | split | dsimp only

theorem good_selectImage (s : State) (a b : ImageCheck) (h : GoodS qq s) :
    GoodS qq (selectImage s a b) := by
  unfold selectImage
  try dsimp only
  repeat' first
    | (with_reducible first | assumption | apply good_setReg | apply good_modSys | apply good_trySlot | apply good_ite | apply goodNext_ite)
    | (intro _; intros; dsimp only) | (intro _; intros) | split | dsimp only

theorem good_execBootImageSelect (a b : ImageCheck) (s : State) (h : GoodS qq s) :
    GoodNext qq (execBootImageSelect a b s) := by
  unfold execBootImageSelect
  try dsimp only
  repeat' first
    | (with_reducible first | assumption | apply good_bringSlice | apply good_selectImage | apply good_ite | apply goodNext_ite | refine (goodNext_next _).2 ?_)
    | (intro _; intros; dsimp only) | (intro _; intros) | split | dsimp only

theorem good_writeXspiCmd (s : State) (v : Nat) (h : GoodS qq s) :
    GoodS qq (writeXspiCmd s v) := by
  unfold writeXspiCmd
  try dsimp only
  repeat' first
    | (with_reducible first | assumption | apply good_modSys | apply good_ite | apply goodNext_ite)
    | (intro _; intros; dsimp only) | (intro _; intros) | with_reducible refine good_of_fst (by assumption) ?_ | with_reducible refine good_of_snd (by assumption) ?_ | split | dsimp only | (rename_i hq; split at hq) | (rename_i hq; cases hq)

theorem good_execXspiRead (who : Requester) (val : BitVec 32) (s : State) (h : GoodS qq s) :
    GoodNext qq (execXspiRead who val s) := by
  unfold execXspiRead
  try dsimp only
  repeat' first
    | (with_reducible first | assumption | apply good_writeGuard | apply good_writeXspiCmd | refine (goodNext_next _).2 ?_)
    | (intro _; intros; dsimp only) | (intro _; intros) | split | dsimp only

theorem good_execXspiProgram (who : Requester) (val : BitVec 32) (s : State) (h : GoodS qq s) :
    GoodNext qq (execXspiProgram who val s) := by
  unfold execXspiProgram
  try dsimp only
  repeat' first
    | (with_reducible first | assumption | apply good_writeGuard | apply good_writeXspiCmd | refine (goodNext_next _).2 ?_)
    | (intro _; intros; dsimp only) | (intro _; intros) | split | dsimp only

theorem good_execXspiErase4k (who : Requester) (val : BitVec 32) (s : State) (h : GoodS qq s) :
    GoodNext qq (execXspiErase4k who val s) := by
  unfold execXspiErase4k
  try dsimp only
  repeat' first
    | (with_reducible first | assumption | apply good_writeGuard | apply good_writeXspiCmd | refine (goodNext_next _).2 ?_)
    | (intro _; intros; dsimp only) | (intro _; intros) | split | dsimp only

theorem good_execXspiErase64k (who : Requester) (val : BitVec 32) (s : State) (h : GoodS qq s) :
    GoodNext qq (execXspiErase64k who val s) := by
  unfold execXspiErase64k
  try dsimp only
  repeat' first
    | (with_reducible first | assumption | apply good_writeGuard | apply good_writeXspiCmd | refine (goodNext_next _).2 ?_)
    | (intro _; intros; dsimp only) | (intro _; intros) | split | dsimp only

theorem good_xspiEffect (s : State) (cmd addr dst len : Nat) (h : GoodS qq s) :
    GoodS qq (xspiEffect s cmd addr dst len) := by
  unfold xspiEffect
  try dsimp only
  repeat' first
    | (with_reducible first | assumption | apply good_putData | apply good_setFlash | apply good_eraseFlash | apply good_spoilRecords | apply good_ite | apply goodNext_ite)
    | (intro _; intros; dsimp only) | (intro _; intros) | split | dsimp only

theorem good_execXspiDone (err : Bool) (s : State) (h : GoodS qq s) :
    GoodNext qq (execXspiDone err s) := by
  unfold execXspiDone
  try dsimp only
  repeat' first
    | (with_reducible first | assumption | apply good_raise | apply good_draw | apply good_putData | apply good_modSys | apply good_cutFlash | apply good_xspiEffect | apply good_ite | apply goodNext_ite | refine (goodNext_next _).2 ?_)
    | (intro _; intros; dsimp only) | (intro _; intros) | with_reducible refine good_of_fst (by assumption) ?_ | with_reducible refine good_of_snd (by assumption) ?_ | split | dsimp only | (rename_i hq; split at hq) | (rename_i hq; cases hq)

theorem good_execFirmwareUpload (authenticated : Bool) (image : List Byte) (ok : Bool) (s : State) (h : GoodS qq s) :
    GoodNext qq (execFirmwareUpload authenticated image ok s) := by
  unfold execFirmwareUpload
  try dsimp only
  repeat' first
    | (with_reducible first | assumption | apply good_setFlash | apply good_eraseFlash | apply good_appendRecord | apply good_ite | apply goodNext_ite | refine (goodNext_next _).2 ?_)
    | (intro _; intros; dsimp only) | (intro _; intros) | split | dsimp only

theorem good_execTrialReset (s : State) (h : GoodS qq s) :
    GoodNext qq (execTrialReset s) := by
  unfold execTrialReset
  try dsimp only
  repeat' first
    | (with_reducible first | assumption | apply good_requestWarm | apply good_ite | apply goodNext_ite | refine (goodNext_next _).2 ?_)
    | (intro _; intros; dsimp only) | (intro _; intros) | split | dsimp only

theorem good_execTrialConfirm (s : State) (h : GoodS qq s) :
    GoodNext qq (execTrialConfirm s) := by
  unfold execTrialConfirm
  try dsimp only
  repeat' first
    | (with_reducible first | assumption | apply good_appendRecord | apply good_ite | apply goodNext_ite | refine (goodNext_next _).2 ?_)
    | (intro _; intros; dsimp only) | (intro _; intros) | split | dsimp only

theorem good_execProvisioningBundle (b : Bundle) (signedOk wrappedOk authenticated : Bool) (s : State) (h : GoodS qq s) :
    GoodNext qq (execProvisioningBundle b signedOk wrappedOk authenticated s) := by
  unfold execProvisioningBundle
  try dsimp only
  repeat' first
    | (with_reducible first | assumption | apply good_draw | apply good_modSys | apply good_fillFlash | apply good_ite | apply goodNext_ite | refine (goodNext_next _).2 ?_)
    | (intro _; intros; dsimp only) | (intro _; intros) | split | dsimp only

theorem good_execCommissioningWrite (authenticated : Bool) (record : List Setting) (s : State) (h : GoodS qq s) :
    GoodNext qq (execCommissioningWrite authenticated record s) := by
  unfold execCommissioningWrite
  try dsimp only
  repeat' first
    | (with_reducible first | assumption | apply good_draw | apply good_modSys | apply good_fillFlash | apply good_ite | apply goodNext_ite | refine (goodNext_next _).2 ?_)
    | (intro _; intros; dsimp only) | (intro _; intros) | split | dsimp only

end Sys2Proof.Machine
end

