-- ==== Sys2Proof/Laws/KeepReg.lean ====
section
/-! SUPPORT. What Keep.lean says of the named operations, for the reads and writes of registers. -/
namespace Sys2Proof.Machine

open Sys2Proof

variable {qq : List Instr}

/-! RegView -/

theorem good_claimIrq (s : State) (x : Nat) (h : GoodS qq s) :
    GoodS qq (claimIrq s x).2 := by
  unfold claimIrq
  try dsimp only
  repeat' first
    | (with_reducible first | assumption | apply good_modSys | apply good_ite | apply goodNext_ite | refine good_filterMem _ ?_ | refine good_filterRegs _ ?_)
    | (intro _; intros; dsimp only) | (intro _; intros) | split | dsimp only

theorem good_completeIrq (s : State) (x n : Nat) (h : GoodS qq s) :
    GoodS qq (completeIrq s x n) := by
  unfold completeIrq
  try dsimp only
  repeat' first
    | (with_reducible first | assumption | apply good_modSys | apply good_ite | apply goodNext_ite | refine good_filterMem _ ?_ | refine good_filterRegs _ ?_)
    | (intro _; intros; dsimp only) | (intro _; intros) | split | dsimp only

theorem good_readEffect (s : State) (a : Nat) (r : RegSpec) (h : GoodS qq s) :
    GoodS qq (readEffect s a r) := by
  unfold readEffect
  try dsimp only
  repeat' first
    | (with_reducible first | assumption | apply good_setReg | apply good_draw | apply good_setCcSet | apply good_latchPtp | apply good_modHld | apply good_ite | apply goodNext_ite)
    | (intro _; intros; dsimp only) | (intro _; intros) | split | dsimp only

theorem good_readReg (s : State) (a : Nat) (h : GoodS qq s) :
    GoodS qq (readReg s a).2 := by
  unfold readReg
  try dsimp only
  repeat' first
    | (with_reducible first | assumption | apply good_setReg | apply good_countHeld | apply good_claimIrq | apply good_readEffect | apply good_ite | apply goodNext_ite)
    | (intro _; intros; dsimp only) | (intro _; intros) | with_reducible refine good_of_fst (by assumption) ?_ | with_reducible refine good_of_snd (by assumption) ?_ | split | dsimp only | (rename_i hq; split at hq) | (rename_i hq; cases hq)

theorem good_readControl (who : Requester) (a size : Nat) (s : State) (h : GoodS qq s) :
    GoodS qq (readControl who a size s) := by
  unfold readControl
  try dsimp only
  repeat' first
    | (with_reducible first | assumption | apply good_answer | apply good_busError | apply good_readReg | apply good_ite | apply goodNext_ite | refine good_each _ _ _ ?_ ?_)
    | (intro _; intros; dsimp only) | (intro _; intros) | split | dsimp only

theorem good_beyondControl (who : Requester) (s : State) (f : Nat → State) (h : GoodS qq s) (hf : ∀ m0, GoodS qq (f m0)) :
    GoodS qq (beyondControl who s f) := by
  unfold beyondControl
  try dsimp only
  repeat' first
    | (with_reducible first | assumption | apply good_busError)
    | with_reducible apply hf
    | (intro _; intros; dsimp only) | (intro _; intros) | with_reducible refine good_of_fst (by assumption) ?_ | with_reducible refine good_of_snd (by assumption) ?_ | split | dsimp only | (rename_i hq; split at hq) | (rename_i hq; cases hq)

theorem good_execRegisterReadClear (who : Requester) (place : RegPlace) (size : Nat) (s : State) (h : GoodS qq s) :
    GoodNext qq (execRegisterReadClear who place size s) := by
  unfold execRegisterReadClear
  try dsimp only
  repeat' first
    | (with_reducible first | assumption | apply good_answer | apply good_busError | apply good_pageFault | apply good_ctlAccess | apply good_readControl | apply good_beyondControl | apply good_ite | apply goodNext_ite | refine (goodNext_next _).2 ?_)
    | (intro _; intros; dsimp only) | (intro _; intros) | with_reducible refine good_of_fst (by assumption) ?_ | with_reducible refine good_of_snd (by assumption) ?_ | split | dsimp only | (rename_i hq; split at hq) | (rename_i hq; cases hq)

/-! RegWrite -/

theorem good_writeSecDebug (s : State) (v : Nat) (h : GoodS qq s) :
    GoodS qq (writeSecDebug s v) := by
  unfold writeSecDebug
  try dsimp only
  repeat' first
    | (with_reducible first | assumption | apply good_modSys | apply good_ite | apply goodNext_ite)
    | (intro _; intros; dsimp only) | (intro _; intros) | split | dsimp only

theorem good_writeSecTail (s : State) (v : Nat) (h : GoodS qq s) :
    GoodS qq (writeSecTail s v) := by
  unfold writeSecTail
  try dsimp only
  repeat' first
    | (with_reducible first | assumption | apply good_setReg | apply good_modSys)
    | (intro _; intros; dsimp only) | (intro _; intros) | split | dsimp only

theorem good_execSecDebugLock (who : Requester) (val : BitVec 32) (s : State) (h : GoodS qq s) :
    GoodNext qq (execSecDebugLock who val s) := by
  unfold execSecDebugLock
  try dsimp only
  repeat' first
    | (with_reducible first | assumption | apply good_writeGuard | apply good_writeSecDebug | refine (goodNext_next _).2 ?_)
    | (intro _; intros; dsimp only) | (intro _; intros) | split | dsimp only

theorem good_execSecCommandSubmit (who : Requester) (val : BitVec 32) (s : State) (h : GoodS qq s) :
    GoodNext qq (execSecCommandSubmit who val s) := by
  unfold execSecCommandSubmit
  try dsimp only
  repeat' first
    | (with_reducible first | assumption | apply good_writeGuard | apply good_writeSecTail | refine (goodNext_next _).2 ?_)
    | (intro _; intros; dsimp only) | (intro _; intros) | split | dsimp only

theorem good_execSecCommandDone (s : State) (h : GoodS qq s) :
    GoodNext qq (execSecCommandDone s) := by
  unfold execSecCommandDone
  try dsimp only
  repeat' first
    | (with_reducible first | assumption | apply good_irq | apply good_modSys | apply good_jump | apply good_ite | apply goodNext_ite | refine good_each _ _ _ ?_ ?_ | refine (goodNext_next _).2 ?_)
    | (intro _; intros; dsimp only) | (intro _; intros) | split | dsimp only

theorem good_execSecurityEngineReady (s : State) (h : GoodS qq s) :
    GoodNext qq (execSecurityEngineReady s) := by
  unfold execSecurityEngineReady
  try dsimp only
  repeat' first
    | (with_reducible first | assumption | apply good_accepted | apply good_modSys | apply good_startInsertion | apply good_startFail | apply good_ite | apply goodNext_ite | refine (goodNext_next _).2 ?_)
    | (intro _; intros; dsimp only) | (intro _; intros) | split | dsimp only

theorem good_execDebugUnlock (accepted : Bool) (s : State) (h : GoodS qq s) :
    GoodNext qq (execDebugUnlock accepted s) := by
  unfold execDebugUnlock
  try dsimp only
  repeat' first
    | (with_reducible first | assumption | apply good_accepted | apply good_modSys | apply good_ite | apply goodNext_ite | refine (goodNext_next _).2 ?_)
    | (intro _; intros; dsimp only) | (intro _; intros) | split | dsimp only

theorem good_execSysIrqClaim (who : Requester) (ctx : Fin 8) (s : State) (h : GoodS qq s) :
    GoodNext qq (execSysIrqClaim who ctx s) := by
  unfold execSysIrqClaim
  try dsimp only
  repeat' first
    | (with_reducible first | assumption | apply good_answer | apply good_busError | apply good_claimIrq | apply good_ite | apply goodNext_ite | refine good_each _ _ _ ?_ ?_ | refine (goodNext_next _).2 ?_)
    | (intro _; intros; dsimp only) | (intro _; intros) | split | dsimp only

theorem good_execSysIrqComplete (who : Requester) (ctx : Fin 8) (val : BitVec 32) (s : State) (h : GoodS qq s) :
    GoodNext qq (execSysIrqComplete who ctx val s) := by
  unfold execSysIrqComplete
  try dsimp only
  repeat' first
    | (with_reducible first | assumption | apply good_writeGuard | apply good_completeIrq | refine (goodNext_next _).2 ?_)
    | (intro _; intros; dsimp only) | (intro _; intros) | split | dsimp only

theorem good_writeSys (s : State) (a v : Nat) (h : GoodS qq s) :
    ∀ t, writeSys s a v = some t → GoodS qq t := by
  intro t ht
  unfold writeSys at ht
  try dsimp only at ht
  try dsimp only
  repeat' first
    | (with_reducible first | assumption | apply good_writeRstCtrl | apply good_writeWdog | apply good_writeWdogCfg | apply good_writeXspiCmd | apply good_completeIrq | apply good_writeSecDebug | apply good_writeSecTail | apply good_ite | apply goodNext_ite) | cases ht | split at ht
    | (intro _; intros; dsimp only) | (intro _; intros) | split | dsimp only

theorem good_writeClk (s : State) (a v : Nat) (h : GoodS qq s) :
    ∀ t, writeClk s a v = some t → GoodS qq t := by
  intro t ht
  unfold writeClk at ht
  try dsimp only at ht
  try dsimp only
  repeat' first
    | (with_reducible first | assumption | apply good_each | apply good_setReg | apply good_requestChange | apply good_ite | apply goodNext_ite | refine good_each _ _ _ ?_ ?_ | refine good_filterMem _ ?_ | refine good_filterRegs _ ?_) | cases ht | split at ht
    | (intro _; intros; dsimp only) | (intro _; intros) | split | dsimp only

theorem good_clearDomFlags (s : State) (d v : Nat) (h : GoodS qq s) :
    GoodS qq (clearDomFlags s d v) := by
  unfold clearDomFlags
  try dsimp only
  repeat' first
    | (with_reducible first | assumption | apply good_modDom)
    | (intro _; intros; dsimp only) | (intro _; intros) | split | dsimp only

theorem good_writePwr (s : State) (a v : Nat) (h : GoodS qq s) :
    ∀ t, writePwr s a v = some t → GoodS qq t := by
  intro t ht
  unfold writePwr at ht
  try dsimp only at ht
  try dsimp only
  repeat' first
    | (with_reducible first | assumption | apply good_writeDomCtrl | apply good_groupTarget | apply good_clearDomFlags | apply good_ite | apply goodNext_ite) | cases ht | split at ht
    | (intro _; intros; dsimp only) | (intro _; intros) | split | dsimp only

theorem good_writeHldSgeMem (s : State) (a v : Nat) (h : GoodS qq s) :
    ∀ t, writeHldSgeMem s a v = some t → GoodS qq t := by
  intro t ht
  unfold writeHldSgeMem at ht
  try dsimp only at ht
  try dsimp only
  repeat' first
    | (with_reducible first | assumption | apply good_writeSliceCfg | apply good_writeMemIrqStat | apply good_writeSageWdog | apply good_writeSageHb | apply good_writeSageCcAdd | apply good_writeHldCtrl | apply good_writeHldTh | apply good_writeHldThCrit | apply good_ite | apply goodNext_ite) | cases ht | split at ht
    | (intro _; intros; dsimp only) | (intro _; intros) | split | dsimp only

theorem good_clearUnder (s : State) (v : Nat) (h : GoodS qq s) :
    GoodS qq (clearUnder s v) := by
  unfold clearUnder
  try dsimp only
  repeat' first
    | (with_reducible first | assumption | apply good_setCcSet | apply good_ite | apply goodNext_ite)
    | (intro _; intros; dsimp only) | (intro _; intros) | split | dsimp only

theorem good_writeFab (s : State) (a v : Nat) (h : GoodS qq s) :
    ∀ t, writeFab s a v = some t → GoodS qq t := by
  intro t ht
  unfold writeFab at ht
  try dsimp only at ht
  try dsimp only
  repeat' first
    | (with_reducible first | assumption | apply good_writeCcSet | apply good_writeCcAdd | apply good_writeRtData | apply good_writeRtRemote | apply good_writeLearn | apply good_writeItdCtrl | apply good_writeFabCtrl | apply good_clearUnder | apply good_ite | apply goodNext_ite) | cases ht | split at ht
    | (intro _; intros; dsimp only) | (intro _; intros) | split | dsimp only

theorem good_writePorts (s : State) (a v : Nat) (h : GoodS qq s) :
    ∀ t, writePorts s a v = some t → GoodS qq t := by
  intro t ht
  unfold writePorts at ht
  try dsimp only at ht
  try dsimp only
  repeat' first
    | (with_reducible first | assumption | apply good_draw | apply good_writeOutCmd | apply good_writeSafeCut | apply good_writeCabTest | apply good_writeGpo | apply good_writeSlotCtrl | apply good_writePortCtrl | apply good_writeBayCtrl | apply good_ite | apply goodNext_ite | refine (goodNext_next _).2 ?_) | cases ht | split at ht
    | (intro _; intros; dsimp only) | (intro _; intros) | split | dsimp only

theorem good_writePxc (s : State) (n o v : Nat) (h : GoodS qq s) :
    ∀ t, writePxc s n o v = some t → GoodS qq t := by
  intro t ht
  unfold writePxc at ht
  try dsimp only at ht
  try dsimp only
  repeat' first
    | (with_reducible first | assumption | apply good_setThread | apply good_writeThrCtrl | apply good_writeCoreCtrl | apply good_writeSwi | apply good_ite | apply goodNext_ite) | cases ht | split at ht
    | (intro _; intros; dsimp only) | (intro _; intros) | split | dsimp only

theorem good_writeCluster (s : State) (a v : Nat) (h : GoodS qq s) :
    ∀ t, writeCluster s a v = some t → GoodS qq t := by
  intro t ht
  unfold writeCluster at ht
  try dsimp only at ht
  try dsimp only
  repeat' first
    | (with_reducible first | assumption | apply good_writeCommit | apply good_writeQmask | apply good_writeTail | apply good_writeDmaCtrl | apply good_writeRingSize | apply good_ite | apply goodNext_ite) | cases ht | split at ht
    | (intro _; intros; dsimp only) | (intro _; intros) | split | dsimp only

theorem good_specialWrite (s : State) (a v : Nat) (h : GoodS qq s) :
    ∀ t, specialWrite s a v = some t → GoodS qq t := by
  intro t ht
  unfold specialWrite at ht
  try dsimp only at ht
  try dsimp only
  repeat' first
    | (with_reducible first | assumption | apply good_ite | apply goodNext_ite)
    | exact good_writeSys _ _ _ (by assumption) _ (by assumption)
    | exact good_writeClk _ _ _ (by assumption) _ (by assumption)
    | exact good_writePwr _ _ _ (by assumption) _ (by assumption)
    | exact good_writeHldSgeMem _ _ _ (by assumption) _ (by assumption)
    | exact good_writeFab _ _ _ (by assumption) _ (by assumption)
    | exact good_writePorts _ _ _ (by assumption) _ (by assumption)
    | exact good_writePxc _ _ _ _ (by assumption) _ (by assumption)
    | exact good_writeCluster _ _ _ (by assumption) _ (by assumption) | cases ht | split at ht
    | (intro _; intros; dsimp only) | (intro _; intros) | split | dsimp only

theorem good_afterWrite (s : State) (a : Nat) (h : GoodS qq s) :
    GoodS qq (afterWrite s a) := by
  unfold afterWrite
  try dsimp only
  repeat' first
    | (with_reducible first | assumption | apply good_recap | apply good_checkWarn | apply good_modHld | apply good_pumpClips | apply good_stopView | apply good_followDirection | apply good_vehLink | apply good_ite | apply goodNext_ite)
    | (intro _; intros; dsimp only) | (intro _; intros) | split | dsimp only

theorem good_storeReg (s : State) (a : Nat) (r : RegSpec) (v : Word) (h : GoodS qq s) :
    GoodS qq (storeReg s a r v) := by
  unfold storeReg
  exact good_getD (good_specialWrite s a _ h) (good_afterWrite _ _ (good_plainWrite _ _ _ _ h))

theorem good_writeReg (s : State) (a : Nat) (v : Word) (h : GoodS qq s) :
    GoodS qq (writeReg s a v) := by
  unfold writeReg
  try dsimp only
  repeat' first
    | (with_reducible first | assumption | apply good_storeReg)
    | (intro _; intros; dsimp only) | (intro _; intros) | with_reducible refine good_of_fst (by assumption) ?_ | with_reducible refine good_of_snd (by assumption) ?_ | split | dsimp only | (rename_i hq; split at hq) | (rename_i hq; cases hq)

theorem good_writeControl (who : Requester) (a size : Nat) (v : Word) (s : State) (h : GoodS qq s) :
    GoodS qq (writeControl who a size v s) := by
  unfold writeControl
  try dsimp only
  repeat' first
    | (with_reducible first | assumption | apply good_answer | apply good_busError | apply good_writeReg | apply good_ite | apply goodNext_ite)
    | (intro _; intros; dsimp only) | (intro _; intros) | split | dsimp only

theorem good_execRegisterWrite (who : Requester) (place : RegPlace) (size : Nat) (val : BitVec 64) (s : State) (h : GoodS qq s) :
    GoodNext qq (execRegisterWrite who place size val s) := by
  unfold execRegisterWrite
  try dsimp only
  repeat' first
    | (with_reducible first | assumption | apply good_busError | apply good_pageFault | apply good_writeCsr | apply good_ctlAccess | apply good_beyondControl | apply good_writeControl | apply good_ite | apply goodNext_ite | refine (goodNext_next _).2 ?_)
    | (intro _; intros; dsimp only) | (intro _; intros) | with_reducible refine good_of_fst (by assumption) ?_ | with_reducible refine good_of_snd (by assumption) ?_ | split | dsimp only | (rename_i hq; split at hq) | (rename_i hq; cases hq)

theorem good_execMaintLinkChange (up : Bool) (s : State) (h : GoodS qq s) :
    GoodNext qq (execMaintLinkChange up s) := by
  unfold execMaintLinkChange
  try dsimp only
  repeat' first
    | (with_reducible first | assumption | apply good_irq | apply good_modSys | apply good_ite | apply goodNext_ite | refine good_each _ _ _ ?_ ?_ | refine (goodNext_next _).2 ?_)
    | (intro _; intros; dsimp only) | (intro _; intros) | split | dsimp only

theorem good_maintAnswer (req : MaintReq) (s : State) (h : GoodS qq s) :
    GoodNext qq (maintAnswer req s) := by
  unfold maintAnswer
  try dsimp only
  repeat' first
    | (with_reducible first | assumption | apply good_answer | apply good_busError | apply good_modBay | apply good_modSys | apply good_readControl | apply good_ite | apply goodNext_ite | refine (goodNext_next _).2 ?_)
    | (intro _; intros; dsimp only) | (intro _; intros) | with_reducible refine good_of_fst (by assumption) ?_ | with_reducible refine good_of_snd (by assumption) ?_ | split | dsimp only | (rename_i hq; split at hq) | (rename_i hq; cases hq)

theorem good_execMaintRequest (authenticated : Bool) (req : MaintReq) (s : State) (h : GoodS qq s) :
    GoodNext qq (execMaintRequest authenticated req s) := by
  unfold execMaintRequest
  try dsimp only
  repeat' first
    | (with_reducible first | assumption | apply good_maintAnswer | apply good_ite | apply goodNext_ite | refine (goodNext_next _).2 ?_)
    | (intro _; intros; dsimp only) | (intro _; intros) | split | dsimp only

theorem good_execHostLinkChange (up : Bool) (s : State) (h : GoodS qq s) :
    GoodNext qq (execHostLinkChange up s) := by
  unfold execHostLinkChange
  try dsimp only
  repeat' first
    | (with_reducible first | assumption | apply good_irq | apply good_modSys | apply good_ite | apply goodNext_ite | refine (goodNext_next _).2 ?_)
    | (intro _; intros; dsimp only) | (intro _; intros) | split | dsimp only

theorem good_execHostBarAccess (bar : HostBar) (offset : Nat) (wr : Option (List Byte)) (len : Nat) (s : State) (h : GoodS qq s) :
    GoodNext qq (execHostBarAccess bar offset wr len s) := by
  unfold execHostBarAccess
  try dsimp only
  repeat' first
    | (with_reducible first | assumption | apply good_answer | apply good_busError | apply good_irq | apply good_uncorrectable | apply good_putData | apply good_ite | apply goodNext_ite | refine (goodNext_next _).2 ?_)
    | (intro _; intros; dsimp only) | (intro _; intros) | with_reducible refine good_of_fst (by assumption) ?_ | with_reducible refine good_of_snd (by assumption) ?_ | split | dsimp only | (rename_i hq; split at hq) | (rename_i hq; cases hq)

end Sys2Proof.Machine
end

