-- ==== Sys2Proof/Laws/KeepExec.lean ====
section
/-! SUPPORT. Every command ends in a next state, which keeps the queue and the canonical forms. -/
namespace Sys2Proof.Machine

open Sys2Proof

variable {qq : List Instr}

theorem good_exec (i : Instr) (s : State) (h : GoodS qq s) : GoodNext qq (exec i s) := by
  cases i with
  | registerWrite _ _ _ _ => exact good_execRegisterWrite _ _ _ _ _ h
  | sageListTake _ _ => exact good_execSageListTake _ _ _ h
  | egoSpeedStale => exact good_execEgoSpeedStale _ h
  | cabDisagreeTimeout _ => exact good_execCabDisagreeTimeout _ _ h
  | patternPhaseTimer => exact good_execPatternPhaseTimer _ h
  | detectionTimeout => exact good_execDetectionTimeout _ h
  | noVideoTimeout _ => exact good_execNoVideoTimeout _ _ h
  | countWindowClose _ => exact good_execCountWindowClose _ _ h
  | countWindowLong _ => exact good_execCountWindowLong _ _ h
  | clipPostTriggerEnd _ => exact good_execClipPostTriggerEnd _ _ h
  | narrationStart => exact good_execNarrationStart _ h
  | narrationToken _ _ => exact good_execNarrationToken _ _ _ h
  | narrationSegmentTimer => exact good_execNarrationSegmentTimer _ h
  | camFrameReceived _ _ => exact good_execCamFrameReceived _ _ _ h
  | reorderWaitExpiry _ => exact good_execReorderWaitExpiry _ _ h
  | decodeStart _ _ => exact good_execDecodeStart _ _ _ h
  | decodeComplete _ => exact good_execDecodeComplete _ _ h
  | decoderBitstreamError _ => exact good_execDecoderBitstreamError _ _ h
  | decoderWatchdog _ _ => exact good_execDecoderWatchdog _ _ _ h
  | slotStart _ _ _ => exact good_execSlotStart _ _ _ _ h
  | slotStop _ _ _ => exact good_execSlotStop _ _ _ _ h
  | rtspResponse _ _ => exact good_execRtspResponse _ _ _ h
  | rtspSessionClosed _ => exact good_execRtspSessionClosed _ _ h
  | rtspAnswerTimeout _ => exact good_execRtspAnswerTimeout _ _ h
  | irapTimeout _ => exact good_execIrapTimeout _ _ h
  | connectBackoffExpiry _ => exact good_execConnectBackoffExpiry _ _ h
  | rtspKeepalive _ => exact good_execRtspKeepalive _ _ h
  | slotLostTimeout _ => exact good_execSlotLostTimeout _ _ h
  | rtcpReceiverReport _ => exact good_execRtcpReceiverReport _ _ h
  | camLinkChange _ _ => exact good_execCamLinkChange _ _ _ h
  | camPortEnable _ _ _ => exact good_execCamPortEnable _ _ _ _ h
  | shedEpoch => exact good_execShedEpoch _ h
  | slotRateWindow _ => exact good_execSlotRateWindow _ _ h
  | degradationRecord => exact good_execDegradationRecord _ h
  | vehFrameReceived _ => exact good_execVehFrameReceived _ _ h
  | vehicleStateTelegram _ => exact good_execVehicleStateTelegram _ _ h
  | warningDatasetCycle => exact good_execWarningDatasetCycle _ h
  | mdReply _ => exact good_execMdReply _ _ h
  | mdResendTimer _ => exact good_execMdResendTimer _ _ h
  | operatorRequest _ _ _ _ => exact good_execOperatorRequest _ _ _ _ _ h
  | vehLinkChange _ => exact good_execVehLinkChange _ _ h
  | cabInputDebounced _ _ => exact good_execCabInputDebounced _ _ _ h
  | inputChatter _ => exact good_execInputChatter _ _ h
  | cabOutCommand _ _ => exact good_execCabOutCommand _ _ _ h
  | safeCutWrite _ _ => exact good_execSafeCutWrite _ _ _ h
  | cabSelftest _ _ _ => exact good_execCabSelftest _ _ _ _ h
  | selftestRepeat _ => exact good_execSelftestRepeat _ _ h
  | readbackChange _ _ => exact good_execReadbackChange _ _ _ h
  | readbackMismatchTimeout _ => exact good_execReadbackMismatchTimeout _ _ h
  | testPulse _ => exact good_execTestPulse _ _ h
  | testPulseEnd _ => exact good_execTestPulseEnd _ _ h
  | gpoWrite _ _ => exact good_execGpoWrite _ _ _ h
  | ptpSync _ _ _ => exact good_execPtpSync _ _ _ _ h
  | ptpAnnounce _ _ _ => exact good_execPtpAnnounce _ _ _ _ h
  | ptpSyncTimeout => exact good_execPtpSyncTimeout _ h
  | holdoverExpiry => exact good_execHoldoverExpiry _ h
  | masterInterval => exact good_execMasterInterval _ h
  | timeStepFlagExpiry => exact good_execTimeStepFlagExpiry _ h
  | encPictureDone _ _ => exact good_execEncPictureDone _ _ _ h
  | maintRequest _ _ => exact good_execMaintRequest _ _ _ h
  | debugUnlock _ => exact good_execDebugUnlock _ _ h
  | hostLinkChange _ => exact good_execHostLinkChange _ _ h
  | bayPresentChange _ => exact good_execBayPresentChange _ _ h
  | bayLatchChange _ => exact good_execBayLatchChange _ _ h
  | bayCertReadDone _ _ => exact good_execBayCertReadDone _ _ _ h
  | bayChallengeDone _ _ => exact good_execBayChallengeDone _ _ _ h
  | bayAuthRetry => exact good_execBayAuthRetry _ h
  | bayLinkTrained _ _ => exact good_execBayLinkTrained _ _ _ h
  | bayControllerReady _ => exact good_execBayControllerReady _ _ h
  | bayIdentifyDone _ => exact good_execBayIdentifyDone _ _ h
  | bayReauthTimer => exact good_execBayReauthTimer _ h
  | bayHourly _ => exact good_execBayHourly _ _ h
  | nvmeWriteComplete _ _ => exact good_execNvmeWriteComplete _ _ _ h
  | nvmeWriteFail _ _ => exact good_execNvmeWriteFail _ _ _ h
  | journalBlockTimer => exact good_execJournalBlockTimer _ h
  | nvmeFlushComplete => exact good_execNvmeFlushComplete _ h
  | ledgerAddDone => exact good_execLedgerAddDone _ h
  | nvmeShutdownComplete => exact good_execNvmeShutdownComplete _ h
  | bayEject _ _ => exact good_execBayEject _ _ _ h
  | bayRemoveDeadline => exact good_execBayRemoveDeadline _ h
  | bayLinkDown _ => exact good_execBayLinkDown _ _ h
  | bayRecoveryAttempt _ => exact good_execBayRecoveryAttempt _ _ h
  | write _ => exact good_execWrite _ _ h
  | readReq _ => exact good_execReadReq _ _ h
  | readResp _ => exact good_execReadResp _ _ h
  | atomic _ => exact good_execAtomic _ _ h
  | atomicResp _ => exact good_execAtomicResp _ _ h
  | msg _ => exact good_execMsg _ _ h
  | signal _ => exact good_execSignal _ _ h
  | heartbeat _ _ => exact good_execHeartbeat _ _ _ h
  | inaug _ _ => exact good_execInaug _ _ _ h
  | remap _ _ => exact good_execRemap _ _ _ h
  | mgmt _ => exact good_execMgmt _ _ h
  | fabCcSet _ _ => exact good_execFabCcSet _ _ _ h
  | fabCcAdd _ _ => exact good_execFabCcAdd _ _ _ h
  | fabRtDataWrite _ _ => exact good_execFabRtDataWrite _ _ _ h
  | fabRtRemoteWrite _ _ => exact good_execFabRtRemoteWrite _ _ _ h
  | fabInaugStart _ _ => exact good_execFabInaugStart _ _ _ h
  | itdPortEnable _ _ _ => exact good_execItdPortEnable _ _ _ _ h
  | itdLearnWrite _ _ => exact good_execItdLearnWrite _ _ _ h
  | itardPacketReceived _ _ _ _ => exact good_execItardPacketReceived _ _ _ _ _ h
  | itardAck _ _ => exact good_execItardAck _ _ _ h
  | itardNak _ _ => exact good_execItardNak _ _ _ h
  | itardRetrainDone _ _ => exact good_execItardRetrainDone _ _ _ h
  | itardAckTimer _ => exact good_execItardAckTimer _ _ h
  | itardPortDown _ _ => exact good_execItardPortDown _ _ _ h
  | learnSuppressExpiry _ => exact good_execLearnSuppressExpiry _ _ h
  | learnWindowEnd => exact good_execLearnWindowEnd _ h
  | inaugComplete => exact good_execInaugComplete _ h
  | cmapGather _ _ => exact good_execCmapGather _ _ _ h
  | heartbeatSend => exact good_execHeartbeatSend _ h
  | heartbeatMissed _ _ => exact good_execHeartbeatMissed _ _ _ h
  | add _ _ _ _ => exact good_execAdd _ _ _ _ _ h
  | sub _ _ _ _ => exact good_execSub _ _ _ _ _ h
  | and _ _ _ _ => exact good_execAnd _ _ _ _ _ h
  | or _ _ _ _ => exact good_execOr _ _ _ _ _ h
  | xor _ _ _ _ => exact good_execXor _ _ _ _ _ h
  | sll _ _ _ _ => exact good_execSll _ _ _ _ _ h
  | srl _ _ _ _ => exact good_execSrl _ _ _ _ _ h
  | sra _ _ _ _ => exact good_execSra _ _ _ _ _ h
  | slt _ _ _ _ => exact good_execSlt _ _ _ _ _ h
  | sltu _ _ _ _ => exact good_execSltu _ _ _ _ _ h
  | min _ _ _ _ => exact good_execMin _ _ _ _ _ h
  | max _ _ _ _ => exact good_execMax _ _ _ _ _ h
  | minu _ _ _ _ => exact good_execMinu _ _ _ _ _ h
  | maxu _ _ _ _ => exact good_execMaxu _ _ _ _ _ h
  | andn _ _ _ _ => exact good_execAndn _ _ _ _ _ h
  | sel _ _ _ _ => exact good_execSel _ _ _ _ _ h
  | mul _ _ _ _ => exact good_execMul _ _ _ _ _ h
  | mulh _ _ _ _ => exact good_execMulh _ _ _ _ _ h
  | mulhu _ _ _ _ => exact good_execMulhu _ _ _ _ _ h
  | mulhsu _ _ _ _ => exact good_execMulhsu _ _ _ _ _ h
  | div _ _ _ _ => exact good_execDiv _ _ _ _ _ h
  | divu _ _ _ _ => exact good_execDivu _ _ _ _ _ h
  | rem _ _ _ _ => exact good_execRem _ _ _ _ _ h
  | remu _ _ _ _ => exact good_execRemu _ _ _ _ _ h
  | clz _ _ _ => exact good_execClz _ _ _ _ h
  | ctz _ _ _ => exact good_execCtz _ _ _ _ h
  | popc _ _ _ => exact good_execPopc _ _ _ _ h
  | rev8 _ _ _ => exact good_execRev8 _ _ _ _ h
  | ror _ _ _ _ => exact good_execRor _ _ _ _ _ h
  | rol _ _ _ _ => exact good_execRol _ _ _ _ _ h
  | sextB _ _ _ => exact good_execSextB _ _ _ _ h
  | sextH _ _ _ => exact good_execSextH _ _ _ _ h
  | sextW _ _ _ => exact good_execSextW _ _ _ _ h
  | zextW _ _ _ => exact good_execZextW _ _ _ _ h
  | mfc _ _ _ => exact good_execMfc _ _ _ _ h
  | mtc _ _ _ => exact good_execMtc _ _ _ _ h
  | addi _ _ _ _ => exact good_execAddi _ _ _ _ _ h
  | andi _ _ _ _ => exact good_execAndi _ _ _ _ _ h
  | ori _ _ _ _ => exact good_execOri _ _ _ _ _ h
  | xori _ _ _ _ => exact good_execXori _ _ _ _ _ h
  | slli _ _ _ _ => exact good_execSlli _ _ _ _ _ h
  | srli _ _ _ _ => exact good_execSrli _ _ _ _ _ h
  | srai _ _ _ _ => exact good_execSrai _ _ _ _ _ h
  | slti _ _ _ _ => exact good_execSlti _ _ _ _ _ h
  | sltiu _ _ _ _ => exact good_execSltiu _ _ _ _ _ h
  | muli _ _ _ _ => exact good_execMuli _ _ _ _ _ h
  | sli _ _ _ => exact good_execSli _ _ _ _ h
  | sins1 _ _ _ => exact good_execSins1 _ _ _ _ h
  | sins2 _ _ _ => exact good_execSins2 _ _ _ _ h
  | sins3 _ _ _ => exact good_execSins3 _ _ _ _ h
  | spc _ _ _ => exact good_execSpc _ _ _ _ h
  | ldB _ _ _ _ => exact good_execLdB _ _ _ _ _ h
  | ldBu _ _ _ _ => exact good_execLdBu _ _ _ _ _ h
  | ldH _ _ _ _ => exact good_execLdH _ _ _ _ _ h
  | ldHu _ _ _ _ => exact good_execLdHu _ _ _ _ _ h
  | ldW _ _ _ _ => exact good_execLdW _ _ _ _ _ h
  | ldWu _ _ _ _ => exact good_execLdWu _ _ _ _ _ h
  | ldD _ _ _ _ => exact good_execLdD _ _ _ _ _ h
  | stB _ _ _ _ => exact good_execStB _ _ _ _ _ h
  | stH _ _ _ _ => exact good_execStH _ _ _ _ _ h
  | stW _ _ _ _ => exact good_execStW _ _ _ _ _ h
  | stD _ _ _ _ => exact good_execStD _ _ _ _ _ h
  | amoaddD _ _ _ _ => exact good_execAmoaddD _ _ _ _ _ h
  | amoswapD _ _ _ _ => exact good_execAmoswapD _ _ _ _ _ h
  | amocasD _ _ _ _ => exact good_execAmocasD _ _ _ _ _ h
  | sig _ _ _ => exact good_execSig _ _ _ _ h
  | ccadd _ _ _ => exact good_execCcadd _ _ _ _ h
  | ccset _ _ _ => exact good_execCcset _ _ _ _ h
  | ccrd _ _ _ => exact good_execCcrd _ _ _ _ h
  | ccwait _ _ _ _ => exact good_execCcwait _ _ _ _ _ h
  | ccwaitTimeout _ _ => exact good_execCcwaitTimeout _ _ _ h
  | fence _ => exact good_execFence _ _ h
  | icinv _ _ _ => exact good_execIcinv _ _ _ _ h
  | ldg _ _ _ _ => exact good_execLdg _ _ _ _ _ h
  | stg _ _ _ _ => exact good_execStg _ _ _ _ _ h
  | beq _ _ _ _ => exact good_execBeq _ _ _ _ _ h
  | bne _ _ _ _ => exact good_execBne _ _ _ _ _ h
  | blt _ _ _ _ => exact good_execBlt _ _ _ _ _ h
  | bge _ _ _ _ => exact good_execBge _ _ _ _ _ h
  | bltu _ _ _ _ => exact good_execBltu _ _ _ _ _ h
  | bgeu _ _ _ _ => exact good_execBgeu _ _ _ _ _ h
  | jmp _ _ => exact good_execJmp _ _ _ h
  | call _ _ => exact good_execCall _ _ _ h
  | jr _ _ => exact good_execJr _ _ _ h
  | jalr _ _ _ => exact good_execJalr _ _ _ _ h
  | loop _ _ _ _ => exact good_execLoop _ _ _ _ _ h
  | loopi _ _ _ _ => exact good_execLoopi _ _ _ _ _ h
  | trap _ _ => exact good_execTrap _ _ _ h
  | brk _ => exact good_execBrk _ _ h
  | rfe _ => exact good_execRfe _ _ h
  | wfi _ => exact good_execWfi _ _ h
  | halt _ => exact good_execHalt _ _ h
  | tconv _ _ _ => exact good_execTconv _ _ _ _ h
  | tmm _ _ _ => exact good_execTmm _ _ _ _ h
  | tpool _ _ _ => exact good_execTpool _ _ _ _ h
  | tdw _ _ _ => exact good_execTdw _ _ _ _ h
  | tload _ _ _ => exact good_execTload _ _ _ _ h
  | vadd _ _ => exact good_execVadd _ _ _ h
  | vsub _ _ => exact good_execVsub _ _ _ h
  | vand _ _ => exact good_execVand _ _ _ h
  | vor _ _ => exact good_execVor _ _ _ h
  | vxor _ _ => exact good_execVxor _ _ _ h
  | vsll _ _ => exact good_execVsll _ _ _ h
  | vsrl _ _ => exact good_execVsrl _ _ _ h
  | vsra _ _ => exact good_execVsra _ _ _ h
  | vmin _ _ => exact good_execVmin _ _ _ h
  | vmax _ _ => exact good_execVmax _ _ _ h
  | vminu _ _ => exact good_execVminu _ _ _ h
  | vmaxu _ _ => exact good_execVmaxu _ _ _ h
  | vsadd _ _ => exact good_execVsadd _ _ _ h
  | vsaddu _ _ => exact good_execVsaddu _ _ _ h
  | vssub _ _ => exact good_execVssub _ _ _ h
  | vssubu _ _ => exact good_execVssubu _ _ _ h
  | vmul _ _ => exact good_execVmul _ _ _ h
  | vmulh _ _ => exact good_execVmulh _ _ _ h
  | vmulhu _ _ => exact good_execVmulhu _ _ _ h
  | vmacc _ _ => exact good_execVmacc _ _ _ h
  | vabsd _ _ => exact good_execVabsd _ _ _ h
  | vsel _ _ => exact good_execVsel _ _ _ h
  | vcmpeq _ _ => exact good_execVcmpeq _ _ _ h
  | vcmpne _ _ => exact good_execVcmpne _ _ _ h
  | vcmplt _ _ => exact good_execVcmplt _ _ _ h
  | vcmpltu _ _ => exact good_execVcmpltu _ _ _ h
  | vcmple _ _ => exact good_execVcmple _ _ _ h
  | vcmpleu _ _ => exact good_execVcmpleu _ _ _ h
  | vmac2 _ _ => exact good_execVmac2 _ _ _ h
  | vmac4 _ _ => exact good_execVmac4 _ _ _ h
  | vwmacc _ _ => exact good_execVwmacc _ _ _ h
  | vaccClr _ _ => exact good_execVaccClr _ _ _ h
  | vaccGet _ _ => exact good_execVaccGet _ _ _ h
  | vaccSet _ _ => exact good_execVaccSet _ _ _ h
  | vnsra _ _ => exact good_execVnsra _ _ _ h
  | vredsum _ _ => exact good_execVredsum _ _ _ h
  | vsetvl _ _ => exact good_execVsetvl _ _ _ h
  | vsetvli _ _ _ _ _ => exact good_execVsetvli _ _ _ _ _ _ h
  | vminiV _ _ _ => exact good_execVminiV _ _ _ _ h
  | vmaxiV _ _ _ => exact good_execVmaxiV _ _ _ _ h
  | vminiR _ _ _ => exact good_execVminiR _ _ _ _ h
  | vmaxiR _ _ _ => exact good_execVmaxiR _ _ _ _ h
  | vfadd _ _ => exact good_execVfadd _ _ _ h
  | vfsub _ _ => exact good_execVfsub _ _ _ h
  | vfmul _ _ => exact good_execVfmul _ _ _ h
  | vfma _ _ => exact good_execVfma _ _ _ h
  | vfmin _ _ => exact good_execVfmin _ _ _ h
  | vfmax _ _ => exact good_execVfmax _ _ _ h
  | vfcmpeq _ _ => exact good_execVfcmpeq _ _ _ h
  | vfcmplt _ _ => exact good_execVfcmplt _ _ _ h
  | vfcmple _ _ => exact good_execVfcmple _ _ _ h
  | vcvtFX _ _ => exact good_execVcvtFX _ _ _ h
  | vcvtXF _ _ => exact good_execVcvtXF _ _ _ h
  | vfwiden _ _ => exact good_execVfwiden _ _ _ h
  | vfnarrow _ _ => exact good_execVfnarrow _ _ _ h
  | vslideup _ _ => exact good_execVslideup _ _ _ h
  | vslidedown _ _ => exact good_execVslidedown _ _ _ h
  | vrgather _ _ => exact good_execVrgather _ _ _ h
  | vbcast _ _ => exact good_execVbcast _ _ _ h
  | vext _ _ => exact good_execVext _ _ _ h
  | vins _ _ => exact good_execVins _ _ _ h
  | vid _ _ => exact good_execVid _ _ _ h
  | pand _ _ => exact good_execPand _ _ _ h
  | por _ _ => exact good_execPor _ _ _ h
  | pxor _ _ => exact good_execPxor _ _ _ h
  | pandn _ _ => exact good_execPandn _ _ _ h
  | pwhile _ _ => exact good_execPwhile _ _ _ h
  | pcount _ _ => exact good_execPcount _ _ _ h
  | pfirst _ _ => exact good_execPfirst _ _ _ h
  | pget _ _ => exact good_execPget _ _ _ h
  | pset _ _ => exact good_execPset _ _ _ h
  | vld _ _ _ => exact good_execVld _ _ _ _ h
  | vlds _ _ _ => exact good_execVlds _ _ _ _ h
  | vgather _ _ _ => exact good_execVgather _ _ _ _ h
  | vst _ _ _ => exact good_execVst _ _ _ _ h
  | vsts _ _ _ => exact good_execVsts _ _ _ _ h
  | vscatter _ _ _ => exact good_execVscatter _ _ _ _ h
  | pld _ _ => exact good_execPld _ _ _ h
  | pst _ _ => exact good_execPst _ _ _ h
  | vlda _ _ _ => exact good_execVlda _ _ _ _ h
  | vsta _ _ _ => exact good_execVsta _ _ _ _ h
  | thrStart _ _ _ _ => exact good_execThrStart _ _ _ _ _ h
  | thrStop _ _ _ _ => exact good_execThrStop _ _ _ _ _ h
  | thrStep _ _ _ _ => exact good_execThrStep _ _ _ _ _ h
  | thrDbg _ _ _ _ => exact good_execThrDbg _ _ _ _ _ h
  | coreIcinv _ _ _ => exact good_execCoreIcinv _ _ _ _ h
  | softwareInterruptSet _ _ _ => exact good_execSoftwareInterruptSet _ _ _ _ h
  | timecmpReached _ _ => exact good_execTimecmpReached _ _ _ h
  | interruptEntry _ _ => exact good_execInterruptEntry _ _ _ h
  | scratchpadInitDone _ => exact good_execScratchpadInitDone _ _ h
  | tensorStart _ => exact good_execTensorStart _ _ h
  | tensorStepDone _ => exact good_execTensorStepDone _ _ h
  | tensorComplete _ => exact good_execTensorComplete _ _ h
  | tensorWatchdog _ => exact good_execTensorWatchdog _ _ h
  | tarQmaskWrite _ _ _ => exact good_execTarQmaskWrite _ _ _ _ h
  | tableMemoryInitDone _ => exact good_execTableMemoryInitDone _ _ h
  | quCommitRequest _ _ _ => exact good_execQuCommitRequest _ _ _ _ h
  | quCommit _ _ => exact good_execQuCommit _ _ _ h
  | adaptationStart => exact good_execAdaptationStart _ h
  | adaptationStop => exact good_execAdaptationStop _ h
  | adaptationEnd _ _ _ => exact good_execAdaptationEnd _ _ _ _ h
  | deltaReset _ => exact good_execDeltaReset _ _ h
  | weightHashCheck _ => exact good_execWeightHashCheck _ _ h
  | dmaWake _ _ _ _ => exact good_execDmaWake _ _ _ _ _ h
  | dmaCopy _ => exact good_execDmaCopy _ _ h
  | dmaCopy2d _ => exact good_execDmaCopy2d _ _ h
  | dmaFill _ => exact good_execDmaFill _ _ h
  | haloCopy _ => exact good_execHaloCopy _ _ h
  | haloCopy2d _ => exact good_execHaloCopy2d _ _ h
  | dmaDescriptorDone _ _ => exact good_execDmaDescriptorDone _ _ _ h
  | dmaConfirmTimeout _ _ => exact good_execDmaConfirmTimeout _ _ _ h
  | dmaResume _ _ _ => exact good_execDmaResume _ _ _ _ h
  | haloResume _ _ _ => exact good_execHaloResume _ _ _ _ h
  | sliceMapWrite _ _ _ => exact good_execSliceMapWrite _ _ _ _ h
  | sramScrub _ _ _ => exact good_execSramScrub _ _ _ _ h
  | dramScrub _ _ _ => exact good_execDramScrub _ _ _ _ h
  | ddrTrainingLost _ => exact good_execDdrTrainingLost _ _ h
  | ddrEccInitDone => exact good_execDdrEccInitDone _ h
  | bankGroupInitDone _ => exact good_execBankGroupInitDone _ _ h
  | clkIslWrite _ _ _ => exact good_execClkIslWrite _ _ _ _ h
  | clkGroupChange _ _ => exact good_execClkGroupChange _ _ _ h
  | freqChangeDue _ => exact good_execFreqChangeDue _ _ h
  | fllLock _ => exact good_execFllLock _ _ h
  | fllLockTimeout _ => exact good_execFllLockTimeout _ _ h
  | guardWindowEnd => exact good_execGuardWindowEnd _ h
  | islandIdleStop _ => exact good_execIslandIdleStop _ _ h
  | islandWake _ => exact good_execIslandWake _ _ h
  | thermalCap _ _ => exact good_execThermalCap _ _ _ h
  | thermalCapLift _ _ => exact good_execThermalCapLift _ _ _ h
  | refClkLost => exact good_execRefClkLost _ h
  | refClkBack => exact good_execRefClkBack _ h
  | islandDead _ => exact good_execIslandDead _ _ h
  | sensorInvalid _ _ => exact good_execSensorInvalid _ _ _ h
  | sensorValid _ _ => exact good_execSensorValid _ _ _ h
  | domainTargetWrite _ _ _ => exact good_execDomainTargetWrite _ _ _ _ h
  | domainGroupTarget _ _ => exact good_execDomainGroupTarget _ _ _ h
  | domainCycle _ _ _ => exact good_execDomainCycle _ _ _ _ h
  | domainClear _ _ _ => exact good_execDomainClear _ _ _ _ h
  | drainComplete _ => exact good_execDrainComplete _ _ h
  | drainFail _ => exact good_execDrainFail _ _ h
  | sequencerStepDone _ => exact good_execSequencerStepDone _ _ h
  | dischargeDone _ => exact good_execDischargeDone _ _ h
  | wakeAdmit _ => exact good_execWakeAdmit _ _ h
  | supplyGood _ => exact good_execSupplyGood _ _ h
  | swOpen _ => exact good_execSwOpen _ _ h
  | stuckOn _ => exact good_execStuckOn _ _ h
  | droop _ => exact good_execDroop _ _ h
  | retDroop _ => exact good_execRetDroop _ _ h
  | iso _ => exact good_execIso _ _ h
  | stepLate _ => exact good_execStepLate _ _ h
  | supplyArm _ => exact good_execSupplyArm _ _ h
  | supplyBack _ => exact good_execSupplyBack _ _ h
  | supplyCrit _ => exact good_execSupplyCrit _ _ h
  | rideThroughWindowEnd _ _ => exact good_execRideThroughWindowEnd _ _ _ h
  | saveDone _ _ _ => exact good_execSaveDone _ _ _ _ h
  | supplyReturnReset _ => exact good_execSupplyReturnReset _ _ h
  | rosemaryIdle _ => exact good_execRosemaryIdle _ _ h
  | ledgerGo _ _ => exact good_execLedgerGo _ _ _ h
  | restore _ _ => exact good_execRestore _ _ _ h
  | restoreDone => exact good_execRestoreDone _ h
  | consume _ _ => exact good_execConsume _ _ _ h
  | testSave _ _ => exact good_execTestSave _ _ _ h
  | senseFault _ => exact good_execSenseFault _ _ h
  | failNFault _ => exact good_execFailNFault _ _ h
  | hldThWrite _ _ _ => exact good_execHldThWrite _ _ _ _ h
  | sageVehicleArea => exact good_execSageVehicleArea _ h
  | sageStatusBlock => exact good_execSageStatusBlock _ h
  | sageStatusStale => exact good_execSageStatusStale _ h
  | sgeWdogKick _ _ => exact good_execSgeWdogKick _ _ _ h
  | sageWdogExpiry => exact good_execSageWdogExpiry _ h
  | lockstepMismatch => exact good_execLockstepMismatch _ h
  | sgeHbBeat _ _ => exact good_execSgeHbBeat _ _ _ h
  | hbMiss => exact good_execHbMiss _ h
  | sageHbResetRequest => exact good_execSageHbResetRequest _ h
  | sgeCcAdd _ _ => exact good_execSgeCcAdd _ _ _ h
  | lateClear => exact good_execLateClear _ h
  | taskFault _ _ _ _ => exact good_execTaskFault _ _ _ _ _ h
  | thermalStageEnter _ => exact good_execThermalStageEnter _ _ h
  | thermalStageLeave _ => exact good_execThermalStageLeave _ _ h
  | clusterRetain _ => exact good_execClusterRetain _ _ h
  | packageVerify _ _ _ _ _ => exact good_execPackageVerify _ _ _ _ _ _ h
  | packageActivate _ => exact good_execPackageActivate _ _ h
  | ccUnresponsive _ => exact good_execCcUnresponsive _ _ h
  | powerOnReset _ => exact good_execPowerOnReset _ _ h
  | resetNPin _ => exact good_execResetNPin _ _ h
  | softReset _ _ => exact good_execSoftReset _ _ _ h
  | warmReset => exact good_execWarmReset _ h
  | sysWdogKick _ _ => exact good_execSysWdogKick _ _ _ h
  | sysWdogCfgWrite _ _ => exact good_execSysWdogCfgWrite _ _ _ h
  | systemWdogExpiry => exact good_execSystemWdogExpiry _ h
  | bootImageSelect _ _ => exact good_execBootImageSelect _ _ _ h
  | startFailReset => exact good_execStartFailReset _ h
  | xspiRead _ _ => exact good_execXspiRead _ _ _ h
  | xspiProgram _ _ => exact good_execXspiProgram _ _ _ h
  | xspiErase4k _ _ => exact good_execXspiErase4k _ _ _ h
  | xspiErase64k _ _ => exact good_execXspiErase64k _ _ _ h
  | xspiDone _ => exact good_execXspiDone _ _ h
  | provisioningBundle _ _ _ _ => exact good_execProvisioningBundle _ _ _ _ _ h
  | commissioningWrite _ _ => exact good_execCommissioningWrite _ _ _ h
  | firmwareUpload _ _ _ => exact good_execFirmwareUpload _ _ _ _ h
  | trialReset => exact good_execTrialReset _ h
  | trialConfirm => exact good_execTrialConfirm _ h
  | secDebugLock _ _ => exact good_execSecDebugLock _ _ _ h
  | secCommandSubmit _ _ => exact good_execSecCommandSubmit _ _ _ h
  | secCommandDone => exact good_execSecCommandDone _ h
  | sysIrqClaim _ _ => exact good_execSysIrqClaim _ _ _ h
  | sysIrqComplete _ _ _ => exact good_execSysIrqComplete _ _ _ _ h
  | thermalTrip _ => exact good_execThermalTrip _ _ h
  | registerReadClear _ _ _ => exact good_execRegisterReadClear _ _ _ _ h
  | doorReleaseDisagree _ => exact good_execDoorReleaseDisagree _ _ h
  | readbackConfirmSample _ => exact good_execReadbackConfirmSample _ _ h
  | extDriveCheck => exact good_execExtDriveCheck _ h
  | itardTrainingEnd _ _ => exact good_execItardTrainingEnd _ _ _ h
  | ddrTrainingDone _ => exact good_execDdrTrainingDone _ _ h
  | securityEngineReady => exact good_execSecurityEngineReady _ h
  | bayReadyTimeout => exact good_execBayReadyTimeout _ h
  | nvmeReadComplete _ => exact good_execNvmeReadComplete _ _ h
  | hostBarAccess _ _ _ _ => exact good_execHostBarAccess _ _ _ _ _ h
  | tensorSliceError _ _ _ => exact good_execTensorSliceError _ _ _ _ h
  | maintLinkChange _ => exact good_execMaintLinkChange _ _ h

end Sys2Proof.Machine
end

