-- ==== Sys2Proof/Laws/Lanes.lean ====
section
/-! SUPPORT. Lanes of a vector register: what a lane reads after lanes have been set. -/
namespace Sys2Proof.Machine

open Sys2Proof

theorem testBit_lane (x w i j : Nat) : (lane x w i).testBit j = (decide (j < w) && x.testBit (w * i + j)) := by
  simp [lane, Nat.testBit_mod_two_pow, Nat.testBit_div_two_pow, Nat.add_comm]

theorem getLsbD_setLane {m : Nat} (x : BitVec m) (w i y k : Nat) (hi : w * (i + 1) ≤ m) :
    (setLane x w i y).getLsbD k = if w * i ≤ k ∧ k < w * (i + 1) then y.testBit (k - w * i) else x.getLsbD k := by
  have hm : w * (i + 1) = w * i + w := Nat.mul_succ _ _
  unfold setLane
  simp only [BitVec.getLsbD_or, BitVec.getLsbD_and, BitVec.getLsbD_not, BitVec.getLsbD_ofNat, Nat.testBit_mul_two_pow,
    Nat.testBit_two_pow_sub_one, Nat.testBit_mod_two_pow]
  by_cases h1 : w * i ≤ k
  · by_cases h2 : k < w * (i + 1)
    · have : k < m := by omega
      have h3 : k - w * i < w := by omega
      simp [h1, h2, this, h3]
    · have h3 : ¬ k - w * i < w := by omega
      simp [h1, h2, h3]
      intro h
      exact BitVec.lt_of_getLsbD h
  · simp [h1]
    intro h
    exact BitVec.lt_of_getLsbD h

theorem lane_setLane_same {m : Nat} (x : BitVec m) (w i y : Nat) (hi : w * (i + 1) ≤ m) :
    lane (setLane x w i y).toNat w i = y % 2 ^ w := by
  apply Nat.eq_of_testBit_eq
  intro j
  have hm : w * (i + 1) = w * i + w := Nat.mul_succ _ _
  rw [testBit_lane, Nat.testBit_mod_two_pow]
  by_cases h : j < w
  · have := getLsbD_setLane x w i y (w * i + j) hi
    simp only [BitVec.getLsbD] at this
    rw [this]
    simp [h, hm]
  · simp [h]

theorem lane_setLane_other {m : Nat} (x : BitVec m) (w i j y : Nat) (hi : w * (i + 1) ≤ m) (hj : j ≠ i) :
    lane (setLane x w i y).toNat w j = lane x.toNat w j := by
  apply Nat.eq_of_testBit_eq
  intro k
  rw [testBit_lane, testBit_lane]
  by_cases h : k < w
  · have := getLsbD_setLane x w i y (w * j + k) hi
    simp only [BitVec.getLsbD] at this
    rw [this]
    have : ¬ (w * i ≤ w * j + k ∧ w * j + k < w * (i + 1)) := by
      rintro ⟨h1, h2⟩
      apply hj
      have : j < i + 1 := by
        refine Classical.byContradiction fun hc => ?_
        have : w * (i + 1) ≤ w * j := Nat.mul_le_mul_left _ (by omega)
        omega
      have : i < j + 1 := by
        refine Classical.byContradiction fun hc => ?_
        have : w * (j + 1) ≤ w * i := Nat.mul_le_mul_left _ (by omega)
        have : w * (j + 1) = w * j + w := Nat.mul_succ _ _
        omega
      omega
    simp [this]
  · simp [h]

theorem lane_setLanes {m : Nat} (x : BitVec m) (w : Nat) (is : List Nat) (f : Nat → Nat) (h : ∀ i ∈ is, w * (i + 1) ≤ m) (j : Nat) :
    lane (setLanes x w is f).toNat w j = if j ∈ is then f j % 2 ^ w else lane x.toNat w j := by
  unfold setLanes
  induction is generalizing x with
  | nil => simp
  | cons i t ih =>
    simp only [List.foldl_cons]
    rw [ih _ (fun k hk => h k (by simp [hk]))]
    by_cases hj : j ∈ t
    · simp [hj]
    · by_cases he : j = i
      · subst he
        simp [hj, lane_setLane_same x w j (f j) (h j (by simp))]
      · simp [hj, he, lane_setLane_other x w i j (f i) (h i (by simp)) he]

theorem ew_cases (o : VOp) : o.ewN = 0 ∨ o.ewN = 1 ∨ o.ewN = 2 ∨ o.ewN = 3 := by
  have := o.ew.isLt
  unfold VOp.ewN
  omega

theorem vlanes_lt (th : Thread) (o : VOp) (i : Nat) (h : i ∈ vlanes th o) : i < vlmax o.ewN := by
  simp only [vlanes, List.mem_filter, List.mem_range, vcount] at h
  exact Nat.lt_of_lt_of_le h.1 (Nat.min_le_right _ _)

theorem lane_fits (o : VOp) (i : Nat) (h : i < vlmax o.ewN) : o.w * (i + 1) ≤ 1024 := by
  have e : o.w = 8 * 2 ^ o.ewN := rfl
  rcases ew_cases o with h1 | h1 | h1 | h1 <;> simp only [e, vlmax, h1] at * <;> omega

/-- The register that a lane-wise syllable writes. -/
theorem lanes_setLanes (th : Thread) (o : VOp) (old : BitVec 1024) (f : Nat → Nat) :
    Lanes th o old (setLanes old o.w (vlanes th o) f) f := by
  intro i _
  rw [lane_setLanes _ _ _ _ (fun k hk => lane_fits o k (vlanes_lt th o k hk))]
  simp [vlanes, List.mem_filter, List.mem_range]

end Sys2Proof.Machine
end

