-- ==== Sys2Proof/Laws/Memory.lean ====
section
/-! SUPPORT. What a write of bytes does: the bytes named take their values, every other byte and every other field stays. -/
namespace Sys2Proof.Machine

open Sys2Proof

theorem setBytes_mem (s : State) (a : Nat) (l : List Byte) : s.setBytes a l = { s with mem := (s.setBytes a l).mem } := by
  induction l generalizing s a with
  | nil => rfl
  | cons b t ih =>
    show (s.setByte a b).setBytes (a + 1) t = { s with mem := ((s.setByte a b).setBytes (a + 1) t).mem }
    rw [ih]
    rfl

theorem byte_setBytes (s : State) (a : Nat) (l : List Byte) (k : Nat) :
    (s.setBytes a l).byte k = if h : a ≤ k ∧ k - a < l.length then l[k - a]'h.2 else s.byte k := by
  induction l generalizing s a with
  | nil => simp [State.setBytes]
  | cons b t ih =>
    show ((s.setByte a b).setBytes (a + 1) t).byte k = _
    rw [ih]
    by_cases h0 : k = a
    · subst h0
      rw [dif_neg (by omega), dif_pos ⟨by omega, by simp⟩]
      simp
    · rw [State.byte_setByte_other s a k b h0]
      by_cases h1 : a + 1 ≤ k
      · have e : k - a = (k - (a + 1)) + 1 := by omega
        simp only [List.length_cons]
        by_cases h2 : k - (a + 1) < t.length
        · rw [dif_pos ⟨h1, h2⟩, dif_pos ⟨by omega, by omega⟩]
          simp [e]
        · rw [dif_neg (by omega), dif_neg (by omega)]
      · rw [dif_neg (by omega), dif_neg (by omega)]

theorem healWords_poison (s : State) (a n : Nat) :
    s.healWords a n = { s with memb := { s.memb with poison := (s.healWords a n).memb.poison } } := by
  unfold State.healWords State.each
  generalize (List.range ((n + 7) / 8)).map (fun k => (a + 7) / 8 * 8 + 8 * k) = l
  induction l generalizing s with
  | nil => rfl
  | cons w t ih =>
    simp only [List.foldl_cons]
    rw [ih]
    split <;> rfl

theorem length_bytesOf (n x : Nat) : (bytesOf n x).length = n := by
  induction n generalizing x with
  | zero => rfl
  | succ n ih => simp [bytesOf, ih]

theorem getElem_bytesOf (n x i : Nat) (h : i < (bytesOf n x).length) : ((bytesOf n x)[i]).toNat = x / 2 ^ (8 * i) % 256 := by
  induction n generalizing x i with
  | zero => simp [bytesOf] at h
  | succ n ih =>
    cases i with
    | zero => simp [bytesOf]
    | succ i =>
      simp only [bytesOf, List.getElem_cons_succ]
      rw [ih]
      have : 2 ^ (8 * (i + 1)) = 256 * 2 ^ (8 * i) := by
        rw [Nat.mul_add, Nat.pow_add, Nat.mul_comm]
      rw [this, Nat.div_div_eq_div_mul]

/-- A write of the n low bytes of x at a. -/
theorem putData_stores (s : State) (a n x : Nat) : StoresTo s (putData s a (bytesOf n x)) a n x := by
  have hb (k : Nat) : (putData s a (bytesOf n x)).byte k = (s.setBytes a (bytesOf n x)).byte k := by
    unfold putData
    rw [healWords_poison]
    rfl
  refine ⟨?_, ?_, ?_⟩
  · unfold putData
    rw [healWords_poison]
    have hm := setBytes_mem s a (bytesOf n x)
    generalize s.setBytes a (bytesOf n x) = u at hm ⊢
    rw [hm]
  · intro i hi
    rw [hb, byte_setBytes, dif_pos ⟨by omega, by rw [length_bytesOf]; omega⟩, getElem_bytesOf]
    congr 2
    congr 1
    omega
  · intro k hk
    rw [hb, byte_setBytes, dif_neg (by rw [length_bytesOf]; omega)]

end Sys2Proof.Machine
end

