-- ==== Sys2Proof/Tests/Slice0.lean ====
section
/-! SUPPORT. Tests: the check for well-formed commands turns ill-formed ones away, and for each statement a state and operands that meet the hypotheses of its
clauses, with the effect that the rule gives there. Expected values are worked out by hand from the spec. -/

namespace Sys2Proof.Tests

/- One theorem after the other: each waits for the kernel. -/
set_option Elab.async false

open Sys2Proof Sys2Proof.Machine

/-! ### Helpers -/

/-- The command answers a next state that passes the check. -/
def ran (i : Instr) (s : State) (p : State → Bool) : Bool :=
  match exec i s with
  | .next t => p t
  | _ => false

/-- The command leaves the state as it is. -/
def nothing (i : Instr) (s : State) : Bool := ran i s (fun t => decide (t = s))

/-- Decidable form of `Ready`. -/
def readyB (s : State) (x : Px) : Bool :=
  let th := s.thread x.core x.thread
  decide (x.stop = true ∧ x.met = .none ∧ th.st = .run ∧ th.wait = .none ∧ th.bundle = [] ∧ th.started = false ∧ th.loads = [] ∧ th.todo = []
    ∧ th.due = none ∧ th.stepping = false ∧ th.once = false
    ∧ (∀ l : Fin 2, th.tcrAt (LC l) = 0 ∨ nextPc th ≠ (th.tcrAt (LE l)).toNat)
    ∧ fetchFaults s x.core x.thread th.pc 1 = [])

theorem ready_of (s : State) (x : Px) (h : readyB s x = true) : Ready s x := by
  obtain ⟨a, b, c, d, e, f, g, i, j, k, l, m, n⟩ := of_decide_eq_true h
  exact ⟨a, b, c, d, e, f, g, i, j, k, l, m, n⟩

/-- Thread 2 of core 4, the syllable alone in its bundle. -/
def px : Px := ⟨4, 2, true, .none⟩

/-- That thread runs, in monitor mode or in a task, with its registers as f has them. -/
def running (mon : Bool) (f : Thread → Thread) : State :=
  let s := { State.reset with memb := { State.reset.memb with trained := 15 } }.setThread 4 2 (f (({ threadReset 0 with st := .run, pc := 0x1000 }.setTstat 0 mon).setTcr IVEC 0x4000))
  ((s.setReg (Reg.pxcWinBase 4 0) 0).setReg (Reg.pxcWinSize 4 0) 0x20_0000_0000).setReg (Reg.pxcWinAttr 4 0) 0xF7

/-- s1 = 7, s2 = -3, s4 the own scratchpad, vl = 20. -/
def regs (t : Thread) : Thread :=
  ((((t.setS 1 7).setS 2 (-3)).setS 4 0x11_0040_0100).setS 6 (BitVec.intMin 64)).setTcr VL 20

def mon : State := running true regs
def task : State := running false regs

def vop (vd vs1 vs2 : Fin 32) (pred : Fin 8) (var ew : BitVec 2) : VOp := ⟨vd, vs1, vs2, pred, var, ew⟩

/-- The domains of the list are ON. -/
def on (l : List Nat) (s : State) : State := s.each l (fun s d => s.modDom d (fun x =>
  { x with st := .on, target := 1, queued := none, swClosed := true, isolated := false, inReset := false }))

/-- The bank groups of cluster c are ON and READY. -/
def groupsUp (c : Nat) (s : State) : State :=
  let s := on ((List.range 8).map (fun g => 56 + 8 * c + g)) s
  { s with memb := { s.memb with ready := (List.range 8).foldl (fun m g => put (fun _ => false) m (8 * c + g) true) s.memb.ready } }

/-- A day after the reset. -/
def later : State := { State.reset with now := 86_400_000_000_000 }

/-! ### Ill-formed commands -/

theorem test_ill_formed_island : wellFormed (.islandDead 216) = false ∧ wellFormed (.islandDead 215) = true := by decide
theorem test_ill_formed_setting : wellFormed (.clkIslWrite (.cc 0) 216 0) = false := by decide
theorem test_ill_formed_domain : wellFormed (.droop 177) = false ∧ wellFormed (.droop 176) = true := by decide
theorem test_ill_formed_domain_register : wellFormed (.domainCycle (.cc 0) 3840 0) = false := by decide
theorem test_ill_formed_type : wellFormed (.signal { plainPacket 0 0 5 0 0 [] with ccEn := true }) = false
    ∧ wellFormed (.signal (plainPacket 0 0 6 0 0 [])) = true ∧ wellFormed (.signal (plainPacket 0 0 13 0 0 [])) = true := by decide
/-- An ill-formed command has no effect. -/
theorem test_ill_formed_effect : nothing (.islandDead 216) State.reset = true ∧ nothing (.droop 177) State.reset = true := by
  and_intros <;> decide +kernel

/-! ### PX (chapters 6 and 7) -/

theorem witness_ready : Ready mon px ∧ Ready task px := ⟨ready_of _ _ (by decide +kernel), ready_of _ _ (by decide +kernel)⟩
/-- R217. -/
theorem test_division : exec (.div px 3 6 2) mon = toS mon px 3 3074457345618258602 ∧ exec (.divu px 3 1 5) mon = toS mon px 3 (-1)
    ∧ exec (.rem px 3 1 5) mon = toS mon px 3 7 ∧ exec (.rem px 3 2 1) mon = toS mon px 3 (-3) := by and_intros <;> rfl
theorem witness_ScalarArithmetic : (thr mon px).sreg 5 = 0 ∧ (thr mon px).sreg 1 ≠ 0 ∧ (thr mon px).sreg 6 = BitVec.intMin 64
    ∧ ((thr mon px).setS 7 (-1)).sreg 7 = BitVec.allOnes 64 := by and_intros <;> decide +kernel
theorem witness_ScalarImmediates : exec (.andi px 3 2 0x3FF) mon = toS mon px 3 (-3) ∧ exec (.sins1 px 1 5) mon = toS mon px 1 0x50007
    ∧ exec (.spc px 3 (-1)) mon = toS mon px 3 0xFFC := by and_intros <;> rfl
theorem witness_ThreadControlRegisters : (thr mon px).monitor = true ∧ (thr task px).monitor = false ∧ MayEnter task px
    ∧ ran (.mtc px 1 0x005) mon (fun t => (thr t px).tcrAt IVEC = 0) = true ∧ ran (.mfc px 3 0x00F) mon (fun t => (thr t px).sreg 3 = 68) = true := by
  refine ⟨?_, ?_, .inl ?_, ?_, ?_⟩ <;> decide +kernel
/-- In the scratchpad and in the slice of the cluster, aligned at 8 and not. -/
theorem witness_DirectLoadsAndStores : DirectOk mon px 0x11_0040_0100 8 permR ∧ DirectOk task px 0x11_0040_0100 8 permW
    ∧ DirectOk mon px 0x11_0040_0100 32 permR ∧ pathOf (groupsUp 1 mon) px.core 0x10_0100_0000 = .slice ∧ (3 : SReg).val % 4 ≠ 0
    ∧ ran (.stH px 2 4 1) mon (fun t => (t.byte 0x11_0040_0102).toNat = 0xFD && (t.byte 0x11_0040_0103).toNat = 0xFF && t.byte 0x11_0040_0104 = 0) = true
    ∧ exec (.ldg px 3 4 0) task = toHandler task px 0x02 0 := by
  refine ⟨⟨?_, .inl ?_, .inl ?_, ?_⟩, ⟨?_, .inl ?_, .inr ?_, ?_⟩, ⟨?_, .inl ?_, .inl ?_, ?_⟩, ?_, ?_, ?_, ?_⟩ <;> first | decide +kernel | rfl
theorem witness_ScratchAtomics : DirectOk mon px 0x11_0040_0100 8 (permR + permW) ∧ pathOf mon px.core 0x11_0040_0100 = .scratch
    ∧ ran (.amoaddD px 3 4 1) mon (fun t => (t.byte 0x11_0040_0100).toNat = 7 && (thr t px).sreg 3 = 0) = true
    ∧ ran (.amocasD px 1 4 2) mon (fun t => t.byte 0x11_0040_0100 = 0) = true := by
  refine ⟨⟨?_, .inl ?_, .inl ?_, ?_⟩, ?_, ?_, ?_⟩ <;> decide +kernel
theorem witness_CounterInstructions : (∀ k : Fin 4, (mon.thread px.core k).wait = .none) ∧ ccVal mon px.core 5 = 0
    ∧ ccVal (ccPut mon 4 5 9) px.core 5 ≠ 0 ∧ readyB (ccPut mon 4 5 9) px = true
    ∧ ran (.ccadd px 2 5) (ccPut mon 4 5 9) (fun t => ccVal t 4 5 = 6) = true
    ∧ ran (.ccwait px 3 1 5) (ccPut mon 4 5 9) (fun t => (thr t px).wait = .ccwait 3 5 7 0) = true
    ∧ ran (.sig px 1 5) mon (fun t => t.fab.net.length = 1) = true := by and_intros <;> decide +kernel
/-- A counter interrupt source of thread 1 that the write of zero makes pending. -/
theorem test_counter_interrupt : ran (.ccset px 5 5) (mon.modThread 4 1 (fun t => t.setTcr CCIRQ 0x45))
    (fun t => bit ((t.thread 4 1).tcrAt IP) 2) = true := by decide +kernel
theorem witness_BranchesAndLoops : (7 : Nat) % 4 ≠ 0 ∧ MayEnter task px ∧ ((thr mon px).sreg 4).toNat % 4 = 0
    ∧ exec (.beq px 1 1 (-2)) mon = .next (bundleTo mon px 0xFF8 id) ∧ exec (.beq px 1 2 (-2)) mon = .next (bundleDone mon px id)
    ∧ exec (.jr px 1) task = toHandler task px 0x04 7 ∧ exec (.loopi px 0 0 1) task = toHandler task px 0x02 0
    ∧ ran (.loopi px 0 0 2) mon (fun t => (thr t px).pc = 0x1008) = true
    ∧ ran (.loopi px 1 3 2) mon (fun t => (thr t px).pc = 0x1004 && (thr t px).tcrAt (LC 1) = 3) = true := by
  refine ⟨?_, .inl ?_, ?_, ?_, ?_, ?_, ?_, ?_, ?_⟩ <;> first | decide +kernel | rfl
theorem witness_TrapsAndReturns : MayEnter task px ∧ (thr mon px).monitor = true ∧ (thr mon px).ie = false
    ∧ (ipOf mon (thr mon px) &&& (thr mon px).tcrAt IE) = 0
    ∧ exec (.trap px 5) task = toHandler task px 0x0C 5
    ∧ ran (.brk px) mon (fun t => (thr t px).st = .halted && bit (t.reg (Reg.pxcIrqStat 4)) 6) = true
    ∧ exec (.halt px) task = toHandler task px 0x03 0 ∧ ran (.wfi px) mon (fun t => (thr t px).wait = .wfi) = true := by
  refine ⟨.inl ?_, ?_, ?_, ?_, ?_, ?_, ?_, ?_⟩ <;> first | decide +kernel | rfl
theorem witness_pending : (let s := mon.modThread 4 2 (fun t => (t.setTcr IP 1).setTcr IE 1)
    decide ((ipOf s (thr s px) &&& (thr s px).tcrAt IE) ≠ 0) && readyB s px) = true := by decide +kernel
theorem witness_ExceptionsAndBundles : wrap 48 ((0x11_0040_0101 : Nat) + (0 : Int) * 8) % 8 ≠ 0
    ∧ (let s := running false (fun t => t.setS 4 0x11_0040_0101)
       exec (.ldD px 3 4 0) s = toHandler s px 0x04 0x11_0040_0101 ∧ exec (.stH px 3 4 1) s = toHandler s px 0x04 0x11_0040_0103) := by
  and_intros <;> first | decide +kernel | rfl
/-- Numbers beyond the list, and writes in a task. -/
theorem test_unlisted_tcr : exec (.mfc px 3 0x032) task = toHandler task px 0x02 0 ∧ exec (.mtc px 1 0x1032) task = toHandler task px 0x02 0
    ∧ exec (.mtc px 1 0x1005) task = toHandler task px 0x03 0 := by and_intros <;> rfl
/-- A decrement at the same time is not lost. -/
theorem test_ccset_hit : (let s := { mon with fab := { mon.fab with cc := put ccReset mon.fab.cc 4 { ccReset 4 with hitAt := [(5, some mon.now)] } } }
    get (fun _ => none) (s.ccSet (ccKey px.core)).hitAt 5 = some s.now ∧ readyB s px = true
    ∧ ran (.ccset px 1 5) s (fun t => ccVal t 4 5 = 6) = true) := by and_intros <;> decide +kernel
/-- Parity in a register and in a line of code, a reserved class and an unlisted OP. -/
theorem witness_met : ran (.add { px with met := .registerParity (.s 1) } 3 1 2) task (fun t => (thr t px).tcrAt CAUSE = 0x0A && (thr t px).tcrAt TVAL = 1
      && t.reg (Reg.pxcRfPe 4) = 1) = true
    ∧ ran (.add { px with met := .unlistedOp } 3 1 2) task (fun t => (thr t px).tcrAt CAUSE = 2) = true
    ∧ ran (.add { px with met := .unlistedClass } 3 1 2) task (fun t => (thr t px).tcrAt CAUSE = 1 && (thr t px).sreg 3 = 0) = true
    ∧ (let s := task.setCore 4 { task.core 4 with icLines := [(0x40, true)] }
       get (fun _ => false) (s.core 4).icLines ((thr s px).pc / 64) = true ∧ readyB s px = true
       ∧ ran (.add { px with met := .lineParity } 3 1 2) s (fun t => (thr t px).sreg 3 = 4 && t.reg (Reg.pxcIcPe 4) = 1) = true) := by
  and_intros <;> decide +kernel

/-- v1 = 200, 100, 3, … and v2 = 100, 100, 5, … in bytes; p1 = element 0 and 2; a0's index lane 0 empty, lane 1 = 9. -/
def vregs (t : Thread) : Thread :=
  (((((t.setV 1 0x0364C8).setV 2 0x056464).setP 1 0b101).setA 0 0x0000_0009_FFFF_FFFF).setTcr VL 3).setS 4 0x11_0040_0100

def vmon : State := running true vregs
def vtask : State := running false vregs

theorem witness_vready : Ready vmon px ∧ Ready vtask px := ⟨ready_of _ _ (by decide +kernel), ready_of _ _ (by decide +kernel)⟩
/-- Masked, element 1 keeps its value; at 8 bits 200 + 100 wraps to 44, saturates at 255 unsigned; -56 + 100 = 44 signed. -/
theorem witness_VectorIntegerLanes : ran (.vadd px (vop 3 1 2 1 0 0)) vmon (fun t => (thr t px).vreg 3 = 0x08002C) = true
    ∧ ran (.vsaddu px (vop 3 1 2 0 0 0)) vmon (fun t => (thr t px).vreg 3 = 0x08C8FF) = true
    ∧ ran (.vsadd px (vop 3 1 2 0 0 0)) vmon (fun t => (thr t px).vreg 3 = 0x087F2C) = true
    ∧ ran (.vsel px (vop 3 1 2 1 0 0)) vmon (fun t => (thr t px).vreg 3 = 0x0364C8) = true := by and_intros <;> decide +kernel
/-- p3 takes elements 0 and 2 of a signed compare (-56 < 100, 3 < 5; 100 < 100 does not hold). -/
theorem witness_VectorPredicates : ran (.vcmplt px (vop 3 1 2 0 0 0)) vmon (fun t => (thr t px).preg 3 = 0b101) = true
    ∧ ran (.vcmpltu px (vop 3 1 2 0 0 0)) vmon (fun t => (thr t px).preg 3 = 0b100) = true
    ∧ ran (.vcmpeq px (vop 3 1 2 0 0 1)) vmon (fun t => (thr t px).preg 3 = 0b110000) = true
    ∧ ran (.pfirst px (vop 3 1 0 0 0 0)) vmon (fun t => (thr t px).sreg 3 = 0) = true
    ∧ ran (.pfirst px (vop 3 2 0 0 0 0)) vmon (fun t => (thr t px).sreg 3 = -1) = true
    ∧ ran (.pcount px (vop 3 1 0 0 0 0)) vmon (fun t => (thr t px).sreg 3 = 2) = true := by and_intros <;> decide +kernel
theorem witness_VectorAccumulators : ran (.vredsum px (vop 3 1 0 0 0 0)) vmon (fun t => (thr t px).sreg 3 = 47) = true
    ∧ ran (.vwmacc px (vop 1 1 2 0 0 0)) vmon (fun t => lane ((thr t px).areg 1).toNat 32 0 = 2 ^ 32 - 5600 && lane ((thr t px).areg 1).toNat 32 2 = 15) = true
    ∧ ran (.vsetvli px 3 200 0 0) vmon (fun t => (thr t px).tcrAt VL = 128 && (thr t px).sreg 3 = 128) = true
    ∧ ran (.vsetvl px (vop 3 4 0 0 0 3)) vmon (fun t => (thr t px).tcrAt VL = 16) = true
    ∧ ran (.vaccClr px (vop 2 0 0 0 1 0)) vmon (fun t => (thr t px).areg 2 = BitVec.allOnes 4096) = true := by and_intros <;> decide +kernel
/-- Lane 0 is empty and takes its element; lane 1 holds index 9 and keeps it, 100 being no less than 100; s5 = 0 is the first index. -/
theorem witness_VectorPermutes : ran (.vslidedown px (vop 3 1 5 0 0 0)) vmon (fun t => (thr t px).vreg 3 = 0x0364C8) = true
    ∧ ran (.vslideup px (vop 3 1 6 0 0 0)) (running true (fun t => (vregs t).setS 6 1)) (fun t => (thr t px).vreg 3 = 0x64C800) = true
    ∧ ran (.vrgather px (vop 3 1 2 0 0 0)) (running true (fun t => (vregs t).setV 2 0x80_01_02)) (fun t => (thr t px).vreg 3 = 0x006403) = true
    ∧ ran (.vminiV px (vop 2 1 5 0 0 0) 0) vmon (fun t => (thr t px).vreg 2 = 0x0364C8 &&
        lane ((thr t px).areg 0).toNat 32 0 = 0 && lane ((thr t px).areg 0).toNat 32 1 = 9) = true
    ∧ ran (.vminiR px (vop 3 1 0 0 0 0) 0) vmon (fun t => (thr t px).sreg 3 = 0x0000_0000_0000_0003) = true
    ∧ ran (.vminiR px (vop 3 1 0 0 0 0) 1) (running true (fun t => (vregs t).setA 1 (BitVec.allOnes 4096)))
        (fun t => (thr t px).sreg 3 = 0xFFFF_FFFF_0000_0000) = true := by and_intros <;> decide +kernel
/-- FP32: 1.0 + 1.0 = 2.0; FP16 1.0 widened; 2.0 converted to 2. -/
theorem witness_VectorFloatLanes :
    (let s := running true (fun t => ((t.setV 1 0x3F80_0000).setV 2 0x3F80_0000).setTcr VL 1)
     ran (.vfadd px (vop 3 1 2 0 0 2)) s (fun t => (thr t px).vreg 3 = 0x4000_0000) && readyB s px) = true
    ∧ ran (.vcvtXF px (vop 3 1 0 0 0 2)) (running true (fun t => (t.setV 1 0x4000_0000).setTcr VL 1)) (fun t => (thr t px).vreg 3 = 2) = true
    ∧ ran (.vfwiden px (vop 3 1 0 0 0 1)) (running true (fun t => (t.setV 1 0x3C00).setTcr VL 1)) (fun t => (thr t px).vreg 3 = 0x3F80_0000) = true
    ∧ ran (.vfnarrow px (vop 3 1 0 0 1 2)) (running true (fun t => (t.setV 1 0x3F80_0000).setTcr VL 1))
        (fun t => (thr t px).vreg 3 = 0x3C00 * 2 ^ 512) = true
    ∧ ran (.vfcmplt px (vop 3 1 2 0 0 1)) (running true (fun t => (t.setV 2 0x3C00).setTcr VL 1)) (fun t => (thr t px).preg 3 = 0b11) = true := by
  and_intros <;> decide +kernel
theorem witness_VectorMemory : (thr vmon px).part = false
    ∧ (∀ i, i < 3 → DirectOk vmon px (vmAddr (thr vmon px) .ld 4 0 0 i) 1 permR ∧ DirectOk vtask px (vmAddr (thr vtask px) .st 4 0 0 i) 1 permW)
    ∧ ran (.vst px (vop 1 4 0 1 0 0) none) vmon (fun t => (t.byte 0x11_0040_0100).toNat = 0xC8 && t.byte 0x11_0040_0101 = 0
        && (t.byte 0x11_0040_0102).toNat = 3 && t.byte 0x11_0040_0103 = 0) = true
    ∧ ran (.vld px (vop 3 4 0 0 0 0) none) (vmon.setByte 0x11_0040_0101 9) (fun t => (thr t px).vreg 3 = 0x000900) = true
    ∧ ran (.vsta px (vop 0 4 0 0 0 0) none) vmon (fun t => t.load 0x11_0040_0100 8 = 0x0000_0009_FFFF_FFFF) = true
    ∧ ran (.vscatter px (vop 1 4 2 0 0 1) none) (running true (fun t => (vregs t).setV 2 0x0000_0001_0001))
        (fun t => t.load 0x11_0040_0102 2 = 3 && t.load 0x11_0040_0100 2 = 0) = true
    ∧ ran (.pst px (vop 1 4 1 0 0 0)) vmon (fun t => t.load 0x11_0040_0110 2 = 5) = true := by
  refine ⟨by decide +kernel, fun i hi => ?_, ?_, ?_, ?_, ?_, ?_⟩
  · match i, hi with
    | 0, _ => exact ⟨⟨by decide +kernel, .inl (by decide +kernel), .inl (by decide +kernel), by decide +kernel⟩,
        ⟨by decide +kernel, .inl (by decide +kernel), .inr (by decide +kernel), by decide +kernel⟩⟩
    | 1, _ => exact ⟨⟨by decide +kernel, .inl (by decide +kernel), .inl (by decide +kernel), by decide +kernel⟩,
        ⟨by decide +kernel, .inl (by decide +kernel), .inr (by decide +kernel), by decide +kernel⟩⟩
    | 2, _ => exact ⟨⟨by decide +kernel, .inl (by decide +kernel), .inl (by decide +kernel), by decide +kernel⟩,
        ⟨by decide +kernel, .inl (by decide +kernel), .inr (by decide +kernel), by decide +kernel⟩⟩
  all_goals decide +kernel
theorem witness_TensorIssue : (thr mon px).tres = false ∧ (6 : BitVec 16).toNat / 1024 = 0 ∧ (6 : BitVec 16).toNat % 16 ≤ 6 ∧ ¬(7 : BitVec 16).toNat % 16 ≤ 6
    ∧ MayEnter task px ∧ exec (.tmm px 1 7) task = toHandler task px 0x02 0
    ∧ ran (.tmm px 1 6) mon (fun t => (t.tar 1).queue = [⟨6, 2, 7, 6, false⟩] && (thr t px).wait = .tensor) = true := by
  refine ⟨?_, ?_, ?_, ?_, .inl ?_, ?_, ?_⟩ <;> first | decide +kernel | rfl
theorem witness_ThreadControls :
    (let s := State.reset.setCore 4 { State.reset.core 4 with initDone := true }
     ran (.thrStart (.cc 0) 4 2 1) s (fun t => (t.thread 4 2).st = .run && (t.thread 4 2).monitor && (t.thread 4 1).st = .stopped)) = true
    ∧ ran (.thrStart (.cc 0) 4 2 1) State.reset (fun t => bit (t.reg (Reg.pxcIrqStat 4)) 9 && (t.thread 4 2).st = .stopped) = true
    ∧ queuedTensor mon 4 2 = none ∧ ran (.thrStop (.cc 0) 4 2 2) mon (fun t => (t.thread 4 2).st = .stopped) = true
    ∧ ran (.softwareInterruptSet (.cc 1) 4 0b0100) mon (fun t => bit ((t.thread 4 2).tcrAt IP) 0 && !bit ((t.thread 4 1).tcrAt IP) 0) = true
    ∧ ran (.thrStep (.cc 0) 4 1 32) mon (fun t => (t.thread 4 1).once) = true
    ∧ ran (.thrStart .sage 4 2 1) State.reset (fun t => t.bus.error && (t.thread 4 2).st = .stopped) = true := by and_intros <;> decide +kernel
/-- At 1600 MHz seven cycles are 4.4 ns; the enabled source 0 enters with cause 0x80. -/
theorem witness_CoreEvents : ran (.timecmpReached 4 2) mon (fun t => bit ((thr t px).tcrAt IP) 1) = true
    ∧ (let s := mon.modThread 4 2 (fun t => ((t.setTcr IP 1).setTcr IE 1).setTstat 1 true)
       pendingIrq s (thr s px) = some 0 ∧ (thr s px).ie = true
       ∧ ran (.interruptEntry 4 2) s (fun t => (thr t px).tcrAt CAUSE = 0x80 && (thr t px).pc = 0x4000) = true)
    ∧ ran (.scratchpadInitDone 4) (on [4] (State.reset.setByte 0x11_0040_0000 5)) (fun t => (t.core 4).initDone && t.byte 0x11_0040_0000 = 0) = true
    ∧ (let s := ccPut mon 4 5 9
       7 * 100000 ≤ (1000 - s.now) * (s.island px.core).eff * 2525
       ∧ ran (.ccwait px 3 1 5) s (fun t => ran (.ccwaitTimeout 4 2) { t with now := 1000 } (fun u => (thr u px).sreg 3 = 1)) = true)
    ∧ (let s := loadTask (ccPut mon 4 5 9) .alarm
       readyB s px = true ∧ taskOn s 4 = some .alarm ∧ s.tram.abandonedAt = none ∧ s.pkgs.warning = none
       ∧ ran (.ccwait px 3 1 5) s (fun t => ran (.ccwaitTimeout 4 2) { t with now := 1000 } (fun u => (thr u px).sreg 3 = 1 && u.tram.abandonedAt = some 1000
           && u.log.length = 1)) = true) := by
  and_intros <;> decide +kernel

/-! ### Tensor arrays, requantisation, engines, memory (chapters 8 to 10) -/

/-- A `tload` of one codebook from the slice of cluster 1 to table index 5. -/
def tloadDesc : Nat := 0x10_0100_0000 + 2 * 2 ^ 52 + (1 + 2 ^ 16 + 4 * 2 ^ 32) * 2 ^ 64 + 5 * 2 ^ 880

/-- Array 1 initialised with a `tload` of thread 6 waiting and another behind it. -/
def array1 : State :=
  let s := on [28, 29, 30, 31] (groupsUp 1 (running true regs))
  let s := (s.setReg (Reg.tarSpill 1 6) 0x10_0101_0000).setBytes 0x11_0040_0200 (bytesOf 128 tloadDesc)
  let s := s.setBytes 0x10_0100_0000 [1, 2, 3, 4]
  s.setTar 1 { s.tar 1 with initDone := true, queue := [⟨6, 5, 0x11_0040_0200, 0, false⟩, ⟨7, 2, 0x11_0040_0000, 0, false⟩] }

def tload : TInstr := ⟨6, 5, 0x11_0040_0200, 0, false⟩

/-- That instruction as the array runs it, at output block ob. -/
def array1Runs (ob : Nat) : State := array1.setTar 1 { array1.tar 1 with
  queue := [], run := some { ins := tload, d := tloadDesc, qmask := 0xF, ob := ob, px := 0, tile := none, step := 0, tainted := false } }

theorem witness_TensorStart : (array1.tar 1).queue = [] ++ tload :: [⟨7, 2, 0x11_0040_0000, 0, false⟩] ∧ heldByCommit array1 tload = false
    ∧ (array1.thread 4 2).waitingLoads = [] ∧ array1.bitAt (Reg.tarPrio 1) 7 = false
    ∧ checkCode (array1.setTar 1 { array1.tar 1 with queue := [⟨7, 2, 0x11_0040_0000, 0, false⟩] }) 1 tload = none
    ∧ ran (.tensorStart 1) array1 (fun t => (t.tar 1).run.isSome && (t.tar 1).queue.length = 1) = true := by and_intros <;> decide +kernel
/-- The second is of a TAR_PRIO thread and goes first; its descriptor of zeros fails with code 0x01 (sizes). -/
theorem witness_TensorStops : (let s := array1.setReg (Reg.tarPrio 1) 0x80
    s.bitAt (Reg.tarPrio 1) 7 = true ∧ s.bitAt (Reg.tarPrio 1) 6 = false
    ∧ ran (.tensorStart 1) s (fun t => fld (t.reg (Reg.tarFault 1)) 7 0 = 1 && (t.thread 4 3).tcrAt CAUSE = 0x0D && (t.tar 1).queue = [tload]) = true) := by
  and_intros <;> decide +kernel
theorem witness_TensorSteps : ran (.tensorStepDone 1) (array1Runs 0) (fun t => get (fun _ => 0) (t.tar 1).table 5 = 0x04030201 && (t.tar 1).tmValid) = true
    ∧ ran (.tensorComplete 1) (array1Runs 1) (fun t => (t.tar 1).run = none && t.reg (Reg.tarInstr 1) = 1) = true
    ∧ ran (.tensorWatchdog 1) (array1Runs 0) (fun t => fld (t.reg (Reg.tarFault 1)) 7 0 = 0x86 && bit (t.reg (Reg.tarIrqStat 1)) 4) = true
    ∧ ran (.tensorSliceError 1 true 0x10_0100_0000) (array1Runs 0) (fun t => fld (t.reg (Reg.tarFault 1)) 7 0 = 0x85 && bit (t.reg (Reg.tarIrqStat 1)) 1) = true
    ∧ ran (.tableMemoryInitDone 1) (on [28] State.reset) (fun t => (t.tar 1).initDone) = true
    ∧ ran (.tarQmaskWrite (.cc 0) 1 0x13) State.reset (fun t => t.reg (Reg.tarQmask 1) = 3) = true
    ∧ ran (.tarQmaskWrite (.cc 0) 1 5) State.reset (fun t => t.reg (Reg.tarQmask 1) = 0xF) = true := by and_intros <;> decide +kernel
/-- A `tmm` of 256 INT8 channels has several tap-blocks; the first step of one of them is not the last. -/
theorem witness_TensorStep : (let d : Nat := 2 * 2 ^ 52 + (1 + 2 ^ 16 + 256 * 2 ^ 32) * 2 ^ 64 + (3 * 2 ^ 52 + (1 + 2 ^ 16 + 256 * 2 ^ 32) * 2 ^ 64) * 2 ^ 256
      + (5 * 2 ^ 48 + 2 * 2 ^ 52 + (1 + 2 ^ 16 + 64 * 2 ^ 32) * 2 ^ 64) * 2 ^ 512
    let s := array1.setTar 1 { array1.tar 1 with queue := [], run := some { ins := ⟨6, 2, 0x11_0040_0200, 0, false⟩, d := d, qmask := 0xF, ob := 0, px := 0, tile := some (1, 1), step := 0, tainted := false } }
    0 < outBlocks (topOf 2 0 d) ∧ 1 < (blocksOf (topOf 2 0 d)).length ∧ wantsStop s 4 2 = false
    ∧ ran (.tensorStepDone 1) s (fun t => (t.tar 1).run.any (fun r => r.step = 1)) = true) := by and_intros <;> decide +kernel

/-- One record in the slice of cluster 1, all zeros. -/
def committing : State := let s := groupsUp 1 State.reset
  s.setQu 1 { s.qu 1 with commits := [[0x10_0100_0000], []] }
theorem witness_ScaleCommit : commitWaits committing [0x10_0100_0000] = false
    ∧ ([0x10_0100_0000].flatMap (withMirrors committing)).all (fun r => readable committing (addrLocal r) (recLen committing r)) = true
    ∧ ran (.quCommit 1 false) (committing.setQu 1 { committing.qu 1 with commits := [[], [0x10_0100_0000]] }) (fun t =>
        (t.qu 1).commits = [[0x10_0100_0000]] && t.reg (Reg.qntCommits 1) = 1) = true
    ∧ ran (.quCommit 1 true) committing (fun t => (t.qu 1).commits = [[]] && bit (t.reg (Reg.qntIrqStat 1)) 1 && t.reg (Reg.qntCommits 1) = 0) = true
    ∧ ran (.quCommitRequest (.cc 0) 1 0x8000_0100) State.reset (fun t => (t.qu 1).commits.map (·.length) = [256]) = true
    ∧ ran (.quCommitRequest (.cc 0) 1 0x8000_0101) State.reset (fun t => (t.qu 1).commits = [] && bit (t.reg (Reg.qntIrqStat 1)) 1) = true
    ∧ multiplier 0x3F80_0000 = (2 ^ 31, 31, false) := by and_intros <;> decide +kernel

/-- A package of the kind, as R494 and R495 ask. -/
def pkg (k : PkgKind) : Package := ⟨0x474B_5058, 1, k, decide (k = .counting), false, 1, 0, 0xB0, 0, 1, 1000, 0, 1440,
  ⟨0x4080_0000, 0x4100_0000, 0x4170_0000, 0x3F80_0000, 0x419C_0000⟩, 3, 0x3F, 11_000, 0, 7, [],
  ⟨0x3F80_0000, 1, 10, 0⟩, if k = .counting then [⟨0x10_0100_0000, [10, -20], 2, [0x3F80_0000]⟩] else [], []⟩

/-- Standing for an hour, with a counting package that permits adaptation. -/
def standing : State := { later with
  pkgs := { later.pkgs with counting := some (pkg .counting), warning := some (pkg .warning) }
  veh := { later.veh with linkUp := true, stillSince := some 0, speedAt := some later.now } }
theorem witness_Adaptation : adaptConditions standing = true ∧ adaptConditions later = false
    ∧ ran .adaptationStart standing (fun t => t.adapt.running) = true
    ∧ (let s := { standing with adapt := { standing.adapt with running := true } }
       ran .adaptationStop { s with now := s.now + 30_000_000 } (fun t => !t.adapt.running) = true
       ∧ (let night := [⟨0, [0x3F80_0000, 0xBF80_0000]⟩]
          ran (.adaptationEnd night ⟨5, 5⟩ ⟨3, 3⟩) s (fun t => t.adapt.deltas.map (·.w8) = [[9, -19]] && t.byte 0x10_0100_0000 = 9 && t.byte 0x10_0100_0001 = -19) = true
          ∧ ran (.adaptationEnd night ⟨5, 5⟩ ⟨4, 3⟩) s (fun t => t.adapt.rejections = 1 && t.adapt.deltas = []) = true))
    ∧ ran (.deltaReset true) { standing with sys := { standing.sys with maintUp := true }, adapt := { standing.adapt with deltas := [⟨[9, -19], [], [], [], 0, 0, 0⟩] } }
        (fun t => t.adapt.deltas = [] && t.byte 0x10_0100_0000 = 10) = true := by and_intros <;> decide +kernel
/-- The sample store drops its oldest sample beyond 16 384, and keeps every tenth one out. -/
theorem test_samples : (storeSample standing.adapt [7]).samples.map (·.1) = [[7]] ∧ (storeSample { standing.adapt with taken := 9 } [7]).samples.map (·.2) = [true]
    ∧ (storeSample standing.adapt [7]).samples.map (·.2) = [false] := by and_intros <;> decide +kernel

/-- Ring entry 0 of DMA or halo engine 1 in DRAM at 0x100: op, flags, source, destination, line, lines, strides. -/
def entry (h : Bool) (op flags src dst line lines st : Nat) : State :=
  let s := on [137 + 1, 145 + 1] (groupsUp 2 (groupsUp 1 { later with memb := { later.memb with trained := 0xF } }))
  let s := (s.setReg (ringBaseReg h 1) 0x100).setEngine h 1 { engineReset 1 with awake := true, size := 4 }
  s.setBytes 0x100 (bytesOf 1 op ++ bytesOf 1 flags ++ bytesOf 6 0 ++ bytesOf 8 src ++ bytesOf 8 dst ++ bytesOf 4 line ++ bytesOf 4 lines
    ++ bytesOf 4 st ++ bytesOf 4 st ++ [1, 2, 3, 4, 5, 6, 7, 8])

/-- Two lines of 8 bytes, 16 apart, from 0x1000 into the own slice. -/
def copy (op : Nat) : State := ((entry false op 1 0x1000 0x10_0100_0000 8 (if op = 1 then 2 else 1) 16).setBytes 0x1000 [9, 8, 7, 6, 5, 4, 3, 2]).setByte 0x1010 0x55
theorem witness_DmaMoves : (∀ op : Fin 3, mayStart (copy op) false 1 (fun _ => true) = true ∧ dFault (copy op) false 1 0x100 = none
      ∧ (∀ l, l < dLines (copy op) 0x100 → ∀ i, i < 8 → writeStop (copy op) false 1 (0x10_0100_0000 + 16 * l + i) = none
          ∧ readStop (copy op) (0x1000 + 16 * l + i) 1 = none))
    ∧ ran (.dmaCopy 1) (copy 0) (fun t => t.load 0x10_0100_0000 8 = 0x0203040506070809 && t.byte 0x10_0100_0008 = 0 && (t.engine false 1).bytes = 8) = true
    ∧ ran (.dmaCopy2d 1) (copy 1) (fun t => t.byte 0x10_0100_0010 = 0x55 && (t.engine false 1).bytes = 16) = true
    ∧ ran (.dmaFill 1) (copy 2) (fun t => t.load 0x10_0100_0000 8 = 0x0807060504030201) = true := by and_intros <;> decide +kernel

/-- Data moved, confirmation awaited since the reset, with NOTIFY to counter 3 of EID 0x38 and an interrupt. -/
def moved (h : Bool) : State := let s := entry h 0 0x29 0x1000 0x10_0100_0000 8 1 0
  let s := s.setBytes 0x104 [0x38, 0, 3]
  s.setEngine h 1 { s.engine h 1 with phase := .confirming }
theorem witness_EngineCourse : dFlag (moved false) 0x100 3 = true ∧ dFlag (moved false) 0x100 5 = true ∧ confirmed (moved false) false 1 = true
    ∧ ran (.dmaDescriptorDone 1 false) (moved false) (fun t => t.byte 0x102 = 1 && (t.byte 0x101).toNat = 0x28 && t.fab.net.length = 1
        && bit (t.reg (Reg.dmaIrqStat 1)) 0 && (t.engine false 1).head = 1 && t.reg (Reg.dmaDescDone 1) = 1) = true
    ∧ ran (.dmaDescriptorDone 1 true) (moved true) (fun t => bit (t.reg (Reg.dmaIrqStat 1)) 2 && (t.engine true 1).head = 1) = true
    ∧ (let s := ccPut (entry false 0 5 0x1000 0x20_0000 32 1 0) 0x048 49 1
       let s := s.setEngine false 1 { s.engine false 1 with phase := .confirming }
       confirmed s false 1 = false ∧ ran (.dmaConfirmTimeout 1 false) s (fun t => t.byte 0x102 = 0x87 && (t.engine false 1).lastErr = 7) = true)
    ∧ dFault (entry false 0 1 0x1001 0x10_0100_0000 8 1 0) false 1 0x100 = some 1
    ∧ ran (.dmaCopy 1) (entry false 0 1 0x1001 0x10_0100_0000 8 1 0) (fun t => t.byte 0x102 = 0x81 && (t.engine false 1).halted) = true
    ∧ ran (.dmaResume (.cc 0) 1 0x101) State.reset (fun t => !(t.engine false 1).halted) = true
    ∧ ran (.dmaWake 1 false (some (.cc 0)) 1) (copy 0) (fun t => (t.engine false 1).awake) = true := by and_intros <;> decide +kernel
/-- A halo line of 32 bytes from the own slice to slice 2. -/
theorem witness_HaloCopy : (let s := entry true 0 1 0x10_0100_0000 0x10_0200_0000 32 1 0
    mayStart s true 1 (fun _ => true) = true ∧ dFault s true 1 0x100 = none ∧ readStop s (dSrc s 0x100) 32 = none ∧ writeStop s true 1 (dDst s 0x100) = none
    ∧ dLine s 0x100 = 32 ∧ ran (.haloCopy 1) s (fun t => t.fab.net.map (·.payload.length) = [32] && (t.engine true 1).phase = .confirming) = true) := by
  and_intros <;> decide +kernel
theorem witness_MemoryTier : (State.reset.dom (56 + 8)).st = .off ∧ (groupsUp 1 State.reset).dom 64 ≠ domainReset 64
    ∧ ran (.sliceMapWrite (.cc 0) 1 1) State.reset (fun t => linearMap t 1) = true
    ∧ ran (.sliceMapWrite (.cc 0) 1 1) (groupsUp 1 State.reset) (fun t => !linearMap t 1 && bit (t.reg Reg.memIrqStat) 4) = true
    ∧ groupUp (groupsUp 1 later) 1 0 = true ∧ targetOf later 0x10_0100_0000 = .sram 1 0
    ∧ ran (.sramScrub 8 2 [0x10_0100_0000]) (groupsUp 1 later) (fun t => t.poisoned 0x10_0100_0000 && t.reg Reg.memSramCe = 2 && t.reg Reg.memSramUe = 1) = true
    ∧ (let s := { later with memb := { later.memb with trained := 0xF } }
       channelUp s 0 = true ∧ targetOf s 0 = .dram 0
       ∧ ran (.dramScrub 0 1 [0]) s (fun t => t.poisoned 0 && t.reg Reg.memScrubPasses = 1) = true
       ∧ ran (.ddrTrainingLost 0) s (fun t => !channelUp t 0 && channelUp t 1 && bit (t.reg Reg.memIrqStat) 3) = true)
    ∧ groupUp (on [64] State.reset) 1 0 = false
    ∧ ran (.bankGroupInitDone 8) (on [64] (State.reset.setByte 0x10_0100_0000 5)) (fun t => groupUp t 1 0 && t.byte 0x10_0100_0000 = 0) = true := by
  and_intros <;> decide +kernel

/-! ### The machine as a whole -/

theorem witness_IdleTick : State.reset.pending = [] ∧ step State.reset = .next { State.reset with now := 1 } := by and_intros <;> rfl

/-! ### The fabric (chapter 5) -/

/-- A packet from an endpoint to itself arrives at its first router. -/
theorem way_self (s : State) (e : BitVec 12) (vc : Nat) (h : slotOf e = s.fab.slot) (r : s.fab.routes = []) (l : listedIndex (localIndex e) = true) :
    wayFrom s e vc 72 (routerFor (localIndex e)) = .endpoint := by
  have x : xyPort (routerFor (localIndex e)) (routerFor (localIndex e)) = 0 := by simp [xyPort]
  have y : routeAt s (routerFor (localIndex e)) e = 0x80 := by
    simp [routeAt, r, Machine.get, lookup, routeDefault, h, l, x]
  rw [wayFrom, y]
  simp [bits, h]

theorem reaches_self (s : State) (p : Packet)
    (c : (wellFormedPacket p && decide (p.vc.toNat ≠ 2) && (decide (p.ptype.toNat ≠ 1) || decide (p.flow.toNat ≠ 0) && decide (p.flow.toNat ≤ 128))
      && decide (p.dst = p.src) && decide (slotOf p.dst = s.fab.slot) && listedIndex (localIndex p.dst) && decide (s.fab.routes = [])
      && takes (offFabric s p) (localIndex p.dst) p.ptype.toNat && crossingOpen (offFabric s p) (localIndex p.dst) && decide (p.corrected = 0)
      && !p.uncorrectable && decide (holdsSince s (localIndex p.src) = none)) = true) : Reaches s p := by
  simp only [Bool.and_eq_true, decide_eq_true_eq, Bool.not_eq_true'] at c
  obtain ⟨⟨⟨⟨⟨⟨⟨⟨⟨⟨⟨w, v⟩, f⟩, e⟩, h⟩, l⟩, r⟩, k⟩, o⟩, z⟩, u⟩, n⟩ := c
  refine ⟨⟨z, u, fun _ => n⟩, ?_, k, o⟩
  have y := way_self (offFabric s p) p.dst p.vc.toNat h r l
  have n : entryRouter (offFabric s p) p = routerFor (localIndex p.dst) := by
    have : slotOf p.src = (offFabric s p).fab.slot := e ▸ h
    simp [entryRouter, this, e]
  have f' : ¬(p.ptype.toNat = 1 ∧ (p.flow.toNat = 0 ∨ 128 < p.flow.toNat)) := by
    simp only [Bool.or_eq_true, decide_eq_true_eq, Bool.and_eq_true] at f
    omega
  have h' : slotOf p.dst = (offFabric s p).fab.slot := h
  simp [carry, w, v, f', h', n, y]

/-- A packet of a type on a channel from an endpoint to itself. -/
def self (i ty vc addr : Nat) (payload : List Byte) (f : Packet → Packet) : Packet :=
  sealPacket (f (plainPacket (BitVec.ofNat 12 i) (BitVec.ofNat 12 i) ty vc addr payload))

/-- DRAM trained and its domains, CC0 and core 4 ON. -/
def dram : State := on [4, 133, 137, 138, 161, 162, 163, 164] { later with memb := { later.memb with trained := 0xF } }

def granule : List Byte := (List.range 32).map (fun i => BitVec.ofNat 8 (i + 1))
def wr : Packet := self 0x048 0 0 0x1000 granule (fun p => { p with cc := 5, ccEn := true })
def rd : Packet := self 0x048 1 0 0x1000 [] (fun p => { p with flow := 1 })
def am : Packet := self 0x048 3 0 0x1000 ([0, 0, 0, 0, 0, 0, 0, 0, 5] ++ List.replicate 23 0) id

/-- The read noted, as READ_REQ notes it. -/
def dramAsked : State := noteAsked dram 0x048 0 (some 1)
theorem witness_FabricRequests : Arrives dram wr ∧ Arrives dramAsked rd ∧ Arrives dram am
    ∧ accessError (offFabric dram wr) 0x048 0x048 0x1000 32 true = none ∧ accessError (offFabric dramAsked rd) 0x048 0x048 0x1000 32 false = none
    ∧ atomicFields am.payload = some (.add, 5, 0)
    ∧ (accessError { dram with memb := { dram.memb with trained := 0 } } 0x048 0x048 0x1000 32 false).isSome = true
    ∧ wellFormedPacket { wr with payload := [] } = false ∧ wellFormed (.write { wr with payload := [] }) = true
    ∧ Reaches dram { wr with crc := 0 } ∧ { wr with crc := 0 }.crc ≠ packetCrc { wr with crc := 0 } := by
  refine ⟨⟨reaches_self _ _ ?_, ?_⟩, ⟨reaches_self _ _ ?_, ?_⟩, ⟨reaches_self _ _ ?_, ?_⟩, ?_, ?_, ?_, ?_, ?_, ?_, reaches_self _ _ ?_, ?_⟩ <;> decide +kernel

/-- A packet that reaches its endpoint takes its effect there. -/
theorem receive_of (ty : Nat) (p : Packet) (s : State) (h : Reaches s p) (t : p.ptype = BitVec.ofNat 4 ty) (k : knownType ty = true) (n : ty < 16)
    (v : s.leave p = offFabric s p) : receive ty p s = arrive (offFabric s p) (localIndex p.dst) p := by
  obtain ⟨⟨a, b, _⟩, c, d, e⟩ := h
  have tn : p.ptype.toNat = ty := by rw [t]; simp; omega
  have q : ofType ty p = p := by
    simp only [ofType, tn, k, if_true]
    rw [← t]
    cases p
    simp_all [asSent]
  have f : leaveFabric s p = offFabric s p := by simp [leaveFabric, v, offFabric]
  rw [tn] at d
  simp [receive, bufferEcc, State.when, a, b, q, f, c, d, intoCrossing, e]

/-- The payload lies at the address and the counter wraps below zero, with its event. -/
theorem test_write : ∃ t, exec (.write wr) dram = .next t
    ∧ (t.load 0x1000 2 = 0x0201 ∧ ccVal t 0x048 5 = 0xFFFFFFFF ∧ bit (t.reg Reg.fabEvtStat) 4 = true ∧ t.byte 0x1020 = 0) := by
  have e : exec (.write wr) dram = .next (receive 0 wr dram) := rfl
  rw [e, receive_of _ _ _ (reaches_self _ _ (by decide +kernel)) (by decide +kernel) rfl (by decide) rfl]
  exact ⟨_, rfl, by decide +kernel⟩
theorem test_atomic : ∃ t, exec (.atomic am) dram = .next t ∧ (t.load 0x1000 8 = 5 ∧ t.fab.net.map (·.ptype) = [4]) := by
  have e : exec (.atomic am) dram = .next (receive 3 am dram) := rfl
  rw [e, receive_of _ _ _ (reaches_self _ _ (by decide +kernel)) (by decide +kernel) rfl (by decide) rfl]
  exact ⟨_, rfl, by decide +kernel⟩
/-- What the router buffers spoil, and what is malformed, is counted. -/
theorem test_dropped : ran (.write { wr with uncorrectable := true }) dram (fun t => t.reg Reg.fabEccUe = 1 && bit (t.reg Reg.fabEvtStat) 5 && t.mem = []) = true
    ∧ ran (.msg { wr with ptype := 13 }) dram (fun t => t.reg Reg.fabMalformed = 1 && t.log.length = 1) = true := by and_intros <;> decide +kernel

/-- Core 4's thread 2 awaits tag 3: a load of 8 bytes at 0x1008 into s7, or an atomic into s7. -/
def awaits (l : Bool) : State := dram.setThread 4 2 { threadReset 0 with
  st := .run, loads := if l then [{ tag := 3, addr := 0x1008, size := 8, dst := .s 7 false, err := false }] else []
  wait := if l then .none else .atomic 3 0x1008 7 }
def resp : Packet := self 0x048 2 1 0x1000 granule id
/-- The manager's access: ALT and SEL of EID 0x248 in router 35; that entry read; FAB_MALFORMED read. -/
def mg (code n : Nat) : Packet := self 0x038 11 3 0 (bytesOf 1 code ++ bytesOf 1 n ++ bytesOf 2 0x248 ++ bytesOf 2 0x78 ++ List.replicate 26 0) id
theorem witness_FabricArrivals :
    Arrives (awaits true) (self 4 2 1 0x1000 granule (fun p => { p with seq := 3 }))
    ∧ (Arrives (noteAsked dram 0x048 0 (some 1)) resp ∧ askedFor (noteAsked dram 0x048 0 (some 1)) 0x048 0 = some resp.len.toNat)
    ∧ Arrives dram (self 0x038 6 0 0 [] (fun p => { p with cc := 5, ccEn := true })) ∧ Arrives dram (self 0x021 6 0 0 [] (fun p => { p with cc := 63, ccEn := true }))
    ∧ Arrives dram (self 0x105 5 0 0 granule id) ∧ Arrives dram (self 0x048 11 3 0 [] id) ∧ Arrives dram (self 0x038 4 1 0x1008 granule id)
    ∧ Arrives (awaits false) (self 4 4 1 0x1008 granule (fun p => { p with seq := 3 }))
    ∧ Arrives dram (mg 1 35) ∧ Arrives dram (mg 2 35) ∧ Arrives dram (mg 3 0) := by
  refine ⟨⟨reaches_self _ _ ?_, ?_⟩, ⟨⟨reaches_self _ _ ?_, ?_⟩, ?_⟩, ⟨reaches_self _ _ ?_, ?_⟩, ⟨reaches_self _ _ ?_, ?_⟩, ⟨reaches_self _ _ ?_, ?_⟩,
    ⟨reaches_self _ _ ?_, ?_⟩, ⟨reaches_self _ _ ?_, ?_⟩, ⟨reaches_self _ _ ?_, ?_⟩, ⟨reaches_self _ _ ?_, ?_⟩, ⟨reaches_self _ _ ?_, ?_⟩, reaches_self _ _ ?_, ?_⟩
    <;> decide +kernel
theorem test_mgmt : routeAt (mgmtAccess dram (mg 1 35)) 35 0x248 = 0x78 ∧ (mgmtAccess dram (mg 2 35)).fab.net.map (·.ptype) = [11]
    ∧ (mgmtAccess (dram.setReg Reg.fabMalformed 9) (mg 3 0)).reg Reg.fabMalformed = 0 := by and_intros <;> decide +kernel
theorem witness_no_wait : NoWait dram ∧ NoWait (awaits true) := by
  have h (s : State) (d : (List.range 24).all (fun n => (List.range 4).all (fun k => decide ((s.thread n k).wait = .none))) = true) : NoWait s := by
    intro n k hn hk
    exact of_decide_eq_true (List.all_eq_true.mp (List.all_eq_true.mp d n (List.mem_range.mpr hn)) k (List.mem_range.mpr hk))
  exact ⟨h _ (by decide +kernel), h _ (by decide +kernel)⟩
theorem witness_FabricRegisters : 24 ≤ (dram.setReg Reg.fabCcSel (0x48 + 5 * 512)).fldAt Reg.fabCcSel 8 0
    ∧ ran (.fabCcSet (.cc 0) 7) (dram.setReg Reg.fabCcSel (0x48 + 5 * 512)) (fun t => ccVal t 0x048 5 = 7) = true
    ∧ (let s := ccArrive (dram.setReg Reg.fabCcSel (0x48 + 5 * 512)) 0x048 5
       get (fun _ => none) (s.ccSet (ccKey 0x048)).hitAt 5 = some s.now ∧ ran (.fabCcSet (.cc 0) 7) s (fun t => ccVal t 0x048 5 = 6) = true)
    ∧ ran (.fabRtDataWrite (.cc 0) 0x82) (dram.setReg Reg.fabRtSel (35 + 0x248 * 64)) (fun t => routeAt t 35 0x248 = 0x82) = true
    ∧ ran (.fabRtRemoteWrite (.cc 0) 0x87248) dram (fun t => routeAt t 0 0x248 = 0x87 && routeAt t 35 0x248 = 0x87) = true := by
  and_intros <;> decide +kernel

/-- Port 0 is up after inauguration as slot 1 of three, its neighbour slot 0, with one packet unacknowledged and one seen. -/
def inSet : State :=
  let s := { dram with fab := { dram.fab with slot := 1, known := true, setSize := 3, gen := 4, inaug := .settled } }
  let s := ((s.setReg (Reg.itdCtrl 0) 1).setReg (Reg.itdCtrl 1) 1).setReg (Reg.fabSlot) 1
  (s.setPort 0 { portReset 0 with
    st := .up, vc3Only := false, rxSeq := 9, txSeq := 6, replay := [(5, wr)], unacked := 1, neighbour := some 0, hbAt := some 0, mateId := 0x77 }).setPort 1 { portReset 1 with st := .up, vc3Only := false, neighbour := some 2, hbAt := some 0 }

/-- From slot 0 to DRAM of slot 1, a response, as it comes over the link. -/
def foreign : Packet := sealPacket { plainPacket 0x248 0x038 2 1 0x1000 granule with hops := 1 }
/-- A packet on the two lanes of port 0. -/
def comes (n : BitVec 10) (p : Packet) : Instr := .itardPacketReceived 0 0 (laneOf 0 (linkBlocks n p)) (laneOf 1 (linkBlocks n p))
theorem witness_ItardTransport : (inSet.port 0).st = .up ∧ (inSet.port 0).rxSeq = 9 ∧ foreign.crc = packetCrc foreign ∧ wellFormedPacket foreign = true
    ∧ slotOf foreign.src ≠ inSet.fab.slot ∧ slotOf foreign.dst = inSet.fab.slot ∧ inSet.bitAt (Reg.itdCtrl 0) 1 = false
    ∧ ran (comes 8 foreign) inSet (fun t => (t.port 0).nak = some 9 && t.fab.net = []) = true
    ∧ ran (.itardPacketReceived 0 0 [.start 1 9, .stop 9] [.bad 3]) inSet (fun t => (t.port 0).nak = some 9 && (t.port 0).rxSeq = 9) = true
    ∧ lineFrom 0 (laneOf 0 (linkBlocks 9 foreign)) (laneOf 1 (linkBlocks 9 foreign)) = linkBlocks 9 foreign
    ∧ lineFrom 1 (laneOf 1 (linkBlocks 9 foreign)) (laneOf 0 (linkBlocks 9 foreign)) = linkBlocks 9 foreign
    ∧ ran (comes 9 foreign) inSet (fun t => t.fab.net = [foreign] && (t.port 0).rxSeq = 10) = true
    ∧ ran (comes 9 { foreign with crc := 0 }) inSet (fun t => t.reg (Reg.itdCrcErr 0) = 1 && (t.port 0).rxSeq = 9 && (t.port 0).nak = some 9) = true
    ∧ nothing (comes 9 foreign) (inSet.modPort 0 (fun x => { x with st := .down })) = true
    ∧ (inSet.port 0).replay = [] ++ (5, wr) :: [] ∧ (inSet.port 0).txq = []
    ∧ ran (.itardAck 0 ⟨5, 0, 2, 0⟩) inSet (fun t => (t.port 0).replay = []) = true
    ∧ ran (.itardNak 0 5) (inSet.modPort 0 (fun x => { x with replays := 7 })) (fun t => (t.port 0).st = .retrain && t.reg (Reg.itdRetrain 0) = 1) = true
    ∧ ran (.itardNak 0 5) inSet (fun t => (t.port 0).replays = 1 && t.reg (Reg.itdReplay 0) = 1) = true
    ∧ ran (.itardAckTimer 0) inSet (fun t => (t.port 0).unacked = 0) = true
    ∧ ran (.itdPortEnable (.cc 0) 0 1) dram (fun t => (t.port 0).st = .training && t.fab.inaug = .training) = true
    ∧ ran (.itardTrainingEnd 0 (some 32)) (inSet.modPort 0 (fun x => { x with st := .training })) (fun t => (t.port 0).st = .up && (t.port 0).vc3Only) = true
    ∧ ran (.itardTrainingEnd 0 (some 33)) (inSet.modPort 0 (fun x => { x with st := .training })) (fun t => (t.port 0).st = .down && (t.port 0).openEnd) = true
    ∧ ran (.itardTrainingEnd 0 none) (inSet.modPort 0 (fun x => { x with st := .training })) (fun t => (t.port 0).st = .down && (t.port 0).openEnd) = true
    ∧ ran (.itardTrainingEnd 0 (some 0)) (inSet.modPort 0 (fun x => { x with st := .down })) (fun t => (t.port 0).st = .up) = true
    ∧ (let r := inSet.modPort 0 (fun x => { x with st := .retrain })
       ran (.itardRetrainDone 0 true) r (fun t => (t.port 0).st = .up) = true
       ∧ ran (.itardRetrainDone 0 false) r (fun t => (t.port 0).st = .down && (t.port 0).replay = [] && (t.port 1).st = .up) = true
       ∧ ran (.itardPortDown 0 .retrainFailed) r (fun t => (t.port 0).st = .down) = true) := by and_intros <;> decide +kernel

/-- Flooding: the AFT side has ended with one device of ID 0x90, the list 0x10, 0x20 comes in on FWD. -/
def flooding : State :=
  let s := { dram with fab := { dram.fab with inaug := .flooding } }
  ((s.modPort 0 (fun x => { x with st := .up })).modPort 1 (fun x => { x with st := .up, chain := some [(0x90, 0)] }))
theorem witness_Inauguration : (dram.port 0).st = .down ∧ (dram.port 1).st = .down
    ∧ ran (.fabInaugStart (.cc 0) 0x100) (dram.modPort 0 (fun x => { x with st := .training })) (fun t => t.fab.inaug = .training) = true
    ∧ (let s := { inSet with fab := { inSet.fab with inaug := .learning, inaugAt := 0 } }
       ran .learnWindowEnd s (fun t => !bit (t.reg (Reg.itdCtrl 0)) 1) = true
       ∧ ran .inaugComplete { s with fab := { s.fab with setSize := 1, slot := 0 } } (fun t => t.fab.gen = 5 && t.fab.inaug = .settled && bit (t.reg Reg.fabEvtStat) 9 && (t.port 0).hbAt = some s.now) = true)
    ∧ ran (.itdLearnWrite (.cc 0) 1) (dram.setReg Reg.itdLearnSel 0x248) (fun t => (t.learned 0x248).st = 0) = true
    ∧ ran (.itdLearnWrite (.cc 0) 7) (dram.setReg Reg.itdLearnSel 0x248) (fun t => (t.learned 0x248).st = 3 && routeAt t 20 0x248 = 0x87) = true
    ∧ ran (.learnSuppressExpiry 0x248) (dram.setLearned 0x248 { learnReset 0 with st := 2, suppress := true })
        (fun t => !(t.learned 0x248).suppress && bit (t.reg Reg.fabEvtStat) 3) = true := by and_intros <;> decide +kernel

/-- From the manager of slot 0, over port 0, a packet of VC3 for slot 1 or, in transit, slot 2. -/
def vc3Msg (ty dst : Nat) (l : List Nat) : Packet := sealPacket (plainPacket (BitVec.ofNat 12 (512 * dst + 0x038)) 0x038 ty 3 0 (l.map (BitVec.ofNat 8)))
def heart : Packet := vc3Msg 8 1 ([0x77, 0, 0, 0, 0, 0, 0, 0, 0, 0, 0, 0, 4, 0, 0, 0] ++ List.replicate 16 0)
/-- Slot 2, PARTITIONED. -/
def lostMsg : Packet := vc3Msg 10 1 ([1, 2, 3] ++ List.replicate 29 0)
def planMsg : Packet := vc3Msg 10 1 ([0x56, 0x52, 0x4D, 0x50, 9] ++ List.replicate 891 7)
/-- Two heartbeat intervals of slot 2 are gone. -/
def missing : State := inSet.modPort 1 (fun x => { x with missed := 2 })

theorem sealed_crc (p : Packet) : (sealPacket p).crc = packetCrc (sealPacket p) := rfl

/-- A packet that met nothing in the buffers, from another device. -/
theorem alone_of (s : State) (p : Packet) (h : (decide (p.corrected = 0) && !p.uncorrectable && decide (slotOf p.src ≠ s.fab.slot)) = true) : Alone s p := by
  simp only [Bool.and_eq_true, decide_eq_true_eq, Bool.not_eq_true'] at h
  exact ⟨h.1.1, h.1.2, fun e => absurd e h.2⟩

theorem at_manager (s : State) (p : Packet) (h : (decide (p.corrected = 0) && !p.uncorrectable && decide (slotOf p.src ≠ s.fab.slot)
    && wellFormedPacket p && decide (p.crc = packetCrc p) && !p.ccEn) = true) : AtManager s p := by
  simp only [Bool.and_eq_true, decide_eq_true_eq, Bool.not_eq_true'] at h
  exact ⟨alone_of s p (by simp [h]), h.1.1.2, h.1.2, h.2⟩

theorem witness_SetOfDevices : NoWait inSet ∧ inSet.fab.held = []
    ∧ (∀ t, inSet.fab.hbSentAt = some t → inSet.past t 9_000_000 = true) ∧ (inSet.port 1).txq = [] ∧ replayFlits (inSet.port 1) + 2 ≤ 1024
    ∧ AtManager inSet heart ∧ AtManager inSet lostMsg ∧ AtManager inSet planMsg ∧ Alone inSet (vc3Msg 10 2 [])
    ∧ ran (.heartbeat 0 heart) (inSet.modPort 0 (fun x => { x with missed := 2 })) (fun t => (t.port 0).missed = 0 && (t.port 0).hbAt = some t.now) = true
    ∧ ran (.heartbeatMissed 1 true) inSet (fun t => (t.port 1).missed = 1 && viewOf t 2 = 0) = true
    ∧ (missing.fab.inaug = .settled ∧ (missing.port 1).neighbour = some 2 ∧ (missing.port 1).hbAt = some 0 ∧ missing.past 0 33_000_000 = true
      ∧ viewOf missing 2 = 0 ∧ missing.fab.slot < 2 ∧ survives missing 0 = true ∧ missing.tram.placed = [])
    ∧ ran (.remap 0 lostMsg) inSet (fun t => viewOf t 2 = 3) = true
    ∧ (∀ k, k < inSet.fab.setSize → viewOf inSet k ≠ 1) ∧ planMsg.payload.length = 896
    ∧ (wellFormedPacket (vc3Msg 10 2 []) = true ∧ inSet.fab.known = true ∧ wayFrom (offFabric inSet (vc3Msg 10 2 [])) (vc3Msg 10 2 []).dst 3 72 12 = .itard 1) := by
  refine ⟨?_, ?_, ?_, ?_, ?_, at_manager _ _ ?_, at_manager _ _ ?_, ⟨alone_of _ _ ?_, ?_, sealed_crc _, rfl⟩, alone_of _ _ ?_, ?_, ?_, ?_, ?_, ?_, ?_, ?_⟩
  · intro n k hn hk
    have d : (List.range 24).all (fun n => (List.range 4).all (fun k => decide ((inSet.thread n k).wait = .none))) = true := by decide +kernel
    exact of_decide_eq_true (List.all_eq_true.mp (List.all_eq_true.mp d n (List.mem_range.mpr hn)) k (List.mem_range.mpr hk))
  all_goals decide +kernel

/-- From any router the heartbeats leave by the port of their neighbour. -/
theorem witness_heartbeat_way (j : Fin 2) (m : Nat) (h : (inSet.port j).neighbour = some m) :
    wayFrom inSet (BitVec.ofNat 12 (m * 512 + 0x038)) 3 72 (routerFor 0x038) = .itard j := by
  have all : (List.range 36).all (fun n => decide (wayFrom inSet 0x038 3 72 n = .itard 0) && decide (wayFrom inSet 0x438 3 72 n = .itard 1)) = true := by
    decide +kernel
  have lt : routerFor 0x038 < 36 := by unfold routerFor; split; decide; split; decide; omega
  have x := List.all_eq_true.mp all _ (List.mem_range.mpr lt)
  simp only [Bool.and_eq_true, decide_eq_true_eq] at x
  match j with
  | 0 =>
    have e : (inSet.port (0 : Fin 2)).neighbour = some 0 := by decide +kernel
    obtain rfl : 0 = m := Option.some.inj (e.symm.trans h)
    exact x.1
  | 1 =>
    have e : (inSet.port (1 : Fin 2)).neighbour = some 2 := by decide +kernel
    obtain rfl : 2 = m := Option.some.inj (e.symm.trans h)
    exact x.2

/-- A device that was LOST is REACHABLE again with its heartbeat (R197). -/
theorem test_rejoins : viewOf (setView inSet 0 1) 0 = 1 ∧ AtManager (setView inSet 0 1) heart :=
  ⟨by decide +kernel, at_manager _ _ (by decide +kernel)⟩

/-! ### Clocks and temperature (chapter 11, R486, R551) -/

def changing (d : Bool) (i : Nat) (p : Option Nat) : State :=
  { later with clk := { later.clk with changes := [⟨4, [i], d, p, p.elim [] (fun _ => [(i, 20)])⟩], nextId := 5 } }
/-- Guard window open after an alarm pause 1 µs ago. -/
def guarded (s : State) : State := { s with clk := { s.clk with guardEnd := some (s.now - 1000) } }
theorem witness_FrequencySettings : (capOn later 6 = none ∧ routerHeld later 120 = false ∧ wantedEff later 6 = 32)
    ∧ ran (.clkIslWrite (.cc 0) 6 40) later (fun t => t.clk.changes.map (·.members) = [[6]] && wantedEff t 6 = 40) = true
    ∧ ran (.clkIslWrite (.cc 0) 6 127) later (fun t => wantedEff t 6 = 64) = true ∧ ran (.clkIslWrite (.cc 0) 182 0) later (fun t => wantedEff t 182 = 8) = true
    ∧ wantedEff { later with clk := { later.clk with crit := true } } 23 = 8
    ∧ routerHeld (later.setReg (Reg.fabVc2En 0) 1) 155 = true ∧ wantedEff (later.setReg (Reg.fabVc2En 0) 1) 155 = 32
    ∧ inAlarm later 156 = true ∧ guardActive (guarded later) = true
    ∧ ran (.clkIslWrite (.cc 0) 156 20) (guarded later) (fun t => t.clk.changes = [] && wantedEff t 156 = 28) = true
    ∧ ran (.clkIslWrite (.cc 0) 5 20) (guarded later) (fun t => t.clk.changes.map (·.deferred) = [true] && t.reg Reg.clkGuardDefers = 1) = true
    ∧ nothing (.clkIslWrite (.cc 0) 183 5) (later.answer 0) = true
    ∧ ran (.clkGroupChange (.cc 0) 30) (later.setReg (Reg.clkGroupSel 0) 3) (fun t => fld (t.reg (Reg.clkIslCtrl 1)) 6 0 = 30 && fld (t.reg (Reg.clkIslCtrl 2)) 6 0 ≠ 30) = true := by
  and_intros <;> decide +kernel
theorem witness_FrequencyChanges : (let s := (changing false 6 none).setReg (Reg.clkIslCtrl 6) 20
    duePoint s 6 = true ∧ wantedEff s 6 ≠ (s.island 6).eff ∧ inAlarm s 6 = false
    ∧ ran (.freqChangeDue 4) s (fun t => t.clk.changes = [⟨4, [6], false, some t.now, [(6, 20)]⟩]) = true
    ∧ ran (.freqChangeDue 4) ((guarded s).setReg (Reg.clkAlarm 0) 0x40) (fun t => t.clk.changes = [⟨4, [6], true, none, []⟩] && t.reg Reg.clkGuardDefers = 1) = true)
    ∧ ran (.fllLock 4) (changing false 5 (some 0)) (fun t => (t.island 5).eff = 20 && (t.island 5).pauses = 1 && t.clk.changes = []
        && bit (t.reg Reg.clkIrqStat) 9 && t.reg Reg.clkChanges = 1 && t.clk.guardEnd = some t.now) = true
    ∧ ran (.fllLockTimeout 5) (changing false 5 (some 0)) (fun t => (t.island 5).lockFail && t.clk.changes = [] && bit (t.reg Reg.clkIrqStat) 5 && t.reg Reg.clkLockFails = 1) = true
    ∧ ran .guardWindowEnd (changing true 5 none) (fun t => t.clk.changes = [⟨4, [5], false, none, []⟩]) = true
    ∧ ran (.islandIdleStop 5) (later.setReg (Reg.clkIslCtrl 5) 0x210) (fun t => (t.island 5).idle) = true
    ∧ (let s := later.setIsland 5 { islandReset 5 with idle := true }
       ran (.islandWake 5) s (fun t => !(t.island 5).idle) = true
       ∧ ran (.islandWake 5) ((s.setIsland 5 { s.island 5 with stored := true }).setReg (Reg.clkIslCtrl 5) 20) (fun t => (t.island 5).eff = 20 && bit (t.reg Reg.clkIrqStat) 9) = true)
    ∧ ran .refClkLost (changing false 5 (some 0)) (fun t => !t.clk.refOk && t.reg Reg.clkRefLosses = 1 && t.clk.changes.map (·.paused) = [none]) = true
    ∧ ran .refClkBack { later with clk := { later.clk with refOk := false } } (fun t => t.clk.refOk && bit (t.reg Reg.clkIrqStat) 1) = true
    ∧ ran (.islandDead 215) later (fun t => (t.island 215).dead && t.reg Reg.clkDeadIsl = 215 && bit (t.reg Reg.clkIrqStat) 6) = true := by
  and_intros <;> decide +kernel

/-- Twelve sensors, all but the last at 40 °C. -/
def hotAt (x : Int) : List Int := List.replicate 11 160 ++ [x]
theorem witness_Temperature : thHot later = 420 ∧ thCrit later = 440 ∧ thHyst later = 20
    ∧ tempAtLeast (sampleTemps later (hotAt 440)) (thCrit later) = true ∧ tempAtLeast (sampleTemps later (hotAt 439)) (thCrit later) = false
    ∧ tempAtLeast (sampleTemps later (hotAt 420)) (thHot later) = true ∧ tempAtLeast (sampleTemps later (hotAt 419)) (thCrit later - thHyst later) = false
    ∧ ran (.thermalCap true (hotAt 439)) later (fun t => !t.clk.crit) = true
    ∧ ran (.sensorValid 3 600) later (fun t => sensorReads t 3 = some 600) = true ∧ ran (.sensorValid 3 (-220)) later (fun t => sensorReads t 3 = some (-220)) = true
    ∧ stageOf (checkWarn (sampleTemps later (hotAt 440))) = 4 ∧ stageOf (checkWarn (sampleTemps later (hotAt 439))) = 3 ∧ later.tram.stage = 0
    ∧ (let s := sampleTemps later (hotAt 480); tripHolds s (hotAt 480) = true ∧ tripHolds s (hotAt 479) = false ∧ tripHolds later (hotAt 480) = false)
    ∧ ran (.thermalTrip (hotAt 480)) later (fun t => !t.sys.tripped && !t.sys.tripPin) = true
    ∧ (let s := { later with tram := { later.tram with stage := 2, coolSince := some 0 } }
       (sampleTemps s (hotAt 160)).tram.coolSince = some 0 ∧ s.past 0 10_000_000_000 = true) := by and_intros <;> decide +kernel

/-- A complete list with one device, of an ID, as it comes in on a port (R204). -/
def floodMsg (id : Word) : Packet :=
  sealPacket (plainPacket 0x038 0x038 9 3 0 (bytesOf 1 1 ++ bytesOf 1 1 ++ bytesOf 1 1 ++ List.replicate 5 0 ++ bytesOf 8 id.toNat ++ List.replicate 16 0))
theorem flood_list (id : Word) : inaugList (floodMsg id).payload = [(id, 0)] := by
  have h : ofBytes (bytesOf 8 id.toNat) = id.toNat := by
    have := id.isLt
    simp only [bytesOf, ofBytes, BitVec.toNat_ofNat]
    omega
  show [(BitVec.ofNat 64 (ofBytes (bytesOf 8 id.toNat)), 0)] = _
  rw [h, BitVec.ofNat_toNat, BitVec.setWidth_eq]
/-- A device of another ID joins the chain; with its own ID the chain is closed. -/
theorem witness_flooding (id : Word) : AtManager flooding (floodMsg id) ∧ flooding.fab.inaug = .flooding ∧ ofBytes ((floodMsg id).payload.take 1) ≠ 0
    ∧ ofBytes (((floodMsg id).payload.drop 2).take 1) = 1 ∧ (flooding.port 0).chain = none ∧ (flooding.port 1).chain = some [(0x90, 0)]
    ∧ (∀ e, e ∈ inaugList (floodMsg (Config.deviceId + 1)).payload → e.1 ≠ Config.deviceId)
    ∧ (∃ e, e ∈ inaugList (floodMsg Config.deviceId).payload ∧ e.1 = Config.deviceId) := by
  refine ⟨⟨⟨rfl, rfl, fun _ => ?_⟩, by simp [wellFormedPacket, floodMsg, sealPacket, plainPacket, bytesOf, typeFitsVc, lenFitsType], sealed_crc _, rfl⟩, rfl, by simp [show (floodMsg id).payload.take 1 = [1] from rfl, ofBytes], rfl, by decide +kernel, by decide +kernel, ?_, ?_⟩
  · show holdsSince flooding (localIndex 0x038) = none
    decide +kernel
  · intro e h
    rw [flood_list] at h
    obtain rfl := List.mem_singleton.mp h
    bv_omega
  · exact ⟨(Config.deviceId, 0), by rw [flood_list]; simp, rfl⟩

/-! ### Power domains, the supply and Rosemary (chapters 12 and 13) -/

/-- Domain d as f has it. -/
def dom (d : Nat) (f : Domain → Domain) (s : State) : State := s.modDom d f
theorem witness_DomainTargets : later.pwr.commit = false ∧ refusal later 133 0 true [133] = 1 ∧ refusal later 175 2 true [175] = 1 ∧ refusal later 126 2 true [126] = 2
    ∧ refusal later 56 0 true [56] = 3 ∧ refusal later 126 0 false [126] = 4 ∧ refusal later 127 3 false [127] = 6 ∧ refusal later 127 0 false [127] = 0
    ∧ refusal (dom 127 (fun x => { x with fault := 1 }) later) 127 1 false [127] = 5
    ∧ ran (.domainTargetWrite (.cc 0) 133 0) later (fun t => t.reg Reg.pwrLastRefuse = 133 + 256 && bit (t.reg Reg.pwrIrqStat) 3 && t.dom 133 = later.dom 133) = true
    ∧ childrenOff later 127 = true ∧ parentOn later 127 = true ∧ wakingNow later < maxWake later
    ∧ ran (.domainTargetWrite (.cc 0) 127 0) (on [127] later) (fun t => (t.dom 127).st = .draining && (t.dom 127).step = .drain) = true
    ∧ ran (.domainTargetWrite (.cc 0) 127 1) (on [133] (later.each (List.range 177) (fun s d => dom d (fun x => { x with queued := none, target := 0 }) s)))
        (fun t => (t.dom 127).st = .waking && (t.dom 127).step = .precharge) = true
    ∧ (let s := (later.setReg (Reg.pwrGroupSel 3) 0x8000_0000).setReg (Reg.pwrGroupSel 4) 1
       selectedDomains s = [127, 128] ∧ refusal s 127 0 false [127, 128] = 0)
    ∧ selectedDomains (later.setReg (Reg.pwrGroupSel 4) 0x22) = [129, 133]
    ∧ ran (.wakeAdmit 120) later (fun t => (t.dom 120).st = .waking && (t.dom 120).queued = none) = true
    ∧ ran (.ccUnresponsive 3) (on [136] later) (fun t => (t.dom 136).inReset) = true := by and_intros <;> decide +kernel
theorem witness_DomainSequencer : drainMet (on [127] later) 127 = true ∧ drainMet (on [167] (later.setReg Reg.vehPortCtrl 1)) 167 = false
    ∧ ran (.drainFail 167) (dom 167 (fun x => { x with st := .draining, step := .drain, target := 0 }) (on [167] (later.setReg Reg.vehPortCtrl 1)))
        (fun t => (t.dom 167).st = .on && (t.dom 167).drainFail && bit (t.reg Reg.pwrIrqStat) 2 && t.reg Reg.pwrDrainFails = 1) = true
    ∧ (let at' (a : DomStep) (t : Nat) := dom 127 (fun x => { x with st := if t = 1 then .waking else .draining, step := a, target := t }) (on [127] later)
       ran (.drainComplete 127) (at' .drain 0) (fun t => (t.dom 127).step = .clkStop) = true
       ∧ ran (.sequencerStepDone 127) (at' .clkStop 0) (fun t => (t.dom 127).step = .isolate) = true
       ∧ ran (.sequencerStepDone 127) (at' .isolate 0) (fun t => (t.dom 127).step = .reset && (t.dom 127).isolated) = true
       ∧ ran (.sequencerStepDone 127) (at' .reset 0) (fun t => (t.dom 127).step = .switch && (t.dom 127).inReset) = true
       ∧ ran (.sequencerStepDone 127) (at' .switch 0) (fun t => (t.dom 127).step = .discharge && !(t.dom 127).swClosed) = true
       ∧ ran (.dischargeDone 127) (at' .discharge 0) (fun t => (t.dom 127).st = .off && (t.dom 127).isolated && (t.dom 127).inReset) = true
       ∧ ran (.supplyGood 127) (at' .close 1) (fun t => (t.dom 127).step = .clock && (t.dom 127).swClosed) = true
       ∧ ran (.sequencerStepDone 127) (at' .clock 1) (fun t => (t.dom 127).step = .release) = true
       ∧ ran (.sequencerStepDone 127) (at' .release 1) (fun t => (t.dom 127).st = .on && !(t.dom 127).isolated && !(t.dom 127).inReset) = true
       ∧ ran (.swOpen 127) (at' .close 1) (fun t => (t.dom 127).fault = 1 && bit (t.reg Reg.pwrIrqStat) 4 && t.reg Reg.pwrSwFaults = 1) = true
       ∧ ran (.stuckOn 127) (at' .discharge 0) (fun t => (t.dom 127).fault = 2 && bit (t.reg Reg.pwrIrqStat) 5) = true
       ∧ ran (.stepLate 127) (at' .reset 0) (fun t => (t.dom 127).fault = 6 && bit (t.reg Reg.pwrIrqStat) 10) = true)
    ∧ ran (.droop 127) (on [127] later) (fun t => (t.dom 127).fault = 3 && (t.dom 127).step = .clkStop && (t.dom 127).forced && bit (t.reg Reg.pwrIrqStat) 6) = true
    ∧ ran (.iso 127) (on [127] later) (fun t => (t.dom 127).fault = 5 && bit (t.reg Reg.pwrIrqStat) 8) = true
    ∧ (let s := { dom 128 (fun x => { x with st := .draining, step := .discharge, target := 0, queued := none }) later with sys := { later.sys with jumpAt := some 5 } }
       domainAlarm s 128 = false ∧ s.pwr.retried = [] ∧ ran (.stuckOn 128) s (fun t => (t.dom 128).fault = 0 && (t.dom 128).target = 1 && t.pwr.retried.contains 128) = true)
    ∧ ran (.retDroop 56) (dom 56 (fun x => { x with st := .retained, target := 2, queued := none }) later) (fun t => (t.dom 56).fault = 4 && (t.dom 56).retLost) = true := by and_intros <;> decide +kernel

/-- Rosemary in a phase since the reset, domain 174 ON. -/
def hld (p : HldPhase) (s : State) : State := on [174] (s.modHld (fun h => { h with phase := p }))
theorem witness_SupplyLoss : critCode later = 1911 ∧ armCode later = 2458 ∧ returnCode later = 2594 ∧ (hld .idle later).hld.senseFault = false
    ∧ 1 ≤ later.fldAt Reg.hldCfg 6 0 ∧ newestValid later = none
    ∧ (takeSample later ⟨2457, false, 4⟩).hld.runs.arm = 4 ∧ (takeSample later ⟨3000, true, 2⟩).hld.runs.fail = 2 ∧ (takeSample later ⟨2595, false, 16⟩).hld.runs.back = 16
    ∧ (takeSample later ⟨1910, false, 2⟩).hld.runs.crit = 2
    ∧ ran (.supplyArm ⟨2458, false, 4⟩) (hld .idle later) (fun t => t.hld.phase = .idle && t.hld.code = 2458) = true
    ∧ ran (.supplyArm ⟨2457, false, 3⟩) (hld .idle later) (fun t => t.hld.phase = .idle && t.hld.runs.arm = 3) = true
    ∧ ran (.supplyBack ⟨2594, false, 16⟩) (hld .armed later) (fun t => t.hld.phase = .armed) = true
    ∧ ran (.rideThroughWindowEnd 2458 true) (hld .idle later) (fun t => t.hld.phase = .idle && t.hld.runs.fail = 1) = true
    ∧ ran (.supplyCrit ⟨1911, false, 2⟩) (hld .armed later) (fun t => t.hld.phase = .armed) = true
    ∧ ran (.testSave (.cc 0) 0x801) (hld .armed later) (fun t => t.hld.phase = .armed) = true
    ∧ later.past later.hld.armedAt (100_000 * min 100 (later.fldAt Reg.hldCfg 6 0)) = true := by and_intros <;> decide +kernel

/-- A VALID save in area 1 with an open incident, a failed item 0, and an image of five bytes. -/
def saved (s : State) : State := s.setSave 1 { saveReset 1 with state := 2, seq := 3, bad := 1, image := [1, 2, 3, 4, 5], tail := some ⟨7, 0, []⟩ }
theorem witness_SaveAndRestore : newestValid (saved later) = some 1 ∧ newestLedger later = none
    ∧ (let s := (hld .saving (later.setByte (ledgerSrc later + 32) 9)).modHld (fun h => { h with writing := 1, byTrip := false })
       ran (.saveDone 4 false 0x800) s (fun t => (t.save 1).state = 2 && (t.save 1).bad = 4 && t.hld.phase = .saved && (t.ledgerArea 0).entries = [(9, ledgerReset)]
         && (t.ledgerArea 0).seq = 1 && (t.dom 174).st = .on && t.reg Reg.hldLate = 1) = true)
    ∧ (hld .saved later).sys.porHeld = false ∧ (hld .saved later).sys.warmAt = none
    ∧ (takeSample later ⟨2595, false, 1016⟩).hld.runs.back = 1016
    ∧ ran (.rosemaryIdle ⟨2595, false, 1016⟩) ((hld .disabled later).setReg Reg.hldCtrl 1) (fun t => t.hld.phase = .idle) = true
    ∧ ran (.ledgerGo (.cc 0) 0x100) (hld .idle later) (fun t => (t.ledgerArea 0).valid && bit (t.reg Reg.hldIrqStat) 5) = true
    ∧ ran (.restore (.cc 0) 0x200) (saved (hld .idle later)) (fun t => t.hld.restoring = some 1 && t.hld.restored = 0x1FE) = true
    ∧ ran (.restore (.cc 0) 0x200) (hld .idle later) (fun t => t.hld.restoring = some 2 && t.hld.restored = 0) = true
    ∧ ran (.consume (.cc 0) 0x400) ((saved (hld .idle later)).modHld (fun h => { h with restoredFrom := some 1 })) (fun t => (t.save 1).state = 3) = true
    ∧ 2 ≤ { later.sys with failedStarts := 2 }.failedStarts ∧ later.sys.failedStarts < 2 ∧ (0x1FE : Nat).testBit 4 = true ∧ (0x1FE : Nat).testBit 0 = false
    ∧ ran (.senseFault ⟨1310, false, 99⟩) (hld .idle later) (fun t => !t.hld.senseFault) = true
    ∧ ran (.senseFault ⟨1310, false, 100⟩) (hld .idle later) (fun t => t.hld.senseFault && t.reg Reg.hldSenseFaults = 1) = true
    ∧ ran (.failNFault ⟨2595, true, 1⟩) (hld .disabled later) (fun t => t.hld.failNFault && bit (t.reg Reg.hldIrqStat) 4) = true
    ∧ ran (.failNFault ⟨2595, false, 1000⟩) ((hld .idle later).modHld (fun h => { h with failNFault := true })) (fun t => !t.hld.failNFault) = true
    ∧ ran (.hldThWrite (.cc 0) false 0x0D00_0C00) (hld .idle later) (fun t => armCode t = 0xC00 && returnCode t = 0xD00) = true
    ∧ ran (.hldThWrite (.cc 0) false 0x0C00_0C00) (hld .idle later) (fun t => armCode t = 2458 && bit (t.reg Reg.hldIrqStat) 7) = true
    ∧ ran (.hldThWrite (.cc 0) true 0) (hld .idle later) (fun t => critCode t = 1911) = true
    ∧ ran (.hldThWrite (.cc 0) true 2458) (hld .idle later) (fun t => critCode t = 1911 && bit (t.reg Reg.hldIrqStat) 7) = true := by and_intros <;> decide +kernel

/-! ### Sage (chapters 1 and 14) -/

/-- Sage in a state with a warning package, the cab active, camera slot 3 class A forward and 5 aft, the ego speed 10 m/s. -/
def sage (st : SageSt) : State :=
  let s := { standing with cab := { standing.cab with inputs := 8 }, tram := { standing.tram with started := true } }
  let s := s.modSage (fun g => { g with st := st, dir := some false, speed := 1000, flags := 1, stale := false, speedAt := some s.now, detectedAt := some s.now })
  (s.setReg (Reg.camSlotCtrl 3) 1).setReg (Reg.camSlotCtrl 5) 0x11

/-- A list of version 1 for the own car from slot k, begun `late` ns ago, with one object 25 m ahead in the path; buffer A is full. -/
def list (v k late edge : Nat) : State :=
  let s := ccPut (sage .run) 0x03C 1 32
  let o := inboxBase
  ((s.setBytes o (bytesOf 1 v ++ bytesOf 1 k ++ [1, 0, 0, 0, 4, 0, 7])).setBytes (o + 16) (bytesOf 8 (s.now - late))).setBytes (o + 36) (bytesOf 4 25_000 ++ bytesOf 4 edge)
theorem witness_SageLists : sageWorks (list 1 3 1000 0) = true ∧ ccVal (list 1 3 1000 0) 0x03C 0 = 0 ∧ activeSlot (sage .run) = some 3
    ∧ ccVal (list 1 3 1000 0) 0x03C 1 ≠ 0
    ∧ (list 1 3 1000 0).load inboxBase 1 = 1 ∧ (list 2 3 1000 0).load inboxBase 1 ≠ 1
    ∧ trackLevel (sage .run) ⟨1, 25_000, 0, 0, 1⟩ = 3 ∧ trackLevel (sage .run) ⟨1, 70_000, 0, 0, 1⟩ = 2 ∧ trackLevel (sage .run) ⟨1, 25_000, 1, 0, 1⟩ = 2
    ∧ trackLevel (sage .run) ⟨1, 140_000, 1, 0, 1⟩ = 1 ∧ trackLevel (sage .run) ⟨1, 160_000, 0, 0, 1⟩ = 0 ∧ trackLevel (sage .run) ⟨1, 10_000, 0, -10_000, 1⟩ = 1
    ∧ ran (.sageListTake false []) (list 2 3 1000 0) (fun t => t.reg Reg.sgeListDrop = 1 && bit (t.reg Reg.sgeIrqStat) 4 && ccVal t 0x03C 0 = 32 && ownLevel t = 0) = true
    ∧ ran (.sageListTake false []) (list 1 5 1000 0) (fun t => t.reg Reg.sgeFrames = 1 && (t.car 0).tracks = [] && t.fab.net.map (·.cc.toNat) = [7]) = true
    ∧ ran (.sageListTake false []) (list 1 3 1000 0) (fun t => ownLevel t = 3 && t.reg Reg.sgeLate = 0 && t.reg Reg.sgeLastPath = 1) = true
    ∧ ran (.sageListTake false []) (list 1 3 20_000_001 0) (fun t => t.reg Reg.sgeLate = 1 && bit (t.reg Reg.sgeIrqStat) 3 && t.sage.lateAt = some t.now && ownLevel t = 3 && (t.car 0).tracks.map (·.d) = [25_000]) = true := by and_intros <;> decide +kernel

/-- Door 2, right side. -/
def door : DoorId := ⟨2, true⟩
/-- A window of that door, opened ten seconds ago. -/
def window : Window :=
  { door := door, car := 0, seq := 5, opened := 0, openedAt := later.now - 10_000_000_000, flags := 0, ending := none, outTotal := 0, outSince := none, differs := none, stepped := false, draw := 0 }
theorem witness_SageTimers : (let s := (sage .run).modSage (fun g => { g with speedAt := some (later.now - 30_000_000) })
      ran .egoSpeedStale s (fun t => t.sage.stale) = true)
    ∧ ran .lateClear ((sage .run).modSage (fun g => { g with lateAt := some (later.now - 1_000_000_000) })) (fun t => t.sage.lateAt = none) = true
    ∧ ran .sageVehicleArea ((sage .safe).setBytes (inboxBase + 0x2000) [1, 2, 0x34, 0x12, 0, 0, 0, 0, 5]) (fun t => t.sage.speed = 0x1234 && t.sage.runDir = 2 && ccVal t 0x03C 2 = 1
        && t.sage.speedAt = some 5) = true
    ∧ ran .sageVehicleArea ((sage .safe).setBytes (inboxBase + 0x2000) [0, 2, 0x34, 0x12]) (fun t => t.sage.speedAt = (sage .safe).sage.speedAt && t.sage.speed = 1000) = true
    ∧ ran .sageStatusStale (sage .run) (fun t => t.sage.statusStale && t.sage.st = .safe) = true
    ∧ ran (.cabDisagreeTimeout false) { (sage .run) with veh := { later.veh with differs := some 0 } } (fun t => t.veh.disagree) = true
    ∧ ran (.cabDisagreeTimeout true) { (sage .run) with veh := { later.veh with differsRev := some 0 } } (fun t => t.veh.disagreeRev) = true
    ∧ (let s := (sage .run).setCar 0 { carReset 0 with level := 1 }
       patternOf s = 1 ∧ ran .patternPhaseTimer s (fun t => commanded t false && !commanded t true && cutClosed t && t.sage.high) = true)
    ∧ (let s := ((sage .run).setCar 0 { carReset 0 with level := 2 }).modSage (fun g => { g with high := true })
       patternOf s = 2 ∧ ran .patternPhaseTimer s (fun t => !commanded t false && commanded t true && !t.sage.high) = true)
    ∧ patternOf (sage .run) = 0 ∧ patternOf (sage .safe) = 4
    ∧ ran .detectionTimeout ((sage .run).modSage (fun g => { g with detectedAt := some (later.now - 200_000_000) })) (fun t => t.sage.blind && t.sage.st = .safe) = true
    ∧ (sage .run).past (sage .run).sage.statusAt 1_000_000 = true
    ∧ ran (.noVideoTimeout door) { later with tram := { later.tram with windows := [{ window with outSince := some (later.now - 1_000_000_001) }] } }
        (fun t => t.tram.windows.map (·.flags) = [0x10]) = true
    ∧ ran (.noVideoTimeout door) { later with tram := { later.tram with windows := [{ window with outSince := some (later.now - 1_000_000_000) }] } }
        (fun t => t.tram.windows.map (·.flags) = [0]) = true
    ∧ ran (.taskFault .counting 2 0 0) { later with tram := { later.tram with tasks := [(taskNo .counting, ⟨[1, later.now - 2, later.now - 1], false, true⟩)] } } (fun t => (t.task .counting).held) = true
    ∧ nothing (.taskFault .counting 0x0B 0 0) { later with sys := { later.sys with debugUnlocked := true } } = true
    ∧ (let s := { sage .run with memb := { later.memb with trained := 0xF } }.setReg (Reg.sgeWinSize 0) 64
       targetOf s (addrLocal (s.reg (Reg.sgeWinBase 0)).toNat) = .dram 0
       ∧ ran .sageStatusBlock s (fun t => t.sage.statusSeq = 1 && t.load (addrLocal (s.reg (Reg.sgeWinBase 0)).toNat) 4 = 1) = true)
    ∧ ([later.now - 1].filter (fun x => decide (later.now < x + 60_000_000_000))).length < 2 := by
  and_intros <;> decide +kernel
theorem witness_SageSupervision : sageWorks (sage .selftest) = true ∧ (sage .run).past (sage .run).sage.kickAt 5_000_000 = true
    ∧ ran .lockstepMismatch (sage .run) (fun t => t.sage.st = .selftest && t.reg Reg.sgeLsMismatch = 1 && bit (t.reg Reg.sgeIrqStat) 0 && ccVal t 0x03C 0 = 32) = true
    ∧ ran .sageWdogExpiry ((sage .run).modSage (fun g => { g with events := [later.now - 3_599_999_999_999, later.now - 1] }))
        (fun t => t.sage.st = .latched && t.reg Reg.sgeWdogExp = 1 && bit (t.reg Reg.sgeIrqStat) 1) = true
    ∧ ran .sageWdogExpiry ((sage .run).modSage (fun g => { g with events := [later.now - 3_600_000_000_000, later.now - 1] })) (fun t => t.sage.st = .selftest) = true
    ∧ ran (.sgeWdogKick .sage 0xA4) (sage .run) (fun t => t.sage.st = .selftest) = true
    ∧ ran (.sgeWdogKick .sage 0xA5) (sage .run) (fun t => t.sage.kickAt = t.now && t.sage.st = .run) = true
    ∧ ran (.sgeWdogKick (.cc 2) 0xA5) (sage .run) (fun t => t.bus.error && t.sage.kickAt = 0) = true
    ∧ ran (.sgeHbBeat (.cc 2) 1) (sage .run) (fun t => t.sage.beatAt = t.now) = true ∧ ran (.sgeHbBeat .sage 1) (sage .run) (fun t => t.bus.error) = true
    ∧ ran .hbMiss (sage .run) (fun t => t.sage.hbMissed && bit (t.reg Reg.sgeIrqStat) 2) = true
    ∧ (sage .run).sys.porHeld = false ∧ (sage .run).sys.warmAt = none ∧ (sage .run).past (sage .run).sage.beatAt 1_000_000_000 = true
    ∧ ran .sageHbResetRequest (sage .run) (fun t => t.sys.warmAt = some t.now && t.reg Reg.sysRstCause = 8) = true
    ∧ ran (.sgeCcAdd .sage 5) ((sage .run).setReg Reg.sgeCcSel 9) (fun t => ccVal t 0x03C 9 = 5 && ccVal t 0x03C 8 = 0) = true := by and_intros <;> decide +kernel

/-! ### Start-up, reset, packages and ports (chapters 14 and 15) -/

/-- The state with a part of `sys` as f has it. -/
def sys (f : Sys → Sys) (s : State) : State := { s with sys := f s.sys }
theorem witness_Resets : later.clk.refOk = true ∧ later.sys.porHeld = false ∧ later.sys.warmAt = none ∧ later.hld.phase ≠ .saving
    ∧ nothing (.powerOnReset true) { later with clk := { later.clk with refOk := false } } = true
    ∧ (sys (fun y => { y with porHeld := true }) later).sys.porHeld = true
    ∧ nothing (.resetNPin 999) later = true ∧ (1000 : Nat) ≤ 1000
    ∧ ran (.resetNPin 1000) (later.setReg (Reg.sysScratch 0) 5) (fun t => t.reg Reg.sysRstCause = 2 && t.reg (Reg.sysScratch 0) = 0 && t.now = 0) = true
    ∧ ran (.powerOnReset false) (on [127] (later.setByte 0x100 5)) (fun t => t.reg Reg.sysRstCause = 1 && t.sys.porHeld && (t.dom 127).st = .off) = true
    ∧ ran (.softReset (.cc 0) 1) later (fun t => t.sys.warmAt = some t.now && t.reg Reg.sysRstCause = 0x40 && t.reg Reg.sysRstCount = 1) = true
    ∧ ran (.softReset (.cc 0) 1) (sys (fun y => { y with warmAt := some 7 }) later) (fun t => t.sys.warmAt = some 7 && t.reg Reg.sysRstCause = 0x41) = true
    ∧ ran .warmReset (sys (fun y => { y with warmAt := some 0 }) ((later.setReg (Reg.sysScratch 0) 5).setReg Reg.camShedForce 1)) (fun t => t.sys.warmAt = none
        && t.reg (Reg.sysScratch 0) = 5 && t.reg Reg.camShedForce = 0 && t.tram.nextWindow = 5 && t.tram.nextIncident = 1) = true
    ∧ nothing .warmReset ((sys (fun y => { y with warmAt := some 0 }) later).modHld (fun h => { h with phase := .saving })) = true
    ∧ ran (.sysWdogKick (.cc 0) 0x3C) (sys (fun y => { y with wdogArmed := true }) later) (fun t => t.sys.wdogAt = t.now) = true
    ∧ ran (.sysWdogKick (.cc 0) 0x3D) (sys (fun y => { y with wdogArmed := true }) later) (fun t => t.sys.warmAt = some t.now && t.reg Reg.sysRstCause = 4) = true
    ∧ ran (.sysWdogCfgWrite (.cc 0) 99) later (fun t => t.reg Reg.sysWdogCfg = 100) = true ∧ ran (.sysWdogCfgWrite (.cc 0) 10_001) later (fun t => t.reg Reg.sysWdogCfg = 10_000) = true
    ∧ ran .systemWdogExpiry (sys (fun y => { y with wdogArmed := true }) later) (fun t => t.reg Reg.sysRstCause = 4) = true
    ∧ ran .startFailReset (sys (fun y => { y with failAt := some 0 }) later) (fun t => t.reg Reg.sysRstCause = 0x40) = true
    ∧ ran .startFailReset (sys (fun y => { y with jumpAt := some 0 }) later) (fun t => t.fldAt Reg.bootStat 15 8 = 5 && t.sys.failAt = some t.now) = true
    ∧ ((later.setSave 0 { saveReset 0 with state := 1 }).save 0).state = 1
    ∧ ran .warmReset ((sys (fun y => { y with warmAt := some 0 }) later).setSave 0 { saveReset 0 with state := 1 }) (fun t => bit (t.reg Reg.hldIrqStat) 8) = true
    ∧ (sys (fun y => { y with warmAt := some 0, romFailAt := some 5 }) later).sys.romFailAt ≠ none := by
  and_intros <;> decide +kernel

/-- A firmware image of one byte of body: version, silicon, key 0, image version 9. -/
def image : List Byte := bytesOf 4 fwMagic ++ [1, 0xB0, 0, 0] ++ bytesOf 4 9 ++ bytesOf 4 1 ++ List.replicate 240 0xFF ++ [0x5A]
/-- Slice 0 is up, CC0 runs its ROM, and slot A holds the image. -/
def rom : State := on [133] (groupsUp 0 (later.setFlash 0x10_0000 image))
/-- One that a record says is on trial in slot B, with t starts. -/
def trial (t : Nat) (s : State) : State := appendRecord s { noRecord with stateB := 2, trialsB := t }
def chip (n : Nat) (s : State) : State := sys (fun y => { y with xspi := some (n, 0x2010, 0x1000, 2) }) (s.setBytes 0x1000 [0xF0, 0x3C])
theorem witness_BootAndFlash : rom.fldAt Reg.bootStat 5 3 = 0 ∧ rom.sys.jumpAt = none ∧ (rom.dom 133).st = .on ∧ sliceUp rom = true ∧ sliceUp (on [133] later) = false
    ∧ headerOk rom (fwHeader (rom.flashBytes (fwSlotBase 0) 256)) = true ∧ firstSlot noRecord = 0 ∧ noRecord.state 0 = 1
    ∧ recordAt (later.setFlash 64 (recordBytes { noRecord with stateB := 2, trialsB := 2 })) 1 = some { noRecord with stateB := 2, trialsB := 2 }
    ∧ firstSlot { noRecord with stateB := 2, trialsB := 2 } = 1
    ∧ (∀ x, x < 2 → { noRecord with stateA := 3, stateB := 0 }.state x = 0 ∨ { noRecord with stateA := 3, stateB := 0 }.state x = 3)
    ∧ ran (.ddrTrainingDone true) (sys (fun y => { y with jumpAt := some 0 }) later) (fun t => t.memb.trained = 0xF) = true
    ∧ ran (.ddrTrainingDone false) (sys (fun y => { y with jumpAt := some 0 }) later) (fun t => t.sys.ddrFails = 1 && t.sys.failAt = none) = true
    ∧ ran (.ddrTrainingDone false) (sys (fun y => { y with jumpAt := some 0, ddrFails := 1 }) later) (fun t => t.fldAt Reg.bootStat 15 8 = 2 && t.sys.failAt = some t.now) = true
    ∧ ran .ddrEccInitDone dram (fun t => t.memb.eccDone && t.fldAt Reg.bootStat 15 8 = 3) = true
    ∧ ran .ddrEccInitDone (sys (fun y => { y with provisioned := true }) dram) (fun t => t.fldAt Reg.bootStat 15 8 = 4) = true
    ∧ (let s := sys (fun y => { y with provisioned := true, commA := some (0, [⟨Reg.bayCfg, 2⟩]) }) dram
       commissionable Reg.bayCfg = true ∧ (regAt Reg.bayCfg).isSome ∧ ran .ddrEccInitDone s (fun t => t.reg Reg.bayCfg = 2) = true)
    ∧ (let s := ((later.setReg Reg.bootXspiAddr 0x20FF).setReg Reg.bootXspiLen 1).setReg Reg.bootXspiDst 0x1000
       ran (.xspiProgram (.cc 0) 2) s (fun t => t.sys.xspi = some (1, 0x20FF, 0x1000, 1)) = true
       ∧ ran (.xspiRead (.cc 0) 1) s (fun t => t.sys.xspi = some (0, 0x20FF, 0x1000, 1)) = true
       ∧ ran (.xspiErase4k (.cc 0) 4) s (fun t => t.sys.xspi = some (2, 0x20FF, 0x1000, 1)) = true
       ∧ ran (.xspiErase64k (.cc 0) 8) s (fun t => t.sys.xspi = some (3, 0x20FF, 0x1000, 1)) = true)
    ∧ nothing (.xspiRead (.cc 0) 1) ((chip 1 later).answer 0) = true
    ∧ ran (.xspiDone false) (chip 0 ((later.setFlash 0x2010 [7, 8]))) (fun t => t.load 0x1000 2 = 0x807 && bit (t.reg Reg.bootXspiStat) 1 && t.sys.xspi = none) = true
    ∧ ran (.xspiDone false) (chip 1 ((later.setFlash 0x2010 [0xFF, 0x0F]))) (fun t => t.flashBytes 0x200F 4 = [0xFF, 0xF0, 0x0C, 0xFF]) = true
    ∧ ran (.xspiDone false) (chip 2 ((later.setFlash 0x2FFF [7, 8]))) (fun t => t.flashBytes 0x2FFF 2 = [0xFF, 8]) = true
    ∧ ran (.xspiDone true) (chip 3 later) (fun t => bit (t.reg Reg.bootXspiStat) 2) = true := by and_intros <;> decide +kernel

/-- Running, provisioned, MAINT up, the security engine ready. -/
def up (s : State) : State := sys (fun y => { y with maintUp := true, provisioned := true, secReady := true, jumpAt := some 0 }) s
theorem witness_UploadsAndPackages : noRecord.seq + 1 < 2 ^ 64 ∧ uploadOk (up later) image = true
    ∧ nothing (.firmwareUpload true image false) (up later) = true
    ∧ stillFor (up standing) 60_000_000_000 = true
    ∧ ran (.provisioningBundle ⟨77, 5, 0, 0, 65⟩ true true true) (up later) (fun t => t.sys.provCount = 1 && t.sys.clipRoot = 77 && t.sys.floorWarning = 5 && t.sys.floorFirmware = 64) = true
    ∧ nothing (.provisioningBundle ⟨77, 5, 0, 0, 65⟩ true true true) (sys (fun y => { y with provCount := 64 }) (up later)) = true
    ∧ ran (.commissioningWrite true [⟨Reg.bayCfg, 2⟩]) (up later) (fun t => (t.sys.commA.map (·.2) = some [⟨Reg.bayCfg, 2⟩]) != (t.sys.commB.map (·.2) = some [⟨Reg.bayCfg, 2⟩])) = true
    ∧ verified (up later) (pkg .counting) true true true = true ∧ verified (up later) (pkg .counting) false true true = false ∧ inForce (up later) .counting = none
    ∧ verified (up standing) { pkg .counting with hash := 8 } true true true = true ∧ inForce (up standing) .counting = some (pkg .counting)
    ∧ nothing (.packageVerify { pkg .counting with hash := 8 } ⟨false, true⟩ true true true) (up standing) = true
    ∧ ran (.packageVerify (pkg .warning) ⟨true, true⟩ true true true) (up later) (fun t => inForce t .warning = some (pkg .warning) && copyBit (bootRecord t) .warning) = true
    ∧ ran (.packageVerify (pkg .warning) ⟨true, true⟩ true false true) (up later) (fun t => t.log.length = later.log.length + 1) = true
    ∧ standing.tram.windows = [] ∧ standing.hld.phase ≠ .armed ∧ standing.adapt.running = false
    ∧ ran (.packageActivate .counting) { standing with pkgs := { standing.pkgs with waiting := [{ pkg .counting with hash := 8 }] } } (fun t => t.pkgs.waiting = []
        && inForce t .counting = some { pkg .counting with hash := 8 }) = true
    ∧ ran (.packageActivate .narration) { standing with pkgs := { standing.pkgs with waiting := [pkg .narration] } } (fun t => inForce t .narration = some (pkg .narration)) = true
    ∧ nothing (.packageActivate .warning) standing = true := by and_intros <;> decide +kernel
/-- Sources 17 and 18, of one priority, are pending and enabled at context 2. -/
theorem witness_InterruptsAndPorts : (let s := on [168, 172] (sys (fun y => { y with events := [18, 17] }) later)
      let s := ((s.setReg (Reg.sysIrqEn 2 0) 0x60000).setReg (Reg.sysIrqPrio 17) 3).setReg (Reg.sysIrqPrio 18) 3
      irqPending s 17 = true ∧ irqPending s 18 = true
      ∧ ran (.sysIrqClaim (.cc 2) 2) s (fun t => t.bus.value = 17 && t.sys.inService = [17] && !irqPending t 17 && irqPending t 18) = true
      ∧ ran (.sysIrqComplete (.cc 2) 2 17) (sys (fun y => { y with inService := [17] }) s) (fun t => t.sys.inService = []) = true)
    ∧ ran (.sysIrqClaim (.cc 2) 2) later (fun t => t.bus.value = 0 && t.sys.inService = []) = true
    ∧ ran (.secDebugLock (.cc 0) 1) (sys (fun y => { y with debugUnlocked := true }) later) (fun t => !t.sys.debugUnlocked) = true
    ∧ ran (.secCommandSubmit (.cc 0) 3) (up later) (fun t => t.sys.secTail = 3) = true
    ∧ ran .secCommandDone (sys (fun y => { y with secTail := 3 }) (up later)) (fun t => t.sys.secDone = 1 && t.sys.events = [15]) = true
    ∧ ran (.debugUnlock true) (up later) (fun t => t.sys.debugUnlocked) = true
    ∧ ran .securityEngineReady (on [175] later) (fun t => t.sys.secReady) = true
    ∧ ran (.maintLinkChange true) (on [168] later) (fun t => t.sys.maintUp && t.sys.events.contains 18) = true
    ∧ ran (.hostLinkChange true) (on [172] later) (fun t => t.sys.hostUp && t.sys.events.contains 17) = true
    ∧ ran (.maintRequest true (.exportClip 7)) ((up later).modBay (fun b => { b with phase := .mounted })) (fun t => t.bay.exporting = some 7) = true
    ∧ nothing (.maintRequest true (.exportClip 7)) later = true
    ∧ ran (.maintRequest true (.readRegister (BitVec.ofNat 48 Reg.bootStat) 4)) (up later) (fun t => !t.bus.error) = true
    ∧ cabOutputReg Reg.bootStat = false ∧ cabOutputReg Reg.cabOutCmd = true
    ∧ ran (.maintRequest true (.readRegister (BitVec.ofNat 48 Reg.cabOutCmd) 4)) (up later) (fun t => t.bus.error) = true
    ∧ ran (.maintRequest true .debug) (up later) (fun t => t.bus.error) = true
    ∧ ran (.maintRequest true .debug) (sys (fun y => { y with debugUnlocked := true }) (up later)) (fun t => t.bus.value = 1 && !t.bus.error) = true
    ∧ (sys (fun y => { y with hostUp := true }) dram).memb.trained = 0xF ∧ dram.anyPoison 0 4 = false
    ∧ ran (.hostBarAccess .doorbell 0 none 4) (sys (fun y => { y with hostUp := true }) dram) (fun t => t.sys.events.contains 17) = true
    ∧ nothing (.hostBarAccess .bar0 0 (some [1]) 1) dram = true := by and_intros <;> decide +kernel

/-! ### The cab, Thyme and the vehicle port (chapter 3) -/

/-- Output A asserted and read back so since the reset, SAFE_CUT closed. -/
def driving : State :=
  let s := ((sage .run).setReg Reg.cabOutCmd 1).setReg Reg.cabSafeCut 1
  s.modPin false (fun p => { p with rb := .asserted })
theorem witness_CabOutputs : pairSafe later = true ∧ pairSafe driving = false ∧ commanded driving false = true ∧ cutClosed driving = true
    ∧ ran (.cabOutCommand .sage 2) driving (fun t => !commanded t false && commanded t true && (t.pin true).edgeAt = t.now && !(t.pin false).confirmed) = true
    ∧ ran (.safeCutWrite .sage 0) driving (fun t => !cutClosed t && t.cab.cutAt = t.now && commanded t false) = true
    ∧ ran (.cabOutCommand (.cc 0) 2) driving (fun t => t.bus.error && commanded t false) = true ∧ ran (.safeCutWrite .host 0) driving (fun t => t.bus.error && cutClosed t) = true
    ∧ ran (.cabSelftest .sage 1 ⟨true, true, true, false⟩) (sage .selftest) (fun t => t.cab.selfTestFail && (t.pin true).fault && !(t.pin false).fault && t.sage.st = .safe) = true
    ∧ nothing (.cabSelftest .sage 1 ⟨true, true, true, true⟩) (driving.answer 0) = true
    ∧ faultLatched (later.modPin true (fun p => { p with fault := true })) = true ∧ later.past later.cab.testAt 1_000_000_000 = true
    ∧ rbMatches driving false = true ∧ rbMatches (driving.modPin false (fun p => { p with rb := .neither })) false = false
    ∧ ran (.readbackConfirmSample false) (driving.modPin false (fun p => { p with confirmed := false })) (fun t => (t.pin false).confirmed) = true
    ∧ nothing (.readbackMismatchTimeout false) driving = true
    ∧ ran (.readbackMismatchTimeout false) (driving.modPin false (fun p => { p with rb := .neither })) (fun t => (t.pin false).fault && !commanded t false && !cutClosed t && t.sage.held) = true
    ∧ ran (.readbackChange true .asserted) later (fun t => t.cab.extDrive && (t.pin true).rb = .asserted) = true
    ∧ ran (.readbackChange true .asserted) driving (fun t => !commanded t false && (t.pin true).fault && !(t.pin false).fault) = true
    ∧ ran .extDriveCheck (later.modPin true (fun p => { p with rb := .asserted })) (fun t => t.cab.extDrive) = true
    ∧ ran (.testPulseEnd false) (driving.modPin false (fun p => { p with pulse := some 0 })) (fun t => (t.pin false).fault && t.sage.held) = true
    ∧ ran (.selftestRepeat ⟨true, true, true, true⟩) (later.modPin true (fun p => { p with fault := true })) (fun t => !faultLatched t && t.cab.passAt = some t.now) = true
    ∧ driving.past (max (driving.pin true).rbAt ((driving.pin true).edgeAt + 60_000)) 100_000 = true
    ∧ ran (.testPulse false) driving (fun t => !driven t false && commanded t false && (t.pin false).pulse = some t.now) = true
    ∧ ran (.testPulseEnd false) (driving.modPin false (fun p => { p with pulse := some 0, pulseSeen := true })) (fun t => driven t false && !(t.pin false).fault) = true
    ∧ later.past later.cab.cutAt 200_000 = true := by and_intros <;> decide +kernel
/-- Input i has been high since the reset, unchanged as far as its debounce has it. -/
def raised (i : Nat) : State := { later with cab := { later.cab with raw := BitVec.ofNat 8 (2 ^ i) } }
theorem witness_CabInputs : inputOn later 7 = false
    ∧ ran (.cabInputDebounced 7 true) later (fun t => !inputOn t 7 && t.cab.raw = 0x80 && get (fun _ => 0) t.cab.rawAt 7 = t.now) = true
    ∧ ran (.cabInputDebounced 7 true) (raised 7) (fun t => inputOn t 7 && !inputOn t 6 && get (fun _ => 0) t.cab.inAt 7 = t.now) = true
    ∧ nothing (.cabInputDebounced 7 false) later = true
    ∧ ran (.inputChatter 7) { later with cab := { later.cab with rawChanges := [(7, (List.range 51).map (later.now - ·))] } } (fun t => bit (t.reg Reg.cabInStat) 23 && !bit (t.reg Reg.cabInStat) 22) = true
    ∧ nothing (.inputChatter 7) later = true
    ∧ ran (.cabInputDebounced 4 true) (raised 4) (fun t => t.tram.incidents.map (·.triggers) = [2]) = true
    ∧ ran (.gpoWrite (.cc 0) 0x7F) later (fun t => t.reg Reg.cabGpo = 0x3F && t.cab.balls = 0x3F) = true
    ∧ ran (.gpoWrite (.cc 0) 5) { later with cab := { later.cab with ballsFree := true } } (fun t => t.reg Reg.cabGpo = 5 && t.cab.balls = 0) = true
    ∧ ran (.doorReleaseDisagree door) { later with tram := { later.tram with windows := [{ window with differs := some (later.now - 500_000_001) }] } }
        (fun t => t.tram.releaseDiffers = [door] && t.tram.windows.map (·.flags) = [4]) = true := by and_intros <;> decide +kernel

/-- The domain that VEH_PTP_CFG names. -/
def dom0 : Byte := BitVec.ofNat 8 (later.fldAt Reg.vehPtpCfg 7 0)
/-- Thyme with master 7 in a mode after n good Syncs, two masters heard in the second before. -/
def thyme (m : ThyMode) (n : Nat) : State := later.modThy (fun t => { t with mode := m, master := some 7, good := n, heard := [7, 8], heardIn := later.now / 1_000_000_000 - 1 })
theorem witness_PtpTime : nothing (.ptpSync ⟨(dom0 + 1), 7⟩ 9_999 125_000_000) (thyme .freerun 15) = true
    ∧ ran (.ptpSync ⟨dom0, 7⟩ 9_999 125_000_000) (thyme .freerun 15) (fun t => t.thy.mode = .locked && t.thy.good = 16 && t.thy.base = 0 && t.thy.slew = -9_999) = true
    ∧ ran (.ptpSync ⟨dom0, 7⟩ 10_000 125_000_000) (thyme .freerun 15) (fun t => t.thy.mode = .freerun && t.thy.good = 0 && t.thy.slew = -10_000) = true
    ∧ ran (.ptpSync ⟨dom0, 7⟩ 1_000_000 125_000_000) (thyme .locked 15) (fun t => t.thy.slew = -1_000_000 && t.thy.stepAt = none) = true
    ∧ ran (.ptpSync ⟨dom0, 7⟩ (-1_000_001) 125_000_000) (thyme .locked 15) (fun t => t.thy.base = 1_000_001 && t.thy.stepAt = some t.now && t.reg Reg.thySteps = 1) = true
    ∧ ran (.ptpSync ⟨dom0, 8⟩ 0 125_000_000) (thyme .freerun 15) (fun t => t.thy.good = 15 && t.thy.mode = .freerun && t.thy.heard = [8] && t.reg Reg.thyMasterChg = 1) = true
    ∧ ran (.ptpAnnounce ⟨dom0, 7⟩ 249 true) (thyme .locked 15) (fun t => t.thy.master = none) = true
    ∧ ran (.ptpAnnounce ⟨dom0, 8⟩ 248 true) (thyme .locked 15) (fun t => t.thy.master = some 8 && t.thy.good = 0) = true
    ∧ ran (.ptpAnnounce ⟨dom0, 8⟩ 6 false) (thyme .locked 15) (fun t => t.thy.master = some 7 && t.thy.good = 15) = true
    ∧ ran .ptpSyncTimeout (thyme .locked 15) (fun t => t.thy.mode = .holdover && t.thy.holdAt = t.now && t.thy.good = 0) = true
    ∧ ran .holdoverExpiry (thyme .holdover 0) (fun t => t.thy.mode = .freerun) = true
    ∧ ran .masterInterval (thyme .locked 15) (fun t => t.reg Reg.thyMasterChg = 1 && t.thy.heardIn = t.now / 1_000_000_000) = true
    ∧ ran .timeStepFlagExpiry ((thyme .locked 15).modThy (fun t => { t with stepAt := some 0 })) (fun t => t.thy.stepAt = none && timeQuality t = 0) = true := by
  and_intros <;> decide +kernel

/-- VEH up with a warning dataset sent 9 ms ago, and one record sent a second ago. -/
def veh : State := { later with veh := { later.veh with linkUp := true, seq := some 4, records := [⟨3, 20, [1, 2], 0, some (later.now - 1_000_000_000)⟩], nextRecord := 4 } }
/-- The ComId of offset k. -/
def com (k : Nat) : BitVec 32 := BitVec.ofNat 32 (comIdOf veh k)
def telegram : Telegram := ⟨com 0, (veh.reg Reg.vehVsSrc).setWidth 32, true, 16, 5, 1, 1, 2, 1234, 1, 2⟩
theorem witness_VehiclePort : ran (.vehFrameReceived ⟨63, [], .arp⟩) veh (fun t => t.reg Reg.vehRunt = 1) = true ∧ ran (.vehFrameReceived ⟨1523, [], .arp⟩) veh (fun t => t.reg Reg.vehGiant = 1) = true
    ∧ ran (.vehFrameReceived ⟨64, [(0x8100, 5)], .arp⟩) veh (fun t => t.reg Reg.vehProtoDrop = 1) = true
    ∧ ran (.vehFrameReceived ⟨1522, [], .trdpBadHeader⟩) veh (fun t => t.reg Reg.vehTrdpDrop = 1) = true
    ∧ ran (.vehFrameReceived ⟨64, [(0x8100, 5)], .unsupported⟩) (veh.setReg Reg.vehPortCtrl 0x14) (fun t => t.reg Reg.vehProtoDrop = 1) = true
    ∧ nothing (.vehFrameReceived ⟨64, [], .pdPull⟩) veh = true ∧ nothing (.vehFrameReceived ⟨63, [], .arp⟩) later = true
    ∧ ran (.vehicleStateTelegram { telegram with runDir := 3 }) veh (fun t => t.reg Reg.vehTrdpDrop = 1 && t.veh.seq = some 4) = true
    ∧ nothing (.vehicleStateTelegram { telegram with seq := 4 }) veh = true
    ∧ ran (.vehicleStateTelegram telegram) veh (fun t => t.veh.seq = some 5 && t.veh.speed = 1234 && t.veh.runDir = 2 && t.veh.speedAt = some t.now && t.fab.net.length = 1) = true
    ∧ ran (.vehicleStateTelegram { telegram with flags := 0 }) veh (fun t => t.veh.speed = 0 && t.veh.speedAt = none && t.veh.acceptedAt = some t.now) = true
    ∧ nothing (.vehicleStateTelegram { telegram with comId := com 1 }) veh = true ∧ nothing (.operatorRequest ⟨0, 2⟩ 0 1 9) veh = true
    ∧ ran (.mdReply 3) veh (fun t => t.veh.records = []) = true
    ∧ ran (.mdResendTimer 3) veh (fun t => t.veh.records = [⟨3, 20, [1, 2], 1, some t.now⟩] && get (fun _ => (0, [])) t.veh.last 320 = (comIdOf veh 20, [1, 2])) = true
    ∧ ran (.operatorRequest ⟨(com 50), 2⟩ 0 1 9) veh (fun t => t.reg Reg.vehTrdpDrop = 1) = true
    ∧ ran (.operatorRequest ⟨(com 50), 1⟩ 0 1 9) veh (fun t => (get (fun _ => (0, [])) t.veh.last 816).2 = [1, 1, 0, 0, 0, 0, 0, 9, 0, 0, 0, 0]) = true
    ∧ servesCar veh 0 = true ∧ slotClass (veh.setReg (Reg.camSlotCtrl 11) 2) 11 = 2
    ∧ ran (.operatorRequest ⟨(com 50), 1⟩ 0 0x800 9) (veh.setReg (Reg.camSlotCtrl 11) 2) (fun t => t.tram.incidents.map (fun i => (i.triggers, i.slots)) = [(4, 0x800)]) = true
    ∧ ran (.vehLinkChange false) veh (fun t => !t.veh.linkUp && t.veh.records = [⟨3, 20, [1, 2], 0, none⟩]) = true
    ∧ ran (.vehLinkChange true) { (on [167] (veh.setReg Reg.vehPortCtrl 1)) with veh := { veh.veh with linkUp := false } } (fun t => t.veh.linkUp
        && t.veh.records = [⟨3, 20, [1, 2], 0, some t.now⟩]) = true := by and_intros <;> decide +kernel

/-! ### Camera ingress (chapter 2) -/

def sps : Sps := ⟨true, 1920, 1080, 1920, 1080, true, 8, true, false⟩
def offer : Sdp := ⟨true, true, true, false, false, 1, 2, 3, 4, 96⟩
/-- CAM0 and CAM1 up; slot 7 of a class is in a state, its stream playing, with n units queued. -/
def unit (n : Nat) : AUnit := ⟨BitVec.ofNat 32 n, [1], decide (n = 1), false, none, 0, none, n⟩
def cam (cls : Nat) (st : SlotSt) (n : Nat) : State :=
  let s := on [126, 127, 165, 166] { later with cam := { later.cam with portUp := [(0, true), (1, true)] } }
  (s.setReg (Reg.camSlotCtrl 7) (BitVec.ofNat 64 cls)).modSlot 7 (fun x =>
    { x with st := st, playAt := some 0, offer := some offer, ssrc := 4, resync := false, queue := (List.range n).map unit, sps := some sps, spsIn := some sps, desc := { x.desc with ringSize := 100 } })
def rtp : RtpPacket := ⟨4, 96, 8, 9, true, [1, 2], true, false, none⟩
def frame (k : CamKind) : CamFrame := ⟨64, true, [], k⟩
def got (q : RtpPacket) : Instr := .camFrameReceived 0 (frame (.rtp 7 q))
/-- Slot 7 has nothing to shed; its bucket is as given, filled now. -/
def bucket (b : Int) (s : State) : State := s.modSlot 7 (fun x => { x with bucket := b, filledAt := s.now, rate := 1000 })
theorem witness_CameraFrames : portUp (cam 1 .running 0) 0 = true
    ∧ ran (.camFrameReceived 0 ⟨63, true, [], .arp⟩) (cam 1 .running 0) (fun t => t.reg (Reg.camRunt 0) = 1) = true
    ∧ ran (.camFrameReceived 0 ⟨9217, true, [], .arp⟩) (cam 1 .running 0) (fun t => t.reg (Reg.camGiant 0) = 1) = true
    ∧ ran (.camFrameReceived 0 ⟨9216, false, [], .arp⟩) (cam 1 .running 0) (fun t => t.reg (Reg.camFcsErr 0) = 1) = true
    ∧ ran (.camFrameReceived 0 ⟨64, true, [(0x8100, 5)], .arp⟩) (cam 1 .running 0) (fun t => t.reg (Reg.camVlanDrop 0) = 1) = true
    ∧ ran (.camFrameReceived 0 (frame .fragment)) (cam 1 .running 0) (fun t => t.reg (Reg.camFragDrop 0) = 1 && get (fun _ => 0) t.cam.rxFrames 0 = 1) = true
    ∧ ran (.camFrameReceived 0 (frame .ipOptions)) (cam 1 .running 0) (fun t => t.reg (Reg.camProtoDrop 0) = 1) = true
    ∧ ran (got { rtp with pt := 97 }) (cam 1 .running 0) (fun t => t.reg (Reg.camProtoDrop 0) = 1 && (t.slot 7).queue = []) = true
    ∧ ran (.camFrameReceived 0 (frame (.rtcpSr 7 12 3))) (cam 1 .running 0) (fun t => (t.slot 7).report = some (12, 3)) = true
    ∧ ran (got rtp) (cam 1 .running 2) (fun t => (t.slot 7).queue.map (·.doneAt) = [1, later.now] && t.reg (Reg.camSlotQDrop 7) = 1 && (t.slot 7).first = some 9) = true
    ∧ ran (got rtp) ((cam 1 .running 0).modSlot 7 (fun x => { x with spsIn := none })) (fun t => (t.slot 7).queue = [] && (t.slot 7).resync && t.reg (Reg.camSlotAuOversize 7) = 1) = true
    ∧ ran (got rtp) (cam 1 .running 0) (fun t => (t.slot 7).queue.length = 1 && (t.slot 7).charges = 1920 * 1080 && (t.slot 7).ring.map (·.data) = [[1, 2]]) = true
    ∧ ran (got rtp) (cam 2 .running 3) (fun t => (t.slot 7).queue.length = 4) = true
    ∧ ran (got rtp) (cam 2 .running 4) (fun t => (t.slot 7).queue.length = 4 && (t.slot 7).skipping && t.reg (Reg.camSlotSkipFrames 7) = 1) = true
    ∧ ran (got { rtp with nonRef := true }) (bucket 0 (cam 2 .shedding 0)) (fun t => (t.slot 7).queue = [] && !(t.slot 7).skipping && t.reg (Reg.camSlotSkipFrames 7) = 1) = true
    ∧ ran (got rtp) (bucket 0 (cam 3 .shedding 0)) (fun t => (t.slot 7).queue.length = 1) = true
    ∧ ran (got rtp) (bucket (-1) (cam 3 .shedding 0)) (fun t => (t.slot 7).queue = [] && (t.slot 7).skipping && t.reg (Reg.camSlotSkipGops 7) = 1) = true
    ∧ ran (got { rtp with sps := some { sps with bitDepth := 10 } }) (cam 2 .shedding 4) (fun t => (t.slot 7).st = .rejected && (t.slot 7).reject = 7 && (t.slot 7).queue = []) = true
    ∧ ran (got { rtp with ssrc := 5 }) (cam 1 .connecting 0) (fun t => t.reg (Reg.camProtoDrop 0) = 1 && (t.slot 7).queue = []) = true
    ∧ nothing (.reorderWaitExpiry 7) ((cam 2 .running 1).modSlot 7 (fun x => { x with parts := [(later.now, { rtp with seq := 9 })], first := some 8 })) = true
    ∧ ran (.reorderWaitExpiry 7) ((cam 2 .running 1).modSlot 7 (fun x => { x with parts := [(0, { rtp with seq := 9 })], first := some 8 })) (fun t => (t.slot 7).parts = []
        && (t.slot 7).resync && (t.slot 7).queue.length = 1 && t.reg (Reg.camSlotAuLost 7) = 1) = true := by and_intros <;> decide +kernel

/-- Decoder n has unit 1 of slot 7 in work. -/
def decodes (n : Nat) (s : State) : State := s.setDecEngine n { engineFree n with job := some (7, unit 1) }
theorem witness_Decoders : (let s := cam 2 .running 3
      (s.decEngine 1).job = none ∧ decoding s 7 = false ∧ engineServes s 1 7 = true ∧ nextInOrder s 7 (unit 0) = true ∧ (s.dom 127).st = .on ∧ (unit 0).sps.bind spsCode = none)
    ∧ ran (.decodeStart 1 7) (cam 2 .running 3) (fun t => (t.decEngine 1).job = some (7, unit 0) && (t.slot 7).queue = [unit 1, unit 2]) = true
    ∧ spsCode { sps with codedW := 4097 } = some 2 ∧ spsCode { sps with cropH := 1076 } = some 5
    ∧ ran (.decodeStart 1 7) ((cam 2 .running 1).modSlot 7 (fun x => { x with queue := [{ unit 0 with sps := some { sps with bitDepth := 10 } }] }))
        (fun t => (t.slot 7).st = .rejected && (t.slot 7).reject = 7 && (t.slot 7).queue = [] && bit (t.reg Reg.camIrqStat) 7) = true
    ∧ ran (.decodeComplete 1) (decodes 1 (cam 2 .connecting 0)) (fun t => (t.slot 7).st = .running && (t.decEngine 1).job = none && t.reg (Reg.decFrames 1) = 1
        && t.sys.events.contains 9 && (get (fun _ => none) t.cam.pics 7).isSome) = true
    ∧ ran (.decoderBitstreamError 1) (decodes 1 (cam 2 .running 3)) (fun t => t.reg (Reg.decErr 1) = 1 && (t.slot 7).queue = [unit 1, unit 2] && !(t.slot 7).resync) = true
    ∧ ran (.decoderWatchdog 0 true) (let s := decodes 0 (cam 1 .running 0); s.setDecEngine 0 { s.decEngine 0 with trips := [later.now - 2, later.now - 1] })
        (fun t => decReserve t = 1 && t.reg (Reg.decResets 0) = 1 && (t.slot 7).resync) = true
    ∧ nothing (.encPictureDone 100 false) { later with enc := { later.enc with busy := true, irap := true } } = true
    ∧ ran (.encPictureDone 100 true) { later with enc := { later.enc with busy := true, irap := true } } (fun t => !t.enc.busy && t.enc.bytes = 100 && t.reg Reg.encIrap = 1
        && bit (t.reg Reg.encIrqStat) 0) = true
    ∧ ran (.camLinkChange 0 true) ({ (cam 2 .idle 0).setReg (Reg.camPortCtrl 0) 1 with cam := later.cam }) (fun t => portUp t 0 && bit (t.reg Reg.camIrqStat) 15) = true
    ∧ ran (.camLinkChange 0 false) (cam 2 .running 0) (fun t => !portUp t 0 && (t.slot 7).st = .lost) = true
    ∧ ran (.camLinkChange 0 false) ((cam 2 .running 0).setReg (Reg.camSlotCtrl 7) 0xA) (fun t => (t.slot 7).st = .connecting && slotPort t 7 = 1) = true
    ∧ ran (.camPortEnable (.cc 0) 0 0) (cam 2 .idle 0) (fun t => !portUp t 0 && t.reg (Reg.camPortCtrl 0) = 0) = true := by and_intros <;> decide +kernel

/-- Slot 7 connecting, an answer to the method awaited since 2 s ago. -/
def asked (m : RtspMethod) : State := (cam 2 .connecting 0).modSlot 7 (fun x => { x with playAt := none, offer := none, asked := some m, askedAt := later.now - 2_000_000_000 })
def answer (m : RtspMethod) (c : Nat) (o : Option Sdp) : Instr := .rtspResponse 7 ⟨m, c, true, none, o⟩
theorem witness_SlotStates : ran (.slotStop (.cc 0) 7 0x200) (decodes 1 (cam 2 .running 2)) (fun t => t.slot 7 = { slotReset 7 with desc := ((cam 2 .running 2).slot 7).desc } && !decoding t 7) = true
    ∧ (later.slot 7).st = .idle ∧ (0x00010102 : BitVec 32).getLsbD 8 = true ∧ (0x00010102 : BitVec 32).toNat / 2 ^ 16 % 32 = 1
    ∧ ran (.slotStart (.cc 0) 7 0x00000102) later (fun t => (t.slot 7).st = .rejected && (t.slot 7).reject = 15 && bit (t.reg Reg.camIrqStat) 7) = true
    ∧ ran (.slotStart (.cc 0) 7 0x00110102) later (fun t => (t.slot 7).st = .rejected) = true
    ∧ ran (answer .options 500 none) (asked .options) (fun t => (t.slot 7).st = .connecting && (t.slot 7).asked = none && (t.slot 7).waitingSince = some t.now) = true
    ∧ ran (answer .options 505 none) ((asked .options).modSlot 7 (fun x => { x with rtsp2 := true })) (fun t => (t.slot 7).asked = some .options && !(t.slot 7).rtsp2) = true
    ∧ ran (answer .options 200 none) (asked .options) (fun t => (t.slot 7).asked = some .describe) = true
    ∧ ran (answer .describe 299 none) (asked .describe) (fun t => (t.slot 7).st = .rejected && (t.slot 7).reject = 10) = true
    ∧ ran (answer .describe 200 (some { offer with transportOk := false })) (asked .describe) (fun t => (t.slot 7).reject = 13) = true
    ∧ ran (answer .describe 200 (some offer)) (asked .describe) (fun t => (t.slot 7).asked = some .setup) = true
    ∧ duplicateStream (asked .setup) 7 offer = false
    ∧ ran (answer .setup 200 (some offer)) (asked .setup) (fun t => (t.slot 7).asked = some .play && (t.slot 7).offer = some offer && (t.slot 7).timeout = 60) = true
    ∧ ran (answer .setup 200 (some offer)) ((asked .setup).modSlot 3 (fun x => { x with offer := some offer })) (fun t => (t.slot 7).reject = 14) = true
    ∧ ran (answer .play 200 none) (asked .play) (fun t => (t.slot 7).playAt = some t.now && (t.slot 7).asked = none) = true
    ∧ ran (answer .options 399 none) (asked .options) (fun t => (t.slot 7).asked = some .options && (t.slot 7).redirected) = true
    ∧ ran (answer .options 301 none) ((asked .options).modSlot 7 (fun x => { x with redirected := true })) (fun t => (t.slot 7).reject = 11) = true
    ∧ ran (answer .options 401 none) (asked .options) (fun t => (t.slot 7).asked = some .options && (t.slot 7).answered401) = true
    ∧ ran (answer .options 401 none) ((asked .options).modSlot 7 (fun x => { x with answered401 := true })) (fun t => (t.slot 7).reject = 12) = true
    ∧ ran (answer .options 404 none) (asked .options) (fun t => (t.slot 7).reject = 11) = true
    ∧ ran (answer .getParameter 454 none) ((cam 2 .running 0).modSlot 7 (fun x => { x with asked := some .getParameter })) (fun t => (t.slot 7).st = .lost) = true
    ∧ ran (.rtspSessionClosed 7) (cam 2 .running 0) (fun t => (t.slot 7).st = .lost && (t.slot 7).playAt = none) = true
    ∧ ran (.rtspSessionClosed 7) (asked .play) (fun t => (t.slot 7).waitingSince = some t.now) = true
    ∧ ran (.rtspAnswerTimeout 7) (asked .play) (fun t => (t.slot 7).asked = none && (t.slot 7).waitingSince = some t.now) = true
    ∧ ran (.irapTimeout 7) (cam 2 .connecting 0) (fun t => (t.slot 7).playAt = none && (t.slot 7).st = .connecting) = true
    ∧ ran (.connectBackoffExpiry 7) ((cam 2 .lost 0).modSlot 7 (fun x => { x with waitingSince := some 0, backoff := 5000, playAt := none })) (fun t => (t.slot 7).st = .connecting
        && (t.slot 7).backoff = 8000 && t.reg (Reg.camSlotRetries 7) = 1) = true
    ∧ ran (.rtspKeepalive 7) (cam 2 .running 0) (fun t => (t.slot 7).asked = some .getParameter && (t.slot 7).keptAt = t.now) = true
    ∧ ran (.slotLostTimeout 7) (cam 2 .running 0) (fun t => (t.slot 7).st = .lost) = true
    ∧ ran (.rtcpReceiverReport 7) (cam 2 .running 0) (fun t => (t.slot 7).reportAt = t.now) = true := by and_intros <;> decide +kernel

/-- Slot 7 has brought `c` pixels in the epoch and begins a new one. -/
def charged (cls : Nat) (st : SlotSt) (c : Nat) : State := (cam cls st 0).modSlot 7 (fun x => { x with charges := c, units := 1 })
theorem witness_Shedding : (cam 2 .running 0).past (cam 2 .running 0).cam.epochAt (10_000_000 * max 1 ((cam 2 .running 0).fldAt Reg.camPoolCfg 15 8)) = true
    ∧ poolCap (cam 2 .running 0) = 585_937_500
    ∧ later.past 0 1_000_000_000 = true
    ∧ ran (.slotRateWindow 7) ((cam 2 .shedding 0).modSlot 7 (fun x => { x with ranSince := some 0, decoded := List.replicate 9 later.now })) (fun t => (t.slot 7).degraded && (t.slot 7).slowAt = some t.now) = true
    ∧ ran (.slotRateWindow 7) ((cam 2 .running 0).modSlot 7 (fun x => { x with ranSince := some 0, decoded := List.replicate 10 later.now, degraded := true, slowAt := some 0 })) (fun t => !(t.slot 7).degraded) = true
    ∧ ran .degradationRecord ((cam 2 .shedding 0).modSlot 7 (fun x => { x with shedAt := some 0 })) (fun t => t.veh.records.map (·.kind) = [30] && t.cam.recordAt = some t.now) = true
    ∧ ran .degradationRecord { later with cam := { later.cam with recordAt := some 5, calmSince := some 9 } } (fun t => t.veh.records.map (·.kind) = [30] && t.cam.recordAt = none) = true
    ∧ nothing .degradationRecord ((cam 2 .shedding 0).modSlot 7 (fun x => { x with shedAt := some (later.now - 1_999_999_999) })) = true ∧ nothing (.slotRateWindow 7) (cam 2 .running 0) = true
    ∧ (let s := { later with cam := { later.cam with shedSince := some 0, recordAt := some (later.now - 9_999_999_999) } }
       ran .degradationRecord s (fun t => t.veh.records = []) = true) := by and_intros <;> decide +kernel

/-! ### Counting, narration and the Bay (chapters 1, 3 and 4) -/

def inc : Incident :=
  { id := 9, car := 0, triggers := 1, trigger := 0, startAt := 0, endAt := later.now, slots := 1, request := 0, clipOpen := true, noClip := false, fifth := false, short := false, waits := false, cursor := [], lost := false, narrate := true, started := false, ended := false, tokens := 0, text := [], segment := 0, segAt := 0, held := [] }
def services (w : List Window) (l : List Incident) : State := { veh with
  tram := { later.tram with windows := w, incidents := l, started := true }, pkgs := { later.pkgs with narration := some (pkg .narration) } }
def telling : Incident := { inc with clipOpen := false, started := true, text := [0x41], tokens := 398 }
theorem witness_CountingAndNarration : ran (.countWindowClose ⟨door, []⟩) (services [{ window with ending := some (later.now - 3_000_000_000) }] []) (fun t => t.tram.windows = [] && (t.veh.records.map (·.kind)) = [20, 20]) = true
    ∧ ran (.countWindowClose ⟨door, []⟩) (services [{ window with ending := some (later.now - 2_999_999_999) }] []) (fun t => t.tram.windows.length = 1) = true
    ∧ released (services [] []) door = false
    ∧ ran (.countWindowLong ⟨door, []⟩) (services [{ window with openedAt := later.now - 600_000_000_000 }] []) (fun t => t.tram.windows = [] && t.veh.records.length = 2) = true
    ∧ ran (.clipPostTriggerEnd 9) (services [] [inc]) (fun t => t.tram.incidents.map (·.clipOpen) = [false]) = true
    ∧ nothing (.clipPostTriggerEnd 9) (services [] [{ inc with endAt := later.now + 1 }]) = true
    ∧ narrationShed (services [] []) = false ∧ nextIncident (services [] [{ inc with clipOpen := false }]) = some { inc with clipOpen := false }
    ∧ ran .narrationStart (services [] [{ inc with clipOpen := false }]) (fun t => t.tram.incidents.map (·.started) = [true] && t.tram.busyAt = t.now) = true
    ∧ nothing .narrationStart { (services [] [{ inc with clipOpen := false }]) with tram := { (services [] [{ inc with clipOpen := false }]).tram with narrShed := true } } = true
    ∧ narrating (services [] [telling]) = some telling
    ∧ ran (.narrationToken [0x42] false) (services [] [telling]) (fun t => t.tram.incidents.map (fun i => (i.tokens, i.text)) = [(399, [0x41, 0x42])]) = true
    ∧ ran (.narrationToken [0x42] false) (services [] [{ telling with tokens := 399 }]) (fun t => t.tram.incidents.all (·.ended)
        && (((get (fun _ => (0, [])) t.veh.last 640).2).drop 3).take 1 = [3]) = true
    ∧ ran (.narrationToken [0x42] true) (services [] [telling]) (fun t => t.tram.incidents.all (·.ended) && (((get (fun _ => (0, [])) t.veh.last 640).2).drop 3).take 1 = [1]) = true
    ∧ ran .narrationSegmentTimer (services [] [telling]) (fun t => t.tram.incidents.map (fun i => (i.text, i.segment)) = [([], 1)]) = true := by
  and_intros <;> decide +kernel

/-- A good cartridge in a phase, seated and latched for a day, BAY_CTRL.EN set, the security engine ready, its port ON. -/
def bay (p : BayPhase) (f : Bay → Bay) : State :=
  (on [171] ((up later).setReg Reg.bayCtrl 1)).modBay (fun b => f { b with
    phase := p, present := true, latched := true, rawPresent := true, rawLatch := true, serial := 77, life := 2, ledger := ⟨2, 5, 0, 3⟩ })
def cert : CartCert := ⟨1, 3, 77, 600_000, 10, 0⟩
/-- What Identify and the medium of an unformatted cartridge give. -/
def ident : CartIdent := ⟨snOf 77, true, true, 244_140_625, 0, [], [], []⟩
def element (st gb : Nat) : Ledger := ⟨st, gb, 0, 3⟩
/-- Identified so far, its element as given. -/
def checks (st gb : Nat) : State := bay .mounting (fun b => { b with step := 1, element := element st gb })
theorem witness_presence : ran (.bayPresentChange true) (bay .empty (fun b => { b with present := false })) (fun t => t.bay.phase = .identifying && bit (t.reg Reg.bayIrqStat) 0) = true
    ∧ ran (.bayPresentChange true) (bay .empty (fun b => { b with present := false, latched := false })) (fun t => t.bay.phase = .empty && t.bay.present) = true
    ∧ ran (.bayPresentChange true) (bay .empty (fun b => { b with present := false, rawPresent := false })) (fun t => !t.bay.present && t.bay.rawPresent && t.bay.presentAt = t.now) = true
    ∧ nothing (.bayPresentChange true) (bay .empty (fun b => { b with present := false, presentAt := later.now - 49_999_999 })) = true
    ∧ ran (.bayPresentChange false) (bay .mounted (fun b => { b with rawPresent := false })) (fun t => t.bay.phase = .empty && t.reg Reg.baySurprise = 1 && bit (t.reg Reg.bayIrqStat) 6) = true
    ∧ ran (.bayPresentChange false) (bay .safe (fun b => { b with rawPresent := false, latched := false })) (fun t => t.bay.phase = .empty && t.reg Reg.baySurprise = 0) = true
    ∧ ran (.bayLatchChange true) (bay .safe (fun b => { b with latched := false })) (fun t => t.bay.phase = .identifying) = true
    ∧ ran (.bayLatchChange true) (bay .removing (fun b => { b with latched := false })) (fun t => t.bay.again) = true
    ∧ ran (.bayLatchChange false) (bay .mounted (fun b => { b with rawLatch := false, latchAt := 7 })) (fun t => t.bay.phase = .removing && t.bay.removeAt = some 7 && bit (t.reg Reg.bayIrqStat) 1) = true
    ∧ ran (.bayLatchChange false) (bay .mounting (fun b => { b with rawLatch := false })) (fun t => t.bay.phase = .safe && t.bay.safe) = true
    ∧ nothing (.bayLatchChange false) (bay .mounted (fun b => { b with rawLatch := false, latchAt := later.now - 4_999_999 })) = true
    ∧ ran (.bayLatchChange false) (bay .mounted id) (fun t => t.bay.phase = .mounted && !t.bay.rawLatch && t.bay.latchAt = t.now) = true
    ∧ ran (.bayEject (.cc 0) 0x100) (bay .mounted id) (fun t => t.bay.phase = .removing && t.bay.removeAt = some t.now) = true := by
  and_intros <;> decide +kernel
theorem witness_BayInsertion : authenticating (bay .identifying id) = true
    ∧ ran (.bayCertReadDone cert true) (bay .identifying id) (fun t => t.bay.certOk && t.bay.serial = 77) = true
    ∧ ran (.bayCertReadDone { cert with issuer := 4 } true) (bay .identifying (fun b => { b with fails := 2 })) (fun t => t.bay.life = 4 && t.bay.retire = 4 && t.reg Reg.bayAuthFail = 1) = true
    ∧ ran (.bayChallengeDone (element 1 0) true) (bay .identifying (fun b => { b with certOk := true })) (fun t => t.bay.authAt = some t.now && t.bay.element = element 1 0) = true
    ∧ ran (.bayChallengeDone (element 1 0) false) (bay .identifying (fun b => { b with certOk := true })) (fun t => t.bay.fails = 1 && t.bay.authAt = none) = true
    ∧ ran (.bayChallengeDone (element 1 0) true) (bay .mounted (fun b => { b with certOk := true, sn := snOf 77, fails := 1 })) (fun t => t.bay.authAt = some t.now && t.bay.fails = 0) = true
    ∧ ran (.bayChallengeDone (element 1 0) true) (bay .mounted (fun b => { b with certOk := true, sn := snOf 78, fails := 2 })) (fun t => t.bay.retire = 4) = true
    ∧ snOf 77 = [48, 48, 48, 48, 48, 48, 48, 48, 48, 48, 48, 48, 48, 48, 52, 68, 32, 32, 32, 32]
    ∧ ran .bayAuthRetry (bay .identifying (fun b => { b with failedAt := some 0, certOk := true })) (fun t => t.bay.failedAt = none && !t.bay.certOk) = true
    ∧ ran (.bayLinkTrained 3 1) (bay .identifying (fun b => { b with authAt := some 0 })) (fun t => t.bay.phase = .mounting && t.bay.linkAt = some t.now) = true
    ∧ ran (.bayLinkTrained 2 4) (bay .identifying (fun b => { b with authAt := some 0 })) (fun t => t.bay.phase = .offline && t.bay.cause = 1 && bit (t.reg Reg.bayIrqStat) 7) = true
    ∧ ran (.bayControllerReady true) (bay .mounting id) (fun t => t.bay.step = 1) = true
    ∧ ran (.bayControllerReady false) (bay .mounting id) (fun t => t.bay.cause = 2) = true
    ∧ ran .bayReadyTimeout (bay .mounting (fun b => { b with linkAt := some 0 })) (fun t => t.bay.cause = 2) = true
    ∧ ran (.bayIdentifyDone { ident with sn := snOf 78 }) (checks 1 0) (fun t => t.bay.phase = .identifying && t.bay.fails = 1) = true
    ∧ ran (.bayIdentifyDone { ident with nvmeOk := false }) (checks 1 0) (fun t => t.bay.cause = 2) = true
    ∧ ran (.bayIdentifyDone { ident with lba4096 := false }) (checks 1 0) (fun t => t.bay.cause = 3) = true
    ∧ ran (.bayIdentifyDone { ident with nsze := 244_140_624 }) (checks 1 0) (fun t => t.bay.cause = 4) = true
    ∧ ran (.bayIdentifyDone ident) (checks 2 5) (fun t => t.bay.cause = 6) = true
    ∧ (checks 1 5).bay.retiring = none ∧ (checks 1 5).bay.bytes < 1_000_000_000 ∧ (element 1 5).state = 1 ∧ ledgerEntry later 77 = none
    ∧ ran .bayReauthTimer (bay .mounted (fun b => { b with authAt := some 0 })) (fun t => t.bay.authAt = none) = true
    ∧ ran (.bayLinkDown .powerFault) (bay .mounted id) (fun t => t.bay.recovering = some 0 && t.bay.phase = .mounted) = true
    ∧ nothing (.bayRecoveryAttempt .ok) (bay .mounted (fun b => { b with recovering := some 1, failedAt := some (later.now - 99_999_999) })) = true
    ∧ ran (.bayRecoveryAttempt .ok) (bay .mounted (fun b => { b with recovering := some 2 })) (fun t => t.bay.recovering = none && t.bay.authAt = some t.now) = true
    ∧ ran (.bayRecoveryAttempt .linkFail) (bay .mounted (fun b => { b with recovering := some 1 })) (fun t => t.bay.recovering = some 2 && t.bay.phase = .mounted) = true
    ∧ ran (.bayRecoveryAttempt .linkFail) (bay .mounted (fun b => { b with recovering := some 2 })) (fun t => t.bay.phase = .offline && t.bay.cause = 1) = true
    ∧ ran (.bayRecoveryAttempt .authFail) (bay .mounted (fun b => { b with recovering := some 2 })) (fun t => t.bay.fails = 1 && t.bay.recovering = none && t.bay.retire = 0) = true := by
  and_intros <;> decide +kernel

/-- A write of a class that is outstanding, of one byte. -/
def io (c : BayWrite) : BayIo := ⟨c, clipLba, [1], [⟨1, 0, 1, 0, 9, 0, 0, 1, []⟩]⟩
def writing (c : BayWrite) (p : BayPhase) (f : Bay → Bay) : State := bay p (fun b => f { b with io := [io c] })
def clip : Clip := { newClip 9 0 1 0 [] with extent := some 0 }
theorem witness_BayWritesAndRemoval : bayWritable (bay .mounted id) = true
    ∧ nothing (.nvmeWriteComplete (.incident 9) 1) (bay .mounted id) = true ∧ nothing (.nvmeWriteComplete (.incident 9) 2) (writing (.incident 9) .mounted id) = true ∧ nothing (.nvmeWriteFail .journal true) (bay .mounted id) = true
    ∧ ran (.nvmeWriteComplete (.incident 9) 1) (writing (.incident 9) .mounted id) (fun t => t.bay.bytes = 1 && t.bay.io = []) = true
    ∧ ran (.nvmeWriteComplete .header 1) (writing .header .mounted (fun b => { b with bytes := 9_999_999_999 })) (fun t => t.bay.bytes = 0 && t.bay.ledger.gb = 15
        && t.bay.element.gb = 15 && t.bay.ledger.updates = 4) = true
    ∧ ran (.nvmeWriteComplete .journal 1) (writing .journal .removing id) (fun t => t.bay.step = 1 && t.bay.entries = [] && t.bay.blockSeq = 1) = true
    ∧ ran (.nvmeWriteFail (.incident 9) true) (writing (.incident 9) .mounted (fun b => { b with clips := [clip], abandoned := List.replicate 7 later.now })) (fun t => t.bay.phase = .offline
        && t.bay.cause = 5 && t.reg Reg.bayWrErr = 1) = true
    ∧ ran (.nvmeWriteFail (.incident 9) true) (writing (.incident 9) .mounted (fun b => { b with clips := [clip], abandoned := List.replicate 6 later.now })) (fun t => t.bay.phase = .mounted
        && t.bay.abandoned.length = 7) = true
    ∧ (let s := writing .journal .mounted (fun b => { b with recovering := some 0 })
       bayIssues s = false ∧ ran (.nvmeWriteFail .journal true) s (fun t => t.bay.entries.map (·.incident) = [9] && t.bay.io = []) = true)
    ∧ nothing (.nvmeWriteFail .journal false) (writing .journal .mounted id) = true
    ∧ freeExtent (bay .mounted id) = some 0
    ∧ bayIssues (bay .mounted id) = true
    ∧ ran .journalBlockTimer (bay .mounted (fun b => { b with pendingAt := some 0, blockPos := 262_143, entries := (io .journal).entries })) (fun t => t.bay.blockSeq = 1
        && t.bay.blockPos = 0 && t.bay.entries = [] && t.bay.io.map (·.lba) = [4096 + 262_143]) = true
    ∧ ran (.bayHourly 12) (bay .mounted id) (fun t => t.bay.smart = 12 && t.bay.ledger.updates = 4) = true
    ∧ nothing (.bayHourly 12) (bay .mounted (fun b => { b with hourAt := later.now - 3_599_999_999_999 })) = true
    ∧ ran .nvmeFlushComplete (bay .removing (fun b => { b with step := 1 })) (fun t => t.bay.step = 2) = true
    ∧ ran .ledgerAddDone (bay .removing (fun b => { b with step := 2, bytes := 10 ^ 9 + 7 })) (fun t => t.bay.step = 3 && t.bay.ledger.gb = 6 && t.bay.bytes = 7) = true
    ∧ ran .ledgerAddDone (bay .removing (fun b => { b with step := 2, life := 4 })) (fun t => t.bay.step = 3 && t.bay.ledger.updates = 3) = true
    ∧ ran .nvmeShutdownComplete (bay .removing (fun b => { b with step := 3 })) (fun t => t.bay.phase = .safe && t.bay.safe && bit (t.reg Reg.bayIrqStat) 3) = true
    ∧ ran .nvmeShutdownComplete (bay .removing (fun b => { b with step := 3, again := true })) (fun t => t.bay.phase = .identifying) = true
    ∧ ran .bayRemoveDeadline (bay .removing (fun b => { b with removeAt := some 0 })) (fun t => t.bay.phase = .safe && t.reg Reg.bayLateRemove = 1 && bit (t.reg Reg.bayIrqStat) 8) = true
    ∧ ran (.nvmeReadComplete true) (bay .mounted (fun b => { b with exporting := some 9 })) (fun t => t.reg Reg.bayRdErr = 1 && t.bay.exporting = some 9) = true
    ∧ nothing (.nvmeReadComplete false) later = true := by and_intros <;> decide +kernel

/-- FIPS 180-4, the hash of "abc"; FIPS 197, appendix C.3. -/
theorem test_sha256 : (sha256 (ascii "abc")).take 4 = [0xBA, 0x78, 0x16, 0xBF] ∧ (sha256 (ascii "abc")).drop 28 = [0xF2, 0x00, 0x15, 0xAD] := by and_intros <;> decide +kernel
theorem test_aes256 : (aesEncrypt (roundKeys ((List.range 32).map (fun i => BitVec.ofNat 8 i))) ((List.range 16).map (fun i => BitVec.ofNat 8 (17 * i)))).take 4
    = [0x8E, 0xA2, 0xB7, 0xCA] := by decide +kernel

theorem shaRound_length (v : List (BitVec 32)) (k : BitVec 32) : (shaRound v k).length = v.length := by
  unfold shaRound
  split <;> rfl
theorem shaFold_length (l : List (BitVec 32)) (v : List (BitVec 32)) : (l.foldl shaRound v).length = v.length := by
  induction l generalizing v with
  | nil => rfl
  | cons k t ih => rw [List.foldl_cons, ih, shaRound_length]
theorem shaBlocks_length (n : Nat) (h : List (BitVec 32)) (m : List Byte) : (shaBlocks n h m).length = h.length := by
  induction n generalizing h m with
  | zero => rfl
  | succ n ih => rw [shaBlocks, ih, shaBlock, List.length_zipWith, shaFold_length, Nat.min_self]
theorem hmac_length (k m : List Byte) : (hmacSha256 k m).length = 32 := by
  have four : ∀ l : List (BitVec 32), (l.flatMap (fun x => bytesBig 4 x.toNat)).length = 4 * l.length := by
    intro l
    induction l with
    | nil => rfl
    | cons a t ih => rw [List.flatMap_cons, List.length_append, ih, List.length_cons, show (bytesBig 4 a.toNat).length = 4 from rfl]; omega
  simp only [hmacSha256, sha256, four, shaBlocks_length]
  rfl
theorem padTo_length (l : List Byte) (h : l.length ≤ 4064) : (padTo 4064 l).length = 4064 := by
  rw [padTo, List.length_append, List.length_replicate]; omega
theorem withMac_ok (okm l : List Byte) (h : l.length ≤ 4064) : macOk okm (withMac okm l) = true := by
  have n := padTo_length l h
  have a : slice (withMac okm l) 0 4064 = padTo 4064 l := by
    rw [slice, withMac, List.drop_zero, List.take_append_of_le_length (by omega), List.take_of_length_le (by omega)]
  have b : slice (withMac okm l) 4064 32 = hmacSha256 (keyMac okm) (padTo 4064 l) := by
    rw [slice, withMac, List.drop_append_of_le_length (by omega), List.drop_of_length_le (by omega), List.nil_append,
      List.take_of_length_le (Nat.le_of_eq (hmac_length _ _))]
  simp [macOk, a, b]
theorem withMac_slice (okm l : List Byte) (o n : Nat) (h : o + n ≤ l.length) : slice (withMac okm l) o n = slice l o n := by
  rw [slice, slice, withMac, padTo, List.append_assoc, List.drop_append_of_le_length (by omega), List.take_append_of_le_length (by rw [List.length_drop]; omega)]
/-- A header as copy B of the medium holds it governs where copy A is not valid. -/
def hdr : BayHeader := ⟨77, List.replicate 16 7, 5, 3, 1024, 14_884⟩
def hdrBytes : List Byte := ascii "VBAY" ++ bytesOf 1 1 ++ bytesOf 8 hdr.serial.toNat ++ hdr.salt ++ bytesOf 8 hdr.formatTime
    ++ bytesOf 8 hdr.seq ++ bytesOf 4 hdr.tailHint ++ bytesOf 4 hdr.extentCount
theorem witness_header (root : BitVec 256) : governingHeader root 77 [] (mediumHeader root hdr) = some (1, hdr) := by
  have c : mediumHeader root hdr = withMac (bayKeys root hdr.salt 77) hdrBytes := rfl
  have m := withMac_ok (bayKeys root hdr.salt 77) hdrBytes (by decide)
  have b : readHeader root 77 (mediumHeader root hdr) = some hdr := by
    rw [c]
    generalize e : withMac (bayKeys root hdr.salt 77) hdrBytes = x at m ⊢
    have sl (o n : Nat) (h : o + n ≤ 53) : slice x o n = slice hdrBytes o n := e ▸ withMac_slice _ _ o n h
    have p : slice hdrBytes 0 4 = ascii "VBAY" ∧ numAt hdrBytes 4 1 = 1 ∧ numAt hdrBytes 5 8 = 77 ∧ slice hdrBytes 13 16 = hdr.salt ∧ numAt hdrBytes 29 8 = 5
        ∧ numAt hdrBytes 37 8 = 3 ∧ numAt hdrBytes 45 4 = 1024 ∧ numAt hdrBytes 49 4 = 14_884 := by decide +kernel
    simp only [numAt] at p
    simp only [readHeader, numAt, sl 0 4 (by decide), sl 4 1 (by decide), sl 5 8 (by decide), sl 13 16 (by decide), sl 29 8 (by decide), sl 37 8 (by decide),
      sl 45 4 (by decide), sl 49 4 (by decide), p.1, p.2.1, p.2.2.1, p.2.2.2.1, p.2.2.2.2.1, p.2.2.2.2.2.1, p.2.2.2.2.2.2.1, p.2.2.2.2.2.2.2, m]
    rfl
  have a : readHeader root 77 [] = none := rfl
  rw [governingHeader, a, b]
/-- A window of 10 min that goes on, its door released by the telegram and a class-B slot bound to it. -/
theorem witness_long_window : (let s := services [{ window with openedAt := later.now - 600_000_000_000 }] []
    let s := { s with veh := { s.veh with fresh := true, doorR := 2 } }.setReg (Reg.camSlotCtrl 7) 0x220002
    released s door = true ∧ boundTo s 7 = some (door, 0)
    ∧ ran (.countWindowLong ⟨door, []⟩) s (fun t => t.tram.windows.map (·.openedAt) = [t.now] && t.veh.records.length = 2) = true) := by and_intros <;> decide +kernel

/-! ### Registers and steps (chapter 0) -/

/-- A physical address, as it is used in M-mode. -/
def at_ (a : Nat) : RegPlace := .addr (BitVec.ofNat 64 a) .m
/-- Sv48 is on at control core 1 with its root table at 0, whose first entry is a byte. -/
def sv48 (pte : Byte) (s : State) : State := (setCtlCore s 1 { ctlCore s 1 with satp := 0x9000_0000_0000_0000 }).setByte 0 pte
/-- The first 512 GiB mapped one to one, for S-mode to read and write. -/
def mapped : State := sv48 0xC7 dram
theorem witness_RegisterAccess : fits (Reg.dmaCfg 3) 4 = true ∧ mayWrite (.cc 1) (Reg.dmaCfg 3) = true ∧ fits (Reg.dmaCfg 3) 8 = false ∧ fits (Reg.dmaCfg 3 + 2) 4 = false
    ∧ mayWrite .host (Reg.dmaCfg 3) = false ∧ mayWrite (.cc 1) Reg.sgeWdog = false ∧ reaches .host (Reg.dmaCfg 3) = false
    ∧ (regAt (Reg.sysScratch 7)).map (fun r => (r.rw, r.w1c)) = some (0xFFFF_FFFF, 0) ∧ specialWrite later (Reg.sysScratch 7) 5 = none
    ∧ ran (.registerWrite (.cc 1) (at_ (Reg.sysScratch 7)) 4 0x1_2345_6789) later (fun t => t.reg (Reg.sysScratch 7) = 0x2345_6789 && !t.bus.error) = true
    ∧ ran (.registerWrite (.cc 1) (at_ (Reg.sysScratch 7)) 8 5) later (fun t => t.bus.error && t.reg (Reg.sysScratch 7) = 0) = true
    ∧ ran (.registerWrite (.cc 1) (at_ (Reg.dmaIrqStat 3)) 4 1) (later.setReg (Reg.dmaIrqStat 3) 3) (fun t => t.reg (Reg.dmaIrqStat 3) = 2) = true
    ∧ ran (.registerReadClear (.cc 1) (at_ (Reg.dmaErrors 3)) 4) (later.setReg (Reg.dmaErrors 3) 6) (fun t => t.bus.value = 6 && t.reg (Reg.dmaErrors 3) = 0) = true
    ∧ ran (.registerReadClear (.cc 1) (at_ (Reg.dmaCfg 3)) 4) later (fun t => t.bus.value = 1000) = true
    ∧ physical later (.cc 1) (Reg.sysScratch 7) .m true = .pa (Reg.sysScratch 7) ∧ ownControl later (Reg.sysScratch 7) = true
    ∧ addrSlot (Reg.sysScratch 7) = later.fab.slot ∧ inControl (addrLocal (Reg.sysScratch 7)) = true ∧ (ctlCore later 1).satp = 0
    ∧ regAt (Reg.sysScratch 7 + 0x800) = none ∧ fits (Reg.sysScratch 7 + 0x800) 4 = true := by and_intros <;> decide +kernel
theorem witness_control_core : physical (sv48 0 dram) (.cc 1) 0x1000 .s true = .page ∧ physical (sv48 0 later) (.cc 1) 0x1000 .s false = .access
    ∧ physical mapped (.cc 1) 0x1000 .s true = .pa 0x1000 ∧ physical mapped (.cc 1) 0x1000 .u true = .page ∧ mapped.ctl.lines = [] ∧ targetOf mapped 0x1000 = .dram 0
    ∧ (∀ c, c < 4 → channelUp mapped c = true) ∧ (∀ b, mapped.poisoned b = false)
    ∧ ran (.registerWrite (.cc 1) (.addr 0x1000 .s) 8 5) mapped (fun t => ctlLoad t 0x1000 8 = 5 && t.byte 0x1000 = 0 && !t.bus.error) = true
    ∧ ran (.registerReadClear (.cc 1) (.addr 0x1000 .s) 2) (mapped.setByte 0x1001 3) (fun t => t.bus.value = 0x300) = true
    ∧ ran (.registerWrite (.cc 1) (.addr 0x1000 .u) 8 5) mapped (fun t => t.bus.page && t.mem = mapped.mem && t.ctl.lines = []) = true
    ∧ ran (.registerReadClear (.cc 1) (.csr .time) 8) later (fun t => t.bus.value = 8_640_000_000_000) = true
    ∧ ran (.registerWrite (.cc 1) (.csr .stimecmp) 8 8_640_000_000_000) later (fun t => timerPending t 1) = true
    ∧ ran (.registerWrite (.cc 1) (.csr .stimecmp) 8 8_640_000_000_001) later (fun t => !timerPending t 1) = true := by
  and_intros
  iterate 6 decide +kernel
  · decide +kernel
  · intro b; rfl
  all_goals decide +kernel
/-- The reset values of Table 14-13. -/
theorem test_sage_status : ran (.registerReadClear (.cc 0) (at_ Reg.sgeStat) 4) State.reset (fun t => t.bus.value = 0xFF04_0610) = true := by
  decide +kernel
/-- The command at the front of the queue runs, with the rest waiting; an empty queue idles. -/
theorem test_step_takes_the_front : (match step { later with pending := [.resetNPin 999, .masterInterval] } with | .next t => t.pending = [.masterInterval] && t.now = later.now | _ => false) = true
    ∧ (match step later with | .next t => t.now = later.now + 1 | _ => false) = true := by and_intros <;> decide +kernel
theorem witness_StepKeepsInv : Inv { (later.setByte 0 5).setReg (Reg.sysScratch 0) 3 with pending := [.masterInterval] } :=
  ⟨by decide +kernel, by decide +kernel, by decide +kernel⟩
theorem test_no_word_spells_a_command : decodeTableWord 32 0 = none := by rfl

end Sys2Proof.Tests
end

/-! PROOFS. The scalar syllables of Table 6-3 with register operands: what one alone in its bundle does, and what the operations on 64 bits
compute (R215, R217). -/
namespace Sys2Proof.Machine

open Sys2Proof

/-! ### A syllable that writes one scalar register -/

section Syllables

variable {s : State} {x : Px} {rd rs1 rs2 : SReg} {v : Word}

/-- A syllable that does nothing but write v to rd completes with v in rd. -/
theorem issue_scalarWrite {g : Thread → Syl} (rs : List RName) (h : Ready s x)
    (hg : g (thr s x) = { emptySyl 0 with reads := rs, wr := [.s rd v] }) : issue x s g = toS s x rd v := by
  have hd : [RName.s rd].Nodup := List.pairwise_singleton _ _
  exact issue_plain s x g _ hg h (Nat.zero_le 5) (hd.filter _) rfl rfl rfl rfl rfl

theorem issue_sylRR {f : Word → Word → Word} (h : Ready s x) (hv : f ((thr s x).sreg rs1) ((thr s x).sreg rs2) = v) :
    issue x s (sylRR rd rs1 rs2 f) = toS s x rd v := by
  subst hv
  exact issue_scalarWrite [.s rs1, .s rs2] h rfl

theorem issue_sylR {f : Word → Word} (h : Ready s x) (hv : f ((thr s x).sreg rs1) = v) :
    issue x s (sylR rd rs1 f) = toS s x rd v := by
  subst hv
  exact issue_scalarWrite [.s rs1] h rfl

theorem execSel_eq (h : Ready s x) : execSel x rd rs1 rs2 s
    = toS s x rd (if (thr s x).sreg rd = 0 then (thr s x).sreg rs2 else (thr s x).sreg rs1) := by
  refine issue_scalarWrite [.s rd, .s rs1, .s rs2] h ?_
  rw [ite_not]

end Syllables

/-! ### Comparisons, the lesser and the greater -/

theorem flag_slt (a b : Word) : flag (a.slt b) = if a.toInt < b.toInt then 1 else 0 := by
  simp only [flag, BitVec.slt, decide_eq_true_eq]

theorem flag_ult (a b : Word) : flag (a.ult b) = if a.toNat < b.toNat then 1 else 0 := by
  simp only [flag, BitVec.ult, decide_eq_true_eq]

theorem ite_slt_eq_min (a b : Word) : (if a.slt b then a else b) = BitVec.ofInt 64 (min a.toInt b.toInt) := by
  by_cases h : a.toInt < b.toInt
  · rw [if_pos (BitVec.slt_iff_toInt_lt.mpr h), Int.min_eq_left (Int.le_of_lt h), BitVec.ofInt_toInt]
  · rw [if_neg (mt BitVec.slt_iff_toInt_lt.mp h), Int.min_eq_right (Int.not_lt.mp h), BitVec.ofInt_toInt]

theorem ite_slt_eq_max (a b : Word) : (if a.slt b then b else a) = BitVec.ofInt 64 (max a.toInt b.toInt) := by
  by_cases h : a.toInt < b.toInt
  · rw [if_pos (BitVec.slt_iff_toInt_lt.mpr h), Int.max_eq_right (Int.le_of_lt h), BitVec.ofInt_toInt]
  · rw [if_neg (mt BitVec.slt_iff_toInt_lt.mp h), Int.max_eq_left (Int.not_lt.mp h), BitVec.ofInt_toInt]

theorem ite_ult_eq_min (a b : Word) : (if a.ult b then a else b) = BitVec.ofNat 64 (min a.toNat b.toNat) := by
  by_cases h : a.toNat < b.toNat
  · rw [if_pos (BitVec.ult_iff_lt.mpr h), Nat.min_eq_left (Nat.le_of_lt h), BitVec.ofNat_toNat, BitVec.setWidth_eq]
  · rw [if_neg (mt BitVec.ult_iff_lt.mp h), Nat.min_eq_right (Nat.not_lt.mp h), BitVec.ofNat_toNat, BitVec.setWidth_eq]

theorem ite_ult_eq_max (a b : Word) : (if a.ult b then b else a) = BitVec.ofNat 64 (max a.toNat b.toNat) := by
  by_cases h : a.toNat < b.toNat
  · rw [if_pos (BitVec.ult_iff_lt.mpr h), Nat.max_eq_right (Nat.le_of_lt h), BitVec.ofNat_toNat, BitVec.setWidth_eq]
  · rw [if_neg (mt BitVec.ult_iff_lt.mp h), Nat.max_eq_left (Nat.not_lt.mp h), BitVec.ofNat_toNat, BitVec.setWidth_eq]

/-! ### Multiplication and division (R217) -/

theorem mul_eq_ofInt (a b : Word) : a * b = BitVec.ofInt 64 (a.toInt * b.toInt) := by
  rw [BitVec.ofInt_mul, BitVec.ofInt_toInt, BitVec.ofInt_toInt]

theorem high_natCast (n : Nat) : high n = BitVec.ofNat 64 (n / 2 ^ 64) :=
  BitVec.ofInt_natCast 64 (n / 2 ^ 64)

theorem divS_of_ne_zero {a b : Word} (h : b ≠ 0) : divS a b = BitVec.ofInt 64 (a.toInt.tdiv b.toInt) := if_neg h

theorem remS_of_ne_zero {a b : Word} (h : b ≠ 0) : remS a b = BitVec.ofInt 64 (a.toInt.tmod b.toInt) := if_neg h

theorem divU_of_ne_zero {a b : Word} (h : b ≠ 0) : divU a b = BitVec.ofNat 64 (a.toNat / b.toNat) :=
  (if_neg h).trans BitVec.udiv_def

theorem remU_of_ne_zero {a b : Word} (h : b ≠ 0) : remU a b = BitVec.ofNat 64 (a.toNat % b.toNat) :=
  (if_neg h).trans BitVec.umod_def

@[simp] theorem divS_zero (a : Word) : divS a 0 = BitVec.allOnes 64 := if_pos rfl

@[simp] theorem divU_zero (a : Word) : divU a 0 = BitVec.allOnes 64 := if_pos rfl

@[simp] theorem remS_zero (a : Word) : remS a 0 = a := if_pos rfl

@[simp] theorem remU_zero (a : Word) : remU a 0 = a := if_pos rfl

theorem divS_intMin_allOnes : divS (BitVec.intMin 64) (BitVec.allOnes 64) = BitVec.intMin 64 := by decide

theorem remS_intMin_allOnes : remS (BitVec.intMin 64) (BitVec.allOnes 64) = 0 := by decide

/-! ### Counts of bits -/

theorem leadingZeros_le (n : Nat) (a : Word) : leadingZeros n a ≤ n := by
  induction n with
  | zero => exact Nat.le_refl 0
  | succ n ih =>
    unfold leadingZeros
    split <;> omega

theorem getLsbD_of_leadingZeros {n i : Nat} {a : Word} (hi : n - leadingZeros n a ≤ i) (hn : i < n) : a.getLsbD i = false := by
  induction n with
  | zero => omega
  | succ n ih =>
    unfold leadingZeros at hi
    split at hi
    next => omega
    next h =>
      obtain rfl | hlt := Nat.eq_or_lt_of_le (Nat.le_of_lt_succ hn)
      · simpa using h
      · exact ih (by omega) hlt

theorem getLsbD_leadingZeros {n : Nat} {a : Word} (h : leadingZeros n a < n) : a.getLsbD (n - 1 - leadingZeros n a) = true := by
  induction n with
  | zero => omega
  | succ n ih =>
    unfold leadingZeros at h ⊢
    split
    next hb => exact hb
    next hb =>
      rw [if_neg hb] at h
      have e : n + 1 - 1 - (leadingZeros n a + 1) = n - 1 - leadingZeros n a := by omega
      rw [e]
      exact ih (by omega)

theorem trailingZeros_le (n i : Nat) (a : Word) : trailingZeros n i a ≤ n := by
  induction n generalizing i with
  | zero => exact Nat.le_refl 0
  | succ n ih =>
    have := ih (i + 1)
    unfold trailingZeros
    split <;> omega

theorem getLsbD_of_trailingZeros {n i k : Nat} {a : Word} (hk : k < trailingZeros n i a) : a.getLsbD (i + k) = false := by
  induction n generalizing i k with
  | zero => exact absurd hk (Nat.not_lt_zero k)
  | succ n ih =>
    unfold trailingZeros at hk
    split at hk
    next => omega
    next h =>
      cases k with
      | zero => simpa using h
      | succ k =>
        rw [Nat.add_comm k 1, ← Nat.add_assoc]
        exact ih (Nat.lt_of_succ_lt_succ hk)

theorem getLsbD_trailingZeros {n i : Nat} {a : Word} (h : trailingZeros n i a < n) : a.getLsbD (i + trailingZeros n i a) = true := by
  induction n generalizing i with
  | zero => omega
  | succ n ih =>
    unfold trailingZeros at h ⊢
    split
    next hb => exact hb
    next hb =>
      rw [if_neg hb] at h
      rw [Nat.add_comm (trailingZeros n (i + 1) a) 1, ← Nat.add_assoc]
      exact ih (Nat.lt_of_succ_lt_succ h)

theorem popCount_toNat (a : Word) (n : Nat) : popCount a.toNat n = (List.range n).countP (fun i => a.getLsbD i) :=
  List.countP_eq_length_filter.symm

/-! ### The byte reversal -/

theorem two_pow_byte_succ (i : Nat) : 2 ^ (8 * (i + 1)) = 256 * 2 ^ (8 * i) := by
  rw [Nat.mul_add, Nat.pow_add, Nat.mul_comm]

theorem ofBytes_div_mod (l : List Byte) (i : Nat) (h : i < l.length) : ofBytes l / 2 ^ (8 * i) % 256 = (l[i]).toNat := by
  induction l generalizing i with
  | nil => exact absurd h (Nat.not_lt_zero i)
  | cons b t ih =>
    have hb : b.toNat < 256 := b.isLt
    cases i with
    | zero => simp [ofBytes, Nat.mod_eq_of_lt hb]
    | succ i =>
      have hd : (b.toNat + 256 * ofBytes t) / 256 = ofBytes t := by omega
      rw [ofBytes, two_pow_byte_succ, ← Nat.div_div_eq_div_mul, hd, List.getElem_cons_succ]
      exact ih i (Nat.lt_of_succ_lt_succ h)

/-- Byte i of a word, as a number. -/
theorem toNat_extractByte (a : Word) (i : Nat) : (a.extractLsb' (8 * i) 8).toNat = a.toNat / 2 ^ (8 * i) % 256 := by
  rw [BitVec.extractLsb'_toNat, Nat.shiftRight_eq_div_pow]

theorem ofBytes_lt (l : List Byte) : ofBytes l < 2 ^ (8 * l.length) := by
  induction l with
  | nil => exact Nat.one_pos
  | cons b t ih =>
    have hb : b.toNat < 256 := b.isLt
    rw [ofBytes, List.length_cons, two_pow_byte_succ]
    omega

theorem extractByte_reverseBytes (a : Word) (i : Nat) (hi : i < 8) :
    (reverseBytes a).extractLsb' (8 * i) 8 = a.extractLsb' (8 * (7 - i)) 8 := by
  have hl : (bytesOf 8 a.toNat).reverse.length = 8 := by rw [List.length_reverse, length_bytesOf]
  have hlt : ofBytes (bytesOf 8 a.toNat).reverse < 2 ^ 64 := by
    have := ofBytes_lt (bytesOf 8 a.toNat).reverse
    rwa [hl] at this
  apply BitVec.eq_of_toNat_eq
  rw [toNat_extractByte, toNat_extractByte, reverseBytes, BitVec.toNat_ofNat, Nat.mod_eq_of_lt hlt,
    ofBytes_div_mod _ i (by omega), List.getElem_reverse, getElem_bytesOf, length_bytesOf]

/-! ### The obligation -/

/-- Settles O2: `exec` of each command issues its syllable by definition, the syllable does nothing but write rd (`issue_sylRR`, `issue_sylR`),
and the value it writes is the one of Table 6-3 and R217. -/
theorem scalarArithmetic : Obligations.ScalarArithmetic := by
  refine ⟨fun s x rd rs1 rs2 h => ?_, fun s x rd rs1 rs2 h => ?_, fun s x rd rs1 h => ?_⟩
  · exact ⟨issue_sylRR h rfl, issue_sylRR h rfl, issue_sylRR h rfl, issue_sylRR h rfl, issue_sylRR h rfl, issue_sylRR h rfl,
      issue_sylRR h rfl, issue_sylRR h rfl, issue_sylRR h rfl, issue_sylRR h rfl, issue_sylRR h rfl,
      issue_sylRR h (flag_slt _ _), issue_sylRR h (flag_ult _ _),
      issue_sylRR h (ite_slt_eq_min _ _), issue_sylRR h (ite_slt_eq_max _ _),
      issue_sylRR h (ite_ult_eq_min _ _), issue_sylRR h (ite_ult_eq_max _ _), execSel_eq h⟩
  · refine ⟨issue_sylRR h (mul_eq_ofInt _ _), issue_sylRR h rfl, issue_sylRR h (high_natCast (_ * _)), issue_sylRR h rfl,
      fun hb => issue_sylRR h (divS_of_ne_zero hb), fun hb => issue_sylRR h (divU_of_ne_zero hb),
      fun hb => issue_sylRR h (remS_of_ne_zero hb), fun hb => issue_sylRR h (remU_of_ne_zero hb), fun hb => ?_, fun ha hb => ?_⟩
    · exact ⟨issue_sylRR h (by rw [hb, divS_zero]), issue_sylRR h (by rw [hb, divU_zero]),
        issue_sylRR h (by rw [hb, remS_zero]), issue_sylRR h (by rw [hb, remU_zero])⟩
    · exact ⟨issue_sylRR h (by rw [ha, hb, divS_intMin_allOnes]), issue_sylRR h (by rw [ha, hb, remS_intMin_allOnes])⟩
  · refine ⟨⟨_, issue_sylR h rfl, leadingZeros_le 64 _, fun i => getLsbD_of_leadingZeros, getLsbD_leadingZeros⟩,
      ⟨_, issue_sylR h rfl, trailingZeros_le 64 0 _, fun i hi => ?_, fun hn => ?_⟩,
      issue_sylR h (by rw [popCount_toNat]), ⟨_, issue_sylR h rfl, extractByte_reverseBytes _⟩⟩
    · simpa using getLsbD_of_trailingZeros hi
    · simpa using getLsbD_trailingZeros hn

end Sys2Proof.Machine

/-! PROOFS. A vector syllable alone in its bundle; the compares of Table 7-3 and the predicate instructions of Table 7-4 (R251 to R255, R257). -/
namespace Sys2Proof.Machine

open Sys2Proof

/-! ### A vector syllable alone in its bundle -/

section VectorSyllables

variable {s : State} {x : Px} {g : Thread → Syl} {cls : Nat} {ok : Bool} {rs : List RName}

/-- A vector syllable whose fields are allowed completes with its register writes. -/
theorem issue_sylV {wr : List RVal} (h : Ready s x) (hg : g (thr s x) = sylV cls ok rs wr) (hok : ok = true) (hc : cls ≤ 5)
    (hd : (wr.map RVal.name).Nodup) (hp : wr.all RVal.plain = true) :
    issue x s g = .next (bundleDone s x (fun th => wr.foldl (valThread s x.core) th)) := by
  subst hok
  have hd' : (wr.map RVal.name ++ [] ++ [] ++ []).Nodup := by simpa only [List.append_nil] using hd
  exact issue_plain s x g { emptySyl cls with reads := rs, wr := wr } hg h hc (List.Pairwise.filter _ hd') rfl rfl rfl rfl hp

variable {n : Nat}

theorem issue_sylV_scalar {v : Word} (h : Ready s x) (hg : g (thr s x) = sylV cls ok rs [.s n v]) (hok : ok = true) (hc : cls ≤ 5) :
    issue x s g = toS s x n v :=
  issue_sylV h hg hok hc (List.pairwise_singleton _ _) rfl

theorem issue_sylV_vector {v : BitVec 1024} (h : Ready s x) (hg : g (thr s x) = sylV cls ok rs [.v n v]) (hok : ok = true)
    (hc : cls ≤ 5) : issue x s g = toV s x n v :=
  issue_sylV h hg hok hc (List.pairwise_singleton _ _) rfl

theorem issue_sylV_predicate {v : BitVec 128} (h : Ready s x) (hg : g (thr s x) = sylV cls ok rs [.p n v]) (hok : ok = true)
    (hc : cls ≤ 5) : issue x s g = toP s x n v :=
  issue_sylV h hg hok hc (List.pairwise_singleton _ _) rfl

end VectorSyllables

@[simp] theorem okVar_eq_true {o : VOp} : okVar o = true ↔ o.var.toNat ≤ 1 := by simp [okVar]

@[simp] theorem okPd_eq_true {o : VOp} : okPd o = true ↔ o.vd.val < 8 := by simp [okPd]

theorem pdOf_of_lt {o : VOp} (hv : o.vd.val < 8) : pdOf o = o.vd.val := Nat.mod_eq_of_lt hv

@[simp] theorem mem_vlanes {th : Thread} {o : VOp} {i : Nat} :
    i ∈ vlanes th o ↔ i < vcount th o.ewN ∧ vactive th o.pred o.ewN i = true := by
  simp [vlanes]

theorem lane_mod (x w i : Nat) : lane x w i % 2 ^ w = lane x w i := Nat.mod_mod _ _

/-! ### Predicate bits (R254) -/

/-- The byte lanes of element i lie in the register. -/
theorem pred_lane_fits {ew i : Nat} (hi : i < vlmax ew) : 2 ^ ew * (i + 1) ≤ 128 := by
  rw [Nat.mul_comm]
  exact (Nat.le_div_iff_mul_le (Nat.two_pow_pos ew)).1 hi

/-- The element that a predicate bit belongs to. -/
theorem pred_bit_element_lt (o : VOp) {k : Nat} (hk : k < 128) : k / 2 ^ o.ewN < vlmax o.ewN :=
  Nat.div_lt_div_of_lt_of_dvd (Nat.pow_dvd_pow 2 (by have := ew_cases o; omega : o.ewN ≤ 7)) hk

theorem getLsbD_eq_testBit_lane {m : Nat} (v : BitVec m) (w k : Nat) (hw : 0 < w) :
    v.getLsbD k = (lane v.toNat w (k / w)).testBit (k % w) := by
  rw [testBit_lane, Nat.div_add_mod]
  simp [BitVec.getLsbD, Nat.mod_lt k hw]

theorem testBit_fill {w j : Nat} (c : Bool) (hj : j < w) : (if c then 2 ^ w - 1 else 0).testBit j = c := by
  cases c <;> simp [Nat.testBit_two_pow_sub_one, hj]

/-- A bit of an element of the list is what f says of it, every other bit is kept. -/
theorem getLsbD_setPred (p : BitVec 128) (ew : Nat) {is : List Nat} (f : Nat → Bool) (his : ∀ i ∈ is, i < vlmax ew) (k : Nat) :
    (setPred p ew is f).getLsbD k = if k / 2 ^ ew ∈ is then f (k / 2 ^ ew) else p.getLsbD k := by
  have hw : 0 < 2 ^ ew := Nat.two_pow_pos ew
  have hj : k % 2 ^ ew < 2 ^ ew := Nat.mod_lt k hw
  rw [getLsbD_eq_testBit_lane _ _ k hw, setPred, lane_setLanes _ _ _ _ (fun i hi => pred_lane_fits (his i hi))]
  split
  · rw [Nat.testBit_mod_two_pow, testBit_fill _ hj]
    simp [hj]
  · rw [← getLsbD_eq_testBit_lane p _ k hw]

/-- The register that a compare writes. -/
theorem predLanes_setPred (th : Thread) (o : VOp) (old : BitVec 128) (c : Nat → Bool) :
    PredLanes th o old (setPred old o.ewN (vlanes th o) c) c := by
  intro k _
  simp only [getLsbD_setPred old o.ewN c (fun i => vlanes_lt th o i), mem_vlanes]

/-- A compare writes the predicate that vd names. -/
theorem issue_sylCompare {s : State} {x : Px} {o : VOp} {cls : Nat} {ok : Bool} {cond : Nat → Nat → Bool} {c : Nat → Bool} (h : Ready s x)
    (hok : ok = true) (hcls : cls ≤ 5) (hv : o.vd.val < 8) (hcond : ∀ i, cond (opA (thr s x) o i) (opB (thr s x) o i) = c i) :
    ∃ v, issue x s (sylCompare cls o ok cond) = toP s x o.vd.val v ∧ PredLanes (thr s x) o ((thr s x).preg o.vd.val) v c := by
  obtain rfl : (fun i => cond (opA (thr s x) o i) (opB (thr s x) o i)) = c := funext hcond
  rw [← pdOf_of_lt hv]
  exact ⟨_, issue_sylV_predicate h rfl (by simp [hok, hv]) hcls, predLanes_setPred _ _ _ _⟩

/-! ### Predicate instructions (R257) -/

/-- Predicate logic writes the predicate that vd names with f of ps1 and ps2. -/
theorem issue_sylPred {s : State} {x : Px} {o : VOp} (f : BitVec 128 → BitVec 128 → BitVec 128) (h : Ready s x) (ho : o.var.toNat ≤ 1)
    (hv : o.vd.val < 8) : issue x s (sylPred o f)
      = toP s x o.vd.val (f ((thr s x).preg (o.vs1.val % 8)) ((thr s x).preg (o.vs2.val % 8))) := by
  rw [← pdOf_of_lt hv]
  exact issue_sylV_predicate h rfl (by simp [ho, hv]) (by decide)

/-- The low half of a predicate register replaced. -/
theorem setLane_low_half (p : BitVec 128) (v : Word) :
    setLane p 64 0 v.toNat = (p &&& ~~~(BitVec.allOnes 64).setWidth 128) ||| v.setWidth 128 := by
  apply BitVec.eq_of_getLsbD_eq
  intro k hk
  rw [getLsbD_setLane p 64 0 _ k (by decide), BitVec.testBit_toNat]
  by_cases h : k < 64
  · simp [h, hk, -BitVec.reduceAllOnes]
  · simp [h, hk, BitVec.getLsbD_of_ge v k (Nat.le_of_not_lt h), -BitVec.reduceAllOnes]

/-- The high half of a predicate register replaced. -/
theorem setLane_high_half (p : BitVec 128) (v : Word) :
    setLane p 64 1 v.toNat = (p &&& (BitVec.allOnes 64).setWidth 128) ||| v.setWidth 128 <<< 64 := by
  apply BitVec.eq_of_getLsbD_eq
  intro k hk
  rw [getLsbD_setLane p 64 1 _ k (by decide), BitVec.testBit_toNat]
  by_cases h : k < 64
  · simp [h, hk, Nat.not_le.2 h, -BitVec.reduceAllOnes]
  · simp [h, hk, Nat.le_of_not_lt h, -BitVec.reduceAllOnes]

theorem ofNat_lane_eq_extractLsb' {m : Nat} (v : BitVec m) (w i : Nat) : BitVec.ofNat w (lane v.toNat w i) = v.extractLsb' (w * i) w := by
  apply BitVec.eq_of_toNat_eq
  rw [BitVec.toNat_ofNat, lane_mod, BitVec.extractLsb'_toNat, Nat.shiftRight_eq_div_pow, lane]

/-- `pget` reads half of ps1. -/
theorem execPget_eq {s : State} {x : Px} {o : VOp} (h : Ready s x) (ho : o.var.toNat ≤ 1) :
    execPget x o s = toS s x o.vd (((thr s x).preg (o.vs1.val % 8)).extractLsb' (64 * o.half) 64) := by
  rw [← ofNat_lane_eq_extractLsb']
  exact issue_sylV_scalar h rfl (okVar_eq_true.2 ho) (by decide)

/-- `pset` writes half of the predicate that vd names. -/
theorem execPset_eq {s : State} {x : Px} {o : VOp} (h : Ready s x) (ho : o.var.toNat ≤ 1) (hv : o.vd.val < 8) :
    execPset x o s = toP s x o.vd.val (setLane ((thr s x).preg o.vd.val) 64 o.half ((thr s x).sreg o.vs2).toNat) := by
  rw [← pdOf_of_lt hv]
  exact issue_sylV_predicate h rfl (by simp [ho, hv]) (by decide)

/-- The whole register says which elements are below the count. -/
theorem execPwhile_eq {s : State} {x : Px} {o : VOp} (h : Ready s x) (ho : o.var.toNat ≤ 1) (hv : o.vd.val < 8) :
    ∃ v, execPwhile x o s = toP s x o.vd.val v ∧ ∀ k, k < 128 → v.getLsbD k
      = decide (k / 2 ^ o.ewN < min ((thr s x).sreg o.vs2).toNat (vcount (thr s x) o.ewN)) := by
  rw [← pdOf_of_lt hv]
  refine ⟨_, issue_sylV_predicate h rfl (by simp [ho, hv]) (by decide), fun k hk => ?_⟩
  rw [getLsbD_setPred _ _ _ (fun i hi => List.mem_range.1 hi), if_pos (List.mem_range.2 (pred_bit_element_lt o hk))]
  rfl

/-- The elements below n that meet p are those of a longer range that are below n and meet p. -/
theorem countP_range_lt_and {n m : Nat} (hnm : n ≤ m) (p : Nat → Bool) :
    (List.range m).countP (fun i => decide (i < n ∧ p i = true)) = ((List.range n).filter p).length := by
  obtain ⟨d, rfl⟩ := Nat.exists_eq_add_of_le hnm
  have hlow : (List.range n).countP (fun i => decide (i < n ∧ p i = true)) = (List.range n).countP p :=
    List.countP_congr (fun i hi => by simp [List.mem_range.1 hi])
  have hhigh : ((List.range d).map (n + ·)).countP (fun i => decide (i < n ∧ p i = true)) = 0 := by
    refine List.countP_eq_zero.2 (fun i hi hc => ?_)
    obtain ⟨a, _, rfl⟩ := List.mem_map.1 hi
    exact Nat.not_lt.2 (Nat.le_add_right n a) (of_decide_eq_true hc).1
  rw [List.range_add, List.countP_append, hlow, hhigh, Nat.add_zero, List.countP_eq_length_filter]

theorem length_underPs1 (th : Thread) (o : VOp) : (underPs1 th o).length = (List.range (vlmax o.ewN)).countP
    (fun i => decide (i < vcount th o.ewN ∧ (th.preg (o.vs1.val % 8)).getLsbD (i * 2 ^ o.ewN) = true)) :=
  (countP_range_lt_and (Nat.min_le_right _ _) _).symm

theorem head?_underPs1_of_first {th : Thread} {o : VOp} {i : Nat}
    (hi : i < vcount th o.ewN ∧ (th.preg (o.vs1.val % 8)).getLsbD (i * 2 ^ o.ewN) = true)
    (hlt : ∀ j, j < i → ¬(j < vcount th o.ewN ∧ (th.preg (o.vs1.val % 8)).getLsbD (j * 2 ^ o.ewN) = true)) :
    (underPs1 th o).head? = some i := by
  rw [underPs1, List.head?_filter, List.find?_range_eq_some]
  refine ⟨hi.2, List.mem_range.2 hi.1, fun j hj => ?_⟩
  have hn : j < vcount th o.ewN := Nat.lt_trans hj hi.1
  simpa [hn] using hlt j hj

theorem head?_underPs1_of_none {th : Thread} {o : VOp}
    (hno : ∀ i, ¬(i < vcount th o.ewN ∧ (th.preg (o.vs1.val % 8)).getLsbD (i * 2 ^ o.ewN) = true)) :
    (underPs1 th o).head? = none := by
  rw [underPs1, List.head?_filter, List.find?_range_eq_none]
  intro i hi
  simpa [hi] using hno i

theorem execPcount_eq {s : State} {x : Px} {o : VOp} (h : Ready s x) (ho : o.var.toNat ≤ 1) :
    execPcount x o s = toS s x o.vd (BitVec.ofNat 64 (underPs1 (thr s x) o).length) :=
  issue_sylV_scalar h rfl (okVar_eq_true.2 ho) (by decide)

theorem execPfirst_of_some {s : State} {x : Px} {o : VOp} {i : Nat} (h : Ready s x) (ho : o.var.toNat ≤ 1)
    (hi : (underPs1 (thr s x) o).head? = some i) : execPfirst x o s = toS s x o.vd (BitVec.ofNat 64 i) :=
  issue_sylV_scalar h (by rw [hi]) (okVar_eq_true.2 ho) (by decide)

theorem execPfirst_of_none {s : State} {x : Px} {o : VOp} (h : Ready s x) (ho : o.var.toNat ≤ 1)
    (hi : (underPs1 (thr s x) o).head? = none) : execPfirst x o s = toS s x o.vd (BitVec.allOnes 64) :=
  issue_sylV_scalar h (by rw [hi]) (okVar_eq_true.2 ho) (by decide)

/-! ### The obligation -/

/-- Settles O12: the compares by `predLanes_setPred`, `pcount` and `pfirst` by the list of the elements active under ps1, the others read off
their syllables. -/
theorem vectorPredicates : Obligations.VectorPredicates := by
  intro s x o h ho
  refine ⟨fun hv => ⟨?_, ?_, ?_, ?_, ?_, ?_, ?_, ?_, ?_, ?_, ?_, ?_⟩, ?_, ?_, ?_, ?_⟩
  · exact issue_sylCompare h (okVar_eq_true.2 ho) (by decide) hv (fun i => rfl)
  · exact issue_sylCompare h (okVar_eq_true.2 ho) (by decide) hv (fun i => (Bool.eq_iff_iff.2 (by simp)))
  · exact issue_sylCompare h (okVar_eq_true.2 ho) (by decide) hv (fun i => rfl)
  · exact issue_sylCompare h (okVar_eq_true.2 ho) (by decide) hv (fun i => rfl)
  · exact issue_sylCompare h (okVar_eq_true.2 ho) (by decide) hv (fun i => rfl)
  · exact issue_sylCompare h (okVar_eq_true.2 ho) (by decide) hv (fun i => rfl)
  · exact issue_sylPred (fun a b => a &&& b) h ho hv
  · exact issue_sylPred (fun a b => a ||| b) h ho hv
  · exact issue_sylPred (fun a b => a ^^^ b) h ho hv
  · exact issue_sylPred (fun a b => a &&& ~~~b) h ho hv
  · exact execPwhile_eq h ho hv
  · refine (execPset_eq h ho hv).trans ?_
    rcases Nat.mod_two_eq_zero_or_one o.var.toNat with hh | hh
    · rw [show o.half = 0 from hh, setLane_low_half, if_pos hh]
    · rw [show o.half = 1 from hh, setLane_high_half, hh, if_neg Nat.one_ne_zero]
  · exact execPget_eq h ho
  · refine (execPcount_eq h ho).trans ?_
    rw [length_underPs1]
  · exact fun i hi hlt => execPfirst_of_some h ho (head?_underPs1_of_first hi hlt)
  · exact fun hno => execPfirst_of_none h ho (head?_underPs1_of_none hno)

end Sys2Proof.Machine

/-! PROOFS. The permutations of Table 7-4 (R257) and the searches with an index (R261 to R265). -/
namespace Sys2Proof.Machine

open Sys2Proof

/-! ### Permutations -/

/-- The register that a permutation writes: elements without a value keep theirs. -/
theorem lanes_setLanes_isSome (th : Thread) (o : VOp) (f : Nat → Option Nat) :
    Lanes th o (th.vreg o.vd) (setLanes (th.vreg o.vd) o.w ((vlanes th o).filter (fun i => (f i).isSome)) (fun i => (f i).getD 0))
      (fun i => (f i).getD (opD th o i)) := by
  intro i _
  rw [lane_setLanes _ _ _ _ (fun k hk => lane_fits o k (vlanes_lt th o k (List.mem_filter.1 hk).1))]
  cases hf : f i with
  | none => simp [hf, opD, lane_mod]
  | some y => simp [hf]

/-- A permutation gives each active element the value that f names, or leaves it. -/
theorem issue_sylPermute {s : State} {x : Px} {o : VOp} {g : Thread → Syl} {ok : Bool} {rs : List RName} {f : Nat → Option Nat}
    {F : Nat → Nat} (h : Ready s x) (ho : o.var.toNat ≤ 1) (hg : g (thr s x) = sylPermute o ok rs (thr s x) f) (hok : ok = true)
    (hF : ∀ i, (f i).getD (opD (thr s x) o i) = F i) :
    ∃ v, issue x s g = toV s x o.vd v ∧ Lanes (thr s x) o ((thr s x).vreg o.vd) v F := by
  obtain rfl : (fun i => (f i).getD (opD (thr s x) o i)) = F := funext hF
  exact ⟨_, issue_sylV_vector h hg (by simp [hok, ho]) (by decide), lanes_setLanes_isSome _ _ _⟩

/-- An insertion sets its element, where the register has one of that number. -/
theorem execVins_eq {s : State} {x : Px} {o : VOp} (h : Ready s x) (ho : o.var.toNat ≤ 1) :
    ∃ v, execVins x o s = toV s x o.vd v ∧ ∀ i, i < vlmax o.ewN → lane v.toNat o.w i =
      if i = ((thr s x).sreg o.vs1).toNat then ((thr s x).sreg o.vs2).toNat % 2 ^ o.w else lane ((thr s x).vreg o.vd).toNat o.w i := by
  refine ⟨_, issue_sylV_vector h rfl (okVar_eq_true.2 ho) (by decide), fun i hi => ?_⟩
  by_cases he : i = ((thr s x).sreg o.vs1).toNat
  · subst he
    rw [if_pos hi, if_pos rfl, lane_setLane_same _ _ _ _ (lane_fits o _ hi), opS]
  · rw [if_neg he]
    split
    next hn => exact lane_setLane_other _ _ _ _ _ (lane_fits o _ hn) he
    next => rfl

/-! ### The lane form of a search (R264) -/

/-- Element i takes part in a search: active, and not a NaN of the float comparison (R263). -/
def Searchable (th : Thread) (o : VOp) (i : Nat) : Prop :=
  i < vcount th o.ewN ∧ vactive th o.pred o.ewN i = true ∧ searchNan o (opA th o i) = false

theorem Searchable.not_nan {th : Thread} {o : VOp} {i : Nat} (hi : Searchable th o i) : searchNan o (opA th o i) = false := hi.2.2

/-- Element i replaces the best of its lane: the lane is empty, or its best is worse. -/
def Replaces (th : Thread) (o : VOp) (n : AReg) (max : Bool) (i : Nat) : Prop :=
  Searchable th o i ∧ (lane (th.areg n).toNat 32 i = emptyLane ∨ better o max (opA th o i) (opD th o i) = true)

theorem mem_filter_takesLane {th : Thread} {o : VOp} {n : AReg} {max : Bool} {i : Nat} :
    i ∈ (vlanes th o).filter (takesLane th o n max) ↔ Replaces th o n max i := by
  simp [takesLane, Replaces, Searchable, and_assoc]

theorem okSearch_of {o : VOp} (he : o.ewN ≤ 2) (hv : o.var.toNat ≤ 2) (hf : o.var = 2 → o.ewN ≠ 0) : okSearch o = true := by
  have hw : o.ewN = 0 ∨ o.ewN = 1 ∨ o.ewN = 2 := by omega
  simpa [okSearch, okEw, hv, hw] using Decidable.imp_iff_not_or.1 hf

theorem index_lane_fits {i : Nat} (hi : i < 128) : 32 * (i + 1) ≤ 4096 := by omega

theorem vlmax_le (ew : Nat) : vlmax ew ≤ 128 := Nat.div_le_self _ _

/-- The best element of each lane after the lane form of a search. -/
theorem lane_searchValues {th : Thread} {o : VOp} {n : AReg} {max : Bool} (i : Nat) :
    (Replaces th o n max i →
      lane (setLanes (th.vreg o.vd) o.w ((vlanes th o).filter (takesLane th o n max)) (opA th o)).toNat o.w i = opA th o i)
    ∧ (¬Replaces th o n max i →
      lane (setLanes (th.vreg o.vd) o.w ((vlanes th o).filter (takesLane th o n max)) (opA th o)).toNat o.w i = opD th o i) := by
  rw [lane_setLanes _ _ _ _ (fun k hk => lane_fits o k (vlanes_lt th o k (List.mem_filter.1 hk).1))]
  exact ⟨fun hr => by rw [if_pos (mem_filter_takesLane.2 hr), opA, lane_mod],
    fun hr => by rw [if_neg (mt mem_filter_takesLane.1 hr), opD]⟩

/-- The index lanes after the lane form of a search. -/
theorem lane_searchIndices {th : Thread} {o : VOp} {n : AReg} {max : Bool} (f : Nat → Nat) (i : Nat) :
    (Replaces th o n max i →
      lane (setLanes (th.areg n) 32 ((vlanes th o).filter (takesLane th o n max)) f).toNat 32 i = f i % 2 ^ 32)
    ∧ (¬Replaces th o n max i →
      lane (setLanes (th.areg n) 32 ((vlanes th o).filter (takesLane th o n max)) f).toNat 32 i = lane (th.areg n).toNat 32 i) := by
  have hfit : ∀ k ∈ (vlanes th o).filter (takesLane th o n max), 32 * (k + 1) ≤ 4096 := fun k hk =>
    index_lane_fits (Nat.lt_of_lt_of_le (vlanes_lt th o k (List.mem_filter.1 hk).1) (vlmax_le _))
  rw [lane_setLanes _ _ _ _ hfit]
  exact ⟨fun hr => if_pos (mem_filter_takesLane.2 hr), fun hr => if_neg (mt mem_filter_takesLane.1 hr)⟩

theorem Replaces.lt_vlmax {th : Thread} {o : VOp} {n : AReg} {max : Bool} {i : Nat} (hr : Replaces th o n max i) : i < vlmax o.ewN :=
  vlanes_lt th o i (List.mem_filter.1 (mem_filter_takesLane.2 hr)).1

/-- The lane form: what it writes, lane by lane. -/
theorem issue_sylSearch {s : State} {x : Px} {o : VOp} (n : AReg) (max : Bool) (h : Ready s x) (hok : okSearch o = true) :
    ∃ v u, issue x s (sylSearch o n max) = .next (bundleDone s x (fun th => (th.setV o.vd v).setA n u))
      ∧ (∀ i, i < vlmax o.ewN → (Replaces (thr s x) o n max i →
            lane v.toNat o.w i = opA (thr s x) o i ∧ lane u.toNat 32 i = (((thr s x).sreg o.vs2).toNat + i) % 2 ^ 32)
          ∧ (¬Replaces (thr s x) o n max i →
            lane v.toNat o.w i = opD (thr s x) o i ∧ lane u.toNat 32 i = lane ((thr s x).areg n).toNat 32 i))
      ∧ ∀ i, vlmax o.ewN ≤ i → i < 128 → lane u.toNat 32 i = lane ((thr s x).areg n).toNat 32 i := by
  have hw := issue_sylV (g := sylSearch o n max) h rfl hok (by decide) (by simp [RVal.name]) rfl
  refine ⟨_, _, hw, fun i _ => ⟨fun hr => ?_, fun hr => ?_⟩, fun i hi _ => ?_⟩
  · exact ⟨(lane_searchValues i).1 hr, (lane_searchIndices _ i).1 hr⟩
  · exact ⟨(lane_searchValues i).2 hr, (lane_searchIndices _ i).2 hr⟩
  · exact (lane_searchIndices _ i).2 (fun hr => Nat.not_le.2 hr.lt_vlmax hi)

/-! ### The reduction (R265) -/

/-- A number that orders the elements of a search, the lesser the better. -/
def searchKey (o : VOp) (max : Bool) (p : Nat) : Int :=
  let k : Int := if o.var = 2 then fOrd o.w p else if o.var = 1 then (p : Int) else sext p o.w
  if max then -k else k

theorem better_eq_searchKey_lt {o : VOp} {p q : Nat} (max : Bool) (hp : searchNan o p = false) (hq : searchNan o q = false) :
    better o max p q = decide (searchKey o max p < searchKey o max q) := by
  by_cases h2 : o.var = 2#2
  · have hp' : fNan o.w p = false := by simpa [searchNan, h2] using hp
    have hq' : fNan o.w q = false := by simpa [searchNan, h2] using hq
    cases max <;> simp [better, searchKey, h2, fLt, hp', hq']
  · by_cases h1 : o.var = 1#2 <;> cases max <;> simp [better, searchKey, h2, h1]

/-- Of two pairs of index and value, y wins against z: better, or as good with no greater index. -/
def Wins (o : VOp) (max : Bool) (y z : Nat × Nat) : Prop :=
  searchKey o max y.2 < searchKey o max z.2 ∨ searchKey o max y.2 = searchKey o max z.2 ∧ y.1 ≤ z.1

theorem Wins.refl {o : VOp} {max : Bool} (y : Nat × Nat) : Wins o max y y := .inr ⟨rfl, Nat.le_refl _⟩

theorem Wins.trans {o : VOp} {max : Bool} {x y z : Nat × Nat} (hxy : Wins o max x y) (hyz : Wins o max y z) : Wins o max x z := by
  unfold Wins at *
  omega

theorem searchBest_singleton (o : VOp) (max : Bool) (x : Nat × Nat) : searchBest o max [x] = some x := rfl

theorem searchBest_concat {o : VOp} {max : Bool} {l : List (Nat × Nat)} {y : Nat × Nat} (x : Nat × Nat) (hl : searchBest o max l = some y) :
    searchBest o max (l ++ [x]) = some (if (better o max x.2 y.2 || (!better o max y.2 x.2 && decide (x.1 < y.1))) = true then x else y) := by
  unfold searchBest at hl ⊢
  simp only [List.foldl_append, hl, List.foldl_cons, List.foldl_nil]
  cases better o max x.2 y.2 with
  | true => rfl
  | false => exact (apply_ite some _ _ _).symm

/-- One more pair: the better of the two is kept. -/
theorem searchBest_concat_wins {o : VOp} {max : Bool} {l : List (Nat × Nat)} {x y : Nat × Nat} (hl : searchBest o max l = some y)
    (hx : searchNan o x.2 = false) (hy : searchNan o y.2 = false) :
    searchBest o max (l ++ [x]) = some x ∧ Wins o max x y ∨ searchBest o max (l ++ [x]) = some y ∧ Wins o max y x := by
  rw [searchBest_concat x hl, better_eq_searchKey_lt max hx hy, better_eq_searchKey_lt max hy hx]
  simp only [Bool.or_eq_true, Bool.and_eq_true, Bool.not_eq_true', decide_eq_true_eq, decide_eq_false_iff_not]
  unfold Wins
  split
  next hc => exact .inl ⟨rfl, by omega⟩
  next hc => exact .inr ⟨rfl, by omega⟩

/-- The search takes the pairs in turn, so the list grows at its end: the induction is over the list reversed. -/
theorem searchBest_reverse_wins {o : VOp} {max : Bool} {l : List (Nat × Nat)} (hnan : ∀ p ∈ l, searchNan o p.2 = false) (hne : l ≠ []) :
    ∃ y ∈ l, searchBest o max l.reverse = some y ∧ ∀ z ∈ l, Wins o max y z := by
  induction l with
  | nil => exact absurd rfl hne
  | cons x l ih =>
    obtain ⟨hx, hl⟩ := List.forall_mem_cons.1 hnan
    rw [List.reverse_cons]
    by_cases he : l = []
    · subst he
      exact ⟨x, List.mem_cons_self, searchBest_singleton o max x, List.forall_mem_singleton.2 (Wins.refl x)⟩
    · obtain ⟨y, hy, hb, hw⟩ := ih hl he
      rcases searchBest_concat_wins hb hx (hl y hy) with ⟨hs, hxy⟩ | ⟨hs, hyx⟩
      · exact ⟨x, List.mem_cons_self, hs, List.forall_mem_cons.2 ⟨Wins.refl x, fun z hz => hxy.trans (hw z hz)⟩⟩
      · exact ⟨y, List.mem_cons_of_mem x hy, hs, List.forall_mem_cons.2 ⟨hyx, hw⟩⟩

/-- A search over pairs gives one of them that wins against each. -/
theorem searchBest_wins {o : VOp} {max : Bool} {l : List (Nat × Nat)} (hnan : ∀ p ∈ l, searchNan o p.2 = false) (hne : l ≠ []) :
    ∃ y ∈ l, searchBest o max l = some y ∧ ∀ z ∈ l, Wins o max y z := by
  have hr := searchBest_reverse_wins (max := max) (l := l.reverse) (fun p hp => hnan p (List.mem_reverse.1 hp))
    (fun he => hne (List.reverse_eq_nil_iff.1 he))
  simpa only [List.reverse_reverse, List.mem_reverse] using hr

/-- The pairs of index and value of the lanes that a reduction looks at. -/
def searchPairs (th : Thread) (o : VOp) (n : AReg) : List (Nat × Nat) :=
  ((vlanes th o).filter (fun i => decide (lane (th.areg n).toNat 32 i ≠ emptyLane) && !searchNan o (opA th o i))).map
    (fun i => (lane (th.areg n).toNat 32 i, opA th o i))

theorem mem_searchPairs {th : Thread} {o : VOp} {n : AReg} {p : Nat × Nat} : p ∈ searchPairs th o n ↔
    ∃ i, Searchable th o i ∧ lane (th.areg n).toNat 32 i ≠ emptyLane ∧ (lane (th.areg n).toNat 32 i, opA th o i) = p := by
  simp only [searchPairs, Searchable, List.mem_map, List.mem_filter, mem_vlanes, Bool.and_eq_true, decide_eq_true_eq, Bool.not_eq_true']
  exact exists_congr (fun i => ⟨fun ⟨⟨⟨hn, ha⟩, he, hnan⟩, hp⟩ => ⟨⟨hn, ha, hnan⟩, he, hp⟩,
    fun ⟨⟨hn, ha, hnan⟩, he, hp⟩ => ⟨⟨⟨hn, ha⟩, he, hnan⟩, hp⟩⟩)

theorem searchNan_of_mem_searchPairs {th : Thread} {o : VOp} {n : AReg} {p : Nat × Nat} (hp : p ∈ searchPairs th o n) :
    searchNan o p.2 = false := by
  obtain ⟨i, hi, _, rfl⟩ := mem_searchPairs.1 hp
  exact hi.not_nan

theorem sylReduce_of_none {th : Thread} {o : VOp} {n : AReg} {max : Bool} (hb : searchBest o max (searchPairs th o n) = none) :
    sylReduce o n max th = sylV 3 (okSearch o && decide (o.vs2 = 0)) (.a n :: unaryReads o)
      [.s o.vd (BitVec.ofNat 64 (emptyLane * 2 ^ 32))] := by
  unfold searchPairs at hb
  simp only [sylReduce, hb]

theorem sylReduce_of_some {th : Thread} {o : VOp} {n : AReg} {max : Bool} {i v : Nat}
    (hb : searchBest o max (searchPairs th o n) = some (i, v)) :
    sylReduce o n max th = sylV 3 (okSearch o && decide (o.vs2 = 0)) (.a n :: unaryReads o)
      [.s o.vd (BitVec.ofNat 64 (i * 2 ^ 32 + if o.var = 0 then wrap 32 (sext v o.w) else v))] := by
  unfold searchPairs at hb
  simp only [sylReduce, hb]

/-- A reduction over empty lanes gives the empty result. -/
theorem issue_sylReduce_empty {s : State} {x : Px} {o : VOp} {n : AReg} {max : Bool} (h : Ready s x) (hok : okSearch o = true)
    (hs : o.vs2 = 0) (he : ∀ i, Searchable (thr s x) o i → lane ((thr s x).areg n).toNat 32 i = emptyLane) :
    issue x s (sylReduce o n max) = toS s x o.vd (BitVec.ofNat 64 (emptyLane * 2 ^ 32)) := by
  have hl : searchPairs (thr s x) o n = [] := by
    refine List.eq_nil_iff_forall_not_mem.2 (fun p hp => ?_)
    obtain ⟨i, hi, hne, _⟩ := mem_searchPairs.1 hp
    exact hne (he i hi)
  have hb : searchBest o max (searchPairs (thr s x) o n) = none := by rw [hl]; rfl
  exact issue_sylV_scalar h (sylReduce_of_none hb) (by simp [hok, hs]) (by decide)

/-- A reduction gives the best element of the lanes that are not empty, the lowest index among equals. -/
theorem issue_sylReduce_best {s : State} {x : Px} {o : VOp} {n : AReg} {max : Bool} (h : Ready s x) (hok : okSearch o = true)
    (hs : o.vs2 = 0) (he : ∃ i, Searchable (thr s x) o i ∧ lane ((thr s x).areg n).toNat 32 i ≠ emptyLane) :
    ∃ i, Searchable (thr s x) o i ∧ lane ((thr s x).areg n).toNat 32 i ≠ emptyLane
      ∧ (∀ j, Searchable (thr s x) o j → lane ((thr s x).areg n).toNat 32 j ≠ emptyLane →
          better o max (opA (thr s x) o j) (opA (thr s x) o i) = false
          ∧ (better o max (opA (thr s x) o i) (opA (thr s x) o j) = false →
            lane ((thr s x).areg n).toNat 32 i ≤ lane ((thr s x).areg n).toNat 32 j))
      ∧ issue x s (sylReduce o n max) = toS s x o.vd (BitVec.ofNat 64 (lane ((thr s x).areg n).toNat 32 i * 2 ^ 32
          + if o.var = 0 then wrap 32 (sext (opA (thr s x) o i) o.w) else opA (thr s x) o i)) := by
  obtain ⟨k, hk, hkne⟩ := he
  have hne : searchPairs (thr s x) o n ≠ [] := List.ne_nil_of_mem (mem_searchPairs.2 ⟨k, hk, hkne, rfl⟩)
  obtain ⟨y, hy, hb, hw⟩ := searchBest_wins (max := max) (fun p => searchNan_of_mem_searchPairs) hne
  obtain ⟨i, hi, hine, rfl⟩ := mem_searchPairs.1 hy
  refine ⟨i, hi, hine, fun j hj hjne => ?_, issue_sylV_scalar h (sylReduce_of_some hb) (by simp [hok, hs]) (by decide)⟩
  have hij := hw _ (mem_searchPairs.2 ⟨j, hj, hjne, rfl⟩)
  rw [better_eq_searchKey_lt max hj.not_nan hi.not_nan, better_eq_searchKey_lt max hi.not_nan hj.not_nan,
    decide_eq_false_iff_not, decide_eq_false_iff_not]
  simp only [Wins] at hij
  exact ⟨by omega, by omega⟩

/-! ### The obligation -/

/-- Settles O14: the permutations by `issue_sylPermute`, the lane forms by `issue_sylSearch`, the reductions by the winner of the pairs of index
and value (`searchBest_wins`). -/
theorem vectorPermutes : Obligations.VectorPermutes := by
  refine ⟨fun s x o h ho => ⟨?_, ?_, fun hr => ?_, ?_, ?_, ?_, ?_⟩, fun s x o n h he hv hf => ?_⟩
  · exact (issue_sylPermute h ho rfl rfl (fun i => apply_ite (Option.getD · _) _ _ _) : ∃ v, execVslideup x o s = toV s x o.vd v ∧ _)
  · exact (issue_sylPermute h ho rfl rfl (fun i => rfl) : ∃ v, execVslidedown x o s = toV s x o.vd v ∧ _)
  · exact (issue_sylPermute h ho rfl (by simpa using hr) (fun i => rfl) : ∃ v, execVrgather x o s = toV s x o.vd v ∧ _)
  · exact (issue_sylPermute h ho rfl rfl (fun i => rfl) : ∃ v, execVbcast x o s = toV s x o.vd v ∧ _)
  · exact (issue_sylPermute h ho rfl rfl (fun i => rfl) : ∃ v, execVid x o s = toV s x o.vd v ∧ _)
  · exact (issue_sylV_scalar h rfl (okVar_eq_true.2 ho) (by decide) : execVext x o s = _)
  · exact execVins_eq h ho
  · have hok : okSearch o = true := okSearch_of he hv hf
    refine ⟨issue_sylSearch n false h hok, issue_sylSearch n true h hok, fun hs => ⟨⟨?_, ?_⟩, ?_, ?_⟩⟩
    · exact issue_sylReduce_empty (max := false) h hok hs
    · exact issue_sylReduce_best (max := false) h hok hs
    · exact issue_sylReduce_empty (max := true) h hok hs
    · exact issue_sylReduce_best (max := true) h hok hs

end Sys2Proof.Machine
